-- ==== Sys2Proof/Word.lean ====
section
/-! DEFINITION. The byte and the words the spec numbers its data in (R2, R4). -/

namespace Sys2Proof

/-- One byte of a multi-byte value, a packet or a DOMAIN. -/
abbrev Byte := BitVec 8

/-- An IEEE 754 binary32 value by its bits (R4). -/
abbrev F32 := BitVec 32

/-- An IEEE 754 binary64 value by its bits. -/
abbrev F64 := BitVec 64

end Sys2Proof
end

