-- ==== Sys2Proof/Machine/Kinds.lean ====
section
/-! DEFINITION. What commands carry and State holds beside plain numbers: packets, routes, requesters, values,
responses, record bodies. -/

namespace Sys2Proof.Machine

/-- A UCP packet (R335). `tag` is TAG bits 11:0 and `epoch` TAG bits 15:12; `flags` bit 0 is PROTECTED, bit 1 MORE. -/
structure Packet where
  ver : Nat
  typ : Nat
  flags : Nat
  prio : Nat
  dst : Nat
  src : Nat
  tag : Nat
  epoch : Nat
  session : Nat
  counter : Nat
  opcode : Nat
  status : Nat
  devState : Nat
  sub : Nat
  index : Nat
  offset : Nat
  aux : Nat
  payload : List Byte
  deriving DecidableEq, Repr

/-- Where a packet came from and where its answer goes (R334): an Ethernet address and port, a node on a CAN port,
or a partition's local port. -/
inductive Route where
  | eth (addr : Nat)
  | can (port node : Nat)
  | port (p : Nat)
  deriving DecidableEq, Repr

/-- Who asks for an access (R319): a session by its number, nobody (SESSION 0 from outside), a partition on its
local port (R24), a partition through a mapped output entry (R330), or the credential of a signed command (R414). -/
inductive Who where
  | session (n : Nat)
  | open_
  | port (p : Nat)
  | mapped (p : Nat)
  | signed (role serial : Nat)
  deriving DecidableEq, Repr

/-- The value an access writes: the raw bits of a fixed-size type, or a block of an STR or DOMAIN at an offset. -/
inductive Val where
  | num (n : Nat)
  | blk (off : Nat) (data : List Byte)
  deriving DecidableEq, Repr

/-- The tag spaces of R339: a session, a source address with SESSION 0, a partition. -/
inductive Space where
  | session (n : Nat)
  | addr (node : Nat)
  | port (p : Nat)
  deriving DecidableEq, Repr

/-- What an access answered: status code, AUX, data, and the device state it carries (R320, R336). -/
structure Resp where
  status : Nat
  aux : Nat
  data : List Byte
  devState : Nat
  deriving DecidableEq, Repr

/-- A continuation of a record (R299): type, AUX and the 64-bit VALUE by its bits. -/
structure Cont where
  typ : Nat
  aux : Nat
  value : Nat
  deriving DecidableEq, Repr

/-- A record body as the system die posts it (R300, R302): everything but SEQ, PCC_L and OPMS. `mt` is the MT of
the posting, which the repeat window of R304 is measured in, `opms` its OPMS (R305). -/
structure Body where
  kind : Nat
  subject : Nat
  code : Nat
  flags : Nat
  conts : List Cont
  mt : Nat
  opms : Nat
  deriving DecidableEq, Repr

/-- One conversion of a sealed block: its code, and whether the under-range comparator reported with it (R54). -/
structure Conv where
  code : Nat
  under : Bool
  deriving DecidableEq, Repr

/-- The conversions of one channel in a sealed block, in the order of their hold instants (R51). -/
structure ChBlock where
  ch : Nat
  convs : List Conv
  deriving DecidableEq, Repr

/-- The monitor's samples of one supply in a sealed block (R61, R68): mV at ticks 0, 500 … 4,500, the current in
0.1 mA, and whether the output was in current limit. -/
structure SupMon where
  k : Nat
  volts : List Nat
  cur : Nat
  limiting : Bool
  deriving DecidableEq, Repr

/-- One sense conversion (R212, R213): its code, whether it used the fine range, whether the high side conducted. -/
structure SenseConv where
  code : Int
  fine : Bool
  on : Bool
  deriving DecidableEq, Repr

/-- The sense data of one channel of a group (R212, R217): its conversions, the junction temperatures of its high and
low side in 0.1 °C, the on-resistances in µΩ where measured, LIMITING. -/
structure SenseCh where
  convs : List SenseConv
  hsT : Int
  lsT : Int
  hsR : Option Nat
  lsR : Option Nat
  limiting : Bool
  deriving DecidableEq, Repr

/-- A group's sense result for a frame (R212): eight channels, VB in mV, die reference in 0.1 °C. -/
structure SenseBlk where
  g : Nat
  chans : List SenseCh
  vb : Nat
  tref : Int
  deriving DecidableEq, Repr

/-- A frame on a CAN bus (R369, R372): identifier with IDE in bit 29, format bits, data, the SOF stamp in MT. -/
structure CanFrame where
  id : Nat
  fdf : Bool
  brs : Bool
  esi : Bool
  rtr : Bool
  data : List Byte
  sof : Nat
  deriving DecidableEq, Repr

/-- An Ethernet frame as the switch sees it (R353): MAC addresses, priority code point, a good FCS. -/
structure EthFrame where
  dst : Nat
  src : Nat
  pcp : Nat
  fcsOk : Bool
  deriving DecidableEq, Repr

/-- A correlator dump as far as the rules read it (R106, R113): C/N0 in 0.01 dB-Hz, PLI in 1/1,000, the loops' carrier
and code outputs and the code phase by their binary64 bits, and whether the bank's check channel disagreed. -/
structure Dump where
  ch : Nat
  cn0 : Nat
  pli : Int
  df : F64
  dc : F64
  phase : F64
  mismatch : Bool
  deriving DecidableEq, Repr

/-- The aiding set of one channel (R113, R145). -/
structure AidSet where
  ch : Nat
  f : F64
  rateF : F64
  phase : F64
  rateC : F64
  sigF : F64
  sigC : F64
  deriving DecidableEq, Repr

/-- One satellite and signal to search for on an antenna (R109). -/
structure SvSig where
  sys : Nat
  sv : Nat
  sig : Nat
  ant : Nat
  gloK : Nat
  deriving DecidableEq, Repr

/-- An interferer of a detector epoch (R115, R116): an identity, the peak in Hz from the chain's centre, the width in
bins, the power in 0.1 dB, how far it swept in the epoch in Hz. -/
structure Interferer where
  id : Nat
  peak : Int
  width : Nat
  power : Int
  sweep : Nat
  deriving DecidableEq, Repr

/-- The measured values of one channel at an epoch (R120, R121). -/
structure Meas where
  ch : Nat
  pr : Nat
  cp : Int
  doppler : Int
  sigma : Nat
  deriving DecidableEq, Repr

/-- What the heading search of an epoch found (R148): the ratio test and at least 4 satellites and the length
tolerance passed; satellites on both antennas; the estimated length disagrees. -/
structure HeadingRes where
  accepted : Bool
  sats : Nat
  lengthOff : Bool
  deriving DecidableEq, Repr

/-- The filter's estimate at an instant (R134, R157), whose values the spec does not fix: angles in 10⁻⁹ °, height in
mm, everything else in binary32. `gs` is the along-track speed, `scale` the wheel scales. -/
structure NavEst where
  lat : Int
  lon : Int
  height : Int
  vel : List F32
  att : List F32
  rate : List F32
  acc : List F32
  sig : List F32
  sigVel : F32
  sigAtt : F32
  sigHead : F32
  gs : F32
  gsSigma : F32
  yaw : F32
  scale : List F32
  deriving DecidableEq, Repr

/-- The satellite part of a Fuse step (R139, R154): the Doppler speed and whether its conditions hold, satellites
applied, satellites with fixed ambiguities. -/
structure GnssMeas where
  speed : F32
  speedOk : Bool
  sats : Nat
  fixed : Nat
  deriving DecidableEq, Repr

/-- An inertial sample (R135, R136): the six axes and the unit's own bias estimates. -/
structure ImuSample where
  unit : Nat
  axes : List F32
  bias : List F32
  deriving DecidableEq, Repr

/-- A late sample: the sensor, 0 to 3 IMU, 4 to 7 wheel, 8 and 9 external, 10 GNSS, and its instant (R151). -/
structure LateSample where
  sensor : Nat
  mt : Nat
  deriving DecidableEq, Repr

/-- A gPTP message as the rules read it (R45): its messageType (0 Sync, 2 Pdelay_Req, 3 Pdelay_Resp, 8 Follow_Up,
10 Pdelay_Resp_Follow_Up, 11 Announce) and domain; the sender's clock by priority1, clockClass, the rest of its quality
and its identity; for Sync and Follow_Up the phase error in ns, frequency error in 10⁻¹² and uncertainty in ps of the
module against the time it carries, and the two step fields; for a peer delay its value in ns. -/
structure GptpMsg where
  typ : Nat
  domain : Nat
  prio1 : Nat
  cls : Nat
  rest : Nat
  ident : Nat
  phase : Int
  freq : Int
  unc : Nat
  timeBase : Nat
  change : Int
  delay : Nat
  deriving DecidableEq, Repr

/-- The ring settings and the interrupt enable that a partition wrote to its doorbell page (chapter 1, local command
port). -/
structure Door where
  cmdBase : Nat
  cmdSize : Nat
  rspBase : Nat
  rspSize : Nat
  irqEnable : Nat
  deriving DecidableEq, Repr

/-- What lies outside the module when a write acts (R130, R438): whether a slot that a verification builds reads back as
its hashes say, and for a receiver start the satellites the stored data predict, the systems about which something usable
is stored, whether the stored position lies within 10 km. -/
structure Facts where
  built : Bool
  directed : List SvSig
  known : Nat
  near : Bool
  deriving DecidableEq, Repr

/-- A 64-bit two's-complement field of a record or object. -/
def i64bits (x : Int) : Nat := (x % ((2 ^ 64 : Nat) : Int)).toNat
def i32bits (x : Int) : Nat := (x % ((2 ^ 32 : Nat) : Int)).toNat
def i16bits (x : Int) : Nat := (x % ((2 ^ 16 : Nat) : Int)).toNat

/-- The signed value of an n-bit field. -/
def signed (n : Nat) (w : Nat) : Int := if w % 2 ^ n < 2 ^ (n - 1) then ((w % 2 ^ n : Nat) : Int) else ((w % 2 ^ n : Nat) : Int) - ((2 ^ n : Nat) : Int)

/-- An integer kept within a closed interval (R7). -/
def clampI (lo hi x : Int) : Int := if x < lo then lo else if hi < x then hi else x
def clampN (hi x : Nat) : Nat := if hi < x then hi else x

/-- `n` like things with a change to each, and to thing `i` alone; one that is not listed is at its default `d`. -/
def everyOf (d : α) (n : Nat) (l : List α) (f : α → α) : List α := (List.range n).map (fun j => f (l.getD j d))
def oneOf (d : α) (n : Nat) (l : List α) (i : Nat) (f : α → α) : List α :=
  (List.range n).map (fun j => if j = i then f (l.getD j d) else l.getD j d)

/-- Least significant byte first (R2). -/
def le : Nat → Nat → List Byte
  | 0, _ => []
  | k + 1, n => BitVec.ofNat 8 n :: le k (n / 256)

/-- The number a list of bytes spells, least significant byte first (R2). -/
def ofLe : List Byte → Nat
  | [] => 0
  | b :: rest => b.toNat + 256 * ofLe rest

/-- Bit `i` of a word. -/
def bit (w i : Nat) : Bool := Nat.testBit w i
/-- The word with bit `i` set or cleared. -/
def setBit (w i : Nat) (b : Bool) : Nat :=
  if b then (if Nat.testBit w i then w else w + 2 ^ i) else (if Nat.testBit w i then w - 2 ^ i else w)
/-- Bits `lo + n - 1` down to `lo`. -/
def bits (w lo n : Nat) : Nat := (w / 2 ^ lo) % 2 ^ n
/-- The word with bits `lo + n - 1` down to `lo` replaced. -/
def setBits (w lo n v : Nat) : Nat := w - bits w lo n * 2 ^ lo + (v % 2 ^ n) * 2 ^ lo
def ofBool (b : Bool) : Nat := if b then 1 else 0
/-- The numbers below `n` whose bit is set. -/
def bitList (n w : Nat) : List Nat := (List.range n).filter (fun i => Nat.testBit w i)
/-- Ones among the low `n` bits. -/
def popCount (n w : Nat) : Nat := (bitList n w).length

/-- One byte step of the CRC-32 of R92, least significant bit first, over `k` bits. -/
def crcBits : Nat → Nat → Nat
  | 0, c => c
  | k + 1, c => crcBits k (if c % 2 = 1 then (c / 2) ^^^ 0xEDB88320 else c / 2)

def crcGo : List Byte → Nat → Nat
  | [], c => c
  | b :: rest, c => crcGo rest (crcBits 8 (c ^^^ b.toNat))

/-- CRC-32 as in R92: polynomial 0x04C1_1DB7 reflected, initial value and final XOR all ones. -/
def crc32 (l : List Byte) : Nat := crcGo l 0xFFFFFFFF ^^^ 0xFFFFFFFF

end Sys2Proof.Machine
end

