-- ==== Sys2Proof/Syntax.lean ====
section
/-! DEFINITION. The commands of the block: one constructor per row of spec/opcode_table.json, in the table's order,
with the row's operands. A command carries what the outside world supplies with it (a channel, a written value, a
measured sample, the finding of an analogue monitor or of a cryptographic check); everything else it does is in its
meaning. -/

namespace Sys2Proof

open Sys2Proof.Machine

/-- A command that may wait in the block's queue. -/
inductive Instr where
  /-- SEAL (R12). At tick 0 of each frame the capture fabric closes the sample block of the previous frame, and the frame number and schedule counter advance. -/
  | sealFrame
  /-- TAKE (R22). From tick 0 the process image logic copies the committed output-image entries of each partition into the taken view. -/
  | take
  /-- SCALE (R53). The capture fabric filters and scales the sealed block and publishes values, edge stamps and counts. -/
  | scale (blk : List ChBlock) (mon : List SupMon) (sense : List SenseBlk)
  /-- CROP (R78). The crop measurement engine turns the acoustic and flow samples of the sealed block into loss, flow and moisture results. -/
  | crop
  /-- FUSE_STEP (R134). Yarrow ingests the samples that have arrived, applies the gated updates and publishes the ground speed of the frame. -/
  | fuseStep (est : NavEst) (gnss : Option GnssMeas) (tests : List (Nat × F32)) (late : List LateSample)
  /-- CONTROL (R163). Larkspur evaluates every due slot in cascade order within ticks 1,500 to 3,500. -/
  | control (upsets : List (Nat × Nat))
  /-- LOAD (R170). The output timing unit loads duties and current references into the switch links and writes slot values to CAN entries. -/
  | load (bad : Nat)
  /-- ASSEMBLE (R329). The process image logic writes the next input image, including the mapped objects and the CAN receive map. -/
  | assemble
  /-- PUBLISH (R20). The input-image views are exchanged and PI_READY is raised. -/
  | publish
  /-- EXCHANGE (R256). Foxglove and the system die exchange the cross-check messages, masks and requests of the frame. -/
  | exchange (ok sched : Bool)
  /-- CROSS_CHECK_LINK_LOST (R256). Ten consecutive missing or corrupt cross-check messages put Foxglove in SAFE with cause 2. -/
  | crossCheckLinkLost
  /-- PHASE_OVERRUN (R14). A phase not complete by its tick keeps the previous result, sets OVERRUN and raises FRAME_OVR. -/
  | phaseOverrun
  /-- TIMEBASE_DEVIATION (R11). Foxglove finds the timebase beyond ±2 % of the standby oscillator, withdraws permission from channels whose safe state is off and asserts SAFE_N. -/
  | timebaseDeviation (beyond : Bool)
  /-- LOCKSTEP_MISMATCH (R18). A lockstep mismatch in an active core pair makes Larkspur hold the loops while the spare pair takes over. -/
  | lockstepMismatch (pair : Fin 4)
  /-- PARTITION_RESUME (R18). The spare pair resumes the partition from its last checkpoint within 2 ms. -/
  | partitionResume (p : Fin 3) (verify : List Bool) (dur : Nat)
  /-- CKPT (R18). A write to CKPT makes the cluster store the pair's architectural state in the named record. -/
  | ckpt (p : Fin 3) (addr : Nat)
  /-- CKPT_DONE (R18). The checkpoint store completes and CKPT_DONE is set. -/
  | ckptDone (p : Fin 3)
  /-- PI_COMMIT (R22). A partition's write to PI_COMMIT marks its output entries for copying at the next Take phase. -/
  | piCommit (p : Fin 3) (entries : List (Nat × Nat))
  /-- APP_BUS_ERROR (R19). A core access outside a listed region, to a read-only region or to an entry not owned ends in a bus error. -/
  | appBusError
  /-- PI_TIMEOUT (R23). A partition with no commit for the output image timeout has its set-points and direct outputs held. -/
  | piTimeout (p : Fin 3)
  /-- CMD_TAIL (R24). The application advances CMD_TAIL and places commands from its ring into the UCP queues with its partition role. -/
  | cmdTail (p : Fin 3) (door : Option Door) (tail : Nat) (packets : List (List Byte))
  /-- RSP_TAIL (R25). The application advances RSP_TAIL, and held responses are delivered to the freed ring entries. -/
  | rspTail (p : Fin 3) (tail : Nat)
  /-- IRQ_STATUS (R24). A write of 1 to IRQ_STATUS bits clears the interrupt status. -/
  | irqStatus (p : Fin 3) (w : Nat)
  /-- CLK_PLL_LOSS (R28). A loss of lock of the root PLL raises CLK_PLL with a fixed chip reset. -/
  | clkPllLoss (lost : Bool)
  /-- SECOND_BOUNDARY (R37). At each second boundary the time state is decided, CAL_OFF recomputed and E updated. -/
  | secondBoundary (dT : Nat)
  /-- TIME_SOLUTION_DELIVERY (R156). Yarrow delivers the receiver clock bias, drift, 1σ and satellite count of the past second to the time discipline. -/
  | timeSolutionDelivery (b d : Int) (sigma sf sats : Nat)
  /-- TIME_SOLUTION_DEADLINE (R37). The 400 ms deadline passes without a delivery and the second counts as not valid. -/
  | timeSolutionDeadline
  /-- GOFF_STEP_APPLY (R40). G_OFF takes its stepped value at the stepped pulse or when the unstepped G_OFF reaches its second. -/
  | goffStepApply
  /-- PPS_PULSE (R41). PPS_OUT emits its on-time edge at the grid instant nearest the whole second and ends after the pulse width. -/
  | ppsPulse (off : Bool)
  /-- PULSE_REPORT (R42). 500 ms before each pulse the module publishes its second, QERR and flags, and sends the TIME event. -/
  | pulseReport
  /-- MT_STORE (R34). Once per second MT and c are written to the non-volatile store. -/
  | mtStore
  /-- STANDBY_OSC_MEASURE (R33). At the end of a 64 s window the standby oscillator offset is published in 0x2000.1A. -/
  | standbyOscMeasure (offset : Int)
  /-- LEAP_SECOND (R36). At the announced UTC midnight L changes, CAL_OFF moves by 1 s and a calendar-step record is written. -/
  | leapSecond (l : Nat)
  /-- CAL_OFF_WRITE (R36). A write of 0x2000.05 changes CAL_OFF only and records a calendar step above 1 ms. -/
  | calOffWrite (who : Who) (value : Int)
  /-- GPTP_SYNC_SEND (R45). As grandmaster or relay the module sends gPTP Sync and Follow_Up at the sync interval. -/
  | gptpSyncSend (p : Fin 6)
  /-- GPTP_MESSAGE_RECEIVE (R45). A gPTP event or general message is stamped and used for peer delay, best-master selection and synchronisation. -/
  | gptpMessageReceive (p : Fin 6) (m : GptpMsg)
  /-- INPUT_EDGE (R56). A comparator crossing that holds for the minimum pulse width or debounce is accepted and stamped at its crossing. -/
  | inputEdge (ch : Fin 64) (up both : Bool) (stamp : Nat)
  /-- INPUT_DIAG_FAULT (R63). A value beyond DIAG_LO or DIAG_HI for the diagnostic time sets the fault bit and raises IN_DIAG_nn. -/
  | inputDiagFault (ch : Fin 64) (high : Bool)
  /-- CURRENT_INPUT_PROTECT (R64). A current above 40 mA, or above 30 mA for 10 ms, disconnects the burden and sets PROTECT. -/
  | currentInputProtect (ch : Fin 64)
  /-- CURRENT_INPUT_TRIAL (R64). Every 1 s the burden of a protected channel is reconnected for a trial. -/
  | currentInputTrial (ch : Fin 64)
  /-- SETTLING_END (R74). 40 frames after a setting change or reset the channel clears SETTLING. -/
  | settlingEnd (ch : Fin 64)
  /-- SUP_TRIP (R65). A supply in current limit for 2 ms turns off, sets TRIPPED and raises SUPk_FAULT, latching at its retry limit. -/
  | supTrip (k : Fin 8)
  /-- SUP_RETRY (R65). 100 ms after a trip with retries left the supply turns back on. -/
  | supRetry (k : Fin 8)
  /-- SUP_UNDERVOLT (R65). A supply below 92 % for 1 ms sets UNDERVOLT and SUP_FAIL on its channels. -/
  | supUndervolt (k : Fin 8)
  /-- SUP_OVERVOLT (R65). A back-fed supply above 108 % for 1 ms turns off and is retried as a trip. -/
  | supOvervolt (k : Fin 8)
  /-- SUP_RETRY_RESET (R65). After 10 s of regulation without a trip the retry count returns to 0. -/
  | supRetryReset (k : Fin 8)
  /-- SUP_RESTART (R65). A write to 0x2140.01 restarts the latched supplies whose bits are set. -/
  | supRestart (who : Who) (mask : Nat)
  /-- SUPPLY_TEST_PULSE (R66). Foxglove drives SUP4-SUP7 to 0 V for 300 µs at their scheduled values of s. -/
  | supplyTestPulse (k : Fin 8)
  /-- SHADOW_WINDOW_END (R69). At the end of a 1 ms window the spare converter's mean is compared with the channel's, and three disagreements fail the converter. -/
  | shadowWindowEnd (g : Fin 8) (own sp : Int) (counts : Bool)
  /-- CONVERSION_FAIL (R70). A conversion that fails its checks is discarded, and two within 1 ms fail the converter. -/
  | conversionFail (ch : Fin 64)
  /-- SPARE_CONVERTER_SWITCH (R71). At the next Seal tick Lupin switches SPCg to the failed channel. -/
  | spareConverterSwitch (ch : Fin 64) (verify : List Bool) (dur : Nat)
  /-- SPARE_CONFIRM_TIMEOUT (R72). Without a spare or its confirmation within 2 frames the channel carries CONV_FAIL. -/
  | spareConfirmTimeout (ch : Fin 64)
  /-- LOSS_SENSOR_QUIET (R85). A loss sensor with no impact for 30 s while cutting sets QUIET and raises CROP_LSk. -/
  | lossSensorQuiet (k : Fin 8)
  /-- LOSS_SENSOR_NOISY (R85). More than 10 NOISE impacts or 20,000 impacts in 1 s sets NOISY and raises CROP_LSk. -/
  | lossSensorNoisy (k : Fin 8)
  /-- LOSS_SENSOR_CLEAR (R85). After 10 s free of its condition QUIET or NOISY clears. -/
  | lossSensorClear (k : Fin 8) (noisy : Bool)
  /-- CROP_FLOW_TIMEOUT (R86). A flow input invalid for 1 s while cutting raises CROP_FLOW. -/
  | cropFlowTimeout
  /-- MOIST_TIMEOUT (R88). 120 s without a full cell frame clears MOIST_VALID and raises CROP_MOIST. -/
  | moistTimeout
  /-- ZERO_REQUEST (R87). A write of 1 to 0x2200.0A starts the flow zero. -/
  | zeroRequest (who : Who)
  /-- ZERO_DONE (R87). At the end of the zero duration S0 takes the mean and the result reads done. -/
  | zeroDone
  /-- RECORD_CLOSE (R90). At its closing MT a cut interval's yield record is formed, positioned and written to the buffer. -/
  | recordClose
  /-- BUFFER_CLEAR (R93). A write of 1 to 0x2200.25 sets the oldest sequence to the write sequence. -/
  | bufferClear (who : Who)
  /-- TOTALS_RESET (R98). A write of 1 to 0x2200.29 resets the crop totals. -/
  | totalsReset (who : Who)
  /-- ANT_FEED_SHORT (R102). A feed current above 150 mA turns the feed off, sets SHORT and raises GNSS_ANTn. -/
  | antFeedShort (a : Fin 2)
  /-- ANT_FEED_TRIAL (R102). Every 1 s a shorted feed is turned back on for a trial. -/
  | antFeedTrial (a : Fin 2)
  /-- ANT_FEED_OPEN (R102). A feed current below 3 mA for 1 s sets OPEN and raises GNSS_ANTn. -/
  | antFeedOpen (a : Fin 2)
  /-- ANT_FEED_NORMAL (R102). A feed current of 3-150 mA for 1 s sets NORMAL. -/
  | antFeedNormal (a : Fin 2)
  /-- CORRELATOR_DUMP (R106). At the end of each 1 ms integration a channel writes its tap sums and NCO states to Yarrow and updates its loops. -/
  | correlatorDump (d : Dump)
  /-- AIDING_TIMEOUT (R113). 2 ms without an aiding set reverts the channel to SCALAR, or COAST to REACQ, and raises GNSS_AID. -/
  | aidingTimeout (ch : Nat)
  /-- ACQUISITION_DWELL_DONE (R108). An acquisition engine ends a sweep or verification and decides detection. -/
  | acquisitionDwellDone (eng : Fin 8) (above : Bool) (hits : Nat)
  /-- PULL_IN_TIMEOUT (R107). A channel without 100 ms of PLI ≥ 0.8 within 1 s of PULL_IN returns to SEARCH. -/
  | pullInTimeout (ch : Nat)
  /-- CARRIER_LOSS (R112). Low C/N0 or PLI for the stated time moves a tracking channel to CODE_ONLY. -/
  | carrierLoss (ch : Nat)
  /-- CARRIER_RESTORE (R112). C/N0 and PLI above threshold for 100 ms return the channel to CARRIER with SLIP. -/
  | carrierRestore (ch : Nat)
  /-- CODE_LOST (R112). C/N0 below threshold for 1 s sends the channel to COAST or REACQ. -/
  | codeLost (ch : Nat)
  /-- COAST_RECOVER (R107). C/N0 ≥ 15 dB-Hz for 100 ms with aiding returns a COAST channel to TRACK, CODE_ONLY. -/
  | coastRecover (ch : Nat)
  /-- COAST_TIMEOUT (R107). 5 s in COAST sends the channel to REACQ. -/
  | coastTimeout (ch : Nat)
  /-- REACQ_TIMEOUT (R107). 10 s in REACQ without detection sends the channel to IDLE. -/
  | reacqTimeout (ch : Nat)
  /-- BLANKING_WINDOW (R114). At the end of each 10 ms window the blanked share is published and PULSED set or cleared. -/
  | blankingWindow (c : Fin 4) (share n : Nat)
  /-- DETECTOR_EPOCH (R115). At the end of each 10 ms detector epoch interferers are found and notches assigned, moved or released. -/
  | detectorEpoch (c : Fin 4) (l : List Interferer)
  /-- JAMMING_MEASURE (R117). Every 100 ms each chain computes J/N and its jamming level. -/
  | jammingMeasure (c : Fin 4) (jn agc : Nat) (limit pll : Bool)
  /-- GNSS_JAM_RAISE (R117). A chain SEVERE for 1 s raises GNSS_JAM. -/
  | gnssJamRaise (c : Fin 4)
  /-- CHAIN_OUT_OF_USE (R117). AGC at its limit for 1 s or a chain PLL loss raises GNSS_RF and takes the chain out of use. -/
  | chainOutOfUse (c : Fin 4)
  /-- MULTIPEAK_CHECK (R118). An idle acquisition engine searches around a tracked signal for a second peak. -/
  | multipeakCheck (ch : Nat) (second : Bool)
  /-- FALSE_SIGNAL_CLEAR (R119). A channel clears SUSPECT or EXCLUDED after 30 s without a failed check. -/
  | falseSignalClear (ch : Nat)
  /-- MEASUREMENT_EPOCH (R120). At each epoch instant the module forms the epoch record of every tracking channel and sends it to subscribers. -/
  | measurementEpoch (l : List Meas) (aoa : List Nat) (h : Option HeadingRes)
  /-- NMEA_OUTPUT (R122). At the NMEA rate the enabled sentences are written to the stream and sent to subscribers. -/
  | nmeaOutput (bytes : List Byte)
  /-- CORRECTION_INPUT (R123). A host or partition appends RTCM bytes to 0x2300.26 at the running offset and the parser frames them. -/
  | correctionInput (who : Who) (off : Nat) (data : List Byte)
  /-- CORRECTION_EPOCH_PASS (R124). An MSM epoch closes on its last message or 200 ms after the first and passes to Yarrow. -/
  | correctionEpochPass (age : Nat) (usable carrier : Bool)
  /-- GNSS_CORR_TIMEOUT (R124). No correction epoch for the age limit raises GNSS_CORR. -/
  | gnssCorrTimeout
  /-- BANK_SWAP (R127). At the next 1 ms boundary Lupin moves the faulty bank's channels to a spare bank, or sends them to IDLE. -/
  | bankSwap (el : Nat) (verify : List Bool) (dur : Nat)
  /-- RECEIVER_DATA_STORE (R109). Every 10 min almanac, ephemerides, ionosphere, leap seconds and position are stored. -/
  | receiverDataStore (mask : Nat) (sats : List Nat)
  /-- RECEIVER_HOT_START (R130). A write of 1 to 0x2300.34 restarts the receiver as a hot start where possible. -/
  | receiverHotStart (who : Who) (directed : List SvSig) (known : Nat) (near : Bool)
  /-- RECEIVER_START_NO_EPH (R130). A write of 2 to 0x2300.34 discards the stored ephemerides and restarts. -/
  | receiverStartNoEph (who : Who) (directed : List SvSig) (known : Nat)
  /-- RECEIVER_COLD_START (R130). A write of 3 to 0x2300.34 discards everything stored and forces a cold sweep. -/
  | receiverColdStart (who : Who)
  /-- AIDING_SET_ISSUE (R145). At tick 1,500 of frames with s a multiple of 20 Yarrow issues the aiding set for each channel. -/
  | aidingSetIssue (sets : List AidSet)
  /-- NAV_SOLUTION_ISSUE (R133). Every N_s frames Yarrow issues the navigation solution to the image, the ring and subscribers. -/
  | navSolutionIssue
  /-- IMU_SAMPLE (R135). The IMUs are sampled together and the voted value is formed per axis. -/
  | imuSample (l : List ImuSample)
  /-- IMU_EXCLUDE (R136). A contradicting or silent unit is excluded, NAV_IMUn is raised and the spare is requested. -/
  | imuExclude (n : Fin 4)
  /-- IMU_SWAP (R136). At the next sample instant Lupin votes the spare IMU in and records the swap. -/
  | imuSwap (n : Fin 4) (verify : List Bool) (dur : Nat)
  /-- INERTIAL_VOTE_LOST (R137). Two contradicting voters leave axes unresolved, set NO_INERTIAL and raise NAV_VOTE. -/
  | inertialVoteLost
  /-- INERTIAL_RESTORE (R137). Two units agreeing on every axis for 30 s clear NO_INERTIAL. -/
  | inertialRestore
  /-- IMU_READMIT (R138). An excluded unit agreeing for 30 s is re-admitted as spare or voter. -/
  | imuReadmit (n : Fin 4)
  /-- SPEED_CONTRADICTION (R140). A speed contradiction held for T_hold excludes one voter or suspends two and raises NAV_SPEED. -/
  | speedContradiction
  /-- SPEED_SOURCE_READMIT (R140). After 30 s of agreement an excluded or suspended speed source is re-admitted. -/
  | speedSourceReadmit (a : Fin 7)
  /-- WHEEL_NO_EDGE (R141). A wheel reading zero while others exceed T_abs for T_hold is excluded with cause NO_EDGE. -/
  | wheelNoEdge (k : Fin 4)
  /-- ZERO_VELOCITY_UPDATE (R141). At 100 Hz during standstill Yarrow applies a zero-velocity update and sets ZERO. -/
  | zeroVelocityUpdate
  /-- CHANNEL_READMIT (R144). After 30 s without a failed test an excluded channel is re-admitted. -/
  | channelReadmit (ch : Nat)
  /-- RTK_CORRECTION_EPOCH (R146). Yarrow forms double differences for a correction epoch, searches the ambiguities and applies the RTK position. -/
  | rtkCorrectionEpoch (held : Bool) (ratio : F32) (sats : Nat) (near : Bool)
  /-- NAV_HEADING_RAISE (R148). A baseline length disagreement for 30 s raises NAV_HEADING. -/
  | navHeadingRaise
  /-- LINE_BIAS_STORE (R149). After 60 s of accepted heading the residual line bias is estimated and stored. -/
  | lineBiasStore (l1 l5 : F32)
  /-- LINE_BIAS_RESET (R149). A write of 1 to 0x2400.1F discards the stored line bias and starts a new estimation. -/
  | lineBiasReset (who : Who)
  /-- ALIGN_LEVEL (R150). After 1 s of standstill, or 10 s without it, roll and pitch are levelled. -/
  | alignLevel
  /-- ALIGN_HEADING (R150). The first accepted heading, or straight motion for 3 s, completes alignment. -/
  | alignHeading
  /-- REPROPAGATION_DONE (R151). A re-propagation completes and the next outputs carry the correction. -/
  | repropagationDone
  /-- LATE_EVALUATION (R153). Once per second each sensor's late share is judged, degrading it above 10 %. -/
  | lateEvaluation
  /-- DEAD_RECKONING_ENTRY (R154). 2 s without satellite updates sets the solution type DR. -/
  | deadReckoningEntry
  /-- DEAD_RECKONING_LIMIT (R154). DR time or σ beyond its limit sets type NONE and raises NAV_DR. -/
  | deadReckoningLimit
  /-- INERTIAL_ONLY_LIMIT (R154). INERTIAL_ONLY speed for the limit sets GS_STATE INVALID. -/
  | inertialOnlyLimit
  /-- EXTERNAL_SPEED_SAMPLE (R159). A write of an external sample MT takes the speed and MT pair as a sample. -/
  | externalSpeedSample (who : Who) (j : Fin 2) (mt : Nat)
  /-- SLOT_CMD_CLOSE (R173). Command 1 commands the slot CLOSED with a bumpless close. -/
  | slotCmdClose (who : Who) (n : Fin 96)
  /-- SLOT_CMD_OPEN (R173). Command 2 commands the slot OPEN and clears a trip. -/
  | slotCmdOpen (who : Who) (n : Fin 96)
  /-- SLOT_CMD_HOLD (R173). Command 3 commands the slot HOLD. -/
  | slotCmdHold (who : Who) (n : Fin 96)
  /-- BANK_SELECT (R178). A write of 0x25nn.19 selects a coefficient bank and rescales the integrator. -/
  | bankSelect (who : Who) (n : Fin 96) (b : Nat)
  /-- LANE_SELFTEST_DONE (R180). An excluded lane's 1 s self-test ends, making it the spare or failed. -/
  | laneSelftestDone (lane : Fin 4) (pass : Bool)
  /-- TEST_START (R193). A write of 1 to 0x25nn.89 starts a test signal at the next evaluation. -/
  | testStart (who : Who) (n : Fin 96)
  /-- TEST_STOP (R194). A write of 2 to 0x25nn.89 aborts the running test with cause 1. -/
  | testStop (who : Who) (n : Fin 96)
  /-- TEST_COMPLETE (R194). At the first evaluation with t ≥ T the test ends as completed. -/
  | testComplete (n : Fin 96)
  /-- PEAK_RESET (R200). A write of 1 to 0x25nn.78 resets the peak following error. -/
  | peakReset (who : Who) (n : Fin 96)
  /-- CAPTURE_ARM (R196). Command 1 to 0x256k.08 clears the buffer and enters ARMED. -/
  | captureArm (who : Who) (k : Fin 4)
  /-- CAPTURE_STOP (R196). Command 2 to 0x256k.08 enters DONE with the rows held and sets STOPPED. -/
  | captureStop (who : Who) (k : Fin 4)
  /-- CAPTURE_FORCE (R196). Command 3 to 0x256k.08 triggers at the next row once P rows are held. -/
  | captureForce (who : Who) (k : Fin 4)
  /-- CAPTURE_ROW (R195). At tick 3,500 of each sample frame a row is recorded and the trigger and fill are judged. -/
  | captureRow (k : Fin 4)
  /-- CONDUCTION_END (R207). A channel without on-time for 100 ms stops counting as conducting. -/
  | conductionEnd (ch : Fin 64)
  /-- INRUSH_WINDOW_CLOSE (R216). At the end of the inrush time the active limit falls to the current limit. -/
  | inrushWindowClose (ch : Fin 64)
  /-- OVERCURRENT_TRIP (R217). Limiting outside the inrush window for the limiting time trips the channel. -/
  | overcurrentTrip (ch : Fin 64)
  /-- SHORT_TRIP (R218). A short recognised by current or collapse turns the channel off within 5 µs. -/
  | shortTrip (ch : Fin 64) (collapse : Bool)
  /-- LS_OVERCURRENT_TRIP (R219). A low-side current at 2 × I_act opens the low side and trips the channel. -/
  | lsOvercurrentTrip (ch : Fin 64)
  /-- OPEN_LOAD_ON (R220). Low on-time means for the open-load time set OPEN_LOAD and raise OUT_nn. -/
  | openLoadOn (ch : Fin 64)
  /-- OFF_STATE_TEST (R221). A held OUTnn_H level in the off-state test sets OPEN_LOAD or SHORT_SUPPLY. -/
  | offStateTest (ch : Fin 64) (level : Nat)
  /-- THERMAL_ABS_TRIP (R222). A cell junction at 175 °C turns off the channel within 20 µs. -/
  | thermalAbsTrip (ch : Fin 64)
  /-- THERMAL_DELTA_TRIP (R223). A junction above the die reference by the difference limit in a guarded phase turns off the channel. -/
  | thermalDeltaTrip (ch : Fin 64)
  /-- THERMAL_LATCH_CLEAR (R224). THERMAL_LATCH clears when all junctions and differences have fallen below their release levels. -/
  | thermalLatchClear (ch : Fin 64)
  /-- SENSE_MISSING (R214). A sense result absent by tick 500 sets SENSE_MISSING and after 3 frames raises SENSE_x. -/
  | senseMissing (g : Fin 8) (selfFail : Bool)
  /-- REF_DEVIATION (R215). A current deviating from I_ref beyond its limit for its time sets REF_DEV and raises OUT_nn. -/
  | refDeviation (ch : Fin 64)
  /-- RETRY (R226). When the retry timer has expired and all conditions hold the tripped channel restarts and the counter decrements. -/
  | retry (ch : Fin 64)
  /-- RETRY_COUNTER_RELOAD (R226). After 10 s of conduction without a trip the retry counter reloads. -/
  | retryCounterReload (ch : Fin 64)
  /-- CHANNEL_RESTART (R227). A write of 1 to 0x26nn.18 reloads the counter and restarts a WAIT or LATCHED channel. -/
  | channelRestart (who : Who) (ch : Fin 64)
  /-- GROUP_GUARD_OFF (R228). VB below 6 V for more than 1 ms turns off the group's high sides. -/
  | groupGuardOff (g : Fin 8)
  /-- GROUP_RESTORE (R228). After VB at or above 7 V for 10 ms the channels restart one every 1 ms. -/
  | groupRestore (g : Fin 8)
  /-- DISSIPATION_ESTIMATE (R229). Every 100 ms the switch dissipation and group currents are estimated against the budget. -/
  | dissipationEstimate (base : Int) (clamp : Nat)
  /-- CELL_SWAP (R230). Lupin brings a switch's spare cell into use within 20 µs of the request. -/
  | cellSwap (ch : Fin 64) (side : Fin 2) (failed : Bool) (verify : List Bool) (dur : Nat)
  /-- CELL_FAULT_TRIP (R231). A failed-open cell without spare or a shorted high-side cell trips the channel. -/
  | cellFaultTrip (ch : Fin 64) (side : Fin 2) (short : Bool)
  /-- PERMISSION_WITHDRAW (R232). A falling permission line opens the low side within 2 µs and clamps the load current. -/
  | permissionWithdraw (ch : Fin 64)
  /-- PERMISSION_RETURN (R232). A returning permission line lets a commanded channel conduct again. -/
  | permissionReturn (ch : Fin 64)
  /-- SWITCH_LINK_LOSS (R234). 3 frames without a Load transfer put the die's channels in LINK_HOLD. -/
  | switchLinkLoss (g : Fin 8)
  /-- SWITCH_LINK_RESTORE (R234). The first valid transfer resumes the channels under their commands. -/
  | switchLinkRestore (g : Fin 8)
  /-- RAIL_DISAGREEMENT (R242). A rail disagreement over 10 µs puts Foxglove in LOCKOUT. -/
  | railDisagreement
  /-- FOXGLOVE_REGULATOR_FAULT (R243). The regulator out of tolerance for 1 ms puts Foxglove in LOCKOUT, and its dropout drops every permission line. -/
  | foxgloveRegulatorFault (dropout : Bool)
  /-- SAFETY_INPUT_CHANGE (R246). A safety input that holds a new level for T_f has its state accepted. -/
  | safetyInputChange (n : Fin 16) (high : Bool)
  /-- INPUT_PULSE_CHECK (R247). At each test window Foxglove checks the input for its own and foreign pulses. -/
  | inputPulseCheck (n : Fin 16) (sup : Fin 4) (fail : Bool)
  /-- SUPPLY_PULSE_CHECK (R248). Foxglove checks each pulsed supply's fall and rise, turning it off after two failures. -/
  | supplyPulseCheck (sup : Fin 4) (fail : Bool)
  /-- DISCREPANCY (R249). T_disc expiry without the other input following puts the pair in DISCREPANCY. -/
  | discrepancy (p : Fin 8)
  /-- STOP_DELAY_EXPIRE (R251). A category 1 stop delay runs out and permission is withdrawn. -/
  | stopDelayExpire (f : Fin 16)
  /-- RESET_PRESS (R252). A reset press of 50 ms to 3 s is accepted at its falling edge. -/
  | resetPress (n : Fin 2) (ms : Nat)
  /-- RESET_STUCK (R252). A reset press longer than 3 s raises FOX_RESET and blocks the input. -/
  | resetStuck (n : Fin 2)
  /-- RESET_UNBLOCK (R252). A blocked reset input low for 1 s is unblocked. -/
  | resetUnblock (n : Fin 2)
  /-- DARK_PULSE (R253). Foxglove opens a channel's low side for the test width and judges the mid-node. -/
  | darkPulse (g : Fin 8) (ok counts : Bool)
  /-- DEMAND_REQUEST_WRITE (R255). A write of 0x2700.0F requests demand of functions with option bit 2. -/
  | demandRequestWrite (who : Who) (v : Nat)
  /-- SAFE_SNS_SAMPLE (R259). Each 1 ms sample of SAFE_SNS checks the readback, raising FOX_PIN or setting SAFE_EXT. -/
  | safeSnsSample (high counts : Bool)
  /-- SEAL_READ (R260). A seal reading unchanged for 1 s is accepted and compared with the profile seal code. -/
  | sealRead (reading : Nat)
  /-- STAGING_OPEN (R261). A write of 1 to 0x2700.11 opens a staged copy of the profile. -/
  | stagingOpen (who : Who)
  /-- STAGING_DISCARD (R261). A write of 2 to 0x2700.11 discards the staged profile. -/
  | stagingDiscard (who : Who)
  /-- RWS_EDIT (R261). A write of an RWS object goes into the staged profile only. -/
  | rwsEdit (who : Who) (k v : Nat)
  /-- SIGN (R261). A signature written to 0x2700.12 freezes the staged profile and starts the 600 s timer. -/
  | sign (who : Who) (off : Nat) (data : List Byte)
  /-- COUNTERSIGN (R262). A Witness countersignature to 0x2700.13 is checked against the seal and commits or refuses. -/
  | countersign (who : Who) (off : Nat) (data : List Byte)
  /-- CHANGE_EXPIRE (R261). 600 s after its signature an uncommitted change is discarded as EXPIRED. -/
  | changeExpire
  /-- PROFILE_TRANSFER_DONE (R262). After the last block Foxglove verifies the profile CRC and applies it, or raises FOX_PROFILE. -/
  | profileTransferDone (crcOk : Bool)
  /-- FOXGLOVE_SELFTEST (R263). At VL rise Foxglove runs its self-test within 100 ms. -/
  | foxgloveSelftest (pass : Bool)
  /-- FOXGLOVE_PROFILE_VERIFIED (R263). The profile sent in START has a valid CRC and Foxglove enters ACTIVE, or SAFE on a difference after a chip reset. -/
  | foxgloveProfileVerified (crcOk : Bool)
  /-- FAULT_OCCURRENCE (R273). A rise of ACTIVE takes the source's reactions once, escalates and writes its record. -/
  | faultOccurrence (src : Fin 512) (code : Nat)
  /-- FAULT_AUTO_CLEAR (R279). An AUTO source clears when ACTIVE falls. -/
  | faultAutoClear (src : Fin 512)
  /-- CONSEQ_MODE_END (R275). 10 µs after the upstream reset ends a still active source takes its reactions as a new occurrence. -/
  | conseqModeEnd (blk : Nat)
  /-- STEP_DECAY (R276). STEP returns to 0 after the decay time without an occurrence. -/
  | stepDecay (src : Fin 512)
  /-- BLOCK_RESET (R271). A BLK reaction resets the source's block within its bound. -/
  | blockReset (b : Fin 25)
  /-- BLOCK_RESET_END (R271). A block reset ends and the block resumes as its chapter states. -/
  | blockResetEnd (b : Fin 25) (pass : Nat) (directed : List SvSig) (known : Nat) (near : Bool)
  /-- CHIP_RESET (R277). A chip reset resets the system die, writes its cause record and stops the switch links. -/
  | chipReset
  /-- CHIP_RESET_END (R277). The chip reset ends within 5 ms and START follows. -/
  | chipResetEnd
  /-- FAULT_CLEAR_REQUEST (R279). A write of a source number to 0x2800.12 clears the pending source if inactive. -/
  | faultClearRequest (who : Who) (src : Nat)
  /-- FAULT_CLEAR_ALL (R279). A write of 1 to 0x2800.13 clears every inactive pending source. -/
  | faultClearAll (who : Who)
  /-- FORCE_SET (R280). A write of a source number to 0x2800.10 sets its force bit. -/
  | forceSet (who : Who) (src : Nat)
  /-- FORCE_CLEAR (R280). A write of a source number to 0x2800.11 clears its force bit. -/
  | forceClear (who : Who) (src : Nat)
  /-- FAULT_SNS_SAMPLE (R281). Each 1 ms sample of FAULT_SNS checks the readback, raising FLT_PIN or setting FAULT_EXT. -/
  | faultSnsSample (high counts : Bool)
  /-- WEAR_CROSSING (R284). A gauge crossing its threshold requests a swap, or raises WEAR without a spare. -/
  | wearCrossing (pool : Fin 8) (el gauge level v1 v2 : Nat)
  /-- SPARE_SWAP (R286). Lupin transfers an element's state to the lowest ready spare, verifies it and records the swap. -/
  | spareSwap (pool : Fin 8) (el : Nat) (verify : List Bool) (dur : Nat)
  /-- SRAM_BANK_COPY (R287). Lupin copies an SRAM bank to a spare in 4 KiB segments within 100 µs. -/
  | sramBankCopy (bank : Fin 64) (words : List Nat) (verify : List Bool) (dur : Nat)
  /-- ELEMENT_SELFTEST_DONE (R288). A swapped-out element's 1 s self-test ends, returning it as spare or failing it. -/
  | elementSelftestDone (pool : Fin 8) (el : Nat) (pass : Bool)
  /-- SPARE_TEST (R289). Every 10 s each spare not in use is tested and marked ready or failed. -/
  | spareTest (pool : Fin 8) (el : Nat) (pass : Bool)
  /-- SRAM_SCRUB (R284). The scrubber passes each SRAM bank and counts corrected errors. -/
  | sramScrub (bank : Fin 68) (lastHour new : Nat) (sameWord : Bool)
  /-- RECORD_POST (R302). The always-on die accepts a record body, stamps it and writes it to both retention banks. -/
  | recordPost
  /-- RECORD_LOST (R302). When the FIFO next empties after losses a RECORDER record with the number lost is written. -/
  | recordLost
  /-- ARCHIVE_COPY (R303). Each record is copied into the archive within 10 ms, retried every 10 ms on failure. -/
  | archiveCopy (ok : Bool)
  /-- HELD_CLEAR_WRITE (R305). 1 s after the last folded occurrence a held AUTO clear is written as a FAULT_CLEAR. -/
  | heldClearWrite
  /-- REC_BANK_FAIL (R307). A retention bank with an uncorrectable error or verify mismatch is taken out of use. -/
  | recBankFail (bank : Nat) (verify : Bool)
  /-- REC_DUAL_FAIL (R308). Failure of the surviving bank sets DUAL_FAIL and enters direct archive mode. -/
  | recDualFail
  /-- DUAL_FAIL_RESET (R309). A Vendor write of 1 to 0x2A00.0D returns to bank use after both banks pass. -/
  | dualFailReset (who : Who)
  /-- RECORDER_CLEAR (R311). A write of 1 to 0x2A00.0B clears the recorder and writes the clear record. -/
  | recorderClear (who : Who)
  /-- APPLICATION_RECORD (R312). A write to 0x2A00.0E posts an APPLICATION record, at most 100 per second. -/
  | applicationRecord (who : Who) (value : Nat)
  /-- COUNTER_STORE (R297). At least once per second SEQ, PCC and OPMS are written to the store. -/
  | counterStore
  /-- PACKET_RECEIVE (R338). An arriving UCP packet passes the ordered packet checks before it enters a queue. -/
  | packetReceive (r : Route) (bytes : List Byte)
  /-- REQUEST_DEQUEUE (R345). The UCP engine takes the inbound request with the highest effective level and judges it under R319. -/
  | requestDequeue (f : Facts)
  /-- READ (R336). READ returns the value of an object or a DOMAIN block. -/
  | read (who : Who) (i sub off n : Nat)
  /-- WRITE (R336). WRITE stores a value or DOMAIN block in an object without behaviour of its own. -/
  | write (who : Who) (i sub off aux : Nat) (data : List Byte) (f : Facts)
  /-- SUBSCRIBE (R343). SUBSCRIBE opens an event subscription for a class with a divider. -/
  | subscribe (who : Who) (r : Route) (cls divider : Nat)
  /-- UNSUBSCRIBE (R343). UNSUBSCRIBE ends a subscription to an event class. -/
  | unsubscribe (who : Who) (r : Route) (cls : Nat)
  /-- NOP (R336). NOP returns its payload. -/
  | nop (data : List Byte)
  /-- OUTBOUND_TRANSMIT (R345). When a port can take a packet the highest effective outbound item is sent. -/
  | outboundTransmit (port : Fin 12)
  /-- TAG_QUARANTINE_END (R340). 500 ms after its response a tag leaves quarantine. -/
  | tagQuarantineEnd (sp : Space) (epoch tag : Nat)
  /-- UCP_SEGMENT_RECEIVE (R349). A UCP segment on CAN is added to its stream and a complete packet passes on. -/
  | ucpSegmentReceive (p : Fin 8) (node : Fin 128) (data : List Byte)
  /-- UCP_STREAM_TIMEOUT (R350). A stream with no segment for 50 ms is discarded. -/
  | ucpStreamTimeout (p : Fin 8) (node : Fin 128) (stream : Fin 16)
  /-- ANNOUNCE (R351). The module sends an ANNOUNCE on every transport after power-up, periodically and at state changes. -/
  | announce
  /-- DUPADDR_CLEAR (R351). 5 s without such an announce clears UCP_DUPADDR. -/
  | dupaddrClear
  /-- ETH_FRAME_FORWARD (R353). The switch stores and forwards a frame to its egress queues, dropping bad FCS and excess broadcast. -/
  | ethFrameForward (p : Fin 6) (f : EthFrame)
  /-- ETH_LINK_DOWN (R353). A link going down on an enabled port raises ETH_LINK_x. -/
  | ethLinkDown (p : Fin 6)
  /-- ETH_LINK_UP (R354). A port link comes up, and a ring port stays blocked until CLOSED. -/
  | ethLinkUp (p : Fin 6) (quality : Nat)
  /-- RING_TEST_SEND (R354). Every T_r the module sends ring test frames on ETH_A and ETH_B. -/
  | ringTestSend
  /-- RING_FRAME_RECEIVE (R354). A received TEST, LINK_DOWN, FLUSH or CLOSED frame is forwarded or acted on. -/
  | ringFrameReceive (p : Fin 2) (kind : Fin 4) (node : Nat)
  /-- RING_TEST_TIMEOUT (R354). The manager missing its own TEST frames for 3 × T_r opens the ring. -/
  | ringTestTimeout
  /-- FLEET_SEND (R357). A write of 1 to 0x2E00.81 seals the staged submission into an envelope and places it in the outbox. -/
  | fleetSend (who : Who)
  /-- FLEET_DELIVER (R358). A write of 1 to 0x2E00.86 checks the staged envelope and places the message in the inbox. -/
  | fleetDeliver (who : Who)
  /-- MAP_APPLY (R328). A write of 1 to 0x1300.05 checks and applies the staged process-image map. -/
  | mapApply (who : Who)
  /-- APP_TABLE_APPLY (R332). A write of 1 to 0x1300.0A checks and applies the application object table. -/
  | appTableApply (who : Who)
  /-- CAN_FRAME_RECEIVE (R372). A valid frame is offered to UCP, the time slave, the ISO 11783 engine, a receive object or the log. -/
  | canFrameReceive (p : Fin 8) (f : CanFrame) (err : Nat)
  /-- CAN_PROTOCOL_EXCEPTION (R368). A classical port receiving FDF recessive counts a protocol exception and integrates again. -/
  | canProtocolException (p : Fin 8)
  /-- CAN_RX_TIMEOUT (R373). PERIOD without a frame clears FRESH and sets TIMEOUT. -/
  | canRxTimeout (p : Fin 8) (n : Fin 256)
  /-- CAN_TX_DUE (R376). At tick 4,000 transmit objects fall due and are queued from the transmit map. -/
  | canTxDue
  /-- CAN_FRAME_TRANSMIT (R379). The controller offers the winning queue head and the frame is sent, lost in arbitration or retried after an error. -/
  | canFrameTransmit (p err : Fin 8) (afterArb : Bool) (sof delay : Nat)
  /-- CAN_BUS_OFF (R382). The controller enters bus-off and stops sending with its queues kept. -/
  | canBusOff (p : Fin 8)
  /-- CAN_RECOVERY_REQUEST (R382). A write of 1 to 0x2Bpp.11 starts bus-off recovery. -/
  | canRecoveryRequest (who : Who) (p : Fin 8)
  /-- CAN_RECOVERY_DONE (R382). After 128 sequences of 11 recessive bits the port is error active again. -/
  | canRecoveryDone (p : Fin 8)
  /-- CAN_TIMING_APPLY (R366). A write of 1 to 0x2Bpp.22 checks and applies the stored bit timing. -/
  | canTimingApply (who : Who) (p : Fin 8)
  /-- CAN_JOIN_CHECK_END (R383). 500 ms of restricted operation ends the join check or raises CAN_RATE. -/
  | canJoinCheckEnd (p : Fin 8)
  /-- CAN_TXD_TIMEOUT (R363). TXD dominant for 2 ms switches the transmitter off and raises CAN_XCVR. -/
  | canTxdTimeout (p : Fin 8)
  /-- CAN_TABLE_APPLY (R371). A write of 0x2C00.09 checks and applies the staged object tables. -/
  | canTableApply (who : Who) (mask : Nat)
  /-- REFERENCE_MESSAGE_SEND (R385). A master queues a time reference message every reference period. -/
  | referenceMessageSend (p : Fin 8)
  /-- CAN_TIME_LOST (R386). No valid pair within 3 periods sets slave status lost and raises CAN_TIME. -/
  | canTimeLost (p : Fin 8)
  /-- ADDRESS_CLAIM_SEND (R388). The ISO 11783 engine sends Address Claimed with its preferred address. -/
  | addressClaimSend (p : Fin 8)
  /-- ADDRESS_HELD (R388). 250 ms without a contending claim makes the address held. -/
  | addressHeld (p : Fin 8)
  /-- CANNOT_CLAIM_SEND (R388). After the pseudo-random delay the engine sends Cannot Claim and raises CAN_ADDR. -/
  | cannotClaimSend (p : Fin 8)
  /-- TRANSPORT_SESSION_TIMEOUT (R389). A TP or ETP session times out under ISO 11783-3. -/
  | transportSessionTimeout (p : Fin 8) (tx bam : Bool) (peer : Nat)
  /-- ISO_SEND (R390). A write of 1 to 0x2Bpp.3A sends the staged message as a single frame, TP or ETP. -/
  | isoSend (who : Who) (p : Fin 8)
  /-- ISO_SEND_DONE (R390). The ISO transmission ends done or aborted. -/
  | isoSendDone (p : Fin 8)
  /-- CAN_SHADOW_COMPARE (R391). A shadowing spare controller compares a frame with the serving controller. -/
  | canShadowCompare (c : Fin 2) (differs hard : Bool)
  /-- CAN_CONTROLLER_SWAP (R392). At the next intermission Lupin swaps a failed controller for a spare. -/
  | canControllerSwap (p : Fin 8) (verify : List Bool) (dur : Nat) (transmitting : Bool)
  /-- CAN_PORT_FAILED (R393). Without a spare the port enters FAILED and raises CAN_CTRL. -/
  | canPortFailed (p : Fin 8)
  /-- HELLO (R409). HELLO checks the credential and answers with the ephemeral key and signed transcript. -/
  | hello (r : Route) (src : Nat) (data : List Byte)
  /-- FINISH (R410). FINISH verifies the host signature and makes the session live with its key. -/
  | finish (n : Nat) (data : List Byte)
  /-- CLOSE (R411). CLOSE ends the session. -/
  | close (n : Nat)
  /-- ATTEST (R416). ATTEST returns the signed attestation report. -/
  | attest (nonce : List Byte)
  /-- HANDSHAKE_TIMEOUT (R411). 5 s after HELLO without FINISH the handshake is forgotten. -/
  | handshakeTimeout (n : Nat)
  /-- SESSION_IDLE_TIMEOUT (R411). A session without a packet for the idle time ends. -/
  | sessionIdleTimeout (n : Nat)
  /-- SESSION_LIFETIME_END (R411). A session ends at its lifetime. -/
  | sessionLifetimeEnd (n : Nat)
  /-- CREDENTIAL_EXPIRY_CHECK (R411). Once per minute sessions whose credentials have expired end and the time floor is raised. -/
  | credentialExpiryCheck
  /-- END_SESSION (R411). A write of a session number to 0x1100.05 ends that session. -/
  | endSession (who : Who) (n : Nat)
  /-- LOCKOUT_END (R412). 60 s after a lockout the source may handshake again. -/
  | lockoutEnd (r : Route)
  /-- REVOCATION_APPLY (R407). A write of 1 to 0x2F00.0A checks and applies a revocation list and ends revoked sessions. -/
  | revocationApply (who : Who)
  /-- ANCHOR_APPLY (R408). A write of 1 to 0x2F00.04 applies the integrator anchor table. -/
  | anchorApply (who : Who)
  /-- MEMBER_LIST_APPLY (R417). A write of 1 to 0x2F00.06 checks and applies the member list. -/
  | memberListApply (who : Who)
  /-- SIGNED_COMMAND_EXECUTE (R414). A write of 1 to 0x2F00.11 checks the signed command and carries out its write with the credential's role. -/
  | signedCommandExecute (who : Who) (f : Facts)
  /-- CHALLENGE_RENEW (R414). Every 600 s a new challenge is drawn. -/
  | challengeRenew
  /-- DEBUG_OPEN (R418). A vendor response written to 0x2F00.1A opens the debug port and raises SEC_DEBUG. -/
  | debugOpen (who : Who) (data : List Byte)
  /-- DEBUG_CLOSE (R418). A write of 0 to 0x2F00.18, leaving SERVICE or a chip reset closes the debug port. -/
  | debugClose (who : Who)
  /-- DEBUG_TIMEOUT (R418). 3,600 s after opening the debug port closes. -/
  | debugTimeout
  /-- DEBUG_LOCK (R419). A write of 0x4C4F_434B to 0x2F00.1B blows DEBUG_LOCK for good. -/
  | debugLock (who : Who) (value : Nat)
  /-- CONFIG_COMMIT (R428). A write of 1 to 0x3000.05 commits the working configuration as a new version. -/
  | configCommit (who : Who)
  /-- CONFIG_RETURN (R431). A write of 0x3000.06 returns to a held version, directly or as a two-party change. -/
  | configReturn (who : Who) (v : Nat)
  /-- CONFIG_IMPORT (R433). A write of 1 to 0x3000.0C checks the staged image and makes it a new version. -/
  | configImport (who : Who) (f : Facts)
  /-- IMAGE_BLOCK (R437). A 4 KiB block written to 0x3100.01 opens or extends a delivery. -/
  | imageBlock (who : Who) (off : Nat) (data : List Byte)
  /-- IMAGE_VERIFY (R438). A write of 1 to 0x3100.03 verifies the delivery and builds the other slot. -/
  | imageVerify (who : Who) (built : Bool)
  /-- ARM_A (R440). Command 1 to 0x3100.05 selects the verified slot for the next START. -/
  | armA (who : Who)
  /-- ARM_N (R443). Command 2 to 0x3100.05 arms a class N change at T_act. -/
  | armN (who : Who)
  /-- ACTIVATE_NOW (R445). Command 3 to 0x3100.05 activates the armed class N change at the next frame. -/
  | activateNow (who : Who)
  /-- DISARM_REJECT (R439). Command 4 to 0x3100.05 disarms an armed change or rejects a trial. -/
  | disarmReject (who : Who)
  /-- UPDATE_DISCARD (R439). Command 5 to 0x3100.05 discards the delivery. -/
  | updateDiscard (who : Who)
  /-- UPDATE_CONFIRM (R441). A write of 1 to 0x3100.09 commits a healthy trial in commit mode 1. -/
  | updateConfirm (who : Who)
  /-- TRIAL_HEALTHY (R441). The health time in RUN or LIMP passes, and in mode 0 the change commits and fuses are blown. -/
  | trialHealthy
  /-- CLASS_N_ACTIVATE (R444). At the first frame with MT_FRAME + G_OFF at or after T_act the class N parts take effect. -/
  | classNActivate
  /-- START (R452). START runs power, collector, self-test, boot, recorder, configuration, transport and partition steps. -/
  | start (rtc : Nat) (root : Fin 3) (slots : Nat) (pass0 pass1 : Bool) (bad : List Nat) (fails : List (Nat × Nat)) (directed : List SvSig) (known : Nat) (near : Bool)
  /-- START_COMPLETE (R453). At the end of START the module enters CONFIGURE or its start target. -/
  | startComplete
  /-- STANDBY_REQUEST (R454). State request 0 moves the module to STANDBY. -/
  | standbyRequest (who : Who)
  /-- CONFIGURE_REQUEST (R454). State request 2 moves the module to CONFIGURE. -/
  | configureRequest (who : Who)
  /-- RUN_REQUEST (R454). State request 3 moves the module to RUN or the highest state whose cause stands. -/
  | runRequest (who : Who)
  /-- LIMP_REQUEST (R454). State request 4 moves the module from RUN to LIMP. -/
  | limpRequest (who : Who)
  /-- SAFE_HOLD_REQUEST (R454). State request 5 moves the module to SAFE_HOLD. -/
  | safeHoldRequest (who : Who)
  /-- SERVICE_REQUEST (R454). State request 6 moves the module to SERVICE. -/
  | serviceRequest (who : Who)
  /-- RESTART_REQUEST (R454). State request 0x80 runs a chip reset with cause 0x000B. -/
  | restartRequest (who : Who)
  /-- AUTO_STATE_CHANGE (R455). Foxglove not ACTIVE, a mapped source or a cleared LIMP cause changes the state at the next frame. -/
  | autoStateChange
  /-- HOLDUP_SAVE (R458). A save trigger turns outputs off, stops frame work and stores records, counters and MT within 22 ms. -/
  | holdupSave (trig : Fin 4) (vlBack : Bool)
  /-- AFTER_RUN_EXPIRE (R460). WAKE_IN low for the after-run time enters STANDBY. -/
  | afterRunExpire
  /-- WAKE (R461). A CAN0 wake frame, a WAKE_IN edge or the wake timer wakes the module from standby into START. -/
  | wake (src : Fin 3)
  /-- VL_RISE (R472). The VL bypass closes with VL at or above 9 V and START begins. -/
  | vlRise (mv : Nat)
  /-- VL_PRECHARGE_TIMEOUT (R472). A bypass not closed 20 ms after charging began opens the limiter and retries after 1 s. -/
  | vlPrechargeTimeout
  /-- HOLDUP_STORE_READY (R473). The hold-up store becomes ready after charging. -/
  | holdupStoreReady (mv : Nat)
  /-- VBAK_MEASURE (R474). At START and every 24 h VBAK is measured under a 1 mA load. -/
  | vbakMeasure (vbak vl ma : Nat)
  /-- VB_PRECHARGE (R475). A group's bypass closes after its precharge while PRESENT is true. -/
  | vbPrecharge (g : Fin 8) (mv : Nat)
  /-- VL_LOW (R476). VL below 9 V for 50 ms or above 36 V for 400 ms raises VL_LOW. -/
  | vlLow (code : Fin 3) (mv : Nat)
  /-- PRESENT_MAKE (R477). All PRS contacts closed for 50 ms make PRESENT true. -/
  | presentMake
  /-- PRESENT_BREAK (R477). A PRS contact open for 20 µs makes PRESENT false and triggers a save. -/
  | presentBreak (closed : Fin 15)
  /-- ADDRESS_READ (R480). At the later of START step 6 and PRESENT true the node address pins are sampled until 16 samples agree. -/
  | addressRead (pins : Fin 256) (agree : Bool)
  /-- ADDRESS_CHANGE (R480). An address reading that differs for 1 s sets coding status 3 and confines UCP. -/
  | addressChange (pins : Fin 256)
  /-- WAKE_IN_LEVEL (R481). A WAKE_IN level held for 10 ms is accepted. -/
  | wakeInLevel (high : Bool)
  /-- STATUS_PIN_OVERCURRENT (R482). A sink current above 400 mA turns FAULT_N or SAFE_N off for 10 ms. -/
  | statusPinOvercurrent (pin : Fin 2) (over_ : Bool)
  /-- FOXGLOVE_REGULATOR_RECOVER (R243). Foxglove's own regulator recovers and Foxglove enters INIT. -/
  | foxgloveRegulatorRecover
  /-- VBAK_SUPPLY_MONITOR_TRIP (R474). With VL absent, VBAK falls to the always-on die's monitor level between 2.2 V and 2.5 V and the retained state is marked lost. -/
  | vbakSupplyMonitorTrip
  /-- RANDOM_SOURCE_HEALTH_FAIL (R400). The physical random source fails its continuous health test at run time and SEC_ROOT is raised. -/
  | randomSourceHealthFail
  /-- DIE_TEMP_EXCEED (R270). A system-die junction stays above 150 °C for 10 ms and DIE_TEMP is raised, falling again at 145 °C. -/
  | dieTempExceed (hot : Bool)
  /-- HOLLYHOCK_RAIL_MISMATCH (R270). Hollyhock's two rails disagree, raising HOLLY_SELF with its fixed chip reset and FAULT_N. -/
  | hollyhockRailMismatch (disagree : Bool)
  /-- LUPIN_RAIL_MISMATCH (R270). Lupin's rails disagree and SPARE_FAIL is raised. -/
  | lupinRailMismatch
  /-- SRAM_UNCORRECTABLE_ERROR (R270). A core read meets an uncorrectable or poisoned SRAM word, ending in a bus error and raising SRAM_UE. -/
  | sramUncorrectableError (bank word : Nat)
  /-- SUPPLY_MONITOR_FAULT (R73). The supply monitor converter faults, raising SUP_MON and setting SUP_FAIL on every ratiometric and bridge channel. -/
  | supplyMonitorFault (faulty : Bool)
  /-- ACTIVATION_TIME_MISSED (R445). T_act of an armed class N change passes while the time state is FREE and UPD_LATE is raised. -/
  | activationTimeMissed
  /-- VL_PRECHARGE_RETRY (R472). 1 s after a failed precharge the VL limiter tries to charge again. -/
  | vlPrechargeRetry
  /-- ICMPV6_MESSAGE_RECEIVE (R334). The module receives an IPv6 Neighbor Discovery or ICMPv6 echo message and answers it. -/
  | icmpv6MessageReceive (p : Fin 6) (typ src target : Nat) (data : List Byte)
  /-- RING_MANAGER_TIMEOUT (R354). The TEST frames of the lowest address heard age out after 3 × T_r and the next lowest address becomes ring manager. -/
  | ringManagerTimeout
  /-- OPEN_LOAD_CLEAR (R220). An on-time mean at or above 1.2 times the threshold for the open-load time clears OPEN_LOAD. -/
  | openLoadClear (ch : Fin 64)
  /-- REF_DEV_CLEAR (R215). A current within the deviation limit for the deviation time clears REF_DEV. -/
  | refDevClear (ch : Fin 64)
  /-- CHAIN_BACK_IN_USE (R117). An RF chain whose GNSS_RF raw state has been inactive for 1 s returns to use. -/
  | chainBackInUse (c : Fin 4)
  /-- HEADING_FIX_TIMEOUT (R154). 10 s without an accepted heading sets HEADING_INERTIAL and DEGRADED. -/
  | headingFixTimeout
  /-- AMBIGUITY_DISCARD (R154). 30 s after corrections have lapsed, the kept RTK ambiguities are discarded. -/
  | ambiguityDiscard
  /-- CAN_SHADOW_ROTATE (R391). After 1 s a shadowing spare CAN controller moves on to the next port of its set. -/
  | canShadowRotate (c : Fin 2)
  deriving DecidableEq, Repr

end Sys2Proof
end

