-- ==== Sys2Proof/Config.lean ====
section
/-! DEFINITION. What an implementation fixes and the values the spec leaves open. Each constant is opaque: it has no
body, so nothing can be proved of its value. A value that may differ each time is the constant at State's counter. -/

namespace Sys2Proof.Config

/-- The code word of SRAM_UE for a bank and a word (R270 says that it holds both, not where). -/
opaque sramUeCode : Nat → Nat → Nat

/-- The factory gain, in units of 2⁻³⁰, and the factory offset, in units of 2⁻¹⁶ of a code, of a channel read by a
converter: 0 to 63 the own ones, 64 + g the spare of group g (R53). -/
opaque factoryGain : Nat → Nat → Nat
opaque factoryOffset : Nat → Nat → Int

/-- A value that an effect leaves open, at State's counter. -/
opaque freeWord : Nat → Nat

/-- The serial number of the module (R401, R405). -/
opaque serial : Nat

/-- The vendor anchor's public key (R408), and the module's own public keys and DEVICE credential (R401, R404). -/
opaque vendorKey : List Byte
opaque deviceCred : List Byte
opaque fleetSignKey : List Byte
opaque fleetAgreeKey : List Byte

/-- SHA-384, and ECDSA P-384 verification of a key, a digest and a signature: the standards' functions, left
uninterpreted. -/
opaque sha384Byte : List Byte → Fin 48 → Byte
opaque ecdsaOk : List Byte → List Byte → List Byte → Bool

/-- A SHA-384 digest has 48 bytes. -/
def sha384 (l : List Byte) : List Byte := List.ofFn (sha384Byte l)

/-- Hardware issue and production date of the module (R333). -/
opaque hardwareIssue : Nat
opaque productionDate : Nat

/-- The P-384 public point of a private draw, the module's identity and fleet signatures over a digest, the ECDH secret
of a private draw and a public point, HKDF-SHA-384 of input, salt and info, AES key wrap, and AES-256-GCM text and tag of
key, nonce, additional data and plain text: the standards' functions and the module's keys (R356, R401, R409, R410),
left uninterpreted, each result as a number. -/
opaque publicPoint : Nat → Nat
opaque identitySign : List Byte → Nat
opaque fleetSign : List Byte → Nat
opaque ecdh : Nat → List Byte → List Byte
opaque hkdf : List Byte → List Byte → List Byte → Nat
opaque keyWrap : Nat → Nat → Nat
opaque gcmText : Nat → List Byte → List Byte → List Byte → Nat
opaque gcmTag : Nat → List Byte → List Byte → List Byte → Nat

/-- AES-256-GCM opening of key, nonce, additional data, cipher text and tag: none where the tag does not verify (R337). -/
opaque gcmOpen : Nat → List Byte → List Byte → List Byte → List Byte → Option (List Byte)

/-- What a gPTP Announce of this module says of its clock beside priority1, clockClass and identity (R45). -/
opaque clockQuality : Nat

/-- The content that this module unwraps from a fleet envelope, and none where the unwrap or the GCM tag fails (R358). -/
opaque fleetOpen : List Byte → Option (List Byte)

/-- A configuration, as the bytes of a version, is valid under the description of a dictionary layout that an image
brings (R438 step 4): the layouts' contents are not part of the spec. -/
opaque validUnder : Nat → List Byte → Bool

/-- The SHA-384 of a firmware slot that holds a firmware version (R416). -/
opaque slotHash : Nat → Nat → Nat

end Sys2Proof.Config
end

