-- ==== Sys2Proof/Machine/Exact.lean ====
section
/-! DEFINITION. Exact fractions, the two roundings of R7 and R167, and the elementary functions to a fixed
precision of 96 fractional bits. -/

namespace Sys2Proof.Machine

/-- A fraction; `den` is positive in every value the operations below build. -/
structure Q where
  num : Int
  den : Nat
  deriving DecidableEq, Repr

/-- The fraction in lowest terms; a zero denominator gives 0. -/
def Q.mk' (n : Int) (d : Nat) : Q :=
  if d = 0 then ⟨0, 1⟩
  else
    let g := Nat.gcd n.natAbs d
    if g = 0 then ⟨0, 1⟩ else ⟨n / (g : Int), d / g⟩

def Q.ofInt (n : Int) : Q := ⟨n, 1⟩
def Q.ofNat (n : Nat) : Q := ⟨(n : Int), 1⟩
def Q.zero : Q := ⟨0, 1⟩
def Q.one : Q := ⟨1, 1⟩

def Q.neg (a : Q) : Q := ⟨-a.num, a.den⟩
def Q.abs (a : Q) : Q := ⟨(a.num.natAbs : Int), a.den⟩
def Q.add (a b : Q) : Q := Q.mk' (a.num * b.den + b.num * a.den) (a.den * b.den)
def Q.sub (a b : Q) : Q := Q.add a (Q.neg b)
def Q.mul (a b : Q) : Q := Q.mk' (a.num * b.num) (a.den * b.den)

/-- The quotient; a zero divisor gives 0, and every caller that can meet one tests for it. -/
def Q.div (a b : Q) : Q :=
  if b.num = 0 then Q.zero
  else if b.num < 0 then Q.mk' (-(a.num * b.den)) (a.den * b.num.natAbs)
  else Q.mk' (a.num * b.den) (a.den * b.num.natAbs)

def Q.lt (a b : Q) : Bool := decide (a.num * b.den < b.num * a.den)
def Q.le (a b : Q) : Bool := decide (a.num * b.den ≤ b.num * a.den)
def Q.eq (a b : Q) : Bool := decide (a.num * b.den = b.num * a.den)
def Q.max (a b : Q) : Q := if Q.lt a b then b else a
def Q.min (a b : Q) : Q := if Q.lt b a then b else a
def Q.clamp (lo hi a : Q) : Q := Q.max lo (Q.min hi a)
def Q.isNeg (a : Q) : Bool := decide (a.num < 0)
def Q.sum (l : List Q) : Q := l.foldl Q.add Q.zero
def Q.floor (a : Q) : Int := a.num / (a.den : Int)
def Q.ceil (a : Q) : Int := -((-a.num) / (a.den : Int))
def Q.sq (a : Q) : Q := Q.mul a a

/-- To the nearest integer, ties away from zero (R7). -/
def Q.roundAway (a : Q) : Int :=
  let m : Nat := (2 * a.num.natAbs + a.den) / (2 * a.den)
  if a.num < 0 then -(m : Int) else (m : Int)

/-- To the nearest integer, ties to even (R167). -/
def Q.roundEven (a : Q) : Int :=
  let n := a.num.natAbs
  let k := n / a.den
  let r := n % a.den
  let m := if 2 * r < a.den then k else if a.den < 2 * r then k + 1 else if k % 2 = 0 then k else k + 1
  if a.num < 0 then -(m : Int) else (m : Int)

def Q.pow (a : Q) : Nat → Q
  | 0 => Q.one
  | k + 1 => Q.mul a (Q.pow a k)

/-- Two to an integer power. -/
def Q.pow2 (e : Int) : Q :=
  match e with
  | .ofNat k => ⟨((2 ^ k : Nat) : Int), 1⟩
  | .negSucc k => ⟨1, 2 ^ (k + 1)⟩

/-- Fixed point with 96 fractional bits, in which the elementary functions are computed. -/
abbrev Fx := Int

def Fx.one : Fx := ((2 ^ 96 : Nat) : Int)
def Fx.ofQ (a : Q) : Fx := (Q.mul a (Q.pow2 96)).roundAway
def Fx.toQ (x : Fx) : Q := Q.mk' x (2 ^ 96)
def Fx.mul (x y : Fx) : Fx := (x * y) / Fx.one

/-- π and ln 2 to 96 fractional bits. -/
def Fx.pi : Fx := 248902613312231085230521944622
def Fx.ln2 : Fx := 54916777467707473351141471128

/-- The tail of the exponential series from term `k`, over `n` terms. -/
def Fx.expTail (x : Fx) : Nat → Nat → Fx → Fx
  | 0, _, _ => 0
  | n + 1, k, t => t + Fx.expTail x n (k + 1) (Fx.mul t x / ((k + 1 : Nat) : Int))

/-- e to the power `a`, correct to about 2⁻⁸⁰ of its value for |a| up to 200. -/
def Q.exp (a : Q) : Q :=
  let x := Fx.ofQ a
  let k : Int := x / Fx.ln2
  let r := x - k * Fx.ln2
  Q.mul (Fx.toQ (Fx.expTail r 40 0 Fx.one)) (Q.pow2 k)

def Fx.sinTail (x2 : Fx) : Nat → Nat → Fx → Fx
  | 0, _, _ => 0
  | n + 1, k, t => t + Fx.sinTail x2 n (k + 2) (-(Fx.mul t x2) / (((k + 1) * (k + 2) : Nat) : Int))

/-- An angle moved into [−π, π). -/
def Fx.wrap (x : Fx) : Fx :=
  let two := 2 * Fx.pi
  let y := x - (x / two) * two
  if Fx.pi ≤ y then y - two else y

def Q.sin (a : Q) : Q :=
  let x := Fx.wrap (Fx.ofQ a)
  Fx.toQ (Fx.sinTail (Fx.mul x x) 30 1 x)

def Q.cos (a : Q) : Q :=
  let x := Fx.wrap (Fx.ofQ a)
  Fx.toQ (Fx.sinTail (Fx.mul x x) 30 0 Fx.one)

def Q.pi : Q := Fx.toQ Fx.pi

def Fx.atanhTail (y2 : Fx) : Nat → Nat → Fx → Fx
  | 0, _, _ => 0
  | n + 1, k, t => t / (k : Int) + Fx.atanhTail y2 n (k + 2) (Fx.mul t y2)

/-- The natural logarithm of a positive fraction; 0 for any other. -/
def Q.ln (a : Q) : Q :=
  if a.num ≤ 0 then Q.zero
  else
    let e : Int := (Nat.log2 a.num.natAbs : Int) - (Nat.log2 a.den : Int)
    let m := Q.mul a (Q.pow2 (-e))
    let y := Fx.ofQ (Q.div (Q.sub m Q.one) (Q.add m Q.one))
    Fx.toQ (2 * Fx.atanhTail (Fx.mul y y) 80 1 y + e * Fx.ln2)

/-- Integer square root, rounded down, one bit a step. -/
def isqrtGo (n : Nat) : Nat → Nat → Nat
  | 0, r => r
  | k + 1, r => let t := r + 2 ^ k; if t * t ≤ n then isqrtGo n k t else isqrtGo n k r

def isqrt (n : Nat) : Nat := isqrtGo n (Nat.log2 n / 2 + 1) 0

/-- The square root to 96 fractional bits; 0 for a negative number. -/
def Q.sqrt (a : Q) : Q :=
  if a.num ≤ 0 then Q.zero else Q.mk' (isqrt (a.num.natAbs * 2 ^ 192 / a.den) : Nat) (2 ^ 96)

/-- `a` to the power `b` for positive `a`; 0 otherwise. -/
def Q.rpow (a b : Q) : Q := if a.num ≤ 0 then Q.zero else Q.exp (Q.mul b (Q.ln a))

end Sys2Proof.Machine
end

