-- ==== Sys2Proof/Machine/Float.lean ====
section
/-! DEFINITION. IEEE 754 binary32 and binary64 as R167 uses them: each operation exact, then rounded once to
nearest with ties to even, a subnormal result flushed to zero of the same sign. -/

namespace Sys2Proof.Machine

/-- A binary format: `fb` fraction bits and `eb` exponent bits. -/
structure Fmt where
  fb : Nat
  eb : Nat

def fmt32 : Fmt := ⟨23, 8⟩
def fmt64 : Fmt := ⟨52, 11⟩

def Fmt.bias (f : Fmt) : Nat := 2 ^ (f.eb - 1) - 1
def Fmt.infBits (f : Fmt) (neg : Bool) : Nat :=
  (if neg then 2 ^ (f.fb + f.eb) else 0) + (2 ^ f.eb - 1) * 2 ^ f.fb
def Fmt.zeroBits (f : Fmt) (neg : Bool) : Nat := if neg then 2 ^ (f.fb + f.eb) else 0

/-- The sign bit. -/
def Fmt.sign (f : Fmt) (w : Nat) : Bool := decide ((w / 2 ^ (f.fb + f.eb)) % 2 = 1)
def Fmt.expo (f : Fmt) (w : Nat) : Nat := (w / 2 ^ f.fb) % 2 ^ f.eb
def Fmt.frac (f : Fmt) (w : Nat) : Nat := w % 2 ^ f.fb

/-- Neither infinity nor NaN (R6). -/
def Fmt.finite (f : Fmt) (w : Nat) : Bool := decide (f.expo w ≠ 2 ^ f.eb - 1)

/-- The value of a finite number. -/
def Fmt.toQ (f : Fmt) (w : Nat) : Q :=
  let e := f.expo w
  let m : Nat := if e = 0 then f.frac w else f.frac w + 2 ^ f.fb
  let x : Int := (if e = 0 then (1 : Int) else (e : Int)) - (f.bias : Int) - (f.fb : Int)
  let v := Q.mul (Q.ofNat m) (Q.pow2 x)
  if f.sign w then v.neg else v

/-- Round to the format; `negZero` is the sign a zero result takes. -/
def Fmt.ofQ (f : Fmt) (negZero : Bool) (a : Q) : Nat :=
  if a.num = 0 then f.zeroBits negZero
  else
    let neg := decide (a.num < 0)
    let n := a.num.natAbs
    let e0 : Int := (Nat.log2 n : Int) - (Nat.log2 a.den : Int)
    let e1 : Int := if Q.lt ⟨(n : Int), a.den⟩ (Q.pow2 e0) then e0 - 1 else e0
    let emin : Int := 1 - (f.bias : Int)
    let e2 : Int := if e1 < emin then emin else e1
    let m : Nat := (Q.mul ⟨(n : Int), a.den⟩ (Q.pow2 ((f.fb : Int) - e2))).roundEven.natAbs
    if m < 2 ^ f.fb then f.zeroBits neg
    else
      let e3 : Int := if 2 ^ (f.fb + 1) ≤ m then e2 + 1 else e2
      let m3 : Nat := if 2 ^ (f.fb + 1) ≤ m then m / 2 else m
      let be : Int := e3 + (f.bias : Int)
      if ((2 ^ f.eb - 1 : Nat) : Int) ≤ be then f.infBits neg
      else (if neg then 2 ^ (f.fb + f.eb) else 0) + be.natAbs * 2 ^ f.fb + (m3 - 2 ^ f.fb)

/-- The quiet NaN the operations answer for a non-finite operand; R167 trips the slot on it. -/
def Fmt.nan (f : Fmt) : Nat := (2 ^ f.eb - 1) * 2 ^ f.fb + 2 ^ (f.fb - 1)

def Fmt.add (f : Fmt) (a b : Nat) : Nat :=
  if f.finite a && f.finite b then f.ofQ (f.sign a && f.sign b) (Q.add (f.toQ a) (f.toQ b)) else f.nan

def Fmt.neg (f : Fmt) (a : Nat) : Nat :=
  if f.sign a then a - 2 ^ (f.fb + f.eb) else a + 2 ^ (f.fb + f.eb)

def Fmt.sub (f : Fmt) (a b : Nat) : Nat := f.add a (f.neg b)

def Fmt.mul (f : Fmt) (a b : Nat) : Nat :=
  if f.finite a && f.finite b then f.ofQ (f.sign a != f.sign b) (Q.mul (f.toQ a) (f.toQ b)) else f.nan

/-- A division by zero gives a non-finite result. -/
def Fmt.div (f : Fmt) (a b : Nat) : Nat :=
  if f.finite a && f.finite b then
    if (f.toQ b).num = 0 then (if (f.toQ a).num = 0 then f.nan else f.infBits (f.sign a != f.sign b))
    else f.ofQ (f.sign a != f.sign b) (Q.div (f.toQ a) (f.toQ b))
  else f.nan

def F32.fin (a : F32) : Bool := fmt32.finite a.toNat
def F32.toQ (a : F32) : Q := fmt32.toQ a.toNat
def F32.ofQ (a : Q) : F32 := BitVec.ofNat 32 (fmt32.ofQ false a)
def F32.ofInt (n : Int) : F32 := F32.ofQ (Q.ofInt n)
def F32.add (a b : F32) : F32 := BitVec.ofNat 32 (fmt32.add a.toNat b.toNat)
def F32.sub (a b : F32) : F32 := BitVec.ofNat 32 (fmt32.sub a.toNat b.toNat)
def F32.mul (a b : F32) : F32 := BitVec.ofNat 32 (fmt32.mul a.toNat b.toNat)
def F32.div (a b : F32) : F32 := BitVec.ofNat 32 (fmt32.div a.toNat b.toNat)
def F32.neg (a : F32) : F32 := BitVec.ofNat 32 (fmt32.neg a.toNat)
def F32.abs (a : F32) : F32 := if fmt32.sign a.toNat then F32.neg a else a
def F32.lt (a b : F32) : Bool := F32.fin a && F32.fin b && Q.lt (F32.toQ a) (F32.toQ b)
def F32.le (a b : F32) : Bool := F32.fin a && F32.fin b && Q.le (F32.toQ a) (F32.toQ b)
def F32.eqv (a b : F32) : Bool := F32.fin a && F32.fin b && Q.eq (F32.toQ a) (F32.toQ b)
def F32.max (a b : F32) : F32 := if F32.lt a b then b else a
def F32.min (a b : F32) : F32 := if F32.lt b a then b else a
def F32.zero : F32 := 0
def F32.one : F32 := 0x3F800000
def F32.isZero (a : F32) : Bool := decide ((F32.toQ a).num = 0)

def F64.fin (a : F64) : Bool := fmt64.finite a.toNat
def F64.toQ (a : F64) : Q := fmt64.toQ a.toNat
def F64.ofQ (a : Q) : F64 := BitVec.ofNat 64 (fmt64.ofQ false a)
def F64.add (a b : F64) : F64 := BitVec.ofNat 64 (fmt64.add a.toNat b.toNat)
def F64.sub (a b : F64) : F64 := BitVec.ofNat 64 (fmt64.sub a.toNat b.toNat)
def F64.mul (a b : F64) : F64 := BitVec.ofNat 64 (fmt64.mul a.toNat b.toNat)
def F64.div (a b : F64) : F64 := BitVec.ofNat 64 (fmt64.div a.toNat b.toNat)
def F64.lt (a b : F64) : Bool := F64.fin a && F64.fin b && Q.lt (F64.toQ a) (F64.toQ b)

/-- A binary32 value as binary64; exact for a finite value, and non-finite stays non-finite. -/
def F32.wide (a : F32) : F64 :=
  if F32.fin a then BitVec.ofNat 64 (fmt64.ofQ (fmt32.sign a.toNat) (F32.toQ a)) else BitVec.ofNat 64 fmt64.nan

/-- A binary64 value rounded to binary32. -/
def F64.narrow (a : F64) : F32 :=
  if F64.fin a then BitVec.ofNat 32 (fmt32.ofQ (fmt64.sign a.toNat) (F64.toQ a)) else BitVec.ofNat 32 fmt32.nan

end Sys2Proof.Machine
end

