-- ==== Sys2Proof/Machine/Sources.lean ====
section
/-! DEFINITION. The fault sources (R270, R271, R504 and the tables of R314, R361, R399, R425, R447, R463): which
numbers exist, which are events, which block BLK resets for each, and which blocks stand upstream of it. -/

namespace Sys2Proof.Machine

/-- Block codes of R271. -/
def blkFAB : Nat := 0
def blkCROP : Nat := 1
def blkSUN : Nat := 2
def blkYAR : Nat := 3
def blkLARK : Nat := 4
def blkOTU : Nat := 5
def blkPIL : Nat := 6
def blkUCP : Nat := 7
def blkETH : Nat := 8
def blkSEC : Nat := 9
def blkCAN (p : Nat) : Nat := 10 + p
def blkCP (p : Nat) : Nat := 20 + p
def blkLUPIN : Nat := 24

/-- A block code of R271. -/
def blkExists (b : Nat) : Bool := decide (b ≤ 17) || (decide (20 ≤ b) && decide (b ≤ 24))

/-- Source numbers. -/
def srcHOLLY_SELF : Nat := 0x000
def srcCLK_PLL : Nat := 0x001
def srcCLK_TCXO : Nat := 0x002
def srcFRAME_OVR : Nat := 0x003
def srcPI_TIMEOUT : Nat := 0x004
def srcCORE_CP (p : Nat) : Nat := 0x005 + p
def srcSRAM_CE : Nat := 0x009
def srcSRAM_UE : Nat := 0x00A
def srcNVS_ERR : Nat := 0x00B
def srcTIME_STEP : Nat := 0x00C
def srcTIME_HOLD : Nat := 0x00D
def srcTIME_UNQUAL : Nat := 0x00E
def srcFLT_PIN : Nat := 0x00F
def srcDIE_TEMP : Nat := 0x010
def srcVL_LOW : Nat := 0x011
def srcLARK_LANE : Nat := 0x012
def srcLARK_VOTE : Nat := 0x013
def srcREC_BANK : Nat := 0x014
def srcSPARE_LOW : Nat := 0x015
def srcSPARE_FAIL : Nat := 0x016
def srcWEAR : Nat := 0x017
def srcIN_DIAG (n : Nat) : Nat := 0x040 + n
def srcADC (n : Nat) : Nat := 0x080 + n
def srcSUP (k : Nat) : Nat := 0x0C0 + k
def srcSUP_MON : Nat := 0x0C8
def srcCROP_CFG : Nat := 0x0C9
def srcCROP_LS (k : Nat) : Nat := 0x0CA + k
def srcCROP_FLOW : Nat := 0x0D2
def srcCROP_MOIST : Nat := 0x0D3
def srcCROP_BUF : Nat := 0x0D4
def srcGNSS_ANT (a : Nat) : Nat := 0x0E0 + a
def srcGNSS_RF : Nat := 0x0E2
def srcGNSS_JAM : Nat := 0x0E3
def srcGNSS_SPOOF : Nat := 0x0E4
def srcGNSS_BANK : Nat := 0x0E5
def srcGNSS_CORR : Nat := 0x0E6
def srcGNSS_AID : Nat := 0x0E7
def srcNAV_IMU (n : Nat) : Nat := 0x0E8 + n
def srcNAV_VOTE : Nat := 0x0EC
def srcNAV_SPEED : Nat := 0x0ED
def srcNAV_WHEEL (k : Nat) : Nat := 0x0EE + k
def srcNAV_LATE : Nat := 0x0F2
def srcNAV_DR : Nat := 0x0F3
def srcNAV_HEADING : Nat := 0x0F4
def srcLOOP (n : Nat) : Nat := 0x100 + n
def srcOUT (n : Nat) : Nat := 0x160 + n
def srcSENSE (g : Nat) : Nat := 0x1A0 + g
def srcGRP (g : Nat) : Nat := 0x1A8 + g
def srcSWLINK (g : Nat) : Nat := 0x1B0 + g
def srcOUT_BUDGET : Nat := 0x1B8
def srcFOX_XCHK : Nat := 0x1C0
def srcFOX_SUP : Nat := 0x1C1
def srcFOX_DISC : Nat := 0x1C2
def srcFOX_INPUT : Nat := 0x1C3
def srcFOX_DARK : Nat := 0x1C4
def srcFOX_RESET : Nat := 0x1C5
def srcFOX_PIN : Nat := 0x1C6
def srcFOX_SEAL : Nat := 0x1C7
def srcFOX_PROFILE : Nat := 0x1C8
def srcCAN_BUS (p : Nat) : Nat := 0x1D0 + p
def srcCAN_IDCOLL : Nat := 0x1D8
def srcCAN_CTRL : Nat := 0x1D9
def srcCAN_ADDR : Nat := 0x1DA
def srcCAN_TIME : Nat := 0x1DB
def srcCAN_XCVR : Nat := 0x1DC
def srcCAN_RATE : Nat := 0x1DD
def srcUCP_DUPADDR : Nat := 0x1E0
def srcUCP_AUTH : Nat := 0x1E1
def srcUCP_EVQ : Nat := 0x1E2
def srcETH_RING : Nat := 0x1E3
def srcETH_LINK (p : Nat) : Nat := 0x1E4 + p
def srcFLEET_REJ : Nat := 0x1EA
def srcSEC_BOOT : Nat := 0x1F0
def srcSEC_AUTH : Nat := 0x1F1
def srcSEC_ROOT : Nat := 0x1F2
def srcSEC_DEBUG : Nat := 0x1F3
def srcREC_DUAL : Nat := 0x1F4
def srcREC_LOST : Nat := 0x1F5
def srcUPD_FALLBACK : Nat := 0x1F6
def srcUPD_LATE : Nat := 0x1F7
def srcCFG_LOAD : Nat := 0x1F8
def srcSTART_TEST : Nat := 0x1F9
def srcSAVE_INCOMPLETE : Nat := 0x1FA

/-- `lo ≤ s ≤ hi`. -/
def within (lo hi s : Nat) : Bool := decide (lo ≤ s) && decide (s ≤ hi)

/-- The numbers that name a source; every other number is reserved (R270). -/
def srcExists (s : Nat) : Bool :=
  within 0x000 0x017 s || within 0x040 0x0D4 s || within 0x0E0 0x0F4 s || within 0x100 0x1B8 s ||
  within 0x1C0 0x1C8 s || within 0x1D0 0x1DD s || within 0x1E0 0x1EA s || within 0x1F0 0x1FA s

/-- Event sources (R504 and the chapters' tables); every other source is a level source. -/
def srcEvent (s : Nat) : Bool :=
  decide (s = 0x003) || within 0x005 0x00C s || decide (s = 0x012) || decide (s = 0x016) || decide (s = 0x0E5) ||
  decide (s = 0x1DC) || decide (s = 0x1E1) || decide (s = 0x1E2) || decide (s = 0x1EA) || decide (s = 0x1F1) ||
  decide (s = 0x1F5) || decide (s = 0x1F6) || decide (s = 0x1FA)

/-- The block that BLK resets for the source; `code` is the source's code word, which names the port of CAN_RATE. -/
def srcBlock (s code : Nat) : Option Nat :=
  if within 0x005 0x008 s then some (blkCP (s - 0x005))
  else if s = 0x013 then some blkLARK
  else if s = 0x016 then some blkLUPIN
  else if within 0x040 0x0BF s || s = 0x0C8 then some blkFAB
  else if within 0x0C9 0x0D4 s then some blkCROP
  else if within 0x0E0 0x0E7 s then some blkSUN
  else if within 0x0E8 0x0F4 s then some blkYAR
  else if within 0x100 0x15F s then some blkLARK
  else if within 0x160 0x1B8 s then some blkOTU
  else if within 0x1D0 0x1D7 s then some (blkCAN (s - 0x1D0))
  else if s = 0x1DD then some (blkCAN (code / 4096 % 8))
  else if s = 0x1E2 then some blkUCP
  else if within 0x1E4 0x1E9 s then some blkETH
  else none

/-- The blocks whose reset puts the source in consequential mode (R270, R275). -/
def srcUpstream (s code : Nat) : List Nat :=
  if s = 0x003 then [blkFAB, blkCROP, blkYAR, blkLARK, blkOTU, blkPIL]
  else if s = 0x004 then [blkPIL, 20, 21, 22, 23]
  else if within 0x040 0x0BF s || s = 0x0C8 then [blkFAB]
  else if within 0x0C9 0x0D1 s then [blkFAB, blkCROP]
  else if within 0x0D2 0x0D4 s then [blkFAB, blkCROP, blkYAR]
  else if s = 0x0E7 then [blkSUN, blkYAR]
  else if within 0x0E0 0x0E6 s then [blkSUN]
  else if within 0x0E8 0x0EB s then [blkYAR]
  else if within 0x0EC 0x0F4 s then [blkFAB, blkSUN, blkYAR]
  else if within 0x100 0x15F s then
    [blkFAB, blkYAR, blkLARK, blkOTU, blkPIL, 10, 11, 12, 13, 14, 15, 16, 17]
  else if within 0x160 0x1B8 s then [blkOTU]
  else if within 0x1D0 0x1D7 s then [blkCAN (s - 0x1D0)]
  else if s = 0x1DD then [blkCAN (code / 4096 % 8)]
  else if s = 0x1E2 then [blkUCP]
  else if s = 0x1E3 then [blkETH]
  else if within 0x1E4 0x1E9 s then [blkETH]
  else []

end Sys2Proof.Machine
end

