-- ==== Sys2Proof/Machine/DictDef.lean ====
section
/-! DEFINITION. What the object description says of one object (R316 to R318): its type, access class, default,
range, roles, device states, storage kind and size. -/

namespace Sys2Proof.Machine

/-- The types of R4 that an object may have. -/
inductive Typ where
  | bool | u8 | u16 | u32 | u64 | i16 | i32 | i64 | f32 | str | dom
  deriving DecidableEq, Repr

/-- TYPE codes of R316. -/
def Typ.code : Typ → Nat
  | .bool => 1 | .u8 => 2 | .u16 => 3 | .u32 => 4 | .u64 => 5 | .i16 => 6 | .i32 => 7 | .i64 => 8
  | .f32 => 9 | .str => 10 | .dom => 11

/-- The type a TYPE code 1 to 9 names (R332). -/
def Typ.ofCode (n : Nat) : Option Typ :=
  if n = 1 then some .bool else if n = 2 then some .u8 else if n = 3 then some .u16 else if n = 4 then some .u32
  else if n = 5 then some .u64 else if n = 6 then some .i16 else if n = 7 then some .i32 else if n = 8 then some .i64
  else if n = 9 then some .f32 else none

/-- Bytes of a fixed-size type; 0 for STR and DOMAIN. -/
def Typ.bytes : Typ → Nat
  | .bool => 1 | .u8 => 1 | .u16 => 2 | .u32 => 4 | .u64 => 8 | .i16 => 2 | .i32 => 4 | .i64 => 8
  | .f32 => 4 | .str => 0 | .dom => 0

def Typ.isFixed (t : Typ) : Bool := decide (t.bytes ≠ 0)

def Typ.isSigned : Typ → Bool
  | .i16 => true | .i32 => true | .i64 => true | _ => false

/-- The access classes of R8. -/
inductive Acc where
  | const | ro | rw | wo | rws
  deriving DecidableEq, Repr

/-- ACCESS codes of R316. -/
def Acc.code : Acc → Nat
  | .const => 0 | .ro => 1 | .rw => 2 | .wo => 3 | .rws => 4

/-- The values an integer or F32 object accepts (R6, "Values"): everything, a list of closed intervals, an
arithmetic run with further intervals, or intervals of binary32 values given by their bits. -/
inductive Rng where
  | all
  | ints (l : List (Int × Int))
  | steps (lo hi step : Int) (more : List (Int × Int))
  | f32 (l : List (Nat × Nat))
  deriving DecidableEq, Repr

/-- The roles of R318, and for an object no writer role at all, or any session. -/
inductive Role where
  | op | tech | maint | auth | wit | vendor | any | none | opn
  deriving DecidableEq, Repr

/-- Role codes of R316 and R318: 0xFE open, 0xFD any session, 0xFF none. -/
def Role.code : Role → Nat
  | .op => 0 | .tech => 1 | .maint => 2 | .auth => 3 | .wit => 4 | .vendor => 5 | .any => 0xFD | .none => 0xFF
  | .opn => 0xFE

/-- The role a session's role code names. -/
def Role.ofCode (n : Nat) : Role :=
  if n = 0 then .op else if n = 1 then .tech else if n = 2 then .maint else if n = 3 then .auth
  else if n = 4 then .wit else if n = 5 then .vendor else .none

/-- Place on the ladder of R318; the safety roles hold Operator rights. -/
def Role.ladder : Role → Nat
  | .op => 1 | .tech => 2 | .maint => 3 | .vendor => 4 | .auth => 1 | .wit => 1 | .any => 0 | .none => 0 | .opn => 0

/-- A session of role `r` may write what asks for `w` (R318). -/
def Role.mayWrite (r w : Role) : Bool :=
  match w with
  | .any => true
  | .opn => true
  | .none => false
  | .auth => decide (r = .auth)
  | .wit => decide (r = .wit)
  | _ => decide (w.ladder ≤ r.ladder)

/-- A session of role `r` may read what asks for `w`: the safety roles hold Maintainer read rights (R318). -/
def Role.mayRead (r w : Role) : Bool :=
  match w with
  | .any => true
  | .opn => true
  | .none => false
  | .auth => decide (r = .auth)
  | .wit => decide (r = .wit)
  | _ => decide (w.ladder ≤ r.ladder) || (decide (w.ladder ≤ 3) && (decide (r = .auth) || decide (r = .wit)))

/-- The storage kinds of R317. -/
inductive Kind where
  | volatile | stored | retained
  deriving DecidableEq, Repr

/-- One row of an object table. `states` has bit s set when writes are permitted in device state s; `size` is the
maximum of an STR or a DOMAIN in bytes. -/
structure Desc where
  sub : Nat
  name : String
  typ : Typ
  acc : Acc
  dflt : Nat
  rng : Rng
  wrole : Role
  rrole : Role
  states : Nat
  kind : Kind
  size : Nat
  deriving DecidableEq, Repr

/-- The key of object idx.sub in the object store. -/
def ob (idx sub : Nat) : Nat := idx * 256 + sub % 256

end Sys2Proof.Machine
end

