-- ==== Sys2Proof/Machine/DictRows.lean ====
section
/-! DEFINITION. The object dictionary's tables, one row an object, in the order of the spec's own tables
(R26, R48, R76, R77, R98, R99, R130, R131, R159 to R161, R183, R184, R200, R201, R239, R266 to R268, R292 to R294,
R313, R333, R359, R360, R396, R398, R422, R423, R449 to R451, R462, R489). An object that a table repeats for each
channel, bank or port stands once; Dict.norm finds it. -/

namespace Sys2Proof.Machine

def rows1000 : List Desc := [
  ⟨0x00, "Highest subindex", .u8, .const, 10, .all, .none, .opn, 0x00, .volatile, 0⟩,
  ⟨0x01, "Vendor name", .str, .const, 0, .all, .none, .opn, 0x00, .volatile, 32⟩,
  ⟨0x02, "Product name", .str, .const, 0, .all, .none, .opn, 0x00, .volatile, 32⟩,
  ⟨0x03, "Part number", .str, .const, 0, .all, .none, .opn, 0x00, .volatile, 16⟩,
  ⟨0x04, "Serial number", .u32, .const, 0, .all, .none, .opn, 0x00, .volatile, 0⟩,
  ⟨0x05, "Hardware issue", .u16, .const, 0, .all, .none, .opn, 0x00, .volatile, 0⟩,
  ⟨0x06, "Production date", .u32, .const, 0, .all, .none, .opn, 0x00, .volatile, 0⟩,
  ⟨0x07, "Active firmware version", .u32, .ro, 0, .all, .none, .opn, 0x00, .volatile, 0⟩,
  ⟨0x08, "Dictionary layout version", .u16, .ro, 0, .all, .none, .opn, 0x00, .volatile, 0⟩,
  ⟨0x09, "Debug locked", .bool, .ro, 0, .all, .none, .opn, 0x00, .retained, 0⟩,
  ⟨0x0A, "Device state", .u8, .ro, 1, .all, .none, .opn, 0x00, .volatile, 0⟩]

def rows1010 : List Desc := [
  ⟨0x00, "Highest subindex", .u8, .const, 6, .all, .none, .any, 0x00, .volatile, 0⟩,
  ⟨0x01, "Node address", .u8, .ro, 255, .all, .none, .any, 0x00, .volatile, 0⟩,
  ⟨0x02, "Address coding status", .u8, .ro, 0, .all, .none, .any, 0x00, .volatile, 0⟩,
  ⟨0x03, "Host address", .u8, .const, 0, .all, .none, .any, 0x00, .volatile, 0⟩,
  ⟨0x04, "Broadcast address", .u8, .const, 127, .all, .none, .any, 0x00, .volatile, 0⟩,
  ⟨0x05, "PRESENT", .bool, .ro, 0, .all, .none, .any, 0x00, .volatile, 0⟩,
  ⟨0x06, "Installation name", .str, .rw, 0, .all, .maint, .any, 0x44, .stored, 32⟩]

def rows1020 : List Desc := [
  ⟨0x00, "Highest subindex", .u8, .const, 12, .all, .none, .any, 0x00, .volatile, 0⟩,
  ⟨0x01, "Active slot", .u8, .ro, 0, .all, .none, .any, 0x00, .retained, 0⟩,
  ⟨0x02, "Fallback slot", .u8, .ro, 1, .all, .none, .any, 0x00, .retained, 0⟩,
  ⟨0x03, "Slot 0 firmware version", .u32, .ro, 0, .all, .none, .any, 0x00, .retained, 0⟩,
  ⟨0x04, "Slot 1 firmware version", .u32, .ro, 0, .all, .none, .any, 0x00, .retained, 0⟩,
  ⟨0x05, "Slot 0 class A security version", .u32, .ro, 0, .all, .none, .any, 0x00, .retained, 0⟩,
  ⟨0x06, "Slot 0 class N security version", .u32, .ro, 0, .all, .none, .any, 0x00, .retained, 0⟩,
  ⟨0x07, "Slot 1 class A security version", .u32, .ro, 0, .all, .none, .any, 0x00, .retained, 0⟩,
  ⟨0x08, "Slot 1 class N security version", .u32, .ro, 0, .all, .none, .any, 0x00, .retained, 0⟩,
  ⟨0x09, "Fused minimum, class A", .u32, .ro, 0, .all, .none, .any, 0x00, .retained, 0⟩,
  ⟨0x0A, "Fused minimum, class N", .u32, .ro, 0, .all, .none, .any, 0x00, .retained, 0⟩,
  ⟨0x0B, "Application security floor", .u32, .ro, 0, .all, .none, .any, 0x00, .retained, 0⟩,
  ⟨0x0C, "Active configuration version", .u32, .ro, 1, .all, .none, .any, 0x00, .retained, 0⟩]

def rows1030 : List Desc := [
  ⟨0x00, "Highest subindex", .u8, .const, 11, .all, .none, .any, 0x00, .volatile, 0⟩,
  ⟨0x01, "VL voltage", .u16, .ro, 0, .all, .none, .any, 0x00, .volatile, 0⟩,
  ⟨0x02, "VL current", .u16, .ro, 0, .all, .none, .any, 0x00, .volatile, 0⟩,
  ⟨0x03, "VBAK voltage", .u16, .ro, 0, .all, .none, .any, 0x00, .volatile, 0⟩,
  ⟨0x04, "Connector status", .u8, .ro, 0, .all, .none, .any, 0x00, .volatile, 0⟩,
  ⟨0x05, "Hold-up store state", .u8, .ro, 0, .all, .none, .any, 0x00, .volatile, 0⟩,
  ⟨0x06, "Hold-up store voltage", .u16, .ro, 0, .all, .none, .any, 0x00, .volatile, 0⟩,
  ⟨0x07, "VL precharge retries", .u32, .ro, 0, .all, .none, .any, 0x00, .volatile, 0⟩,
  ⟨0x08, "PRESENT breaks", .u32, .ro, 0, .all, .none, .any, 0x00, .retained, 0⟩,
  ⟨0x09, "Address pin reading", .u8, .ro, 0, .all, .none, .any, 0x00, .volatile, 0⟩,
  ⟨0x0A, "Lowest VL since START", .u16, .ro, 65535, .all, .none, .any, 0x00, .volatile, 0⟩,
  ⟨0x0B, "VL_LOW cause", .u8, .ro, 0, .all, .none, .any, 0x00, .volatile, 0⟩]

def rows1100 : List Desc := [
  ⟨0x00, "Highest subindex", .u8, .const, 8, .all, .none, .any, 0x00, .volatile, 0⟩,
  ⟨0x01, "Live sessions", .u8, .ro, 0, .all, .none, .any, 0x00, .volatile, 0⟩,
  ⟨0x02, "Session table", .dom, .ro, 0, .all, .none, .any, 0x00, .volatile, 512⟩,
  ⟨0x03, "Idle time", .u16, .rw, 600, .ints [(30, 3600)], .maint, .any, 0x44, .stored, 0⟩,
  ⟨0x04, "Session lifetime", .u16, .rw, 480, .ints [(10, 1440)], .maint, .any, 0x44, .stored, 0⟩,
  ⟨0x05, "End session", .u32, .wo, 0, .all, .maint, .none, 0x7C, .volatile, 0⟩,
  ⟨0x06, "Authentication failures", .u32, .ro, 0, .all, .none, .any, 0x00, .volatile, 0⟩,
  ⟨0x07, "Lockouts", .u32, .ro, 0, .all, .none, .any, 0x00, .volatile, 0⟩,
  ⟨0x08, "Time floor", .u64, .ro, 0, .all, .none, .any, 0x00, .retained, 0⟩]

def rows1200 : List Desc := [
  ⟨0x00, "Highest subindex", .u8, .const, 9, .all, .none, .any, 0x00, .volatile, 0⟩,
  ⟨0x01, "Device state", .u8, .ro, 1, .all, .none, .opn, 0x00, .volatile, 0⟩,
  ⟨0x02, "Previous state", .u8, .ro, 0, .all, .none, .any, 0x00, .volatile, 0⟩,
  ⟨0x03, "State request", .u8, .wo, 0, .all, .op, .none, 0x7C, .volatile, 0⟩,
  ⟨0x04, "Refusal count", .u32, .ro, 0, .all, .none, .any, 0x00, .volatile, 0⟩,
  ⟨0x05, "Last refused index", .u16, .ro, 0, .all, .none, .any, 0x00, .volatile, 0⟩,
  ⟨0x06, "Last refused subindex", .u8, .ro, 0, .all, .none, .any, 0x00, .volatile, 0⟩,
  ⟨0x07, "State at last refusal", .u8, .ro, 0, .all, .none, .any, 0x00, .volatile, 0⟩,
  ⟨0x08, "MT of last refusal", .u64, .ro, 0, .all, .none, .any, 0x00, .volatile, 0⟩,
  ⟨0x09, "Time in state", .u32, .ro, 0, .all, .none, .any, 0x00, .volatile, 0⟩]

def rows1210 : List Desc := [
  ⟨0x00, "Highest subindex", .u8, .const, 31, .all, .none, .any, 0x00, .volatile, 0⟩,
  ⟨0x01, "Start target", .u8, .rw, 3, .ints [(2, 2), (3, 3)], .maint, .any, 0x44, .stored, 0⟩,
  ⟨0x02, "Motion limit", .f32, .rw, 1050253722, .f32 [(0, 0), (1028443341, 1084227584)], .maint, .any, 0x44, .stored, 0⟩,
  ⟨0x03, "LIMP return", .u8, .rw, 1, .ints [(0, 0), (1, 1)], .maint, .any, 0x44, .stored, 0⟩,
  ⟨0x05, "Listen standby", .bool, .rw, 0, .all, .maint, .any, 0x44, .stored, 0⟩,
  ⟨0x06, "WAKE_IN enable", .bool, .rw, 1, .all, .maint, .any, 0x44, .stored, 0⟩,
  ⟨0x07, "After-run time", .u16, .rw, 10, .ints [(0, 0), (1, 3600)], .maint, .any, 0x44, .stored, 0⟩,
  ⟨0x08, "Wake timer", .u32, .rw, 0, .ints [(0, 0), (1, 31536000)], .maint, .any, 0x44, .stored, 0⟩,
  ⟨0x09, "Wake cause", .u8, .ro, 0, .all, .none, .any, 0x00, .volatile, 0⟩,
  ⟨0x0A, "Last save trigger", .u8, .ro, 255, .all, .none, .any, 0x00, .retained, 0⟩,
  ⟨0x0B, "Last save result", .u8, .ro, 0, .all, .none, .any, 0x00, .retained, 0⟩,
  ⟨0x0C, "Hold-up saves", .u32, .ro, 0, .all, .none, .any, 0x00, .retained, 0⟩,
  ⟨0x0D, "START duration", .u32, .ro, 0, .all, .none, .any, 0x00, .volatile, 0⟩,
  ⟨0x0E, "Standby entries", .u32, .ro, 0, .all, .none, .any, 0x00, .retained, 0⟩,
  ⟨0x0F, "Standing causes", .u8, .ro, 0, .all, .none, .any, 0x00, .volatile, 0⟩,
  ⟨0x10, "LIMP map", .u64, .rw, 0, .all, .maint, .any, 0x44, .stored, 0⟩,
  ⟨0x18, "SAFE_HOLD map", .u64, .rw, 0, .all, .maint, .any, 0x44, .stored, 0⟩]

def rows1300 : List Desc := [
  ⟨0x00, "Highest subindex", .u8, .const, 16, .all, .none, .any, 0x00, .volatile, 0⟩,
  ⟨0x01, "Description entries", .u32, .ro, 0, .all, .none, .any, 0x00, .volatile, 0⟩,
  ⟨0x02, "Application objects", .u16, .ro, 0, .all, .none, .any, 0x00, .volatile, 0⟩,
  ⟨0x03, "Process-image map", .dom, .rw, 0, .all, .maint, .any, 0x04, .volatile, 32784⟩,
  ⟨0x04, "Map entries in force", .u16, .ro, 0, .all, .none, .any, 0x00, .volatile, 0⟩,
  ⟨0x05, "Map apply", .u8, .wo, 0, .ints [(1, 1)], .maint, .none, 0x04, .volatile, 0⟩,
  ⟨0x06, "Apply failure entry", .u16, .ro, 65535, .all, .none, .any, 0x00, .volatile, 0⟩,
  ⟨0x07, "Mapped refusal counts", .dom, .ro, 0, .all, .none, .any, 0x00, .volatile, 8192⟩,
  ⟨0x08, "Mapped refusal total", .u32, .ro, 0, .all, .none, .any, 0x00, .volatile, 0⟩,
  ⟨0x09, "Application object table", .dom, .rw, 0, .all, .maint, .any, 0x04, .volatile, 65536⟩,
  ⟨0x0A, "Application table apply", .u8, .wo, 0, .ints [(1, 1)], .maint, .none, 0x04, .volatile, 0⟩,
  ⟨0x10, "Object description", .dom, .ro, 0, .all, .none, .any, 0x00, .volatile, 1048576⟩]

def rows1400 : List Desc := [
  ⟨0x00, "Highest subindex", .u8, .const, 5, .all, .none, .any, 0x00, .volatile, 0⟩,
  ⟨0x01, "Output image timeout", .u16, .rw, 2000, .ints [(0, 0), (20, 60000)], .maint, .any, 0x44, .stored, 0⟩,
  ⟨0x02, "Output image timeout count", .u32, .ro, 0, .all, .none, .any, 0x00, .volatile, 0⟩,
  ⟨0x03, "Surplus commit count", .u32, .ro, 0, .all, .none, .any, 0x00, .volatile, 0⟩,
  ⟨0x04, "Frame overrun count", .u32, .ro, 0, .all, .none, .any, 0x00, .volatile, 0⟩,
  ⟨0x05, "Application bus error count", .u32, .ro, 0, .all, .none, .any, 0x00, .volatile, 0⟩]

def rows1410 : List Desc := [
  ⟨0x00, "Highest subindex", .u8, .const, 7, .all, .none, .any, 0x00, .volatile, 0⟩,
  ⟨0x01, "Local port role, P0", .u8, .rw, 1, .ints [(0, 0), (1, 1), (2, 2)], .maint, .any, 0x44, .stored, 0⟩,
  ⟨0x02, "Local port role, P1", .u8, .rw, 1, .ints [(0, 2)], .maint, .any, 0x44, .stored, 0⟩,
  ⟨0x03, "Local port role, P2", .u8, .rw, 1, .ints [(0, 2)], .maint, .any, 0x44, .stored, 0⟩,
  ⟨0x04, "Pair hosting P0", .u8, .ro, 0, .all, .none, .any, 0x00, .volatile, 0⟩,
  ⟨0x05, "Pair hosting P1", .u8, .ro, 1, .all, .none, .any, 0x00, .volatile, 0⟩,
  ⟨0x06, "Pair hosting P2", .u8, .ro, 2, .all, .none, .any, 0x00, .volatile, 0⟩,
  ⟨0x07, "Spare pair", .u8, .ro, 3, .all, .none, .any, 0x00, .volatile, 0⟩]

def rows2000 : List Desc := [
  ⟨0x00, "Highest subindex", .u8, .const, 26, .all, .none, .any, 0x00, .volatile, 0⟩,
  ⟨0x01, "Module time", .u64, .ro, 0, .all, .none, .any, 0x00, .volatile, 0⟩,
  ⟨0x02, "Frame number", .u32, .ro, 0, .all, .none, .any, 0x00, .volatile, 0⟩,
  ⟨0x03, "Time state", .u8, .ro, 0, .all, .none, .any, 0x00, .volatile, 0⟩,
  ⟨0x04, "GNSS offset G_OFF", .i64, .ro, 0, .all, .none, .any, 0x00, .volatile, 0⟩,
  ⟨0x05, "Calendar offset CAL_OFF", .i64, .rw, 0, .all, .tech, .any, 0x7C, .retained, 0⟩,
  ⟨0x06, "Calendar source", .u8, .rw, 0, .ints [(0, 0), (1, 1)], .maint, .any, 0x44, .stored, 0⟩,
  ⟨0x07, "Leap seconds L, GPS−UTC", .i16, .ro, 18, .all, .none, .any, 0x00, .retained, 0⟩,
  ⟨0x08, "Estimated error E", .u32, .ro, 4294967295, .all, .none, .any, 0x00, .volatile, 0⟩,
  ⟨0x09, "Rate correction c", .i32, .ro, 0, .all, .none, .any, 0x00, .retained, 0⟩,
  ⟨0x0A, "Holdover time limit", .u32, .rw, 600, .ints [(10, 86400)], .maint, .any, 0x44, .stored, 0⟩,
  ⟨0x0B, "Holdover error limit", .u32, .rw, 1000, .ints [(50, 1000000)], .maint, .any, 0x44, .stored, 0⟩,
  ⟨0x0C, "Temperature coefficient kT", .u16, .rw, 500, .ints [(0, 10000)], .maint, .any, 0x44, .stored, 0⟩,
  ⟨0x0D, "PPS in FREE", .bool, .rw, 0, .all, .maint, .any, 0x44, .stored, 0⟩,
  ⟨0x0E, "Stop PPS when unqualified", .bool, .rw, 0, .all, .maint, .any, 0x44, .stored, 0⟩,
  ⟨0x0F, "PPS width", .u16, .rw, 100, .ints [(1, 900)], .maint, .any, 0x44, .stored, 0⟩,
  ⟨0x10, "PPS polarity", .u8, .rw, 0, .ints [(0, 0), (1, 1)], .maint, .any, 0x44, .stored, 0⟩,
  ⟨0x11, "Slew limit", .u16, .rw, 100, .ints [(10, 100)], .maint, .any, 0x44, .stored, 0⟩,
  ⟨0x12, "Step count", .u32, .ro, 0, .all, .none, .any, 0x00, .volatile, 0⟩,
  ⟨0x13, "Last step", .i64, .ro, 0, .all, .none, .any, 0x00, .volatile, 0⟩,
  ⟨0x14, "MT gap", .bool, .ro, 0, .all, .none, .any, 0x00, .volatile, 0⟩,
  ⟨0x15, "Use network time", .u8, .rw, 1, .ints [(0, 0), (1, 1)], .maint, .any, 0x44, .stored, 0⟩,
  ⟨0x16, "gPTP priority1", .u8, .rw, 246, .ints [(0, 255)], .maint, .any, 0x44, .stored, 0⟩,
  ⟨0x17, "Grandmaster capable", .bool, .rw, 1, .all, .maint, .any, 0x44, .stored, 0⟩,
  ⟨0x18, "Next pulse QERR", .i16, .ro, 0, .all, .none, .any, 0x00, .volatile, 0⟩,
  ⟨0x19, "Next pulse second", .u32, .ro, 0, .all, .none, .any, 0x00, .volatile, 0⟩,
  ⟨0x1A, "Standby oscillator offset", .i32, .ro, 0, .all, .none, .any, 0x00, .retained, 0⟩]

def rows2100 : List Desc := [
  ⟨0x00, "Highest subindex", .u8, .const, 29, .all, .none, .any, 0x00, .volatile, 0⟩,
  ⟨0x01, "Mode", .u8, .rw, 0, .ints [(0, 8)], .maint, .any, 0x44, .stored, 0⟩,
  ⟨0x02, "Range", .u8, .rw, 0, .all, .maint, .any, 0x44, .stored, 0⟩,
  ⟨0x03, "Sample rate", .u8, .rw, 5, .ints [(0, 5)], .maint, .any, 0x44, .stored, 0⟩,
  ⟨0x04, "Sample phase", .u16, .rw, 0, .all, .maint, .any, 0x44, .stored, 0⟩,
  ⟨0x05, "Filter corner", .u16, .rw, 0, .ints [(0, 0), (1, 5000)], .maint, .any, 0x44, .stored, 0⟩,
  ⟨0x06, "Reference", .u8, .rw, 0, .ints [(0, 0), (1, 8)], .maint, .any, 0x44, .stored, 0⟩,
  ⟨0x07, "Supply assignment", .u8, .rw, 255, .ints [(0, 7), (255, 255)], .maint, .any, 0x44, .stored, 0⟩,
  ⟨0x08, "Edge threshold", .u16, .rw, 2500, .ints [(0, 32000)], .maint, .any, 0x44, .stored, 0⟩,
  ⟨0x09, "Hysteresis", .u16, .rw, 500, .ints [(0, 5000)], .maint, .any, 0x44, .stored, 0⟩,
  ⟨0x0A, "Edge selection", .u8, .rw, 0, .ints [(0, 0), (1, 1), (2, 2)], .maint, .any, 0x44, .stored, 0⟩,
  ⟨0x0B, "Minimum pulse width", .u16, .rw, 0, .ints [(0, 10000)], .maint, .any, 0x44, .stored, 0⟩,
  ⟨0x0C, "Frequency gate", .u16, .rw, 1000, .ints [(50, 60000)], .maint, .any, 0x44, .stored, 0⟩,
  ⟨0x0D, "Zero timeout", .u16, .rw, 2000, .ints [(20, 20000)], .maint, .any, 0x44, .stored, 0⟩,
  ⟨0x0E, "Quadrature decoding", .u8, .rw, 4, .ints [(1, 1), (2, 2), (4, 4)], .maint, .any, 0x44, .stored, 0⟩,
  ⟨0x0F, "Pull", .u8, .rw, 0, .ints [(0, 0), (1, 1), (2, 2)], .maint, .any, 0x44, .stored, 0⟩,
  ⟨0x10, "Debounce", .u16, .rw, 0, .ints [(0, 50000)], .maint, .any, 0x44, .stored, 0⟩,
  ⟨0x11, "Diagnostic enable", .bool, .rw, 0, .all, .maint, .any, 0x44, .stored, 0⟩,
  ⟨0x12, "Diagnostic low limit", .i32, .rw, 0, .all, .maint, .any, 0x44, .stored, 0⟩,
  ⟨0x13, "Diagnostic high limit", .i32, .rw, 2147483647, .all, .maint, .any, 0x44, .stored, 0⟩,
  ⟨0x14, "Diagnostic time", .u16, .rw, 10, .ints [(1, 1000)], .maint, .any, 0x44, .stored, 0⟩,
  ⟨0x15, "Test-pulse settle", .u16, .rw, 200, .ints [(0, 2000)], .maint, .any, 0x44, .stored, 0⟩,
  ⟨0x16, "Value", .i32, .ro, 0, .all, .none, .any, 0x00, .volatile, 0⟩,
  ⟨0x17, "Status", .u16, .ro, 0, .all, .none, .any, 0x00, .volatile, 0⟩,
  ⟨0x18, "Count", .u32, .ro, 0, .all, .none, .any, 0x00, .volatile, 0⟩,
  ⟨0x19, "Converter in use", .u8, .ro, 0, .all, .none, .any, 0x00, .volatile, 0⟩,
  ⟨0x1A, "Stamp overflow count", .u32, .ro, 0, .all, .none, .any, 0x00, .volatile, 0⟩,
  ⟨0x1B, "Quadrature error count", .u32, .ro, 0, .all, .none, .any, 0x00, .volatile, 0⟩,
  ⟨0x1C, "Diagnostic event count", .u32, .ro, 0, .all, .none, .any, 0x00, .volatile, 0⟩,
  ⟨0x1D, "Masked conversion count", .u32, .ro, 0, .all, .none, .any, 0x00, .volatile, 0⟩]

def rows2140 : List Desc := [
  ⟨0x00, "Highest subindex", .u8, .const, 134, .all, .none, .any, 0x00, .volatile, 0⟩,
  ⟨0x01, "Restart latched supplies", .u8, .wo, 0, .all, .tech, .none, 0x7C, .volatile, 0⟩,
  ⟨0x02, "Test-pulse period", .u16, .const, 10000, .all, .none, .any, 0x00, .volatile, 0⟩,
  ⟨0x03, "Test-pulse width", .u16, .const, 300, .all, .none, .any, 0x00, .volatile, 0⟩,
  ⟨0x10, "SUP0 voltage", .u8, .rw, 5, .ints [(5, 5), (10, 10), (12, 12)], .maint, .any, 0x44, .stored, 0⟩,
  ⟨0x11, "SUP0 enable", .bool, .rw, 1, .all, .tech, .any, 0x7C, .stored, 0⟩,
  ⟨0x12, "SUP0 retry limit", .u8, .rw, 3, .ints [(0, 254), (255, 255)], .maint, .any, 0x44, .stored, 0⟩,
  ⟨0x13, "SUP0 measured voltage", .u16, .ro, 0, .all, .none, .any, 0x00, .volatile, 0⟩,
  ⟨0x14, "SUP0 measured current", .u16, .ro, 0, .all, .none, .any, 0x00, .volatile, 0⟩,
  ⟨0x15, "SUP0 status", .u16, .ro, 0, .all, .none, .any, 0x00, .volatile, 0⟩,
  ⟨0x16, "SUP0 trip count", .u32, .ro, 0, .all, .none, .any, 0x00, .volatile, 0⟩]

def rows2200a : List Desc := [
  ⟨0x00, "Highest subindex", .u8, .const, 252, .all, .none, .any, 0x00, .volatile, 0⟩,
  ⟨0x01, "Engine enable", .bool, .rw, 0, .all, .maint, .any, 0x44, .stored, 0⟩,
  ⟨0x02, "Cutting", .bool, .rw, 0, .all, .op, .any, 0x48, .volatile, 0⟩,
  ⟨0x03, "Cut width", .u16, .rw, 0, .ints [(0, 20000)], .op, .any, 0x48, .volatile, 0⟩,
  ⟨0x04, "Flow channel", .u8, .rw, 255, .steps 0 62 2 [(255, 255)], .maint, .any, 0x44, .stored, 0⟩,
  ⟨0x05, "Elevator channel", .u8, .rw, 255, .ints [(0, 63), (255, 255)], .maint, .any, 0x44, .stored, 0⟩,
  ⟨0x06, "Moisture channel", .u8, .rw, 255, .ints [(0, 63), (255, 255)], .maint, .any, 0x44, .stored, 0⟩,
  ⟨0x07, "Moisture temperature channel", .u8, .rw, 255, .ints [(0, 63), (255, 255)], .maint, .any, 0x44, .stored, 0⟩,
  ⟨0x08, "Flow gain C_m", .f32, .rw, 1065353216, .f32 [(981668463, 1148846080)], .tech, .any, 0x4C, .stored, 0⟩,
  ⟨0x09, "Flow zero S0", .i32, .ro, 0, .all, .none, .any, 0x00, .volatile, 0⟩,
  ⟨0x0A, "Zero request", .u8, .wo, 0, .ints [(1, 1)], .op, .none, 0x48, .volatile, 0⟩,
  ⟨0x0B, "Zero result", .u8, .ro, 0, .all, .none, .any, 0x00, .volatile, 0⟩,
  ⟨0x0C, "Zero duration", .u16, .rw, 10000, .ints [(1000, 60000)], .maint, .any, 0x44, .stored, 0⟩,
  ⟨0x0D, "Elevator reference frequency", .f32, .rw, 1109393408, .f32 [(1065353216, 1176256512)], .maint, .any, 0x44, .stored, 0⟩,
  ⟨0x0E, "Elevator stop fraction", .u8, .rw, 20, .ints [(5, 90)], .maint, .any, 0x44, .stored, 0⟩,
  ⟨0x0F, "Flow time constant", .u16, .rw, 2000, .ints [(50, 20000)], .maint, .any, 0x44, .stored, 0⟩,
  ⟨0x10, "Pitch coefficient k_p", .f32, .rw, 0, .f32 [(3240099840, 1092616192)], .tech, .any, 0x4C, .stored, 0⟩,
  ⟨0x11, "Roll coefficient k_r", .f32, .rw, 0, .f32 [(3240099840, 1092616192)], .tech, .any, 0x4C, .stored, 0⟩,
  ⟨0x12, "Empty-cell frequency", .f32, .rw, 1193033728, .f32 [(1120403456, 1195593728)], .tech, .any, 0x4C, .stored, 0⟩,
  ⟨0x13, "Fill threshold", .u32, .rw, 20000, .ints [(1000, 500000)], .tech, .any, 0x4C, .stored, 0⟩,
  ⟨0x14, "Moisture m0", .f32, .rw, 0, .f32 [(3267887104, 1120403456)], .tech, .any, 0x4C, .stored, 0⟩,
  ⟨0x15, "Moisture m1", .f32, .rw, 1120403456, .f32 [(3323740160, 1176256512)], .tech, .any, 0x4C, .stored, 0⟩,
  ⟨0x16, "Moisture m2", .f32, .rw, 0, .f32 [(3240099840, 1092616192)], .tech, .any, 0x4C, .stored, 0⟩,
  ⟨0x17, "Standard moisture M_std", .f32, .rw, 1096810496, .f32 [(0, 1109393408)], .tech, .any, 0x4C, .stored, 0⟩,
  ⟨0x18, "Thousand-kernel mass TKW", .f32, .rw, 1110704128, .f32 [(1065353216, 1157234688)], .tech, .any, 0x4C, .stored, 0⟩,
  ⟨0x19, "Flow lag λ_f", .u16, .rw, 12000, .ints [(0, 30000)], .tech, .any, 0x4C, .stored, 0⟩,
  ⟨0x1A, "Moisture lag λ_m", .u16, .rw, 14000, .ints [(0, 30000)], .tech, .any, 0x4C, .stored, 0⟩,
  ⟨0x1B, "Loss lag λ_l", .u16, .rw, 4000, .ints [(0, 30000)], .tech, .any, 0x4C, .stored, 0⟩,
  ⟨0x1C, "Header forward offset", .i16, .rw, 6000, .ints [(-20000, 20000)], .maint, .any, 0x44, .stored, 0⟩,
  ⟨0x1D, "Record interval P", .u16, .rw, 1000, .steps 200 10000 100 [], .maint, .any, 0x44, .stored, 0⟩,
  ⟨0x1E, "Loss window W", .u16, .rw, 1000, .ints [(100, 10000)], .maint, .any, 0x44, .stored, 0⟩,
  ⟨0x1F, "Minimum speed", .u16, .rw, 150, .ints [(0, 5000)], .maint, .any, 0x44, .stored, 0⟩,
  ⟨0x20, "Minimum flow", .f32, .rw, 1056964608, .f32 [(0, 1112014848)], .tech, .any, 0x4C, .stored, 0⟩,
  ⟨0x21, "Buffer policy", .u8, .rw, 0, .ints [(0, 0), (1, 1)], .maint, .any, 0x44, .stored, 0⟩,
  ⟨0x22, "Yield buffer", .dom, .ro, 0, .all, .none, .any, 0x00, .volatile, 67108864⟩,
  ⟨0x23, "Write sequence", .u32, .ro, 0, .all, .none, .any, 0x00, .retained, 0⟩,
  ⟨0x24, "Records lost", .u32, .ro, 0, .all, .none, .any, 0x00, .retained, 0⟩,
  ⟨0x25, "Buffer clear", .u8, .wo, 0, .ints [(1, 1)], .maint, .none, 0x40, .volatile, 0⟩,
  ⟨0x26, "Total wet mass", .u32, .ro, 0, .all, .none, .any, 0x00, .retained, 0⟩,
  ⟨0x27, "Total dry mass", .u32, .ro, 0, .all, .none, .any, 0x00, .retained, 0⟩]

def rows2200b : List Desc := [
  ⟨0x28, "Total area", .u32, .ro, 0, .all, .none, .any, 0x00, .retained, 0⟩,
  ⟨0x29, "Totals reset", .u8, .wo, 0, .ints [(1, 1)], .op, .none, 0x48, .volatile, 0⟩,
  ⟨0x2A, "Excluded frame count", .u32, .ro, 0, .all, .none, .any, 0x00, .volatile, 0⟩,
  ⟨0x2B, "Crop status", .u16, .ro, 0, .all, .none, .any, 0x00, .volatile, 0⟩,
  ⟨0x2C, "Oldest sequence", .u32, .ro, 0, .all, .none, .any, 0x00, .retained, 0⟩,
  ⟨0x80, "LS0 channel", .u8, .rw, 255, .ints [(0, 63), (255, 255)], .maint, .any, 0x44, .stored, 0⟩,
  ⟨0x81, "LS0 group", .u8, .rw, 0, .ints [(0, 0), (1, 1)], .maint, .any, 0x44, .stored, 0⟩,
  ⟨0x82, "LS0 gain G", .f32, .rw, 1065353216, .f32 [(1008981770, 1148846080)], .tech, .any, 0x4C, .stored, 0⟩,
  ⟨0x83, "LS0 trigger threshold T_trig", .u16, .rw, 400, .ints [(50, 5000)], .maint, .any, 0x44, .stored, 0⟩,
  ⟨0x84, "LS0 kernel minimum peak A_k", .u16, .rw, 600, .ints [(50, 5000)], .maint, .any, 0x44, .stored, 0⟩,
  ⟨0x85, "LS0 kernel maximum rise R_k", .u16, .rw, 40, .ints [(2, 500)], .maint, .any, 0x44, .stored, 0⟩,
  ⟨0x86, "LS0 kernel maximum duration D_k", .u16, .rw, 1500, .ints [(10, 5000)], .maint, .any, 0x44, .stored, 0⟩,
  ⟨0x87, "LS0 kernel minimum ring frequency F_k", .u16, .rw, 8000, .ints [(1000, 50000)], .maint, .any, 0x44, .stored, 0⟩,
  ⟨0x88, "LS0 kernel count", .u32, .ro, 0, .all, .none, .any, 0x00, .volatile, 0⟩,
  ⟨0x89, "LS0 straw count", .u32, .ro, 0, .all, .none, .any, 0x00, .volatile, 0⟩,
  ⟨0x8A, "LS0 kernel rate", .f32, .ro, 0, .all, .none, .any, 0x00, .volatile, 0⟩,
  ⟨0x8B, "LS0 status", .u16, .ro, 0, .all, .none, .any, 0x00, .volatile, 0⟩,
  ⟨0x8C, "LS0 dead time T_dead", .u16, .rw, 200, .ints [(0, 5000)], .maint, .any, 0x44, .stored, 0⟩]

def rows2200 : List Desc := rows2200a ++ rows2200b

def rows2300a : List Desc := [
  ⟨0x00, "Highest subindex", .u8, .const, 136, .all, .none, .any, 0x00, .volatile, 0⟩,
  ⟨0x01, "Receiver enable", .bool, .rw, 1, .all, .maint, .any, 0x44, .stored, 0⟩,
  ⟨0x02, "System enable", .u8, .rw, 63, .ints [(0, 63)], .maint, .any, 0x44, .stored, 0⟩,
  ⟨0x03, "Signal enable", .u16, .rw, 2047, .ints [(0, 2047)], .maint, .any, 0x44, .stored, 0⟩,
  ⟨0x04, "Elevation mask for search", .u8, .rw, 5, .ints [(0, 60)], .maint, .any, 0x44, .stored, 0⟩,
  ⟨0x05, "Receiver state", .u8, .ro, 0, .all, .none, .any, 0x00, .volatile, 0⟩,
  ⟨0x06, "Channels in TRACK", .u16, .ro, 0, .all, .none, .any, 0x00, .volatile, 0⟩,
  ⟨0x07, "Channels in VECTOR", .u16, .ro, 0, .all, .none, .any, 0x00, .volatile, 0⟩,
  ⟨0x08, "Acquisition T_coh", .u8, .rw, 1, .ints [(1, 1), (2, 2), (4, 4), (10, 10)], .maint, .any, 0x44, .stored, 0⟩,
  ⟨0x09, "Acquisition N_nc", .u8, .rw, 5, .ints [(1, 50)], .maint, .any, 0x44, .stored, 0⟩,
  ⟨0x0A, "Cold Doppler range", .u16, .rw, 5000, .ints [(1000, 20000)], .maint, .any, 0x44, .stored, 0⟩,
  ⟨0x0B, "PLL bandwidth, unaided", .f32, .rw, 1097859072, .f32 [(1073741824, 1109393408)], .maint, .any, 0x44, .stored, 0⟩,
  ⟨0x0C, "PLL bandwidth, VECTOR", .f32, .rw, 1077936128, .f32 [(1056964608, 1097859072)], .maint, .any, 0x44, .stored, 0⟩,
  ⟨0x0D, "DLL bandwidth, unaided", .f32, .rw, 1065353216, .f32 [(1028443341, 1084227584)], .maint, .any, 0x44, .stored, 0⟩,
  ⟨0x0E, "DLL bandwidth, VECTOR", .f32, .rw, 1028443341, .f32 [(1008981770, 1065353216)], .maint, .any, 0x44, .stored, 0⟩,
  ⟨0x0F, "Early–late spacing", .u16, .rw, 10, .ints [(5, 100)], .maint, .any, 0x44, .stored, 0⟩,
  ⟨0x10, "Tracking mode", .u8, .rw, 0, .ints [(0, 0), (1, 1)], .maint, .any, 0x44, .stored, 0⟩,
  ⟨0x11, "Aiding Doppler uncertainty limit", .f32, .rw, 1084227584, .f32 [(1056964608, 1112014848)], .maint, .any, 0x44, .stored, 0⟩,
  ⟨0x12, "Aiding code uncertainty limit", .f32, .rw, 1048576000, .f32 [(1028443341, 1065353216)], .maint, .any, 0x44, .stored, 0⟩,
  ⟨0x13, "Measurement epoch rate", .u8, .rw, 10, .ints [(1, 1), (2, 2), (5, 5), (10, 10), (20, 20)], .maint, .any, 0x44, .stored, 0⟩,
  ⟨0x14, "Baseline X", .i32, .rw, 0, .ints [(-5000, 5000)], .maint, .any, 0x44, .stored, 0⟩,
  ⟨0x15, "Baseline Y", .i32, .rw, 0, .ints [(-5000, 5000)], .maint, .any, 0x44, .stored, 0⟩,
  ⟨0x16, "Baseline Z", .i32, .rw, 0, .ints [(-5000, 5000)], .maint, .any, 0x44, .stored, 0⟩,
  ⟨0x17, "Baseline length tolerance", .u16, .rw, 20, .ints [(1, 200)], .maint, .any, 0x44, .stored, 0⟩,
  ⟨0x18, "Cable delay difference, ANT2 − ANT1", .i32, .rw, 0, .ints [(-100000, 100000)], .maint, .any, 0x44, .stored, 0⟩,
  ⟨0x19, "Antenna feed enable", .u8, .rw, 3, .ints [(0, 3)], .maint, .any, 0x44, .stored, 0⟩,
  ⟨0x1A, "Antenna feed status", .u8, .ro, 0, .all, .none, .any, 0x00, .volatile, 0⟩,
  ⟨0x1B, "Notch enable", .u8, .rw, 15, .ints [(0, 15)], .maint, .any, 0x44, .stored, 0⟩,
  ⟨0x1C, "Notch detection threshold", .u8, .rw, 12, .ints [(6, 30)], .maint, .any, 0x44, .stored, 0⟩,
  ⟨0x1D, "Notch release time", .u16, .rw, 1000, .ints [(100, 10000)], .maint, .any, 0x44, .stored, 0⟩,
  ⟨0x1E, "Pulse blanking enable", .bool, .rw, 1, .all, .maint, .any, 0x44, .stored, 0⟩,
  ⟨0x1F, "Blanking threshold k_b", .f32, .rw, 1082130432, .f32 [(1075838976, 1092616192)], .maint, .any, 0x44, .stored, 0⟩,
  ⟨0x20, "Blanking hold", .u16, .rw, 2000, .ints [(100, 50000)], .maint, .any, 0x44, .stored, 0⟩,
  ⟨0x21, "Blanking share limit", .u8, .rw, 30, .ints [(1, 90)], .maint, .any, 0x44, .stored, 0⟩,
  ⟨0x22, "False-signal detection enable", .bool, .rw, 1, .all, .maint, .any, 0x44, .stored, 0⟩,
  ⟨0x23, "AOA check enable", .bool, .rw, 1, .all, .maint, .any, 0x44, .stored, 0⟩,
  ⟨0x24, "POWER check C/N0 limit", .u16, .rw, 5500, .ints [(4500, 6000)], .maint, .any, 0x44, .stored, 0⟩,
  ⟨0x25, "False-signal state", .u8, .ro, 0, .all, .none, .any, 0x00, .volatile, 0⟩,
  ⟨0x26, "Correction input", .dom, .wo, 0, .all, .op, .none, 0x7C, .volatile, 4294967295⟩,
  ⟨0x27, "Correction age limit", .u16, .rw, 30, .ints [(1, 120)], .maint, .any, 0x44, .stored, 0⟩]

def rows2300b : List Desc := [
  ⟨0x28, "Reference station ID", .u16, .ro, 65535, .all, .none, .any, 0x00, .volatile, 0⟩,
  ⟨0x29, "RTCM frames accepted", .u32, .ro, 0, .all, .none, .any, 0x00, .volatile, 0⟩,
  ⟨0x2A, "RTCM frames rejected", .u32, .ro, 0, .all, .none, .any, 0x00, .volatile, 0⟩,
  ⟨0x2B, "RTCM messages ignored", .u32, .ro, 0, .all, .none, .any, 0x00, .volatile, 0⟩,
  ⟨0x2C, "Age of last correction epoch", .u16, .ro, 65535, .all, .none, .any, 0x00, .volatile, 0⟩,
  ⟨0x2D, "Latest epoch record", .dom, .ro, 0, .all, .none, .any, 0x00, .volatile, 15396⟩,
  ⟨0x2E, "NMEA sentences", .u8, .rw, 0, .ints [(0, 255)], .maint, .any, 0x44, .stored, 0⟩,
  ⟨0x2F, "NMEA rate", .u8, .rw, 1, .ints [(1, 1), (2, 2), (5, 5), (10, 10)], .maint, .any, 0x44, .stored, 0⟩,
  ⟨0x30, "NMEA talker", .u8, .rw, 0, .ints [(0, 0), (1, 1)], .maint, .any, 0x44, .stored, 0⟩,
  ⟨0x31, "NMEA stream", .dom, .ro, 0, .all, .none, .any, 0x00, .volatile, 4294967295⟩,
  ⟨0x32, "Faulty banks", .u32, .ro, 0, .all, .none, .any, 0x00, .volatile, 0⟩,
  ⟨0x33, "Spare banks free", .u8, .ro, 2, .all, .none, .any, 0x00, .volatile, 0⟩,
  ⟨0x34, "Start request", .u8, .wo, 0, .ints [(1, 1), (2, 2), (3, 3)], .tech, .none, 0x40, .volatile, 0⟩,
  ⟨0x35, "Aiding reversion count", .u32, .ro, 0, .all, .none, .any, 0x00, .retained, 0⟩,
  ⟨0x36, "Stored data", .u8, .ro, 0, .all, .none, .any, 0x00, .volatile, 0⟩,
  ⟨0x37, "Correction stream offset", .u32, .ro, 0, .all, .none, .any, 0x00, .volatile, 0⟩,
  ⟨0x50, "Chain 0 status", .u16, .ro, 0, .all, .none, .any, 0x00, .volatile, 0⟩,
  ⟨0x51, "Chain 0 J/N", .u16, .ro, 0, .all, .none, .any, 0x00, .volatile, 0⟩,
  ⟨0x52, "Chain 0 blanked share", .u16, .ro, 0, .all, .none, .any, 0x00, .volatile, 0⟩,
  ⟨0x53, "Chain 0 blanked samples", .u32, .ro, 0, .all, .none, .any, 0x00, .volatile, 0⟩,
  ⟨0x54, "Chain 0 notch 0 centre", .i32, .ro, 2147483647, .all, .none, .any, 0x00, .volatile, 0⟩,
  ⟨0x55, "Chain 0 notch 1 centre", .i32, .ro, 2147483647, .all, .none, .any, 0x00, .volatile, 0⟩,
  ⟨0x56, "Chain 0 notch 2 centre", .i32, .ro, 2147483647, .all, .none, .any, 0x00, .volatile, 0⟩,
  ⟨0x57, "Chain 0 notch 3 centre", .i32, .ro, 2147483647, .all, .none, .any, 0x00, .volatile, 0⟩,
  ⟨0x58, "Chain 0 AGC gain", .u16, .ro, 0, .all, .none, .any, 0x00, .volatile, 0⟩]

def rows2300 : List Desc := rows2300a ++ rows2300b

def rows2400a : List Desc := [
  ⟨0x00, "Highest subindex", .u8, .const, 174, .all, .none, .any, 0x00, .volatile, 0⟩,
  ⟨0x01, "Fusion enable", .bool, .rw, 1, .all, .maint, .any, 0x44, .stored, 0⟩,
  ⟨0x02, "Solution rate", .u8, .rw, 50, .ints [(1, 1), (2, 2), (5, 5), (10, 10), (20, 20), (50, 50), (100, 100), (200, 200)], .maint, .any, 0x44, .stored, 0⟩,
  ⟨0x03, "Mounting roll", .f32, .rw, 0, .f32 [(3274964992, 1127481344)], .maint, .any, 0x44, .stored, 0⟩,
  ⟨0x04, "Mounting pitch", .f32, .rw, 0, .f32 [(3266576384, 1119092736)], .maint, .any, 0x44, .stored, 0⟩,
  ⟨0x05, "Mounting yaw", .f32, .rw, 0, .f32 [(3274964992, 1127481344)], .maint, .any, 0x44, .stored, 0⟩,
  ⟨0x06, "Reference point X", .i32, .rw, 0, .ints [(-20000, 20000)], .maint, .any, 0x44, .stored, 0⟩,
  ⟨0x07, "Reference point Y", .i32, .rw, 0, .ints [(-20000, 20000)], .maint, .any, 0x44, .stored, 0⟩,
  ⟨0x08, "Reference point Z", .i32, .rw, 0, .ints [(-20000, 20000)], .maint, .any, 0x44, .stored, 0⟩,
  ⟨0x09, "ANT1 X", .i32, .rw, 0, .ints [(-20000, 20000)], .maint, .any, 0x44, .stored, 0⟩,
  ⟨0x0A, "ANT1 Y", .i32, .rw, 0, .ints [(-20000, 20000)], .maint, .any, 0x44, .stored, 0⟩,
  ⟨0x0B, "ANT1 Z", .i32, .rw, 0, .ints [(-20000, 20000)], .maint, .any, 0x44, .stored, 0⟩,
  ⟨0x0C, "Speed threshold T_abs", .f32, .rw, 1041865114, .f32 [(1017370378, 1073741824)], .maint, .any, 0x44, .stored, 0⟩,
  ⟨0x0D, "Speed threshold T_rel", .u8, .rw, 5, .ints [(0, 50)], .maint, .any, 0x44, .stored, 0⟩,
  ⟨0x0E, "Speed hold time T_hold", .u16, .rw, 300, .ints [(20, 5000)], .maint, .any, 0x44, .stored, 0⟩,
  ⟨0x0F, "Re-admission time", .u16, .const, 30, .all, .none, .any, 0x00, .volatile, 0⟩,
  ⟨0x10, "IMU rate threshold", .f32, .rw, 1017370378, .f32 [(990057071, 1056964608)], .maint, .any, 0x44, .stored, 0⟩,
  ⟨0x11, "IMU specific-force threshold", .f32, .rw, 1056964608, .f32 [(1028443341, 1084227584)], .maint, .any, 0x44, .stored, 0⟩,
  ⟨0x12, "IMU hold time", .u16, .rw, 50, .ints [(5, 1000)], .maint, .any, 0x44, .stored, 0⟩,
  ⟨0x13, "Innovation gate", .f32, .rw, 1098907648, .f32 [(1082130432, 1120403456)], .maint, .any, 0x44, .stored, 0⟩,
  ⟨0x14, "Failures for exclusion, of 10", .u8, .rw, 3, .ints [(1, 10)], .maint, .any, 0x44, .stored, 0⟩,
  ⟨0x15, "Inertial-only speed limit", .u16, .rw, 10, .ints [(1, 120)], .maint, .any, 0x44, .stored, 0⟩,
  ⟨0x16, "Dead-reckoning time limit", .u16, .rw, 60, .ints [(1, 600)], .maint, .any, 0x44, .stored, 0⟩,
  ⟨0x17, "Dead-reckoning accuracy limit", .u32, .rw, 5000, .ints [(100, 100000)], .maint, .any, 0x44, .stored, 0⟩,
  ⟨0x18, "RTK station distance limit", .u16, .rw, 50, .ints [(1, 200)], .maint, .any, 0x44, .stored, 0⟩,
  ⟨0x19, "Ambiguity ratio threshold", .f32, .rw, 1077936128, .f32 [(1069547520, 1092616192)], .maint, .any, 0x44, .stored, 0⟩,
  ⟨0x1A, "History window", .u16, .const, 200, .all, .none, .any, 0x00, .volatile, 0⟩,
  ⟨0x1B, "Late share limit", .u8, .const, 10, .all, .none, .any, 0x00, .volatile, 0⟩,
  ⟨0x1C, "Line bias, L1", .f32, .ro, 0, .all, .none, .any, 0x00, .retained, 0⟩,
  ⟨0x1D, "Line bias, L5", .f32, .ro, 0, .all, .none, .any, 0x00, .retained, 0⟩,
  ⟨0x1E, "Line bias state", .u8, .ro, 0, .all, .none, .any, 0x00, .retained, 0⟩,
  ⟨0x1F, "Line bias reset", .u8, .wo, 0, .ints [(1, 1)], .tech, .none, 0x40, .volatile, 0⟩,
  ⟨0x20, "Solution type", .u8, .ro, 0, .all, .none, .any, 0x00, .volatile, 0⟩,
  ⟨0x21, "Ground speed state", .u8, .ro, 4, .all, .none, .any, 0x00, .volatile, 0⟩,
  ⟨0x22, "Solution sequence", .u32, .ro, 0, .all, .none, .any, 0x00, .volatile, 0⟩,
  ⟨0x23, "Re-propagation count", .u32, .ro, 0, .all, .none, .any, 0x00, .volatile, 0⟩,
  ⟨0x24, "GNSS late count", .u32, .ro, 0, .all, .none, .any, 0x00, .volatile, 0⟩,
  ⟨0x25, "GNSS discarded count", .u32, .ro, 0, .all, .none, .any, 0x00, .volatile, 0⟩,
  ⟨0x26, "Solution ring", .dom, .ro, 0, .all, .none, .any, 0x00, .volatile, 2097152⟩,
  ⟨0x27, "Oldest solution sequence", .u32, .ro, 0, .all, .none, .any, 0x00, .volatile, 0⟩]

def rows2400b : List Desc := [
  ⟨0x28, "Alignment state", .u8, .ro, 0, .all, .none, .any, 0x00, .volatile, 0⟩,
  ⟨0x29, "GNSS speed admission", .u8, .ro, 0, .all, .none, .any, 0x00, .volatile, 0⟩,
  ⟨0x40, "IMU0 role", .u8, .ro, 0, .all, .none, .any, 0x00, .volatile, 0⟩,
  ⟨0x41, "IMU0 late count", .u32, .ro, 0, .all, .none, .any, 0x00, .volatile, 0⟩,
  ⟨0x42, "IMU0 discarded count", .u32, .ro, 0, .all, .none, .any, 0x00, .volatile, 0⟩,
  ⟨0x43, "IMU0 exclusion count", .u32, .ro, 0, .all, .none, .any, 0x00, .volatile, 0⟩,
  ⟨0x44, "IMU0 degraded", .bool, .ro, 0, .all, .none, .any, 0x00, .volatile, 0⟩,
  ⟨0x45, "IMU0 gyro bias magnitude", .f32, .ro, 0, .all, .none, .any, 0x00, .volatile, 0⟩,
  ⟨0x60, "W0 channel", .u8, .rw, 255, .ints [(0, 63), (255, 255)], .maint, .any, 0x44, .stored, 0⟩,
  ⟨0x61, "W0 kind", .u8, .rw, 0, .ints [(0, 0), (1, 1)], .maint, .any, 0x44, .stored, 0⟩,
  ⟨0x62, "W0 distance per count d", .f32, .rw, 1092616192, .f32 [(1036831949, 1176256512)], .maint, .any, 0x44, .stored, 0⟩,
  ⟨0x63, "W0 direction", .u8, .rw, 0, .ints [(0, 0), (1, 1)], .maint, .any, 0x44, .stored, 0⟩,
  ⟨0x64, "W0 position X", .i32, .rw, 0, .ints [(-20000, 20000)], .maint, .any, 0x44, .stored, 0⟩,
  ⟨0x65, "W0 position Y", .i32, .rw, 0, .ints [(-20000, 20000)], .maint, .any, 0x44, .stored, 0⟩,
  ⟨0x66, "W0 zero timeout", .u16, .rw, 500, .ints [(20, 5000)], .maint, .any, 0x44, .stored, 0⟩,
  ⟨0x67, "W0 scale k", .f32, .ro, 0, .all, .none, .any, 0x00, .volatile, 0⟩,
  ⟨0x68, "W0 admission", .u8, .ro, 0, .all, .none, .any, 0x00, .volatile, 0⟩,
  ⟨0x69, "W0 late count", .u32, .ro, 0, .all, .none, .any, 0x00, .volatile, 0⟩,
  ⟨0x6A, "W0 discarded count", .u32, .ro, 0, .all, .none, .any, 0x00, .volatile, 0⟩,
  ⟨0x6B, "W0 contradiction count", .u32, .ro, 0, .all, .none, .any, 0x00, .volatile, 0⟩,
  ⟨0x6C, "W0 slip", .i16, .ro, 32767, .all, .none, .any, 0x00, .volatile, 0⟩,
  ⟨0x6D, "W0 degraded", .bool, .ro, 0, .all, .none, .any, 0x00, .volatile, 0⟩,
  ⟨0xA0, "E0 enable", .bool, .rw, 0, .all, .maint, .any, 0x44, .stored, 0⟩,
  ⟨0xA1, "E0 speed", .f32, .rw, 0, .f32 [(3267887104, 1120403456)], .op, .any, 0x08, .volatile, 0⟩,
  ⟨0xA2, "E0 sample MT", .u64, .rw, 0, .all, .op, .any, 0x08, .volatile, 0⟩,
  ⟨0xA3, "E0 admission", .u8, .ro, 0, .all, .none, .any, 0x00, .volatile, 0⟩,
  ⟨0xA4, "E0 late count", .u32, .ro, 0, .all, .none, .any, 0x00, .volatile, 0⟩,
  ⟨0xA5, "E0 discarded count", .u32, .ro, 0, .all, .none, .any, 0x00, .volatile, 0⟩,
  ⟨0xA6, "E0 degraded", .bool, .ro, 0, .all, .none, .any, 0x00, .volatile, 0⟩]

def rows2400 : List Desc := rows2400a ++ rows2400b

def rows2500a : List Desc := [
  ⟨0x00, "Highest subindex", .u8, .const, 191, .all, .none, .any, 0x00, .volatile, 0⟩,
  ⟨0x01, "Slot enable", .bool, .rw, 0, .all, .maint, .any, 0x44, .stored, 0⟩,
  ⟨0x02, "Rate", .u8, .rw, 0, .ints [(0, 7)], .maint, .any, 0x44, .stored, 0⟩,
  ⟨0x03, "Phase", .u8, .rw, 0, .all, .maint, .any, 0x44, .stored, 0⟩,
  ⟨0x04, "Feedback source", .u8, .rw, 0, .ints [(0, 5)], .maint, .any, 0x44, .stored, 0⟩,
  ⟨0x05, "Feedback selector", .u16, .rw, 0, .all, .maint, .any, 0x44, .stored, 0⟩,
  ⟨0x06, "Feedback scale k_y", .f32, .rw, 1065353216, .f32 [(3463342888, 1315859240)], .maint, .any, 0x44, .stored, 0⟩,
  ⟨0x07, "Feedback offset o_y", .f32, .rw, 0, .all, .maint, .any, 0x44, .stored, 0⟩,
  ⟨0x08, "Feedback tolerance", .u8, .rw, 20, .ints [(0, 200)], .maint, .any, 0x44, .stored, 0⟩,
  ⟨0x09, "Feedback timeout", .u16, .rw, 2000, .ints [(1, 60000)], .maint, .any, 0x44, .stored, 0⟩,
  ⟨0x0A, "Set-point source", .u8, .rw, 0, .ints [(0, 3)], .maint, .any, 0x44, .stored, 0⟩,
  ⟨0x0B, "Set-point selector", .u8, .rw, 0, .all, .maint, .any, 0x44, .stored, 0⟩,
  ⟨0x0C, "Set-point scale k_s", .f32, .rw, 1065353216, .f32 [(3463342888, 1315859240)], .maint, .any, 0x44, .stored, 0⟩,
  ⟨0x0D, "Set-point offset o_s", .f32, .rw, 0, .all, .maint, .any, 0x44, .stored, 0⟩,
  ⟨0x0E, "Set-point value", .f32, .rw, 0, .all, .op, .any, 0x58, .volatile, 0⟩,
  ⟨0x0F, "Open output", .f32, .rw, 0, .all, .op, .any, 0x58, .volatile, 0⟩,
  ⟨0x10, "Options", .u16, .rw, 0, .ints [(0, 15)], .maint, .any, 0x44, .stored, 0⟩,
  ⟨0x11, "Feedforward source", .u8, .rw, 0, .ints [(0, 0), (1, 1), (3, 3), (4, 4), (5, 5)], .maint, .any, 0x44, .stored, 0⟩,
  ⟨0x12, "Feedforward selector", .u16, .rw, 0, .all, .maint, .any, 0x44, .stored, 0⟩,
  ⟨0x13, "Output destination", .u8, .rw, 0, .ints [(0, 4)], .maint, .any, 0x44, .stored, 0⟩,
  ⟨0x14, "Output channel A", .u16, .rw, 65535, .ints [(0, 65535)], .maint, .any, 0x44, .stored, 0⟩,
  ⟨0x15, "Output channel B", .u8, .rw, 255, .ints [(0, 63), (255, 255)], .maint, .any, 0x44, .stored, 0⟩,
  ⟨0x16, "Output scale k_o", .f32, .rw, 1065353216, .f32 [(3463342888, 1315859240)], .maint, .any, 0x44, .stored, 0⟩,
  ⟨0x17, "Output offset d_o", .f32, .rw, 0, .all, .maint, .any, 0x44, .stored, 0⟩,
  ⟨0x18, "Cascade level", .u8, .ro, 0, .all, .none, .any, 0x00, .volatile, 0⟩,
  ⟨0x19, "Active bank", .u8, .rw, 0, .ints [(0, 3)], .tech, .any, 0x5C, .stored, 0⟩,
  ⟨0x1A, "Command", .u8, .wo, 0, .ints [(1, 1), (2, 2), (3, 3)], .tech, .none, 0x5C, .volatile, 0⟩,
  ⟨0x1B, "Slot state", .u8, .ro, 0, .all, .none, .any, 0x00, .volatile, 0⟩,
  ⟨0x1C, "Slot flags", .u16, .ro, 0, .all, .none, .any, 0x00, .volatile, 0⟩,
  ⟨0x1D, "Integral term", .f32, .ro, 0, .all, .none, .any, 0x00, .volatile, 0⟩,
  ⟨0x1E, "Cause", .u8, .ro, 0, .all, .none, .any, 0x00, .volatile, 0⟩,
  ⟨0x1F, "Refusal count", .u32, .ro, 0, .all, .none, .any, 0x00, .volatile, 0⟩,
  ⟨0x20, "Kp", .f32, .rw, 1065353216, .f32 [(0, 1232348160)], .tech, .any, 0x5C, .stored, 0⟩,
  ⟨0x21, "Ki", .f32, .rw, 0, .f32 [(0, 1232348160)], .tech, .any, 0x5C, .stored, 0⟩,
  ⟨0x22, "Kd", .f32, .rw, 0, .f32 [(0, 1148846080)], .tech, .any, 0x5C, .stored, 0⟩,
  ⟨0x23, "Derivative filter Tf", .f32, .rw, 981668463, .f32 [(0, 1092616192)], .tech, .any, 0x5C, .stored, 0⟩,
  ⟨0x24, "Set-point feedforward Kfs", .f32, .rw, 0, .f32 [(3379831808, 1232348160)], .tech, .any, 0x5C, .stored, 0⟩,
  ⟨0x25, "External feedforward Kfx", .f32, .rw, 0, .f32 [(3379831808, 1232348160)], .tech, .any, 0x5C, .stored, 0⟩,
  ⟨0x26, "Feedforward offset F0", .f32, .rw, 0, .all, .tech, .any, 0x5C, .stored, 0⟩,
  ⟨0x27, "Dead band DB", .f32, .rw, 0, .f32 [(0, 1315859240)], .tech, .any, 0x5C, .stored, 0⟩]

def rows2500b : List Desc := [
  ⟨0x28, "Output minimum U_min", .f32, .rw, 0, .all, .tech, .any, 0x5C, .stored, 0⟩,
  ⟨0x29, "Output maximum U_max", .f32, .rw, 1065353216, .all, .tech, .any, 0x5C, .stored, 0⟩,
  ⟨0x2A, "Integral minimum I_min", .f32, .rw, 3212836864, .all, .tech, .any, 0x5C, .stored, 0⟩,
  ⟨0x2B, "Integral maximum I_max", .f32, .rw, 1065353216, .all, .tech, .any, 0x5C, .stored, 0⟩,
  ⟨0x2C, "Output rate limit R_out", .f32, .rw, 0, .f32 [(0, 0), (897988541, 1315859240)], .tech, .any, 0x5C, .stored, 0⟩,
  ⟨0x60, "Rate limit R_max", .f32, .rw, 0, .f32 [(0, 0), (897988541, 1315859240)], .tech, .any, 0x5C, .stored, 0⟩,
  ⟨0x61, "Acceleration limit A", .f32, .rw, 0, .f32 [(0, 0), (897988541, 1399379109)], .tech, .any, 0x5C, .stored, 0⟩,
  ⟨0x62, "Limiter start mode", .u8, .rw, 0, .ints [(0, 0), (1, 1)], .tech, .any, 0x5C, .stored, 0⟩,
  ⟨0x63, "Raw set-point w", .f32, .ro, 0, .all, .none, .any, 0x00, .volatile, 0⟩,
  ⟨0x64, "Limiter output r", .f32, .ro, 0, .all, .none, .any, 0x00, .volatile, 0⟩,
  ⟨0x65, "Limiter rate v", .f32, .ro, 0, .all, .none, .any, 0x00, .volatile, 0⟩,
  ⟨0x66, "Limiter status", .u8, .ro, 0, .all, .none, .any, 0x00, .volatile, 0⟩,
  ⟨0x70, "Following-error limit E_max", .f32, .rw, 0, .f32 [(0, 0), (897988541, 1315859240)], .maint, .any, 0x44, .stored, 0⟩,
  ⟨0x71, "Following-error warning E_warn", .f32, .rw, 0, .f32 [(0, 0), (897988541, 1315859240)], .maint, .any, 0x44, .stored, 0⟩,
  ⟨0x72, "Following-error time T_fe", .u16, .rw, 100, .ints [(0, 60000)], .maint, .any, 0x44, .stored, 0⟩,
  ⟨0x73, "Fault mode", .u8, .rw, 0, .ints [(0, 0), (1, 1), (2, 2)], .maint, .any, 0x44, .stored, 0⟩,
  ⟨0x74, "Fault value", .f32, .rw, 0, .all, .maint, .any, 0x44, .stored, 0⟩,
  ⟨0x75, "Following error e_f", .f32, .ro, 0, .all, .none, .any, 0x00, .volatile, 0⟩,
  ⟨0x76, "Peak following error", .f32, .ro, 0, .all, .none, .any, 0x00, .volatile, 0⟩,
  ⟨0x77, "Supervision status", .u8, .ro, 0, .all, .none, .any, 0x00, .volatile, 0⟩,
  ⟨0x78, "Peak reset", .u8, .wo, 0, .ints [(1, 1)], .tech, .none, 0x58, .volatile, 0⟩,
  ⟨0x79, "Supervision trip count", .u32, .ro, 0, .all, .none, .any, 0x00, .volatile, 0⟩,
  ⟨0x80, "Injection point", .u8, .rw, 0, .ints [(0, 2)], .maint, .any, 0x48, .stored, 0⟩,
  ⟨0x81, "Waveform", .u8, .rw, 0, .ints [(0, 4)], .maint, .any, 0x48, .stored, 0⟩,
  ⟨0x82, "Amplitude a", .f32, .rw, 0, .f32 [(0, 1315859240)], .maint, .any, 0x48, .stored, 0⟩,
  ⟨0x84, "Frequency f1", .f32, .rw, 1065353216, .f32 [(981668463, 1167867904)], .maint, .any, 0x48, .stored, 0⟩,
  ⟨0x85, "Frequency f2", .f32, .rw, 1092616192, .f32 [(981668463, 1167867904)], .maint, .any, 0x48, .stored, 0⟩,
  ⟨0x86, "Duration T", .u32, .rw, 10000, .ints [(1, 3600000)], .maint, .any, 0x48, .stored, 0⟩,
  ⟨0x87, "PRBS order m", .u8, .rw, 9, .ints [(5, 5), (7, 7), (9, 9), (11, 11), (15, 15)], .maint, .any, 0x48, .stored, 0⟩,
  ⟨0x88, "PRBS hold H", .u16, .rw, 1, .ints [(1, 1000)], .maint, .any, 0x48, .stored, 0⟩,
  ⟨0x89, "Test command", .u8, .wo, 0, .ints [(1, 1), (2, 2)], .maint, .none, 0x48, .volatile, 0⟩,
  ⟨0x8A, "Test state", .u8, .ro, 0, .all, .none, .any, 0x00, .volatile, 0⟩,
  ⟨0x8B, "Test abort cause", .u8, .ro, 0, .all, .none, .any, 0x00, .volatile, 0⟩,
  ⟨0x8C, "Test value s", .f32, .ro, 0, .all, .none, .any, 0x00, .volatile, 0⟩]

def rows2500 : List Desc := rows2500a ++ rows2500b

def rows2560 : List Desc := [
  ⟨0x00, "Highest subindex", .u8, .const, 6, .all, .none, .any, 0x00, .volatile, 0⟩,
  ⟨0x01, "Schedule counter s", .u8, .ro, 0, .all, .none, .any, 0x00, .volatile, 0⟩,
  ⟨0x02, "Lane roles", .u8, .ro, 64, .all, .none, .any, 0x00, .volatile, 0⟩,
  ⟨0x03, "Lane mismatch count", .u32, .ro, 0, .all, .none, .any, 0x00, .volatile, 0⟩,
  ⟨0x04, "No-majority count", .u32, .ro, 0, .all, .none, .any, 0x00, .volatile, 0⟩,
  ⟨0x05, "Lane exclusions since power-up", .u8, .ro, 0, .all, .none, .any, 0x00, .volatile, 0⟩,
  ⟨0x06, "Slots due in the heaviest frame", .u8, .ro, 0, .all, .none, .any, 0x00, .volatile, 0⟩]

def rows2561 : List Desc := [
  ⟨0x00, "Highest subindex", .u8, .const, 23, .all, .none, .op, 0x00, .volatile, 0⟩,
  ⟨0x01, "Channel count N", .u8, .rw, 1, .ints [(1, 8)], .tech, .op, 0x5C, .stored, 0⟩,
  ⟨0x02, "Divider", .u16, .rw, 1, .ints [(1, 20000)], .tech, .op, 0x5C, .stored, 0⟩,
  ⟨0x03, "Pre-trigger rows P", .u32, .rw, 0, .all, .tech, .op, 0x5C, .stored, 0⟩,
  ⟨0x04, "Trigger mode", .u8, .rw, 0, .ints [(0, 6)], .tech, .op, 0x5C, .stored, 0⟩,
  ⟨0x05, "Trigger channel", .u8, .rw, 0, .ints [(0, 7)], .tech, .op, 0x5C, .stored, 0⟩,
  ⟨0x06, "Trigger level", .f32, .rw, 0, .all, .tech, .op, 0x5C, .stored, 0⟩,
  ⟨0x07, "Trigger slot", .u8, .rw, 0, .ints [(0, 95)], .tech, .op, 0x5C, .stored, 0⟩,
  ⟨0x08, "Capture command", .u8, .wo, 0, .ints [(1, 1), (2, 2), (3, 3)], .tech, .none, 0x5C, .volatile, 0⟩,
  ⟨0x09, "Capture state", .u8, .ro, 0, .all, .none, .op, 0x00, .volatile, 0⟩,
  ⟨0x0A, "Rows valid", .u32, .ro, 0, .all, .none, .op, 0x00, .volatile, 0⟩,
  ⟨0x0B, "Capture sequence", .u32, .ro, 0, .all, .none, .op, 0x00, .volatile, 0⟩,
  ⟨0x0C, "Capture content", .dom, .ro, 0, .all, .none, .op, 0x00, .volatile, 524352⟩,
  ⟨0x10, "Channel 0 descriptor", .u16, .rw, 256, .all, .tech, .op, 0x5C, .stored, 0⟩,
  ⟨0x11, "Channel 1 descriptor", .u16, .rw, 256, .all, .tech, .op, 0x5C, .stored, 0⟩,
  ⟨0x12, "Channel 2 descriptor", .u16, .rw, 256, .all, .tech, .op, 0x5C, .stored, 0⟩,
  ⟨0x13, "Channel 3 descriptor", .u16, .rw, 256, .all, .tech, .op, 0x5C, .stored, 0⟩,
  ⟨0x14, "Channel 4 descriptor", .u16, .rw, 256, .all, .tech, .op, 0x5C, .stored, 0⟩,
  ⟨0x15, "Channel 5 descriptor", .u16, .rw, 256, .all, .tech, .op, 0x5C, .stored, 0⟩,
  ⟨0x16, "Channel 6 descriptor", .u16, .rw, 256, .all, .tech, .op, 0x5C, .stored, 0⟩,
  ⟨0x17, "Channel 7 descriptor", .u16, .rw, 256, .all, .tech, .op, 0x5C, .stored, 0⟩]

def rows2600a : List Desc := [
  ⟨0x00, "Highest subindex", .u8, .const, 42, .all, .none, .any, 0x00, .volatile, 0⟩,
  ⟨0x01, "Channel enable", .bool, .rw, 0, .all, .maint, .any, 0x44, .stored, 0⟩,
  ⟨0x02, "PWM frequency", .u16, .rw, 200, .ints [(10, 20000)], .maint, .any, 0x44, .stored, 0⟩,
  ⟨0x03, "PWM phase", .u32, .rw, 0, .all, .maint, .any, 0x44, .stored, 0⟩,
  ⟨0x04, "Current limit", .u16, .rw, 15000, .all, .maint, .any, 0x44, .stored, 0⟩,
  ⟨0x05, "Inrush limit", .u16, .rw, 60000, .all, .maint, .any, 0x44, .stored, 0⟩,
  ⟨0x06, "Inrush time", .u16, .rw, 20, .all, .maint, .any, 0x44, .stored, 0⟩,
  ⟨0x07, "Limiting time", .u16, .rw, 1000, .ints [(100, 10000)], .maint, .any, 0x44, .stored, 0⟩,
  ⟨0x08, "Retry limit", .u8, .rw, 3, .ints [(0, 254), (255, 255)], .maint, .any, 0x44, .stored, 0⟩,
  ⟨0x09, "Retry delay", .u16, .rw, 100, .ints [(10, 60000)], .maint, .any, 0x44, .stored, 0⟩,
  ⟨0x0A, "Off mode", .u8, .rw, 0, .ints [(0, 0), (1, 1)], .maint, .any, 0x44, .stored, 0⟩,
  ⟨0x0B, "Edge rate", .u8, .rw, 1, .ints [(0, 2)], .maint, .any, 0x44, .stored, 0⟩,
  ⟨0x0C, "Fine range", .bool, .rw, 0, .all, .maint, .any, 0x44, .stored, 0⟩,
  ⟨0x0D, "Open-load threshold", .u16, .rw, 0, .ints [(0, 0), (1, 65535)], .maint, .any, 0x44, .stored, 0⟩,
  ⟨0x0E, "Open-load time", .u16, .rw, 100, .ints [(10, 10000)], .maint, .any, 0x44, .stored, 0⟩,
  ⟨0x0F, "Off-state test", .bool, .rw, 0, .all, .maint, .any, 0x44, .stored, 0⟩,
  ⟨0x10, "Difference limit", .u8, .rw, 60, .ints [(20, 80)], .maint, .any, 0x44, .stored, 0⟩,
  ⟨0x11, "Reference deviation limit", .u16, .rw, 200, .ints [(10, 10000)], .maint, .any, 0x44, .stored, 0⟩,
  ⟨0x12, "Reference deviation time", .u16, .rw, 50, .ints [(1, 10000)], .maint, .any, 0x44, .stored, 0⟩,
  ⟨0x13, "Link-loss action", .u8, .rw, 0, .ints [(0, 0), (1, 1), (2, 2)], .maint, .any, 0x44, .stored, 0⟩,
  ⟨0x14, "Direct command in SAFE_HOLD", .u8, .rw, 0, .ints [(0, 0), (1, 1)], .maint, .any, 0x44, .stored, 0⟩,
  ⟨0x15, "Current filter corner", .u16, .rw, 0, .ints [(0, 0), (1, 2000)], .maint, .any, 0x44, .stored, 0⟩,
  ⟨0x16, "Service override", .u8, .rw, 0, .ints [(0, 0), (1, 1), (2, 2), (3, 3)], .tech, .any, 0x40, .volatile, 0⟩,
  ⟨0x17, "Service override duty", .u16, .rw, 0, .all, .tech, .any, 0x40, .volatile, 0⟩,
  ⟨0x18, "Restart", .u8, .wo, 0, .ints [(1, 1)], .tech, .none, 0x58, .volatile, 0⟩,
  ⟨0x19, "Channel state", .u8, .ro, 0, .all, .none, .any, 0x00, .volatile, 0⟩,
  ⟨0x1A, "Status", .u16, .ro, 0, .all, .none, .any, 0x00, .volatile, 0⟩,
  ⟨0x1B, "Current", .i32, .ro, 0, .all, .none, .any, 0x00, .volatile, 0⟩,
  ⟨0x1C, "Applied duty", .u16, .ro, 0, .all, .none, .any, 0x00, .volatile, 0⟩,
  ⟨0x1D, "Driving source", .u8, .ro, 0, .all, .none, .any, 0x00, .volatile, 0⟩,
  ⟨0x1E, "Driving slot", .u8, .ro, 255, .all, .none, .any, 0x00, .volatile, 0⟩,
  ⟨0x1F, "Trip cause", .u8, .ro, 0, .all, .none, .any, 0x00, .volatile, 0⟩,
  ⟨0x20, "Retries left", .u8, .ro, 3, .all, .none, .any, 0x00, .volatile, 0⟩,
  ⟨0x21, "Trip count", .u32, .ro, 0, .all, .none, .any, 0x00, .volatile, 0⟩,
  ⟨0x22, "High-side junction temperature", .i16, .ro, 0, .all, .none, .any, 0x00, .volatile, 0⟩,
  ⟨0x23, "Low-side junction temperature", .i16, .ro, 0, .all, .none, .any, 0x00, .volatile, 0⟩,
  ⟨0x24, "Reference current I_ref", .i32, .ro, 0, .all, .none, .any, 0x00, .volatile, 0⟩,
  ⟨0x25, "High-side on-resistance", .u16, .ro, 0, .all, .none, .any, 0x00, .volatile, 0⟩,
  ⟨0x26, "Low-side on-resistance", .u16, .ro, 0, .all, .none, .any, 0x00, .volatile, 0⟩,
  ⟨0x27, "Cell status", .u8, .ro, 12, .all, .none, .any, 0x00, .volatile, 0⟩]

def rows2600b : List Desc := [
  ⟨0x28, "Open-load count", .u32, .ro, 0, .all, .none, .any, 0x00, .volatile, 0⟩,
  ⟨0x29, "Actual PWM frequency", .f32, .ro, 1128792064, .all, .none, .any, 0x00, .volatile, 0⟩,
  ⟨0x2A, "Current, fine", .i32, .ro, 0, .all, .none, .any, 0x00, .volatile, 0⟩]

def rows2600 : List Desc := rows2600a ++ rows2600b

def rows2640 : List Desc := [
  ⟨0x00, "Highest subindex", .u8, .const, 8, .all, .none, .any, 0x00, .volatile, 0⟩,
  ⟨0x01, "VB voltage", .u16, .ro, 0, .all, .none, .any, 0x00, .volatile, 0⟩,
  ⟨0x02, "Group current", .u32, .ro, 0, .all, .none, .any, 0x00, .volatile, 0⟩,
  ⟨0x03, "Group status", .u8, .ro, 0, .all, .none, .any, 0x00, .volatile, 0⟩,
  ⟨0x04, "Guard-off count", .u32, .ro, 0, .all, .none, .any, 0x00, .volatile, 0⟩,
  ⟨0x05, "Missing sense frames", .u32, .ro, 0, .all, .none, .any, 0x00, .volatile, 0⟩,
  ⟨0x06, "Die reference temperature", .i16, .ro, 0, .all, .none, .any, 0x00, .volatile, 0⟩,
  ⟨0x07, "Link-loss count", .u32, .ro, 0, .all, .none, .any, 0x00, .volatile, 0⟩,
  ⟨0x08, "Open inrush windows", .u8, .ro, 0, .all, .none, .any, 0x00, .volatile, 0⟩]

def rows2648 : List Desc := [
  ⟨0x00, "Highest subindex", .u8, .const, 5, .all, .none, .any, 0x00, .volatile, 0⟩,
  ⟨0x01, "Switch dissipation", .u32, .ro, 0, .all, .none, .any, 0x00, .volatile, 0⟩,
  ⟨0x02, "Dissipation budget", .u32, .ro, 45000, .all, .none, .any, 0x00, .volatile, 0⟩,
  ⟨0x03, "Baseplate temperature", .i16, .ro, 0, .all, .none, .any, 0x00, .volatile, 0⟩,
  ⟨0x04, "Budget exceed count", .u32, .ro, 0, .all, .none, .any, 0x00, .volatile, 0⟩,
  ⟨0x05, "Module output current", .u32, .ro, 0, .all, .none, .any, 0x00, .volatile, 0⟩]

def rows2700a : List Desc := [
  ⟨0x00, "Highest subindex", .u8, .const, 227, .all, .none, .any, 0x00, .volatile, 0⟩,
  ⟨0x01, "Foxglove state", .u8, .ro, 0, .all, .none, .any, 0x00, .volatile, 0⟩,
  ⟨0x02, "Foxglove cause", .u8, .ro, 0, .all, .none, .any, 0x00, .volatile, 0⟩,
  ⟨0x03, "Active profile CRC", .u32, .ro, 0, .all, .none, .any, 0x00, .volatile, 0⟩,
  ⟨0x04, "Profile version", .u16, .ro, 0, .all, .none, .any, 0x00, .volatile, 0⟩,
  ⟨0x05, "Seal code", .u16, .rws, 0, .all, .auth, .any, 0x44, .stored, 0⟩,
  ⟨0x06, "Seal reading", .u16, .ro, 0, .all, .none, .any, 0x00, .volatile, 0⟩,
  ⟨0x07, "Pin status", .u8, .ro, 0, .all, .none, .any, 0x00, .volatile, 0⟩,
  ⟨0x08, "SAFE reset input", .u8, .rws, 0, .ints [(0, 0), (1, 1)], .auth, .any, 0x44, .stored, 0⟩,
  ⟨0x09, "Function demand states", .u16, .ro, 0, .all, .none, .any, 0x00, .volatile, 0⟩,
  ⟨0x0A, "Applied permission mask", .u64, .ro, 0, .all, .none, .any, 0x00, .volatile, 0⟩,
  ⟨0x0B, "Expected mask", .u64, .ro, 0, .all, .none, .any, 0x00, .volatile, 0⟩,
  ⟨0x0C, "Input states", .u16, .ro, 0, .all, .none, .any, 0x00, .volatile, 0⟩,
  ⟨0x0D, "Input faults", .u16, .ro, 0, .all, .none, .any, 0x00, .volatile, 0⟩,
  ⟨0x0E, "Mismatch count", .u32, .ro, 0, .all, .none, .any, 0x00, .volatile, 0⟩,
  ⟨0x0F, "Demand request", .u16, .rw, 0, .all, .op, .any, 0x7E, .volatile, 0⟩,
  ⟨0x10, "Change status", .u8, .ro, 0, .all, .none, .any, 0x00, .volatile, 0⟩,
  ⟨0x11, "Staging command", .u8, .wo, 0, .ints [(1, 1), (2, 2)], .auth, .none, 0x44, .volatile, 0⟩,
  ⟨0x12, "Signature", .dom, .wo, 0, .all, .auth, .none, 0x44, .volatile, 2048⟩,
  ⟨0x13, "Countersignature", .dom, .wo, 0, .all, .wit, .none, 0x44, .volatile, 2048⟩,
  ⟨0x14, "Staged profile", .dom, .ro, 0, .all, .none, .any, 0x00, .volatile, 4096⟩,
  ⟨0x15, "Active profile", .dom, .ro, 0, .all, .none, .any, 0x00, .volatile, 4096⟩,
  ⟨0x16, "Countersignature time left", .u16, .ro, 0, .all, .none, .any, 0x00, .volatile, 0⟩,
  ⟨0x17, "First signer", .u32, .ro, 0, .all, .none, .any, 0x00, .volatile, 0⟩,
  ⟨0x19, "Channel safe states", .u64, .rws, 18446744073709551615, .all, .auth, .any, 0x44, .stored, 0⟩,
  ⟨0x1A, "Dark pulses on FREE channels", .u64, .rws, 0, .all, .auth, .any, 0x44, .stored, 0⟩,
  ⟨0x1B, "Dark-pulse width", .u8, .rws, 100, .ints [(20, 200)], .auth, .any, 0x44, .stored, 0⟩,
  ⟨0x1C, "Accepted reset count", .u32, .ro, 0, .all, .none, .any, 0x00, .volatile, 0⟩,
  ⟨0x1D, "Dark-pulse fault mask", .u64, .ro, 0, .all, .none, .any, 0x00, .volatile, 0⟩,
  ⟨0x1E, "Withdraw request", .u64, .ro, 0, .all, .none, .any, 0x00, .volatile, 0⟩,
  ⟨0x20, "P0 mode", .u8, .rws, 0, .ints [(0, 3)], .auth, .any, 0x44, .stored, 0⟩,
  ⟨0x28, "P0 filter time T_f", .u16, .rws, 200, .ints [(50, 400)], .auth, .any, 0x44, .stored, 0⟩,
  ⟨0x30, "P0 discrepancy time T_disc", .u16, .rws, 100, .ints [(10, 2000)], .auth, .any, 0x44, .stored, 0⟩,
  ⟨0x38, "P0 state", .u8, .ro, 0, .all, .none, .any, 0x00, .volatile, 0⟩,
  ⟨0x40, "SIN00 supply assignment", .u8, .rws, 255, .ints [(4, 7), (255, 255)], .auth, .any, 0x44, .stored, 0⟩,
  ⟨0x50, "SIN00 fault code", .u8, .ro, 0, .all, .none, .any, 0x00, .volatile, 0⟩,
  ⟨0x60, "SF00 input mask", .u16, .rws, 0, .all, .auth, .any, 0x44, .stored, 0⟩,
  ⟨0x61, "SF00 stop category", .u8, .rws, 0, .ints [(0, 0), (1, 1)], .auth, .any, 0x44, .stored, 0⟩,
  ⟨0x62, "SF00 stop delay", .u16, .rws, 1000, .ints [(10, 10000)], .auth, .any, 0x44, .stored, 0⟩,
  ⟨0x63, "SF00 reset mode", .u8, .rws, 1, .ints [(0, 0), (1, 1), (2, 2)], .auth, .any, 0x44, .stored, 0⟩]

def rows2700b : List Desc := [
  ⟨0x64, "SF00 channel mask", .u64, .rws, 0, .all, .auth, .any, 0x44, .stored, 0⟩,
  ⟨0x65, "SF00 options", .u8, .rws, 1, .ints [(0, 1), (4, 5)], .auth, .any, 0x44, .stored, 0⟩,
  ⟨0x66, "SF00 state", .u8, .ro, 0, .all, .none, .any, 0x00, .volatile, 0⟩,
  ⟨0x67, "SF00 demand count", .u32, .ro, 0, .all, .none, .any, 0x00, .volatile, 0⟩,
  ⟨0xE0, "SRST0 state", .u8, .ro, 0, .all, .none, .any, 0x00, .volatile, 0⟩,
  ⟨0xE1, "SRST1 state", .u8, .ro, 0, .all, .none, .any, 0x00, .volatile, 0⟩,
  ⟨0xE2, "Stuck reset count", .u32, .ro, 0, .all, .none, .any, 0x00, .volatile, 0⟩,
  ⟨0xE3, "Short press count", .u32, .ro, 0, .all, .none, .any, 0x00, .volatile, 0⟩]

def rows2700 : List Desc := rows2700a ++ rows2700b

def rows2800 : List Desc := [
  ⟨0x00, "Highest subindex", .u8, .const, 39, .all, .none, .any, 0x00, .volatile, 0⟩,
  ⟨0x01, "Pending sources", .u16, .ro, 0, .all, .none, .any, 0x00, .volatile, 0⟩,
  ⟨0x02, "Pending with PIN", .u16, .ro, 0, .all, .none, .any, 0x00, .volatile, 0⟩,
  ⟨0x03, "INT partitions", .u8, .rw, 7, .ints [(0, 7)], .maint, .any, 0x44, .stored, 0⟩,
  ⟨0x04, "NMI partitions", .u8, .rw, 7, .ints [(0, 7)], .maint, .any, 0x44, .stored, 0⟩,
  ⟨0x05, "Escalation window", .u16, .const, 100, .all, .none, .any, 0x00, .volatile, 0⟩,
  ⟨0x06, "Settling time", .u16, .const, 10, .all, .none, .any, 0x00, .volatile, 0⟩,
  ⟨0x07, "Step decay time", .u16, .rw, 10, .ints [(1, 600)], .maint, .any, 0x44, .stored, 0⟩,
  ⟨0x08, "Pin status", .u8, .ro, 0, .all, .none, .any, 0x00, .volatile, 0⟩,
  ⟨0x09, "Blocks in reset", .u32, .ro, 0, .all, .none, .any, 0x00, .volatile, 0⟩,
  ⟨0x0A, "Block reset count", .u32, .ro, 0, .all, .none, .any, 0x00, .volatile, 0⟩,
  ⟨0x0B, "Chip reset count", .u32, .ro, 0, .all, .none, .any, 0x00, .retained, 0⟩,
  ⟨0x0C, "Last chip reset cause", .u16, .ro, 65535, .all, .none, .any, 0x00, .retained, 0⟩,
  ⟨0x0D, "Consequential occurrence count", .u32, .ro, 0, .all, .none, .any, 0x00, .volatile, 0⟩,
  ⟨0x0E, "Escalation count", .u32, .ro, 0, .all, .none, .any, 0x00, .volatile, 0⟩,
  ⟨0x10, "Force set", .u16, .wo, 0, .ints [(0, 511)], .maint, .none, 0x40, .volatile, 0⟩,
  ⟨0x11, "Force clear", .u16, .wo, 0, .ints [(0, 511)], .maint, .none, 0x40, .volatile, 0⟩,
  ⟨0x12, "Clear request", .u16, .wo, 0, .ints [(0, 511)], .tech, .none, 0x78, .volatile, 0⟩,
  ⟨0x13, "Clear all", .u8, .wo, 0, .ints [(1, 1)], .tech, .none, 0x78, .volatile, 0⟩,
  ⟨0x20, "Pending map", .u64, .ro, 0, .all, .none, .any, 0x00, .volatile, 0⟩]

def rows2810 : List Desc := [
  ⟨0x00, "Highest subindex", .u8, .const, 159, .all, .none, .any, 0x00, .volatile, 0⟩,
  ⟨0x20, "Configuration", .u32, .rw, 0, .all, .maint, .any, 0x44, .stored, 0⟩,
  ⟨0x40, "Status", .u32, .ro, 0, .all, .none, .any, 0x00, .volatile, 0⟩,
  ⟨0x60, "Occurrence count", .u32, .ro, 0, .all, .none, .any, 0x00, .volatile, 0⟩,
  ⟨0x80, "Last code", .u16, .ro, 0, .all, .none, .any, 0x00, .volatile, 0⟩]

def rows2900 : List Desc := [
  ⟨0x00, "Highest subindex", .u8, .const, 97, .all, .none, .any, 0x00, .volatile, 0⟩,
  ⟨0x01, "Swaps since production", .u32, .ro, 0, .all, .none, .any, 0x00, .retained, 0⟩,
  ⟨0x10, "Ring-oscillator threshold", .u32, .rw, 40000, .ints [(10000, 100000)], .maint, .any, 0x44, .stored, 0⟩,
  ⟨0x11, "On-resistance drift threshold", .u16, .const, 250, .all, .none, .any, 0x00, .volatile, 0⟩,
  ⟨0x12, "Thermal swing", .u8, .rw, 40, .ints [(20, 80)], .maint, .any, 0x44, .stored, 0⟩,
  ⟨0x13, "Thermal-cycle threshold", .u32, .rw, 1000000, .ints [(10000, 10000000)], .maint, .any, 0x44, .stored, 0⟩,
  ⟨0x14, "SRAM corrected-error threshold", .u16, .rw, 16, .ints [(1, 1000)], .maint, .any, 0x44, .stored, 0⟩,
  ⟨0x15, "Spare test period", .u16, .const, 10, .all, .none, .any, 0x00, .volatile, 0⟩,
  ⟨0x16, "Core-pair wear swap", .u8, .rw, 0, .ints [(0, 0), (1, 1)], .maint, .any, 0x44, .stored, 0⟩,
  ⟨0x20, "Pool 0 elements", .u16, .const, 4, .all, .none, .any, 0x00, .volatile, 0⟩,
  ⟨0x21, "Pool 0 spares ready", .u16, .ro, 1, .all, .none, .any, 0x00, .volatile, 0⟩,
  ⟨0x22, "Pool 0 swaps", .u32, .ro, 0, .all, .none, .any, 0x00, .volatile, 0⟩,
  ⟨0x23, "Pool 0 last swap MT", .u64, .ro, 0, .all, .none, .any, 0x00, .volatile, 0⟩,
  ⟨0x24, "Pool 0 last element out", .u16, .ro, 65535, .all, .none, .any, 0x00, .volatile, 0⟩,
  ⟨0x25, "Pool 0 last element in", .u16, .ro, 65535, .all, .none, .any, 0x00, .volatile, 0⟩,
  ⟨0x26, "Pool 0 last cause", .u16, .ro, 0, .all, .none, .any, 0x00, .volatile, 0⟩,
  ⟨0x27, "Pool 0 last result", .u8, .ro, 0, .all, .none, .any, 0x00, .volatile, 0⟩,
  ⟨0x60, "Wear table", .dom, .ro, 0, .all, .none, .any, 0x00, .volatile, 7104⟩,
  ⟨0x61, "Swap history", .dom, .ro, 0, .all, .none, .any, 0x00, .volatile, 8192⟩]

def rows2A00 : List Desc := [
  ⟨0x00, "Highest subindex", .u8, .const, 18, .all, .none, .any, 0x00, .volatile, 0⟩,
  ⟨0x01, "Next sequence", .u32, .ro, 0, .all, .none, .any, 0x00, .retained, 0⟩,
  ⟨0x02, "Oldest sequence", .u32, .ro, 0, .all, .none, .any, 0x00, .retained, 0⟩,
  ⟨0x03, "First sequence not archived", .u32, .ro, 0, .all, .none, .any, 0x00, .retained, 0⟩,
  ⟨0x04, "Power-cycle count", .u32, .ro, 0, .all, .none, .any, 0x00, .retained, 0⟩,
  ⟨0x05, "Operating time", .u64, .ro, 0, .all, .none, .any, 0x00, .retained, 0⟩,
  ⟨0x06, "Bank status", .u8, .ro, 3, .all, .none, .any, 0x00, .retained, 0⟩,
  ⟨0x07, "Calendar field enable", .bool, .rw, 0, .all, .maint, .any, 0x44, .stored, 0⟩,
  ⟨0x08, "Repeat window", .u16, .const, 1000, .all, .none, .any, 0x00, .volatile, 0⟩,
  ⟨0x09, "Records lost", .u32, .ro, 0, .all, .none, .any, 0x00, .retained, 0⟩,
  ⟨0x0A, "Bank error count", .u32, .ro, 0, .all, .none, .any, 0x00, .retained, 0⟩,
  ⟨0x0B, "Clear", .u8, .wo, 0, .ints [(1, 1)], .maint, .none, 0x40, .volatile, 0⟩,
  ⟨0x0C, "Sequence of last clear", .u32, .ro, 0, .all, .none, .any, 0x00, .retained, 0⟩,
  ⟨0x0D, "Dual-fail reset", .u8, .wo, 0, .ints [(1, 1)], .vendor, .none, 0x40, .volatile, 0⟩,
  ⟨0x0E, "Application record", .u32, .wo, 0, .all, .any, .none, 0x78, .volatile, 0⟩,
  ⟨0x10, "Records", .dom, .ro, 0, .all, .none, .any, 0x00, .volatile, 16777216⟩,
  ⟨0x11, "Retention bank 0", .dom, .ro, 0, .all, .none, .any, 0x00, .volatile, 16384⟩,
  ⟨0x12, "Retention bank 1", .dom, .ro, 0, .all, .none, .any, 0x00, .volatile, 16384⟩]

def rows2B00a : List Desc := [
  ⟨0x00, "Highest subindex", .u8, .const, 66, .all, .none, .any, 0x00, .volatile, 0⟩,
  ⟨0x01, "Port mode", .u8, .rw, 1, .ints [(0, 3)], .maint, .any, 0x44, .stored, 0⟩,
  ⟨0x02, "Frame format", .u8, .rw, 1, .ints [(0, 0), (1, 1)], .maint, .any, 0x44, .stored, 0⟩,
  ⟨0x03, "Nominal prescaler", .u8, .rw, 1, .ints [(1, 32)], .maint, .any, 0x44, .stored, 0⟩,
  ⟨0x04, "Nominal TSEG1", .u16, .rw, 127, .ints [(2, 256)], .maint, .any, 0x44, .stored, 0⟩,
  ⟨0x05, "Nominal TSEG2", .u8, .rw, 32, .ints [(1, 128)], .maint, .any, 0x44, .stored, 0⟩,
  ⟨0x06, "Nominal SJW", .u8, .rw, 32, .ints [(1, 128)], .maint, .any, 0x44, .stored, 0⟩,
  ⟨0x07, "Data prescaler", .u8, .rw, 1, .ints [(1, 32)], .maint, .any, 0x44, .stored, 0⟩,
  ⟨0x08, "Data TSEG1", .u8, .rw, 29, .ints [(1, 32)], .maint, .any, 0x44, .stored, 0⟩,
  ⟨0x09, "Data TSEG2", .u8, .rw, 10, .ints [(1, 16)], .maint, .any, 0x44, .stored, 0⟩,
  ⟨0x0A, "Data SJW", .u8, .rw, 10, .ints [(1, 16)], .maint, .any, 0x44, .stored, 0⟩,
  ⟨0x0B, "Delay compensation", .u8, .rw, 1, .ints [(0, 0), (1, 1)], .maint, .any, 0x44, .stored, 0⟩,
  ⟨0x0C, "Delay compensation offset", .u8, .rw, 30, .ints [(0, 127)], .maint, .any, 0x44, .stored, 0⟩,
  ⟨0x0D, "Nominal bit rate", .u32, .ro, 500000, .all, .none, .any, 0x00, .volatile, 0⟩,
  ⟨0x0E, "Data bit rate", .u32, .ro, 2000000, .all, .none, .any, 0x00, .volatile, 0⟩,
  ⟨0x0F, "Termination", .bool, .rw, 0, .all, .maint, .any, 0x44, .stored, 0⟩,
  ⟨0x10, "Bus-off policy", .u8, .rw, 0, .ints [(0, 0), (1, 1)], .maint, .any, 0x44, .stored, 0⟩,
  ⟨0x11, "Recovery request", .u8, .wo, 0, .ints [(1, 1)], .tech, .none, 0x78, .volatile, 0⟩,
  ⟨0x12, "Join check", .bool, .rw, 1, .all, .maint, .any, 0x44, .stored, 0⟩,
  ⟨0x13, "Controller in use", .u8, .ro, 0, .all, .none, .any, 0x00, .volatile, 0⟩,
  ⟨0x14, "Error state", .u8, .ro, 4, .all, .none, .any, 0x00, .volatile, 0⟩,
  ⟨0x15, "TEC", .u16, .ro, 0, .all, .none, .any, 0x00, .volatile, 0⟩,
  ⟨0x16, "REC", .u16, .ro, 0, .all, .none, .any, 0x00, .volatile, 0⟩,
  ⟨0x17, "Bus-off count", .u32, .ro, 0, .all, .none, .any, 0x00, .volatile, 0⟩,
  ⟨0x18, "Error count", .u32, .ro, 0, .all, .none, .any, 0x00, .volatile, 0⟩,
  ⟨0x19, "Last error", .u8, .ro, 0, .all, .none, .any, 0x00, .volatile, 0⟩,
  ⟨0x1A, "Frames received", .u32, .ro, 0, .all, .none, .any, 0x00, .volatile, 0⟩,
  ⟨0x1B, "Frames sent", .u32, .ro, 0, .all, .none, .any, 0x00, .volatile, 0⟩,
  ⟨0x1C, "Protocol exceptions", .u32, .ro, 0, .all, .none, .any, 0x00, .volatile, 0⟩,
  ⟨0x1D, "Identifier collisions", .u32, .ro, 0, .all, .none, .any, 0x00, .volatile, 0⟩,
  ⟨0x1E, "Foreign frames", .u32, .ro, 0, .all, .none, .any, 0x00, .volatile, 0⟩,
  ⟨0x1F, "Unmatched frames", .u32, .ro, 0, .all, .none, .any, 0x00, .volatile, 0⟩,
  ⟨0x20, "Transceiver time-outs", .u32, .ro, 0, .all, .none, .any, 0x00, .volatile, 0⟩,
  ⟨0x21, "Transmitter delay", .u16, .ro, 0, .all, .none, .any, 0x00, .volatile, 0⟩,
  ⟨0x22, "Timing apply", .u8, .wo, 0, .ints [(1, 1)], .maint, .none, 0x44, .volatile, 0⟩,
  ⟨0x28, "Time role", .u8, .rw, 0, .ints [(0, 0), (1, 1), (2, 2)], .maint, .any, 0x44, .stored, 0⟩,
  ⟨0x29, "Reference identifier", .u32, .rw, 16, .ints [(0, 1073741823)], .maint, .any, 0x44, .stored, 0⟩,
  ⟨0x2A, "Reference period", .u16, .rw, 100, .ints [(10, 1000)], .maint, .any, 0x44, .stored, 0⟩,
  ⟨0x2B, "Propagation compensation", .u16, .rw, 0, .ints [(0, 10000)], .maint, .any, 0x44, .stored, 0⟩,
  ⟨0x2C, "Master time offset O", .i64, .ro, 0, .all, .none, .any, 0x00, .volatile, 0⟩]

def rows2B00b : List Desc := [
  ⟨0x2D, "Slave status", .u8, .ro, 0, .all, .none, .any, 0x00, .volatile, 0⟩,
  ⟨0x2E, "Master time state", .u8, .ro, 255, .all, .none, .any, 0x00, .volatile, 0⟩,
  ⟨0x2F, "Master estimated error", .u32, .ro, 4294967295, .all, .none, .any, 0x00, .volatile, 0⟩,
  ⟨0x30, "ISO engine enable", .bool, .rw, 0, .all, .maint, .any, 0x44, .stored, 0⟩,
  ⟨0x31, "NAME", .u64, .rw, 0, .all, .maint, .any, 0x44, .stored, 0⟩,
  ⟨0x32, "Preferred address", .u8, .rw, 128, .ints [(0, 253)], .maint, .any, 0x44, .stored, 0⟩,
  ⟨0x33, "Address range low", .u8, .rw, 128, .ints [(0, 253)], .maint, .any, 0x44, .stored, 0⟩,
  ⟨0x34, "Address range high", .u8, .rw, 247, .ints [(0, 253)], .maint, .any, 0x44, .stored, 0⟩,
  ⟨0x35, "Claimed address", .u8, .ro, 254, .all, .none, .any, 0x00, .volatile, 0⟩,
  ⟨0x36, "Address state", .u8, .ro, 0, .all, .none, .any, 0x00, .volatile, 0⟩,
  ⟨0x37, "Packets per clear-to-send", .u8, .rw, 16, .ints [(1, 255)], .maint, .any, 0x44, .stored, 0⟩,
  ⟨0x38, "BAM packet interval", .u8, .rw, 50, .ints [(10, 200)], .maint, .any, 0x44, .stored, 0⟩,
  ⟨0x39, "ISO submission", .dom, .rw, 0, .all, .op, .any, 0x78, .volatile, 16400⟩,
  ⟨0x3A, "ISO send", .u8, .wo, 0, .ints [(1, 1)], .op, .none, 0x78, .volatile, 0⟩,
  ⟨0x3B, "ISO send state", .u8, .ro, 0, .all, .none, .any, 0x00, .volatile, 0⟩,
  ⟨0x3C, "Last abort reason", .u8, .ro, 0, .all, .none, .any, 0x00, .volatile, 0⟩,
  ⟨0x3D, "Sessions open", .u8, .ro, 0, .all, .none, .any, 0x00, .volatile, 0⟩,
  ⟨0x40, "Receive log", .dom, .ro, 0, .all, .none, .any, 0x00, .volatile, 196608⟩,
  ⟨0x41, "Log write count", .u32, .ro, 0, .all, .none, .any, 0x00, .volatile, 0⟩,
  ⟨0x42, "Log unmatched frames", .bool, .rw, 0, .all, .maint, .any, 0x44, .stored, 0⟩]

def rows2B00 : List Desc := rows2B00a ++ rows2B00b

def rows2C00 : List Desc := [
  ⟨0x00, "Highest subindex", .u8, .const, 40, .all, .none, .any, 0x00, .volatile, 0⟩,
  ⟨0x01, "Object table, CAN0–CAN7", .dom, .rw, 0, .all, .maint, .any, 0x04, .volatile, 8208⟩,
  ⟨0x09, "Table apply", .u8, .wo, 0, .all, .maint, .none, 0x04, .volatile, 0⟩,
  ⟨0x0A, "Apply failure", .u16, .ro, 65535, .all, .none, .any, 0x00, .volatile, 0⟩,
  ⟨0x21, "Object status, CAN0–CAN7", .dom, .ro, 0, .all, .none, .any, 0x00, .volatile, 20480⟩]

def rows2E00a : List Desc := [
  ⟨0x00, "Highest subindex", .u8, .const, 138, .all, .none, .any, 0x00, .volatile, 0⟩,
  ⟨0x01, "Aging limit A", .u16, .rw, 20, .ints [(1, 1000)], .maint, .any, 0x44, .stored, 0⟩,
  ⟨0x02, "Announce period", .u16, .rw, 1000, .ints [(100, 10000)], .maint, .any, 0x44, .stored, 0⟩,
  ⟨0x03, "UCP CAN ports", .u8, .rw, 1, .all, .maint, .any, 0x44, .stored, 0⟩,
  ⟨0x04, "UCP CAN base identifier B", .u16, .rw, 1408, .steps 0 1920 128 [], .maint, .any, 0x44, .stored, 0⟩,
  ⟨0x05, "Stale-epoch drops", .u32, .ro, 0, .all, .none, .any, 0x00, .volatile, 0⟩,
  ⟨0x06, "TAG_BUSY notices", .u32, .ro, 0, .all, .none, .any, 0x00, .volatile, 0⟩,
  ⟨0x07, "Duplicate drops", .u32, .ro, 0, .all, .none, .any, 0x00, .volatile, 0⟩,
  ⟨0x08, "Integrity failures", .u32, .ro, 0, .all, .none, .any, 0x00, .volatile, 0⟩,
  ⟨0x09, "Replay drops", .u32, .ro, 0, .all, .none, .any, 0x00, .volatile, 0⟩,
  ⟨0x0A, "Events dropped", .u32, .ro, 0, .all, .none, .any, 0x00, .volatile, 0⟩,
  ⟨0x0B, "CAN reassembly failures", .u32, .ro, 0, .all, .none, .any, 0x00, .volatile, 0⟩,
  ⟨0x0C, "Queue status", .dom, .ro, 0, .all, .none, .any, 0x00, .volatile, 128⟩,
  ⟨0x0D, "Longest inbound wait", .u32, .ro, 0, .all, .none, .any, 0x00, .volatile, 0⟩,
  ⟨0x0E, "Subscriptions", .u8, .ro, 0, .all, .none, .any, 0x00, .volatile, 0⟩,
  ⟨0x0F, "Malformed packets", .u32, .ro, 0, .all, .none, .any, 0x00, .volatile, 0⟩,
  ⟨0x10, "Ring guard enable", .bool, .rw, 0, .all, .maint, .any, 0x44, .stored, 0⟩,
  ⟨0x11, "Ring state", .u8, .ro, 0, .all, .none, .any, 0x00, .volatile, 0⟩,
  ⟨0x12, "Ring manager", .u8, .ro, 255, .all, .none, .any, 0x00, .volatile, 0⟩,
  ⟨0x13, "Ring open count", .u32, .ro, 0, .all, .none, .any, 0x00, .volatile, 0⟩,
  ⟨0x14, "Ring test period T_r", .u8, .rw, 5, .ints [(2, 50)], .maint, .any, 0x44, .stored, 0⟩,
  ⟨0x15, "Broadcast limit", .u32, .rw, 10000, .ints [(100, 1000000)], .maint, .any, 0x44, .stored, 0⟩,
  ⟨0x20, "ETH_A enable", .bool, .rw, 1, .all, .maint, .any, 0x44, .stored, 0⟩,
  ⟨0x21, "ETH_A PHY role", .u8, .rw, 0, .ints [(0, 0), (1, 1)], .maint, .any, 0x44, .stored, 0⟩,
  ⟨0x22, "ETH_A link state", .u8, .ro, 0, .all, .none, .any, 0x00, .volatile, 0⟩,
  ⟨0x23, "ETH_A signal quality", .u8, .ro, 0, .all, .none, .any, 0x00, .volatile, 0⟩,
  ⟨0x24, "ETH_A frames received", .u32, .ro, 0, .all, .none, .any, 0x00, .volatile, 0⟩,
  ⟨0x25, "ETH_A frames sent", .u32, .ro, 0, .all, .none, .any, 0x00, .volatile, 0⟩,
  ⟨0x26, "ETH_A FCS errors", .u32, .ro, 0, .all, .none, .any, 0x00, .volatile, 0⟩,
  ⟨0x27, "ETH_A drops", .u32, .ro, 0, .all, .none, .any, 0x00, .volatile, 0⟩,
  ⟨0x28, "ETH_A link-down count", .u32, .ro, 0, .all, .none, .any, 0x00, .volatile, 0⟩,
  ⟨0x80, "Fleet submission", .dom, .rw, 0, .all, .op, .any, 0x78, .volatile, 3112⟩,
  ⟨0x81, "Fleet send", .u8, .wo, 0, .ints [(1, 1)], .op, .none, 0x78, .volatile, 0⟩,
  ⟨0x82, "Fleet sequence", .u64, .ro, 0, .all, .none, .any, 0x00, .retained, 0⟩,
  ⟨0x83, "Fleet outbox", .dom, .ro, 0, .all, .none, .any, 0x00, .volatile, 262144⟩,
  ⟨0x84, "Outbox write count", .u32, .ro, 0, .all, .none, .any, 0x00, .volatile, 0⟩,
  ⟨0x85, "Fleet delivery", .dom, .rw, 0, .all, .op, .any, 0x78, .volatile, 4096⟩,
  ⟨0x86, "Fleet delivery apply", .u8, .wo, 0, .ints [(1, 1)], .op, .none, 0x78, .volatile, 0⟩,
  ⟨0x87, "Fleet inbox", .dom, .ro, 0, .all, .none, .any, 0x00, .volatile, 262144⟩,
  ⟨0x88, "Inbox write count", .u32, .ro, 0, .all, .none, .any, 0x00, .volatile, 0⟩]

def rows2E00b : List Desc := [
  ⟨0x89, "Fleet age limit", .u16, .rw, 300, .ints [(10, 86400)], .maint, .any, 0x44, .stored, 0⟩,
  ⟨0x8A, "Fleet refusals", .u32, .ro, 0, .all, .none, .any, 0x00, .volatile, 0⟩]

def rows2E00 : List Desc := rows2E00a ++ rows2E00b

def rows2F00 : List Desc := [
  ⟨0x00, "Highest subindex", .u8, .const, 29, .all, .none, .any, 0x00, .volatile, 0⟩,
  ⟨0x01, "DEVICE credential", .dom, .const, 0, .all, .none, .opn, 0x00, .volatile, 352⟩,
  ⟨0x02, "Vendor anchor key", .dom, .const, 0, .all, .none, .any, 0x00, .volatile, 97⟩,
  ⟨0x03, "Anchor table", .dom, .rw, 0, .all, .maint, .any, 0x44, .volatile, 1408⟩,
  ⟨0x04, "Anchor apply", .u8, .wo, 0, .ints [(1, 1)], .maint, .none, 0x44, .volatile, 0⟩,
  ⟨0x05, "Member list", .dom, .rw, 0, .all, .maint, .any, 0x44, .volatile, 22528⟩,
  ⟨0x06, "Member list apply", .u8, .wo, 0, .ints [(1, 1)], .maint, .none, 0x44, .volatile, 0⟩,
  ⟨0x07, "Fleet signing public key", .dom, .ro, 0, .all, .none, .any, 0x00, .volatile, 97⟩,
  ⟨0x08, "Fleet agreement public key", .dom, .ro, 0, .all, .none, .any, 0x00, .volatile, 97⟩,
  ⟨0x09, "Revocation list", .dom, .rw, 0, .all, .maint, .any, 0x7C, .volatile, 1136⟩,
  ⟨0x0A, "Revocation apply", .u8, .wo, 0, .ints [(1, 1)], .maint, .none, 0x7C, .volatile, 0⟩,
  ⟨0x0B, "Apply failure entry", .u16, .ro, 65535, .all, .none, .any, 0x00, .volatile, 0⟩,
  ⟨0x10, "Signed command", .dom, .rw, 0, .all, .op, .any, 0x7C, .volatile, 2544⟩,
  ⟨0x11, "Signed command execute", .u8, .wo, 0, .ints [(1, 1)], .op, .none, 0x7C, .volatile, 0⟩,
  ⟨0x12, "Challenge", .dom, .ro, 0, .all, .none, .any, 0x00, .volatile, 32⟩,
  ⟨0x18, "Debug state", .u8, .rw, 0, .ints [(0, 0)], .vendor, .any, 0x40, .volatile, 0⟩,
  ⟨0x19, "Debug challenge", .dom, .ro, 0, .all, .none, .any, 0x00, .volatile, 48⟩,
  ⟨0x1A, "Debug response", .dom, .wo, 0, .all, .vendor, .none, 0x40, .volatile, 448⟩,
  ⟨0x1B, "Debug lock", .u32, .wo, 0, .ints [(1280262987, 1280262987)], .vendor, .none, 0x40, .volatile, 0⟩,
  ⟨0x1C, "Last refusal reason", .u8, .ro, 0, .all, .none, .any, 0x00, .volatile, 0⟩,
  ⟨0x1D, "Root status", .u8, .ro, 0, .all, .none, .any, 0x00, .volatile, 0⟩]

def rows3000 : List Desc := [
  ⟨0x00, "Highest subindex", .u8, .const, 14, .all, .none, .any, 0x00, .volatile, 0⟩,
  ⟨0x01, "Active version", .u32, .ro, 1, .all, .none, .any, 0x00, .retained, 0⟩,
  ⟨0x02, "Oldest version held", .u32, .ro, 1, .all, .none, .any, 0x00, .retained, 0⟩,
  ⟨0x03, "Working configuration differs", .bool, .ro, 0, .all, .none, .any, 0x00, .volatile, 0⟩,
  ⟨0x04, "Uncommitted writes", .u32, .ro, 0, .all, .none, .any, 0x00, .volatile, 0⟩,
  ⟨0x05, "Commit", .u8, .wo, 0, .ints [(1, 1)], .maint, .none, 0x44, .volatile, 0⟩,
  ⟨0x06, "Return", .u32, .wo, 0, .all, .any, .none, 0x04, .volatile, 0⟩,
  ⟨0x07, "Versions held", .u8, .ro, 1, .all, .none, .any, 0x00, .retained, 0⟩,
  ⟨0x08, "Return status", .u8, .ro, 0, .all, .none, .any, 0x00, .volatile, 0⟩,
  ⟨0x09, "Version directory", .dom, .ro, 0, .all, .none, .maint, 0x00, .volatile, 704⟩,
  ⟨0x0A, "Export", .dom, .ro, 0, .all, .none, .maint, 0x00, .volatile, 1048576⟩,
  ⟨0x0B, "Import", .dom, .rw, 0, .all, .maint, .any, 0x04, .volatile, 1048576⟩,
  ⟨0x0C, "Import apply", .u8, .wo, 0, .ints [(1, 1)], .any, .none, 0x04, .volatile, 0⟩,
  ⟨0x0D, "Failure entry", .u32, .ro, 4294967295, .all, .none, .any, 0x00, .volatile, 0⟩,
  ⟨0x0E, "Versions written since production", .u32, .ro, 1, .all, .none, .any, 0x00, .retained, 0⟩]

def rows3100 : List Desc := [
  ⟨0x00, "Highest subindex", .u8, .const, 14, .all, .none, .any, 0x00, .volatile, 0⟩,
  ⟨0x01, "Image", .dom, .rw, 0, .all, .maint, .any, 0x7E, .volatile, 134217728⟩,
  ⟨0x02, "Blocks received", .u32, .ro, 0, .all, .none, .any, 0x00, .retained, 0⟩,
  ⟨0x03, "Verify", .u8, .wo, 0, .ints [(1, 1)], .maint, .none, 0x7E, .volatile, 0⟩,
  ⟨0x04, "Update state", .u8, .ro, 0, .all, .none, .any, 0x00, .retained, 0⟩,
  ⟨0x05, "Arm command", .u8, .wo, 0, .ints [(1, 1), (2, 2), (3, 3), (4, 4), (5, 5)], .maint, .none, 0x7C, .volatile, 0⟩,
  ⟨0x06, "Activation time T_act", .u64, .rw, 0, .all, .maint, .any, 0x7C, .retained, 0⟩,
  ⟨0x07, "Commit mode", .u8, .rw, 0, .ints [(0, 0), (1, 1)], .maint, .any, 0x44, .stored, 0⟩,
  ⟨0x08, "Health time", .u16, .rw, 600, .ints [(60, 43200)], .maint, .any, 0x44, .stored, 0⟩,
  ⟨0x09, "Confirm", .u8, .wo, 0, .ints [(1, 1)], .maint, .none, 0x7C, .volatile, 0⟩,
  ⟨0x0A, "Health time elapsed", .u32, .ro, 0, .all, .none, .any, 0x00, .volatile, 0⟩,
  ⟨0x0B, "First missing offset", .u32, .ro, 0, .all, .none, .any, 0x00, .retained, 0⟩,
  ⟨0x0C, "Last result", .u8, .ro, 0, .all, .none, .any, 0x00, .volatile, 0⟩,
  ⟨0x0D, "Fallback count", .u32, .ro, 0, .all, .none, .any, 0x00, .retained, 0⟩,
  ⟨0x0E, "Delivered header", .dom, .ro, 0, .all, .none, .any, 0x00, .retained, 256⟩]

/-- The rows of the table at a (base) index. -/
def Dict.table (idx : Nat) : List Desc :=
  if idx = 0x1000 then rows1000
  else if idx = 0x1010 then rows1010
  else if idx = 0x1020 then rows1020
  else if idx = 0x1030 then rows1030
  else if idx = 0x1100 then rows1100
  else if idx = 0x1200 then rows1200
  else if idx = 0x1210 then rows1210
  else if idx = 0x1300 then rows1300
  else if idx = 0x1400 then rows1400
  else if idx = 0x1410 then rows1410
  else if idx = 0x2000 then rows2000
  else if idx = 0x2100 then rows2100
  else if idx = 0x2140 then rows2140
  else if idx = 0x2200 then rows2200
  else if idx = 0x2300 then rows2300
  else if idx = 0x2400 then rows2400
  else if idx = 0x2500 then rows2500
  else if idx = 0x2560 then rows2560
  else if idx = 0x2561 then rows2561
  else if idx = 0x2600 then rows2600
  else if idx = 0x2640 then rows2640
  else if idx = 0x2648 then rows2648
  else if idx = 0x2700 then rows2700
  else if idx = 0x2800 then rows2800
  else if idx = 0x2810 then rows2810
  else if idx = 0x2900 then rows2900
  else if idx = 0x2A00 then rows2A00
  else if idx = 0x2B00 then rows2B00
  else if idx = 0x2C00 then rows2C00
  else if idx = 0x2E00 then rows2E00
  else if idx = 0x2F00 then rows2F00
  else if idx = 0x3000 then rows3000
  else if idx = 0x3100 then rows3100
  else []

end Sys2Proof.Machine
end

