-- ==== Sys2Proof/Machine/Dict.lean ====
section
/-! DEFINITION. Finding an object in the dictionary (R315, R316): the row of its table for the channel, bank or
port it belongs to, and the default its store entry reads as when nothing has been written. -/

namespace Sys2Proof.Machine

/-- The base index whose table describes index `i`. -/
def Dict.baseIdx (i : Nat) : Nat :=
  if 0x2100 ≤ i && i ≤ 0x213F then 0x2100
  else if 0x2500 ≤ i && i ≤ 0x255F then 0x2500
  else if 0x2561 ≤ i && i ≤ 0x2564 then 0x2561
  else if 0x2600 ≤ i && i ≤ 0x263F then 0x2600
  else if 0x2640 ≤ i && i ≤ 0x2647 then 0x2640
  else if 0x2810 ≤ i && i ≤ 0x281F then 0x2810
  else if 0x2B00 ≤ i && i ≤ 0x2B07 then 0x2B00
  else i

/-- A subindex of a repeated block, moved to the first block: blocks of `step` subindices from `lo` to `hi`. -/
def Dict.fold (lo hi step s : Nat) : Nat := if lo ≤ s && s ≤ hi then lo + (s - lo) % step else s

/-- The row's subindex for subindex `s` of base index `b` (R77, R99, R131, R160, R161, R184, R267, R268, R293,
R294, R360, R398, R462). -/
def Dict.baseSub (b s : Nat) : Nat :=
  if b = 0x2140 then Dict.fold 0x10 0x8F 16 s
  else if b = 0x2200 then Dict.fold 0x80 0xFF 16 s
  else if b = 0x2300 then Dict.fold 0x50 0x8F 16 s
  else if b = 0x2400 then Dict.fold 0x40 0x5F 8 (Dict.fold 0x60 0x9F 16 (Dict.fold 0xA0 0xAF 8 s))
  else if b = 0x2500 then Dict.fold 0x20 0x5F 16 s
  else if b = 0x2700 then
    Dict.fold 0x20 0x27 1 (Dict.fold 0x28 0x2F 1 (Dict.fold 0x30 0x37 1 (Dict.fold 0x38 0x3F 1
      (Dict.fold 0x40 0x4F 1 (Dict.fold 0x50 0x5F 1 (Dict.fold 0x60 0xDF 8 s))))))
  else if b = 0x2800 then Dict.fold 0x20 0x27 1 s
  else if b = 0x2810 then
    Dict.fold 0x20 0x3F 1 (Dict.fold 0x40 0x5F 1 (Dict.fold 0x60 0x7F 1 (Dict.fold 0x80 0x9F 1 s)))
  else if b = 0x2900 then Dict.fold 0x20 0x5F 8 s
  else if b = 0x2C00 then Dict.fold 0x01 0x08 1 (Dict.fold 0x21 0x28 1 s)
  else if b = 0x2E00 then Dict.fold 0x20 0x7F 16 s
  else if b = 0x1210 then Dict.fold 0x10 0x17 1 (Dict.fold 0x18 0x1F 1 s)
  else s

def Dict.find (s : Nat) : List Desc → Option Desc
  | [] => none
  | d :: rest => if d.sub = s then some d else Dict.find s rest

/-- The class of output channel nn: true for class H (current limit 15 A), false for class M. -/
def outClassH (n : Nat) : Bool := decide (n < 16)

/-- The default configuration word of fault source `s` (R270, R274, R279, and the tables of the chapters that add
sources): bits 4:0 PIN CHIP BLK NMI INT, bits 9:8 escalation, bit 13 clear mode. -/
def srcDefault (s : Nat) : Nat :=
  if s = 0x000 then 0x2018
  else if s = 0x001 then 0x0008
  else if 0x005 ≤ s && s ≤ 0x008 then 0x0204
  else if s = 0x00A then 0x2012
  else if s = 0x013 then 0x0204
  else if s = 0x016 || (0x1F2 ≤ s && s ≤ 0x1F4) || s = 0x1F0 || s = 0x1F8 then 0x2011
  else 0x0001

/-- The index of a CAN port (R397). -/
def within2B (i : Nat) : Bool := decide (0x2B00 ≤ i) && decide (i ≤ 0x2B07)

/-- Where the default of a repeated object differs from its row: the output classes (R239), the PHY roles (R360),
the standby role of IMU3 (R160), the controllers in use (R397), the sources' configurations (R270, R293), the elements and spares of each pool
(R285, R294). -/
def Dict.dfltAt (i s : Nat) (d : Desc) : Nat :=
  if 0x2600 ≤ i && i ≤ 0x263F && !outClassH (i - 0x2600) then
    if s = 0x04 then 5000 else if s = 0x05 then 16000 else if s = 0x06 then 10 else d.dflt
  else if within2B i && s = 0x13 then i - 0x2B00
  else if i = 0x2E00 && 0x30 ≤ s && s ≤ 0x7F && s % 16 = 1 then 1
  else if i = 0x2400 && s = 0x58 then 1
  else if 0x2810 ≤ i && i ≤ 0x281F && 0x20 ≤ s && s ≤ 0x3F then srcDefault ((i - 0x2810) * 32 + (s - 0x20))
  else if i = 0x2900 && 0x20 ≤ s && s ≤ 0x5F && (s - 0x20) % 8 = 0 then
    [4, 4, 68, 256, 10, 26, 72, 4].getD ((s - 0x20) / 8) 0
  else if i = 0x2900 && 0x20 ≤ s && s ≤ 0x5F && (s - 0x20) % 8 = 1 then
    [1, 1, 4, 128, 2, 2, 8, 1].getD ((s - 0x20) / 8) 0
  else d.dflt

/-- The description of object idx.sub, for the objects the module itself defines; none where it holds no such
object (R315). -/
def Dict.desc (i s : Nat) : Option Desc :=
  match Dict.find (Dict.baseSub (Dict.baseIdx i) s) (Dict.table (Dict.baseIdx i)) with
  | none => none
  | some d =>
    if i = 0x2140 && 0x50 ≤ s && (s % 16 = 0 || s % 16 = 1) then
      some { d with acc := .rws, wrole := .auth, states := 0x44 }
    else some { d with dflt := Dict.dfltAt i s d }

/-- What the store entry of key `k` reads as when it is not listed. -/
def Dict.dflt (k : Nat) : Nat :=
  match Dict.desc (k / 256) (k % 256) with
  | none => 0
  | some d => d.dflt

end Sys2Proof.Machine
end

