-- ==== Sys2Proof/Machine/Tbl.lean ====
section
/-! DEFINITION. Sparse tables: a list of (key, value) pairs in one canonical form, the plain data that holds
the object store, the bulk contents and the per-channel records of State. -/

namespace Sys2Proof.Machine

/-- A sparse table: keys strictly rising, and no entry equal to what an unlisted key reads as. -/
abbrev Tbl (α : Type) := List (Nat × α)

/-- The value at key `k`; an unlisted key reads as `d`. -/
def Tbl.get {α : Type} (d : α) : Tbl α → Nat → α
  | [], _ => d
  | (j, v) :: rest, k => if k = j then v else Tbl.get d rest k

/-- Remove key `k`. -/
def Tbl.erase {α : Type} : Tbl α → Nat → Tbl α
  | [], _ => []
  | (j, v) :: rest, k => if k = j then Tbl.erase rest k else (j, v) :: Tbl.erase rest k

/-- Put `v` at key `k`, in key order. -/
def Tbl.insert {α : Type} : Tbl α → Nat → α → Tbl α
  | [], k, v => [(k, v)]
  | (j, w) :: rest, k, v =>
    if k < j then (k, v) :: (j, w) :: rest
    else if k = j then (k, v) :: rest
    else (j, w) :: Tbl.insert rest k v

/-- Write `v` at key `k`; writing what an unlisted key reads as removes the entry. -/
def Tbl.set {α : Type} [DecidableEq α] (d : α) (t : Tbl α) (k : Nat) (v : α) : Tbl α :=
  if v = d then Tbl.erase t k else Tbl.insert t k v

/-- Every key of the table lies above `k`. -/
def Tbl.above {α : Type} (k : Nat) : Tbl α → Bool
  | [] => true
  | (j, _) :: rest => decide (k < j) && Tbl.above k rest

/-- Keys strictly rising. -/
def Tbl.rising {α : Type} : Tbl α → Bool
  | [] => true
  | (j, _) :: rest => Tbl.above j rest && Tbl.rising rest

/-- No entry equals what its key reads as when unlisted. -/
def Tbl.sparse {α : Type} [DecidableEq α] (d : Nat → α) : Tbl α → Bool
  | [] => true
  | (j, v) :: rest => decide (v ≠ d j) && Tbl.sparse d rest

/-- The canonical form, for a table whose unlisted keys read as `d`. -/
def Tbl.wf {α : Type} [DecidableEq α] (d : Nat → α) (t : Tbl α) : Bool :=
  Tbl.rising t && Tbl.sparse d t

/-- Apply `f` at key `k`. -/
def Tbl.modify {α : Type} [DecidableEq α] (d : α) (t : Tbl α) (k : Nat) (f : α → α) : Tbl α :=
  Tbl.set d t k (f (Tbl.get d t k))

end Sys2Proof.Machine
end

