-- ==== Sys2Proof/Machine/State.lean ====
section
/-! DEFINITION. The state of the block as plain data, the reasons a step can stop, and the state after reset. -/

namespace Sys2Proof.Machine

open Sys2Proof

/-- No command of the table ends in a fault: the spec gives every one of them an effect, and a request the module
turns away is a next state that carries the refusal's status code. The type has no constructor. -/
inductive Fault where
  deriving DecidableEq, Repr

/-- Why a command has no meaning. -/
inductive Refusal where
  /-- Raised by an arm of exec whose command has not been modelled. Safe: the model stops where the block goes on. -/
  | notModelled (mnemonic : String)
  deriving DecidableEq, Repr

/-- Module time and its discipline beside the objects of 0x2000 (R30 to R46). -/
structure TimeSt where
  /-- MT in ns, the fraction accumulator in units of 2⁻³² ns, the schedule counter s (R31, R32). -/
  mt : Nat
  frac : Nat
  sched : Nat
  /-- The settings 0x2000.06 and 0x2000.0A to 0x2000.17 as of the last second boundary (R48). -/
  conf : Tbl Nat
  /-- Consecutive seconds with and without a valid own solution, with network time, and with no source (R37). -/
  good : Nat
  bad : Nat
  netGood : Nat
  noneRun : Nat
  /-- The newest own solution: phase error in ns, frequency error in 10⁻¹², uncertainty in ps; the frequency uncertainty
  of c in 10⁻¹²; whether that second was valid; whether it needs a correction beyond the limit (R29, R38, R39). -/
  solB : Int
  solD : Int
  solUnc : Nat
  sigf : Nat
  solOk : Bool
  overRate : Bool
  /-- The same from the network: synchronised to a grandmaster of clockClass 6 or 7 (R37, R45). -/
  netOk : Bool
  netB : Int
  netD : Int
  netUnc : Nat
  /-- 1 + MT of the last synchronisation. -/
  netAt : Nat
  /-- E in fs; E grows since a second without a solution; seconds in HOLDOVER and UNQUALIFIED (R39, R37). -/
  errFs : Nat
  growing : Bool
  hold : Nat
  slewing : Bool
  /-- A step decided and not applied: its size −b and the second the stepped pulse marks (R40). -/
  step : Option (Int × Nat)
  /-- The second of a stepped pulse that has not been emitted, applied or not. -/
  stepPulse : Option Nat
  /-- G_OFF has stepped since CAL_OFF was recomputed. -/
  stepCal : Bool
  /-- The last second a pulse marked; MT of the next on-time edge; a report is out whose pulse has not come (R42). -/
  lastSec : Int
  nextMt : Nat
  reported : Bool
  /-- PPS_OUT stands at its active level (R41). -/
  pps : Bool
  deriving DecidableEq, Repr

/-- A partition's doorbell page and its commits (R18, R22, R23, the table of the local command port). -/
structure PartSt where
  cmdBase : Nat
  cmdSize : Nat
  cmdTail : Nat
  cmdHead : Nat
  rspBase : Nat
  rspSize : Nat
  rspHead : Nat
  rspTail : Nat
  irqEnable : Nat
  irqStatus : Nat
  /-- Address of the newest checkpoint record, and of the one whose store runs. -/
  ckpt : Nat
  ckptBusy : Option Nat
  /-- Commits since tick 0; commits that stood at tick 0 and are not taken; frames since the last commit; in the timeout
  hold of R23. -/
  commits : Nat
  ready : Nat
  idle : Nat
  timedOut : Bool
  /-- Larkspur holds the loops until this partition's first commit after its pair failed (R18); the timeout count is
  paused until then. -/
  resumeHold : Bool
  /-- The pair has failed and the partition has not resumed. -/
  down : Bool
  deriving DecidableEq, Repr

/-- An input channel beside its objects (R53 to R75). -/
structure ChanSt where
  /-- SETTLING, the blocks it has still to carry, and the blocks that the block now being taken starts (R74). -/
  settling : Bool
  settleLeft : Nat
  newSettle : Nat
  /-- The filter's y in units of 2⁻¹⁶ of the VALUE unit; none until the first valid x (R53). -/
  y : Option Int
  /-- The burden is disconnected (R64). -/
  protect : Bool
  /-- Consecutive blocks below, above and within the diagnostic limits, and the faults they set (R63). -/
  lowRun : Nat
  highRun : Nat
  okRun : Nat
  diagLow : Bool
  diagHigh : Bool
  /-- Faults of the resistive checks (R64). -/
  resLow : Bool
  resHigh : Bool
  /-- COUNT, the stamp of the latest selected edge, the reference edge and the frequency in edges per ns (R57, R58). -/
  count : Nat
  tN : Nat
  hasRef : Bool
  tRef : Nat
  nRef : Nat
  fNum : Int
  fDen : Nat
  /-- Level of the comparator, and the debounced state (R56, R59, R60). -/
  line : Bool
  dig : Bool
  /-- Selected edges of the open block, their last 8 stamps oldest first, an illegal transition in it (R57, R59). -/
  edges : Nat
  stamps : List Nat
  quadErr : Bool
  /-- The same of the sealed block, with COUNT and the latest stamp at the Seal tick. -/
  sealEdges : Nat
  sealStamps : List Nat
  sealQuad : Bool
  sealCount : Nat
  sealTN : Nat
  /-- EDGE_TIME's stamp and SAMPLES as published (R20). -/
  edgeTime : Nat
  samples : Nat
  /-- A converter disagreement was decided in the open block; in the sealed block (R54, R71). -/
  suspect : Bool
  sealSuspect : Bool
  /-- The channel's own converter is decided failed (R69, R70); disagreements in a row; 1 + MT of the last discarded
  conversion, 0 for none. -/
  failed : Bool
  disagree : Nat
  lastBad : Nat
  deriving DecidableEq, Repr

/-- A sensor supply beside its objects (R65 to R67): retries since regulation, frames of agreement still wanted. -/
structure SupSt where
  retries : Nat
  agree : Nat
  pulseMt : Nat
  deriving DecidableEq, Repr

/-- Inputs and supplies; `shadow` holds, per group, the channel its spare shadows now (R69). -/
structure InSt where
  chans : Tbl ChanSt
  sups : Tbl SupSt
  shadow : Tbl Nat
  block : List ChBlock
  deriving DecidableEq, Repr

/-- A receiver channel (R107, R112, R113, R119, R144). State 0 IDLE, 1 SEARCH, 2 VERIFY, 3 PULL_IN, 4 TRACK, 5 COAST,
6 REACQ; mode 0 SCALAR, 1 ASSISTED, 2 VECTOR. Each `…At` is 1 + the MT since which a condition has held, 0 for not. -/
structure RxChan where
  state : Nat
  sat : SvSig
  mode : Nat
  codeOnly : Bool
  since : Nat
  lockAt : Nat
  slip : Bool
  half : Bool
  cn0 : Nat
  pli : Int
  lowAt : Nat
  pliLowAt : Nat
  goodAt : Nat
  lostAt : Nat
  recAt : Nat
  pli8At : Nat
  /-- The newest aiding set, its reference instant and 1 + the MT of its arrival, and Yarrow's EXCLUDE (R113, R144). -/
  aid : Option AidSet
  tA : Nat
  aidAt : Nat
  yExclude : Bool
  fNco : F64
  codeRate : F64
  /-- The dump that showed a mismatch is invalid (R127). -/
  badDump : Bool
  /-- Failed checks, bits 0 POWER, 1 AOA, 2 MULTIPEAK, 3 KINEMATIC, 4 CLOCK; 1 + MT of the last failure; second peaks in
  a row; C/N0 of the last 10 s at 100 ms (R118, R119). -/
  fails : Nat
  failAt : Nat
  peaks : Nat
  cnHist : List Nat
  /-- Yarrow's last 10 innovation tests, newest first, true for a failure, and 1 + MT of the last one (R144). -/
  tests : List Bool
  testAt : Nat
  deriving DecidableEq, Repr

/-- Work for an acquisition engine (R109): kind 0 REACQ window, 1 handover, 2 directed search, 3 cold sweep; the place
in the cold-sweep list; the MT at which it fell due; the channel of a REACQ window. -/
structure AcqItem where
  kind : Nat
  order : Nat
  due : Nat
  sat : SvSig
  ch : Option Nat
  deriving DecidableEq, Repr

/-- An engine at work: its item, its channel, and whether it verifies. -/
structure AcqWork where
  item : AcqItem
  ch : Nat
  verify : Bool
  deriving DecidableEq, Repr

/-- A notch in use: its interferer, centre, width in Hz, power, MT at which it was last seen. -/
structure Notch where
  id : Nat
  centre : Int
  width : Nat
  power : Int
  seen : Nat
  deriving DecidableEq, Repr

/-- An RF chain beside its status block (R114 to R117). -/
structure RfChain where
  overRun : Nat
  underRun : Nat
  /-- Interferers of the last detector epoch, by identity. -/
  lastSeen : List Nat
  notches : List (Option Notch)
  severeAt : Nat
  calmAt : Nat
  limitAt : Nat
  okAt : Nat
  agcHist : List Nat
  deriving DecidableEq, Repr

/-- A correction epoch being gathered (R124): the station, MT of the first message, complete, after a change. -/
structure CorrEpoch where
  station : Nat
  first : Nat
  complete : Bool
  change : Bool
  deriving DecidableEq, Repr

/-- Sunflower beside its objects (R100 to R131). -/
structure RxSt where
  chans : Tbl RxChan
  engines : List (Option AcqWork)
  work : List AcqItem
  rf : List RfChain
  /-- Antenna feeds that are switched on (R102). -/
  feedOn : Nat
  /-- Stored ephemerides: satellite (system × 256 + number) and MT (R109, R110). -/
  eph : List (Nat × Nat)
  hot : Bool
  /-- GNSS time of the last epoch formed, EPOCH_SEQ, the step count and bank swaps since (R120, R121). -/
  epochTime : Int
  epochSeq : Nat
  stepSeen : Nat
  bankSwap : Bool
  /-- Running byte count of the NMEA stream and its last bytes (R122). -/
  nmeaCount : Nat
  nmea : List Byte
  /-- RTCM bytes not yet framed; the epoch being gathered; MT and age in 0.1 s of the last one passed (R123, R124). -/
  rtcm : List Byte
  corr : Option CorrEpoch
  corrAt : Nat
  corrAge : Nat
  corrCarrier : Bool
  /-- 1 + MT since which no aiding set has arrived in an episode that raised GNSS_AID (R113). -/
  aidEpisode : Bool
  /-- The rate the last time solution implied (R118). -/
  lastNeed : Option Int
  deriving DecidableEq, Repr

/-- A speed source beside its objects (R139 to R143): its present reading, its last two selected edges with COUNT at
the last, sample instant, and since when it reads 0 alone, agrees with the published speed. -/
structure SpeedSrc where
  v : Option F32
  tLast : Nat
  tPrev : Nat
  /-- COUNT at the last edge, the edges from tPrev to tLast, COUNT has fallen. -/
  cnt : Nat
  span : Nat
  neg : Bool
  noEdgeAt : Nat
  agreeAt : Nat
  cause : Nat
  deriving DecidableEq, Repr

/-- A sensor's samples: the second under way, and the last ten, newest first, as (samples, late) (R153). -/
structure LateCount where
  cur : Nat
  late : Nat
  hist : List (Nat × Nat)
  deriving DecidableEq, Repr

/-- A navigation solution as issued (R157, R158). -/
structure NavSol where
  seq : Nat
  mt : Nat
  lat : Int
  lon : Int
  height : Int
  heading : F32
  gs : F32
  sigH : F32
  roll : F32
  pitch : F32
  flags : Nat
  bytes : List Byte
  deriving DecidableEq, Repr

/-- Yarrow beside its objects (R132 to R161). -/
structure NavSt where
  est : NavEst
  /-- The settings of 0x2400 as of the last 1 ms boundary (R159). -/
  conf : Tbl Nat
  /-- Ground speed, its σ and the yaw rate as published (R155, R157). -/
  pubGs : F32
  pubSig : F32
  pubYaw : F32
  /-- 1 + MT since which the machine stands still, drives straight; of the start of alignment; of the newest snapshot
  (R150, R151). -/
  stillAt : Nat
  straightAt : Nat
  alignAt : Nat
  snapAt : Nat
  /-- Frames since fusion was enabled (R133). -/
  frames : Nat
  /-- Per IMU the bias-corrected axes of its newest sample and 1 + its MT. -/
  imu : List (List F32)
  imuAt : List Nat
  /-- 1 + MT since which two units contradict on an axis (pair × 6 + axis); since which a unit agrees with the voted
  value, and two units agree on every axis (R136 to R138). -/
  contra : Tbl Nat
  unitAgree : Tbl Nat
  pairAgree : Tbl Nat
  voted : List (Option F32)
  noInertial : Bool
  /-- Speed sources: 0 GNSS, 1 to 4 wheels, 5 and 6 external; contradictions and agreements of pairs (a × 8 + b). -/
  speed : List SpeedSrc
  spContra : Tbl Nat
  spAgree : Tbl Nat
  zeroUpd : Bool
  gsFrame : Nat
  /-- Speed limits and satellites: 1 + MT since GS_STATE is INERTIAL_ONLY; of the last satellite update; of entry to DR. -/
  inertAt : Nat
  satAt : Nat
  drAt : Nat
  drNone : Bool
  sats : Nat
  nFix : Nat
  /-- Solution type inputs (R147): ambiguities fixed, carrier corrections, code corrections applied. -/
  fixed : Bool
  carrier : Bool
  code : Bool
  ambAt : Nat
  /-- Heading: 1 + MT of the last acceptance, of the first, since which the length disagrees (R148, R149, R154). -/
  headAt : Nat
  headRun : Nat
  lengthAt : Nat
  headInertial : Bool
  /-- Late samples (R151, R152): a re-propagation runs; further ones wait; the next solution carries REPROPAGATED. -/
  repro : Bool
  reproWait : List LateSample
  reproFlag : Bool
  late : List LateCount
  degraded : Nat
  stationChange : Bool
  ring : List NavSol
  /-- The newest solution's 128 bytes await Publish. -/
  fresh : Bool
  deriving DecidableEq, Repr

/-- A loss sensor beside its objects (R81 to R85). Times in µs of the sensor's own sample count. -/
structure LossSt where
  isOpen : Bool
  t0 : Nat
  peak : Nat
  tPk : Nat
  tLast : Nat
  tClose : Option Nat
  zc : Nat
  neg : Bool
  quiet : Nat
  fell : Bool
  /-- Per frame, newest first: kernels, impacts, NOISE impacts, included. -/
  hist : List (Nat × Nat × Nat × Bool)
  /-- Frames in a row without an impact while one was due; free of QUIET's condition, of NOISY's. -/
  quietRun : Nat
  quietFree : Nat
  noisyFree : Nat
  deriving DecidableEq, Repr

/-- A cut interval that is open (R90). -/
structure CutInt where
  a : Nat
  b : Nat
  area : Q
  speedSum : Q
  speedN : Nat
  cut : Bool
  cutFirst : Option Bool
  partialCut : Bool
  width : Nat
  wet : Q
  dry : Q
  incl : Nat
  moist : Q
  moistN : Nat
  loss0 : Q
  loss1 : Q
  lossBad : Bool
  elevStop : Bool
  calChanged : Bool
  moistStd : Bool
  deriving DecidableEq, Repr

/-- The crop measurement engine beside its objects (R78 to R99). -/
structure CropSt where
  loss : List LossSt
  /-- Sample clock of the detectors, µs. -/
  clock : Nat
  /-- Wet and dry mass flow, plate force after zero, elevator frequency (R86, R89). -/
  q : F32
  qDry : F32
  plate : F32
  elevFreq : F32
  /-- Frames in a row that flow includes; with the flow input invalid while cutting. -/
  inclRun : Nat
  flowBad : Nat
  zeroSum : Int
  zeroN : Nat
  /-- M, full frames in a row, frames of this fill that gave M, frames since a full one; MOIST_VALID has been set. -/
  m : F32
  fullRun : Nat
  fillRun : Nat
  noFull : Nat
  moistEver : Bool
  /-- L_g, and the normalised rates as the image shows them (R84). -/
  loss0 : F32
  loss1 : F32
  area0 : F32
  area1 : F32
  pct0 : F32
  pct1 : F32
  /-- Frames in a row whose ground speed was stale (R94). -/
  staleRun : Nat
  cuts : List CutInt
  /-- The yield buffer: SEQ mod 2²⁰ to the 64 bytes as one number (R93). -/
  yields : Tbl Nat
  lastSeq : Nat
  /-- Area added to the totals below 1 m², in cm². -/
  areaRest : Nat
  deriving DecidableEq, Repr

/-- A test that runs on a slot (R191 to R194): its injection point, the effective state it started in, who started it,
the evaluations so far, the PRBS register and its output bit. -/
structure TestRun where
  point : Nat
  eff : Nat
  who : Who
  n : Nat
  reg : Nat
  out : Bool
  deriving DecidableEq, Repr

/-- A loop slot beside its objects (R162 to R194). Commanded state 1 OPEN, 2 CLOSED, 3 HOLD; `conds` gives each
active cause its order of arising (R174); `bad…` is the frame in which a source was first found invalid. -/
structure SlotSt where
  cmd : Nat
  conds : Tbl Nat
  trip : Nat
  sum : F64
  ic : F32
  d : F32
  mPrev : F32
  uPrev : F32
  out : F32
  /-- Output of the last evaluation before this one (R190). -/
  pre : F32
  dead : Bool
  closing : Bool
  started : Bool
  y : F32
  yv : Option F32
  e : F32
  xff : F32
  x0 : F32
  spn : F32
  badFb : Option Nat
  badSp : Option Nat
  /-- The CMD byte of the frame before; object commands with whether they clear a trip, of this and of the next frame;
  a mapped bank selection; the bank in force and the Ki it had at its last use (R173, R178). -/
  prevCmd : Nat
  cmds : List (Nat × Bool)
  cmdsNow : List (Nat × Bool)
  mapSel : Option Nat
  bank : Nat
  kiUsed : F32
  /-- Evaluations with a following error beyond E_max (R189). -/
  nFe : Nat
  test : Option TestRun
  testReq : Option Who
  testNow : Option Who
  testStop : Nat
  deriving DecidableEq, Repr

/-- A capture buffer beside its objects (R195 to R198): rows oldest first, as (frame, MT of tick 3,500, values). -/
structure CapSt where
  rows : List (Nat × Nat × List F32)
  /-- F_arm; armed since the last tick 0. -/
  fArm : Nat
  prev : Option F32
  forced : Bool
  /-- The trigger slot has started a test, has tripped, since ARMED. -/
  evTest : Bool
  evTrip : Bool
  trigRow : Nat
  flags : Nat
  deriving DecidableEq, Repr

/-- Larkspur beside its objects (R162 to R201). `loads` holds what each driven channel was last given: slot, duty and
current reference. -/
structure LarkSt where
  slots : Tbl SlotSt
  seq : Nat
  dev : Nat
  /-- Consecutive frames with STALE_NAV. -/
  staleRun : Nat
  loads : Tbl (Nat × Nat × Option Int)
  caps : List CapSt
  deriving DecidableEq, Repr

/-- An output channel beside its objects (R202 to R236). `st` is 0 OFF, 1 ON, 2 WAIT, 3 LATCHED, 4 GROUP_OFF; a link
hold stands over it. Each `…At` is 1 + MT, 0 for not. -/
structure OutChan where
  /-- CURRENT in mA in a frame with a sense result; the filter's value in units of 2⁻¹⁶ mA (R213, R214). -/
  cur : Option Int
  filt : Option Int
  st : Nat
  /-- In WAIT when the group went off (R228). -/
  wasWait : Bool
  /-- The duty loaded, and the one of the load before (R13, R209). -/
  duty : Nat
  prevDuty : Nat
  /-- The die sees the permission line asserted (R232). -/
  perm : Bool
  /-- Conducting (R207); since when no on-time; opening of the inrush window; end of the last one (R216, R223). -/
  cond : Bool
  noOnAt : Nat
  winAt : Nat
  winEnd : Nat
  /-- In the recovery phase; since when conducting without a trip (R223, R226). -/
  recov : Bool
  goodAt : Nat
  /-- Expiry of the retry timer; what was left of it when THERMAL_LATCH paused it; a restart waits (R226, R227). -/
  retryAt : Nat
  retryLeft : Nat
  restart : Bool
  latch : Bool
  lsOpen : Bool
  limiting : Bool
  openLoad : Bool
  supShort : Bool
  refDev : Bool
  cellFault : Bool
  /-- Counted frames in a row below and at 1.2 times the open-load threshold, beyond and within the deviation limit. -/
  lowN : Nat
  highN : Nat
  devN : Nat
  okN : Nat
  /-- 1 + MT of the end of the last dark pulse (R220, R223). -/
  darkEnd : Nat
  iref : Option Int
  /-- The last direct command taken outside SAFE_HOLD, as a duty (R206). -/
  lastDirect : Nat
  missing : Bool
  deriving DecidableEq, Repr

/-- A supply group beside its objects (R214, R228, R229, R234, R475). -/
structure GrpSt where
  missRun : Nat
  okRun : Nat
  got : Bool
  senseBad : Bool
  /-- The die is in link hold; frames in a row without a Load transfer; one has come in this frame. -/
  hold : Bool
  noLoad : Nat
  loaded : Bool
  /-- The guard has turned the group off; its channels stand off; those still to restart; 1 + MT of the last restart. -/
  guard : Bool
  off : Bool
  queue : List Nat
  restartAt : Nat
  /-- Sum and number of the group currents since the last estimate; the means of the last ten; OVERLOAD. -/
  sum : Nat
  n : Nat
  means : List Nat
  overload : Bool
  deriving DecidableEq, Repr

/-- The output timing unit and the switch dies; `frames` counts from the first frame after power-up or wake (R208). -/
structure OutSt where
  chans : Tbl OutChan
  grps : Tbl GrpSt
  frames : Nat
  /-- 1 + MT since which the dissipation estimate has exceeded the budget (R229). -/
  overAt : Nat
  deriving DecidableEq, Repr

/-- A safety input beside its objects (R247): consecutive failures of its own check and of each foreign one,
consecutive passed checks. -/
structure FoxIn where
  own : Nat
  cross : Tbl Nat
  passes : Nat
  deriving DecidableEq, Repr

/-- An input pair (R247, R249): 0 healthy, 1 demand, 2 DISCREPANCY; 1 + MT at which T_disc started, 0 while it does not
run; the pair is returning; which input left first; 1 + MT at which that input came back before the other had followed;
a fault awaits a reset. -/
structure FoxPair where
  st : Nat
  first : Nat
  returning : Bool
  which : Nat
  back : Nat
  hold : Bool
  deriving DecidableEq, Repr

/-- A safety function: its state, and 1 + MT of its entry to STOPPING (R250). -/
structure FoxFn where
  st : Nat
  stopAt : Nat
  deriving DecidableEq, Repr

/-- What Foxglove reported at the last Exchange phase that reached the system die (R256): for each function whether
its inputs demand and whether they carry a fault; dark-pulse fault mask; state; an accepted reset by its input. -/
structure FoxRep where
  demand : Nat
  fault : Nat
  dark : Nat
  inhibit : Nat
  state : Nat
  resets : Nat
  deriving DecidableEq, Repr

/-- A staged safety profile (R261, R432): every RWS value, its version, who opened it and with which credential, the
first signer and 1 + MT of the signature, and the version it returns to. -/
structure StagedProf where
  vals : Tbl Nat
  ver : Nat
  opener : Who
  serial : Nat
  signer : Nat
  signerKey : List Byte
  signedAt : Nat
  ret : Option Nat
  deriving DecidableEq, Repr

/-- Foxglove beside its objects (R237 to R268), and the processor path's own copy of each function (R257). -/
structure FoxSt where
  /-- The PERMIT mask of the last Exchange phase (R17); the permission lines as they stand (R244). -/
  reported : Nat
  lines : Nat
  /-- The profile that Foxglove holds: the RWS values (R263). -/
  prof : Tbl Nat
  ins : Tbl FoxIn
  pairs : List FoxPair
  fns : List FoxFn
  pfns : List FoxFn
  /-- Expected mask as the processor path has it (R257). -/
  rep : FoxRep
  /-- Resets accepted since the last Exchange phase, by input. -/
  resets : Nat
  /-- Consecutive failures of each supply check; supplies on their trial check (R248). -/
  supFails : Tbl Nat
  supTrial : Nat
  /-- Demand request and withdraw request in force; functions in demand with cause SEAL (R255, R260, R262). -/
  demand : Nat
  withdraw : Nat
  sealAll : Bool
  sealDiff : Nat
  /-- 1 + MT at which a cause of SAFE last stood; exchanges that mismatch, are missing, agree, in a row (R256, R258). -/
  causeAt : Nat
  mism : Nat
  miss : Nat
  agree : Nat
  tbBad : Bool
  chipHeld : Bool
  profDiff : Bool
  /-- Foxglove's supply is up; its self-test has passed since (R263). -/
  alive : Bool
  powered : Bool
  /-- The switches as last read, 1 + MT since which they read so, a reading has been accepted (R260, R262). -/
  sealRaw : Nat
  sealAt : Nat
  sealOk : Bool
  /-- Consecutive unconfirmed and failed dark pulses of each channel; LS_FAIL mask; test position of each group
  (R253, R254). -/
  unconf : Tbl Nat
  susp : Tbl Nat
  inhibit : Nat
  rot : Tbl Nat
  snsRun : Nat
  staged : Option StagedProf
  /-- A committed profile on its way: its values, its version, blocks left (R262). -/
  xfer : Option (Tbl Nat × Nat × Nat)
  /-- The version of a change that a reset or a power-down discarded: START writes its record (R261). -/
  lostChange : Option Nat
  deriving DecidableEq, Repr

/-- An entry of a CAN object table (R370). -/
structure CanObj where
  id : Nat
  mask : Nat
  kind : Nat
  format : Nat
  len : Nat
  queue : Nat
  mapOff : Nat
  trigger : Nat
  owner : Nat
  period : Nat
  phase : Nat
  inhibit : Nat
  deriving DecidableEq, Repr

/-- An unused entry. -/
def CanObj.reset : CanObj := ⟨0, 0, 0, 0, 0, 0, 0, 0, 0, 0, 0, 0⟩

/-- A message object's run-time state (R373, R376, R380, R398). -/
structure CanObjSt where
  frames : Nat
  fresh : Bool
  lost : Bool
  lostAsm : Bool
  timeout : Bool
  never : Bool
  foreign : Bool
  lostCount : Nat
  coll : Nat
  lastId : Nat
  data : List Byte
  lastAt : Nat
  consumed : Bool
  /-- Countdown of CYCLIC in frames, while due-capable; data and REQUEST byte last queued; 1 + MT of it; waits for
  INHIBIT. -/
  cd : Option Nat
  qData : List Byte
  qReq : Nat
  qAt : Nat
  want : Bool
  deriving DecidableEq, Repr

/-- An instance in a transmit queue: of an object, or a frame of the module's own (R378). `kind` is 0 object, 1 time
reference, 2 ISO 11783, 3 UCP, 4 an ISO single frame of R390, 5 the last packet of a BAM. -/
structure TxInst where
  queue : Nat
  obj : Option Nat
  kind : Nat
  id : Nat
  fdf : Bool
  brs : Bool
  data : List Byte
  deriving DecidableEq, Repr

/-- A transport session of the ISO 11783 engine (R389): sending or receiving, ETP, broadcast, the peer, the PGN,
priority, total length, the data, packets done, the packet up to which the present grant runs, the packet before its first
one in ETP, MT of its last packet, and the time in ns after which it times out. -/
structure TpSess where
  tx : Bool
  etp : Bool
  bam : Bool
  peer : Nat
  pgn : Nat
  prio : Nat
  total : Nat
  data : List Byte
  next : Nat
  grant : Nat
  off : Nat
  at_ : Nat
  lim : Nat
  deriving DecidableEq, Repr

/-- A CAN port beside its objects (R362 to R398). -/
structure PortSt where
  tbl : Tbl CanObj
  objs : Tbl CanObjSt
  /-- A table that takes effect at tick 0 of the next frame (R371). -/
  newTbl : Option (List Byte)
  queue : List TxInst
  /-- The instance that is offered first after a bus-off or a swap (R382, R392). -/
  first : Option TxInst
  /-- Bit timing in force: 0x2Bpp.02 to 0x2Bpp.0C (R366). -/
  timing : List Nat
  /-- 1 + MT of the entry to join check; errors seen in it (R383). -/
  joinAt : Nat
  joinErr : Bool
  dueOn : Bool
  log : Tbl (List Byte)
  /-- Time master: T of the previous reference message, its number, frames to the next (R385). -/
  refPrev : Option Nat
  refSeq : Nat
  refLeft : Nat
  /-- Time slave: the number and stamp of the last reference message, 1 + MT of the last valid pair (R386). -/
  stamp : Option (Nat × Nat)
  pairAt : Nat
  /-- Addresses and NAMEs heard; 1 + MT of the claim that is running; a Cannot Claim waits (R388). -/
  heard : List (Nat × Nat)
  claimAt : Nat
  cannot : Bool
  sess : List TpSess
  /-- The address that is being claimed or held; the reason an ISO transmission ended with, 0 for done (R388, R390). -/
  claimSa : Nat
  isoEnd : Option Nat
  /-- Errors without a valid frame for 500 ms (R383). -/
  rate : Bool
  /-- Port mode, time role and ISO engine as in force since tick 0 (R396). -/
  mode : Nat
  role : Nat
  iso : Bool
  /-- The claim restarts at tick 0 (R388). -/
  reclaim : Bool
  deriving DecidableEq, Repr

/-- The CAN controllers beside their objects: receive map bytes and the fresh ones among them (R374), the ports that
the spares shadow, since when (R391), and per controller the MT of its last differences. -/
structure CanSt where
  rxMap : Tbl Nat
  rxFresh : Tbl Nat
  ports : Tbl PortSt
  shadow : List (Nat × Nat)
  diffs : Tbl Nat
  deriving DecidableEq, Repr

/-- A Sync with its Follow_Up as sent (R45, R46): port, the gPTP time in ns, currentUtcOffset in s, the time base indicator,
and the phase change where it is the first after a step. -/
structure GptpSync where
  port : Nat
  time : Int
  utc : Nat
  timeBase : Nat
  change : Option Int
  deriving DecidableEq, Repr

/-- gPTP (R45, R46): the port toward a better grandmaster, its clock (priority1, clockClass, rest, identity) and MT of its
last Announce; gmTimeBaseIndicator, the newest step and the ports whose next Sync carries it; link delays in ns; the newest
Sync sent; the newest peer-delay answer, by port. -/
structure GptpSt where
  slave : Option Nat
  gm : Nat × Nat × Nat × Nat
  gmAt : Nat
  timeBase : Nat
  change : Int
  mark : Nat
  delay : Tbl Nat
  sync : Option GptpSync
  answer : Option (Nat × Nat)
  deriving DecidableEq, Repr

/-- The Ethernet switch beside its objects (R352 to R354): learned addresses (address, port, MT), addresses heard in
TEST frames with MT, own TEST number, 1 + MT of the last own TEST frame back, ETH_B blocked, ring ports blocked until
CLOSED, broadcast frames passed in this second by port, 1 + MT of the last announce with this module's address. -/
structure EthSt where
  learn : List (Nat × Nat × Nat)
  heard : List (Nat × Nat)
  seq : Nat
  ownAt : Nat
  blockB : Bool
  wait : Nat
  bcast : Tbl Nat
  bcastSec : Nat
  dupAt : Nat
  /-- MT of the last ANNOUNCE (R351). -/
  annAt : Nat
  /-- The device state the last ANNOUNCE showed. -/
  annDev : Nat
  /-- The newest frame forwarded: egress ports and class; the newest own ring frames: port, kind, number; the newest ICMPv6
  answer: port, address, type, data (R334, R353, R354). -/
  fwd : List (Nat × Nat)
  ringTx : List (Nat × Nat × Nat)
  icmp : Option (Nat × Nat × Nat × List Byte)
  gp : GptpSt
  deriving DecidableEq, Repr

/-- A configuration version (R427 to R429): every stored value and staged table by key, and its profile. -/
structure Ver where
  num : Nat
  parent : Nat
  layout : Nat
  origin : Nat
  mt : Nat
  cred : Nat
  vals : Tbl Nat
  blobs : Tbl (List Byte)
  prof : Tbl Nat
  profVer : Nat
  deriving DecidableEq, Repr

/-- Configuration beside its objects (R426 to R434): the versions held, a return or import that waits for its second
party, one that loads at tick 0 of the next frame. -/
structure CfgSt where
  vers : List Ver
  waiting : Option Ver
  load : Option Ver
  deriving DecidableEq, Repr

/-- A part of a firmware slot (R435, R436): its type and version, and from the header page of the image that brought it the
class, the origin, SECVER, the layouts admitted and VERSION. -/
structure ImgPart where
  typ : Nat
  ver : Nat
  cls : Nat
  origin : Nat
  secver : Nat
  lmin : Nat
  lmax : Nat
  img : Nat
  deriving DecidableEq, Repr

/-- A firmware slot: holds a verified set; its parts (R436). -/
structure FwSlot where
  valid : Bool
  parts : List ImgPart
  deriving DecidableEq, Repr

/-- Update beside its objects (R435 to R445): the delivery's blocks by number, starts of the trial, MT spent healthy in
ns, an activation asked for at the next frame, the trial has failed, this START booted the fallback slot. -/
structure UpdSt where
  blocks : Tbl (List Byte)
  slots : List FwSlot
  starts : Nat
  health : Nat
  now : Bool
  failed : Bool
  fallback : Bool
  deriving DecidableEq, Repr

/-- Power, pins and state changes beside the objects (R452 to R489). -/
structure PwrSt where
  /-- VL is present: its bypass has closed (R472). -/
  up : Bool
  /-- MT at which the present START began; its power cycle has begun and the POWER_UP record is not written; its steps are
  done; the state before it and the cause whose STATE record follows POWER_UP (R301, R452, R457). -/
  startAt : Nat
  opening : Bool
  ran : Bool
  chg : Option (Nat × Nat)
  /-- No slot verifies, or the root fails: START does not go on (R400, R415). -/
  bootHold : Bool
  /-- SUBJECT of the POWER_UP record (R461). -/
  cause : Nat
  /-- A state request accepted, with its requester (R454). -/
  req : Option (Nat × Who)
  /-- LIMP was entered by a cause alone (R455). -/
  limpAuto : Bool
  /-- The trigger of a save under way; a wake source latched meanwhile (R458, R461); 1 + MT of the entry to STANDBY. -/
  saving : Option Nat
  latched : Option Nat
  standbyAt : Nat
  /-- MT of the last change of the device state (0x1200.09). -/
  stateAt : Nat
  /-- WAKE_IN as accepted; 1 + MT since which the after-run count runs (R460, R481). -/
  wakeIn : Bool
  lowAt : Nat
  everPresent : Bool
  /-- The address pins as the address was read from them (R480). -/
  addrPins : Option Nat
  /-- 1 + MT of the turn-off of FAULT_N and of SAFE_N by overcurrent (R482). -/
  faultOff : Nat
  safeOff : Nat
  /-- A chip reset runs (R277). -/
  chip : Bool
  /-- The VL input charges; the limiter is open until its retry (R472). -/
  charging : Bool
  retrying : Bool
  /-- Code 1 or 2 of VL_LOW, 0 for none; VBAK was low at its last measurement (R476). -/
  vlCode : Nat
  vbakLow : Bool
  /-- The always-on die has lost its state (R474). -/
  lost : Bool
  deriving DecidableEq, Repr

/-- The process images (R20, R22): the two views of the input image by byte; of the output image the write view, the write
view as it stood at tick 0 and the taken view, each field by its offset and the bytes of the transmit map one by one. -/
structure ImgSt where
  shown : Tbl Nat
  next : Tbl Nat
  wview : Tbl Nat
  atTick0 : Tbl Nat
  taken : Tbl Nat
  /-- Owner of each fixed output entry, by its offset; an unlisted one is P0's. -/
  owner : Tbl Nat
  /-- A phase overran since the previous image; ground speed was not fresh this frame. -/
  overrun : Bool
  staleNav : Bool
  /-- A process-image map and an application table accepted, in force at tick 0 of the next frame (R328, R332). -/
  newMap : Option (List Byte)
  newApps : Option (List Byte)
  /-- 1 for each output entry that has acted since the map was applied and the device state changed (R330). -/
  once : Tbl Nat
  /-- Objects that a command has written since tick 0, and between the tick 0 before and it (R330). -/
  wrote : List Nat
  wrote0 : List Nat
  deriving DecidableEq, Repr

/-- Hollyhock's state beside its objects (R269 to R282). -/
structure FaultSt where
  /-- Event sources whose raw state is active until tick 0 of the next frame (R269). -/
  events : List Nat
  /-- Per source, 1 + the MT at which its escalation window ends; 0 for none (R276). -/
  window : Tbl Nat
  /-- Per source, 1 + the MT of its last occurrence; 0 for none (R276, step decay). -/
  lastMt : Tbl Nat
  /-- (source, block): the source's occurrence is a cause of the block's reset (R275, R276). -/
  causes : List (Nat × Nat)
  /-- Blocks whose reset ended within the last 10 µs (R275). -/
  settling : List Nat
  /-- Block resets that a reaction has called for and that have not started (R271). -/
  blkReq : List Nat
  /-- A chip reset that a reaction or a restart request has called for: cause number and code word (R277). -/
  chipReq : Option (Nat × Nat)
  /-- Bit s for a pending source s with PIN among the reactions it took (R281). -/
  pinMap : Nat
  /-- Sources restored as pending by a START that have not cleared since (R278). -/
  restored : List Nat
  /-- Partitions whose fault interrupt, and whose NMI, the newest occurrences have raised (R272). -/
  intLine : Nat
  nmiLine : Nat
  /-- Reactions the newest occurrence took, in the order carried out: 4 PIN, 0 INT, 1 NMI, 2 BLK, 3 CHIP (R273). -/
  taken : List Nat
  /-- Consecutive counting samples of FAULT_SNS that read high while FAULT_N is asserted (R281). -/
  snsRun : Nat
  /-- FAULT_N is held asserted because START has not loaded the restored states (R281). -/
  holdPin : Bool
  /-- A record was lost, an event was dropped: the source is raised once the present operation has ended. -/
  recLost : Bool
  evqFull : Bool
  deriving DecidableEq, Repr

/-- The newest principal and its repeats (R304): what a further occurrence must equal, the MT of the last one
folded, the SEQ of the LAST continuation once there is one, and the repeat count. -/
structure Chain where
  kind : Nat
  subject : Nat
  code : Nat
  flags : Nat
  lastMt : Nat
  lastSeq : Option Nat
  rep : Nat
  deriving DecidableEq, Repr

/-- An AUTO clear held back (R305). -/
structure Held where
  src : Nat
  opms : Nat
  mt : Nat
  deriving DecidableEq, Repr

/-- The recorder beside its objects (R297 to R312). -/
structure RecSt where
  /-- Bodies posted and not yet accepted, oldest first; at most 16 (R302). -/
  fifo : List Body
  /-- Records lost since the last RECORDER record that carried a number lost (R302). -/
  lostNew : Nat
  /-- The two retention banks: slot number to its 128 bits; an unlisted slot reads as zeros (R298, R302). -/
  bank0 : Tbl Nat
  bank1 : Tbl Nat
  /-- The archive in the non-volatile store, by SEQ mod 2²⁰ (R303). -/
  archive : Tbl Nat
  /-- Records rewritten since they were archived (R304, R303). -/
  redo : List Nat
  chain : Option Chain
  held : Option Held
  /-- Times a bank has been taken out since production (R309). -/
  fails0 : Nat
  fails1 : Nat
  /-- Both banks passed the test of the last START (R309). -/
  passed : Bool
  /-- MT of the APPLICATION writes accepted in the last second (R312). -/
  appMt : List Nat
  deriving DecidableEq, Repr

/-- What the non-volatile store and the always-on die hold for the next START (R34, R297, R303). -/
structure StoreSt where
  mt : Nat
  corr : Nat
  seq : Nat
  pcc : Nat
  opms : Nat
  /-- The always-on die has kept its counters, banks and status since the last power-up (R297). -/
  kept : Bool
  /-- The save-complete mark (R458). -/
  mark : Bool
  deriving DecidableEq, Repr

/-- One tag in use (R340): in progress, or quarantined until an MT; `lost` says that a block reset discarded it
without execution. -/
structure TagUse where
  epoch : Nat
  tag : Nat
  quarantined : Bool
  until_ : Nat
  lost : Bool
  deriving DecidableEq, Repr

/-- One tag space (R339): its current epoch, the MT of its last advance, its tags. -/
structure TagSpace where
  space : Space
  epoch : Nat
  lastAdv : Option Nat
  tags : List TagUse
  deriving DecidableEq, Repr

/-- A subscription (R343). -/
structure Sub where
  num : Nat
  session : Nat
  cls : Nat
  divider : Nat
  count : Nat
  seq : Nat
  route : Route
  deriving DecidableEq, Repr

/-- A request that waits in an inbound queue (R344), with the queue it entered and when. -/
structure InItem where
  queue : Nat
  since : Nat
  pkt : Packet
  route : Route
  deriving DecidableEq, Repr

/-- A packet that waits in an outbound queue; `space` names the tag space of a response, whose tag it completes. -/
structure OutItem where
  queue : Nat
  since : Nat
  pkt : Packet
  route : Route
  space : Option Space
  deriving DecidableEq, Repr

/-- A CAN segment stream being put together (R349, R350). -/
structure Stream where
  port : Nat
  node : Nat
  stream : Nat
  nextSeg : Nat
  data : List Byte
  lastMt : Nat
  deriving DecidableEq, Repr

/-- The UCP engine beside its objects (R334 to R351). -/
structure UcpSt where
  spaces : List TagSpace
  subs : List Sub
  nextSub : Nat
  inq : List InItem
  outq : List OutItem
  streams : List Stream
  /-- STREAM number of the next own packet on each CAN port (R349). -/
  outStream : Tbl Nat
  /-- MT of the integrity failures of the last second (R361). -/
  icvMt : List Nat
  /-- The packets the module has handed to a port, newest first: what stands outside after its last transmission. -/
  sent : List OutItem
  /-- The answer to the newest access that a command made without a packet. -/
  last : Resp
  /-- Fleet outbox and inbox, by entry mod 64 (R357, R358). -/
  fleetOut : Tbl (List Byte)
  fleetIn : Tbl (List Byte)
  deriving DecidableEq, Repr

/-- A live session (R337, R409 to R411): who holds it, its place in the session table, the source address, its key, its
counters toward the module (the highest seen, and those of the window of 64 below it that have been seen) and from it. -/
structure Session where
  num : Nat
  slot : Nat
  src : Nat
  key : List Byte
  serial : Nat
  issuer : Nat
  kind : Nat
  notAfter : Nat
  role : Nat
  route : Route
  opened : Nat
  lastUse : Nat
  inHigh : Option Nat
  inSeen : List Nat
  outCtr : Nat
  deriving DecidableEq, Repr

/-- A handshake between HELLO and FINISH (R411): the HELLO payload, the ephemeral private key's draw, EPH_M and NONCE_M. -/
structure Handshake where
  num : Nat
  src : Nat
  hello : List Byte
  priv : Nat
  ephM : List Byte
  nonceM : List Byte
  serial : Nat
  issuer : Nat
  kind : Nat
  notAfter : Nat
  role : Nat
  route : Route
  at_ : Nat
  deriving DecidableEq, Repr

/-- The security engine beside its objects (R405 to R417). -/
structure SecSt where
  sessions : List Session
  /-- Sessions that have ended while packets of theirs wait to be sent (R341). -/
  gone : List Session
  shakes : List Handshake
  /-- AUTH_FAILED refusals of the handshake, by source and MT (R412). -/
  fails : List (Route × Nat)
  /-- Sources locked out, with the MT of the lockout (R412). -/
  locked : List (Route × Nat)
  /-- Installed integrator anchors, by serial (R408). -/
  anchors : List Nat
  /-- Revocation lists held, one per issuer: issuer, version, serials (R407). -/
  revoked : List (Nat × Nat × List Nat)
  /-- Serials of the member list in force (R417), and the last FSEQ of each sender, the newest heard last (R358). -/
  members : List Nat
  lastFseq : List (Nat × Nat)
  /-- The count at which the present challenge was drawn, and MT of it (R414); 1 + MT of the debug port's opening. -/
  challenge : Nat
  challengeAt : Nat
  debugAt : Nat
  /-- The count at which the debug challenge's random bytes were drawn (R418). -/
  debugRnd : Nat
  deriving DecidableEq, Repr

/-- An element of a spare pool (R284, R285, R288, R295): state 0 active, 1 spare ready, 2 spare not ready, 3 retired,
4 failed, 5 self-testing; the wear table's fields; fault swaps since power-up. -/
structure Elem where
  state : Nat
  level : Nat
  gauge : Nat
  v1 : Nat
  v2 : Nat
  swaps : Nat
  deriving DecidableEq, Repr

/-- A swap asked of Lupin and not yet made (R286): its cause is a source number or 0x8000 plus a gauge code; `hold`
keeps a core pair's wear swap for its checkpoint (R285). -/
structure SwapReq where
  pool : Nat
  el : Nat
  cause : Nat
  mt : Nat
  hold : Bool
  deriving DecidableEq, Repr

/-- One entry of the swap history (R296). -/
structure SwapRec where
  seq : Nat
  mt : Nat
  pool : Nat
  result : Nat
  out : Nat
  inn : Nat
  cause : Nat
  dur : Nat
  level : Nat
  deriving DecidableEq, Repr

/-- Lupin's state (R284 to R296): elements by pool × 1024 + number, what each spare in use serves (element + 1),
requests in order of time, wear crossings that wait for a spare, the last 256 swaps, and SRAM words written with
poisoned check bits (bank × 65,536 + word, R287). -/
structure SpareSt where
  elems : Tbl Elem
  serves : Tbl Nat
  reqs : List SwapReq
  waiting : List (Nat × Nat × Nat)
  hist : List SwapRec
  poisoned : List Nat
  deriving DecidableEq, Repr

/-- An object the integrator defines (R332). -/
structure AppObj where
  idx : Nat
  desc : Desc
  mapIn : Bool
  mapOut : Bool
  deriving DecidableEq, Repr

structure State where
  /-- Every fixed-size object of the dictionary, by its key (R315); an unlisted object holds its table default. -/
  objs : Tbl Nat
  /-- The contents of STR and DOMAIN objects, by key; unlisted is empty. -/
  blobs : Tbl (List Byte)
  /-- The objects as they stood at tick 0 of the present frame: a write takes effect at the next one (R321). -/
  objs0 : Tbl Nat
  /-- The objects as the frame before had them, in which the sealed block was taken (R74). -/
  objsB : Tbl Nat
  /-- The application-defined objects in force (R332). -/
  apps : List AppObj
  tm : TimeSt
  /-- Partitions P0 to P2. -/
  parts : List PartSt
  img : ImgSt
  inp : InSt
  rx : RxSt
  nav : NavSt
  crop : CropSt
  lark : LarkSt
  outs : OutSt
  fox : FoxSt
  can : CanSt
  flt : FaultSt
  rcd : RecSt
  nv : StoreSt
  sp : SpareSt
  ucp : UcpSt
  sec : SecSt
  eth : EthSt
  conf : CfgSt
  upd : UpdSt
  pwr : PwrSt
  /-- Per timer, 1 + the MT at which it was started; 0 for stopped. -/
  timers : Tbl Nat
  /-- The model's own counter: each value the spec leaves open is the free value at its count. -/
  free : Nat
  /-- Commands that wait, first in first out. -/
  pending : List Instr
  deriving DecidableEq, Repr

def TimeSt.reset : TimeSt :=
  ⟨0, 0, 0, [], 0, 0, 0, 0, 0, 0, 0, 0, false, false, false, 0, 0, 0, 0, 0, false, 0, false, none, none, false, -1, 0, false, false⟩
def PartSt.reset : PartSt := ⟨0, 16, 0, 0, 0, 16, 0, 0, 0, 0, 0, none, 0, 0, 0, false, false, false⟩
def ChanSt.reset : ChanSt :=
  ⟨false, 0, 0, none, false, 0, 0, 0, false, false, false, false, 0, 0, false, 0, 0, 0, 1, false, false, 0, [], false,
    0, [], false, 0, 0, 0, 0, false, false, false, 0, 0⟩
def SupSt.reset : SupSt := ⟨0, 0, 0⟩
def InSt.reset : InSt := ⟨[], [], [], []⟩
def SvSig.reset : SvSig := ⟨0, 0, 0, 0, 0xFF⟩
def RxChan.reset : RxChan :=
  ⟨0, SvSig.reset, 0, false, 0, 0, false, false, 0, 0, 0, 0, 0, 0, 0, 0, none, 0, 0, false, 0, 0, false, 0, 0, 0, [], [], 0⟩
def RfChain.reset : RfChain := ⟨0, 0, [], [none, none, none, none], 0, 0, 0, 0, []⟩
def RxSt.reset : RxSt :=
  ⟨[], List.replicate 8 none, [], List.replicate 4 RfChain.reset, 0, [], false, -1, 0, 0, false, 0, [], [], none, 0, 0, false, false, none⟩
def SpeedSrc.reset : SpeedSrc := ⟨none, 0, 0, 0, 1, false, 0, 0, 0⟩
def NavEst.reset : NavEst :=
  ⟨0, 0, 0, [0, 0, 0], [0, 0, 0], [0, 0, 0], [0, 0, 0], [0, 0, 0], 0, 0, 0, 0, 0, 0, [0, 0, 0, 0]⟩
def LateCount.reset : LateCount := ⟨0, 0, []⟩
def NavSt.reset : NavSt :=
  { est := NavEst.reset, conf := [], pubGs := 0, pubSig := 0, pubYaw := 0, stillAt := 0, straightAt := 0, alignAt := 0,
    snapAt := 0, frames := 0, imu := List.replicate 4 [], imuAt := [0, 0, 0, 0], contra := [], unitAgree := [],
    pairAgree := [], voted := List.replicate 6 none, noInertial := false, speed := List.replicate 7 SpeedSrc.reset,
    spContra := [], spAgree := [], zeroUpd := false, gsFrame := 0, inertAt := 0, satAt := 0, drAt := 0, drNone := false,
    sats := 0, nFix := 0, fixed := false, carrier := false, code := false, ambAt := 0, headAt := 0, headRun := 0,
    lengthAt := 0, headInertial := false, repro := false, reproWait := [], reproFlag := false,
    late := List.replicate 11 LateCount.reset, degraded := 0, stationChange := false, ring := [], fresh := false }
def LossSt.reset : LossSt := ⟨false, 0, 0, 0, 0, none, 0, false, 0, false, [], 0, 0, 0⟩
def CropSt.reset : CropSt :=
  { loss := List.replicate 8 LossSt.reset, clock := 0, q := 0, qDry := 0, plate := 0, elevFreq := 0, inclRun := 0,
    flowBad := 0, zeroSum := 0, zeroN := 0, m := 0, fullRun := 0, fillRun := 0, noFull := 0,
    moistEver := false, loss0 := 0, loss1 := 0, area0 := 0, area1 := 0, pct0 := 0, pct1 := 0, staleRun := 0, cuts := [],
    yields := [], lastSeq := 0, areaRest := 0 }
def SlotSt.reset : SlotSt :=
  { cmd := 1, conds := [], trip := 0, sum := 0, ic := 0, d := 0, mPrev := 0, uPrev := 0, out := 0, pre := 0,
    dead := false, closing := false, started := false, y := 0, yv := none, e := 0, xff := 0, x0 := 0, spn := 0,
    badFb := none, badSp := none, prevCmd := 0, cmds := [], cmdsNow := [], mapSel := none, bank := 0, kiUsed := 0,
    nFe := 0, test := none, testReq := none, testNow := none, testStop := 0 }
def CapSt.reset : CapSt := ⟨[], 0, none, false, false, false, 0xFFFFFFFF, 0⟩
def LarkSt.reset : LarkSt := ⟨[], 0, 1, 0, [], List.replicate 4 CapSt.reset⟩
/-- As the switch dies come up: every channel in GROUP_OFF until PRESENT (R475). -/
def OutChan.reset : OutChan :=
  { cur := none, filt := none, st := 4, wasWait := false, duty := 0, prevDuty := 0, perm := false, cond := false, noOnAt := 0,
    winAt := 0, winEnd := 0, recov := false, goodAt := 0, retryAt := 0, retryLeft := 0, restart := false, latch := false,
    lsOpen := false, limiting := false, openLoad := false, supShort := false, refDev := false, cellFault := false, lowN := 0,
    highN := 0, devN := 0, okN := 0, darkEnd := 0, iref := none, lastDirect := 0, missing := false }
def GrpSt.reset : GrpSt := ⟨0, 0, false, false, false, 0, false, false, true, [], 0, 0, 0, [], false⟩
def OutSt.reset : OutSt := ⟨[], [], 0, 0⟩
def FoxIn.reset : FoxIn := ⟨0, [], 0⟩
def FoxPair.reset : FoxPair := ⟨1, 0, false, 0, 0, false⟩
def FoxFn.reset : FoxFn := ⟨0, 0⟩
def FoxRep.reset : FoxRep := ⟨0, 0, 0, 0, 0, 0⟩
def FoxSt.reset : FoxSt :=
  { reported := 0, lines := 0, prof := [], ins := [], pairs := List.replicate 8 FoxPair.reset, fns := List.replicate 16 FoxFn.reset,
    pfns := List.replicate 16 FoxFn.reset, rep := FoxRep.reset, resets := 0, supFails := [], supTrial := 0, demand := 0,
    withdraw := 0, sealAll := false, sealDiff := 0, causeAt := 0, mism := 0, miss := 0, agree := 0, tbBad := false,
    chipHeld := false, profDiff := false, alive := true, powered := false, sealRaw := 0, sealAt := 0, sealOk := false, unconf := [], susp := [], inhibit := 0,
    rot := [], snsRun := 0, staged := none, xfer := none, lostChange := none }
def CanObjSt.reset : CanObjSt :=
  ⟨0, false, false, false, false, true, false, 0, 0, 0, [], 0, true, none, [], 0, 0, false⟩
def PortSt.reset : PortSt :=
  { tbl := [], objs := [], newTbl := none, queue := [], first := none, timing := [1, 1, 127, 32, 32, 1, 29, 10, 10, 1, 30],
    joinAt := 0, joinErr := false, dueOn := false, log := [], refPrev := none, refSeq := 0, refLeft := 0, stamp := none,
    pairAt := 0, heard := [], claimAt := 0, cannot := false, sess := [], claimSa := 0xFE, isoEnd := none, rate := false, mode := 1,
    role := 0, iso := false, reclaim := false }
def CanSt.reset : CanSt := ⟨[], [], [], [(0, 0), (4, 0)], []⟩
def GptpSt.reset : GptpSt := ⟨none, (0, 0, 0, 0), 0, 0, 0, 0, [], none, none⟩
def EthSt.reset : EthSt := ⟨[], [], 0, 0, false, 0, [], 0, 0, 0, 1, [], [], none, GptpSt.reset⟩
/-- Version 1, as production writes it: the table defaults and the delivered profile (R429). -/
def Ver.factory : Ver := ⟨1, 0, 0, 5, 0, 0, [], [], [], 0⟩
def CfgSt.reset : CfgSt := ⟨[Ver.factory], none, none⟩
def FwSlot.reset : FwSlot := ⟨true, []⟩
def UpdSt.reset : UpdSt := ⟨[], [FwSlot.reset, FwSlot.reset], 0, 0, false, false, false⟩
def PwrSt.reset : PwrSt :=
  { up := true, startAt := 0, opening := true, ran := false, chg := none, bootHold := false, cause := 0, req := none,
    limpAuto := false, saving := none, latched := none, standbyAt := 0, stateAt := 0, wakeIn := false, lowAt := 0,
    everPresent := false, addrPins := none, faultOff := 0, safeOff := 0, chip := false, charging := false,
    retrying := false, vlCode := 0, vbakLow := false, lost := false }
def ImgSt.reset : ImgSt := ⟨[], [], [], [], [], [], false, false, none, none, [], [], []⟩
def FaultSt.reset : FaultSt := ⟨[], [], [], [], [], [], none, 0, [], 0, 0, [], 0, false, false, false⟩
def RecSt.reset : RecSt := ⟨[], 0, [], [], [], [], none, none, 0, 0, true, []⟩
def StoreSt.reset : StoreSt := ⟨0, 0, 0, 0, 0, false, true⟩
def SpareSt.reset : SpareSt := ⟨[], [], [], [], [], []⟩
def SecSt.reset : SecSt := ⟨[], [], [], [], [], [], [], [], [], 0, 0, 0, 0⟩
def UcpSt.reset : UcpSt := ⟨[], [], 1, [], [], [], [], [], [], ⟨0, 0, [], 0⟩, [], []⟩

/-- The module as production delivers it, in START at its first rise of VL. -/
def State.reset : State :=
  { objs := [], blobs := [], objs0 := [], objsB := [], apps := [], tm := TimeSt.reset,
    parts := [PartSt.reset, PartSt.reset, PartSt.reset], img := ImgSt.reset, inp := InSt.reset, rx := RxSt.reset, nav := NavSt.reset,
    crop := CropSt.reset, lark := LarkSt.reset, outs := OutSt.reset, fox := FoxSt.reset, can := CanSt.reset, flt := FaultSt.reset, rcd := RecSt.reset, nv := StoreSt.reset,
    sp := SpareSt.reset, ucp := UcpSt.reset, sec := SecSt.reset, eth := EthSt.reset, conf := CfgSt.reset,
    upd := UpdSt.reset, pwr := PwrSt.reset, timers := [], free := 0, pending := [] }

end Sys2Proof.Machine
end

