-- ==== Sys2Proof/Machine/Ops.lean ====
section
/-! DEFINITION. The named operations over State that every family uses: reading and writing objects, MT windows,
posting a record, sending an event, and what a fault source's raw state does when it rises and falls. -/

namespace Sys2Proof.Machine

open Sys2Proof

/-! ### Objects -/

/-- The raw value of an object. -/
def State.get (s : State) (k : Nat) : Nat := Tbl.get (Dict.dflt k) s.objs k

/-- Store the raw value of an object. -/
def State.put (s : State) (k v : Nat) : State := { s with objs := Tbl.set (Dict.dflt k) s.objs k v }

/-- A setting as the present frame uses it: its value at tick 0, or what a mapped write of this frame's Take stored
(R321, R330). -/
def State.cfg (s : State) (k : Nat) : Nat := Tbl.get (Dict.dflt k) s.objs0 k
/-- Store a value that takes effect in the present frame. -/
def State.putNow (s : State) (k v : Nat) : State := { s.put k v with objs0 := Tbl.set (Dict.dflt k) s.objs0 k v }
def State.cfgF (s : State) (k : Nat) : F32 := BitVec.ofNat 32 (s.cfg k)
def State.cfgBool (s : State) (k : Nat) : Bool := decide (s.cfg k ≠ 0)
def State.cfgI32 (s : State) (k : Nat) : Int := signed 32 (s.cfg k)
def State.cfgI16 (s : State) (k : Nat) : Int := signed 16 (s.cfg k)

/-- A setting as it stood while the sealed block was taken (R74). -/
def State.cfgB (s : State) (k : Nat) : Nat := Tbl.get (Dict.dflt k) s.objsB k

def State.getBool (s : State) (k : Nat) : Bool := decide (s.get k ≠ 0)
def State.putBool (s : State) (k : Nat) (b : Bool) : State := s.put k (ofBool b)
def State.getI16 (s : State) (k : Nat) : Int := signed 16 (s.get k)
def State.getI32 (s : State) (k : Nat) : Int := signed 32 (s.get k)
def State.getI64 (s : State) (k : Nat) : Int := signed 64 (s.get k)
def State.putI16 (s : State) (k : Nat) (x : Int) : State := s.put k (i16bits (clampI (-32768) 32767 x))
def State.putI32 (s : State) (k : Nat) (x : Int) : State := s.put k (i32bits (clampI (-2147483648) 2147483647 x))
def State.putI64 (s : State) (k : Nat) (x : Int) : State := s.put k (i64bits x)
def State.getF (s : State) (k : Nat) : F32 := BitVec.ofNat 32 (s.get k)
def State.putF (s : State) (k : Nat) (x : F32) : State := s.put k x.toNat

/-- Add to a 32-bit counter, which stops at its limit (R7). -/
def State.add32 (s : State) (k n : Nat) : State := s.put k (clampN 0xFFFFFFFF (s.get k + n))
def State.inc32 (s : State) (k : Nat) : State := s.add32 k 1
/-- Add to a 32-bit counter that its chapter says wraps. -/
def State.addWrap (s : State) (k n : Nat) : State := s.put k ((s.get k + n) % 2 ^ 32)
/-- Set or clear bit `i` of an object. -/
def State.putBit (s : State) (k i : Nat) (b : Bool) : State := s.put k (setBit (s.get k) i b)

/-- The contents of an STR or DOMAIN object. -/
def State.getB (s : State) (k : Nat) : List Byte := Tbl.get [] s.blobs k
def State.putB (s : State) (k : Nat) (l : List Byte) : State := { s with blobs := Tbl.set [] s.blobs k l }

/-- The device state code 0 to 6 (0x1200.01). -/
def State.dev (s : State) : Nat := s.get (ob 0x1200 1)

/-- A value the spec leaves open is taken at the counter, and the counter moves on. -/
def State.freeVal (s : State) : Nat := Config.freeWord s.free
def State.useFree (s : State) : State := { s with free := s.free + 1 }

/-- A setting of 0x2000 as it stands since the last second boundary (R48). -/
def State.tcfg (s : State) (sub : Nat) : Nat := Tbl.get (Dict.dflt (ob 0x2000 sub)) s.tm.conf (ob 0x2000 sub)
/-- The number of the present frame (R30). -/
def State.frameNo (s : State) : Nat := s.get (ob 0x2000 2)
def State.timeState (s : State) : Nat := s.get (ob 0x2000 3)
def State.goff (s : State) : Int := s.getI64 (ob 0x2000 4)

/-- Partition p, and the state with it changed. -/
def State.part (s : State) (p : Nat) : PartSt := s.parts.getD p PartSt.reset
def State.setPart (s : State) (p : Nat) (f : PartSt → PartSt) : State := { s with parts := oneOf PartSt.reset 3 s.parts p f }

/-! ### Timers -/

def State.startTimer (s : State) (t : Nat) : State := { s with timers := Tbl.set 0 s.timers t (s.tm.mt + 1) }
def State.stopTimer (s : State) (t : Nat) : State := { s with timers := Tbl.set 0 s.timers t 0 }
def State.timerOn (s : State) (t : Nat) : Bool := decide (Tbl.get 0 s.timers t ≠ 0)
/-- The timer runs and at least `ns` of MT have passed since it was started. -/
def State.timerPast (s : State) (t ns : Nat) : Bool :=
  s.timerOn t && decide (Tbl.get 0 s.timers t + ns ≤ s.tm.mt + 1)

def nsMs : Nat := 1000000
def nsS : Nat := 1000000000

/-! ### Records -/

def recNextSeq : Nat := ob 0x2A00 0x01
def recOldest : Nat := ob 0x2A00 0x02
def recArchived : Nat := ob 0x2A00 0x03
def recPcc : Nat := ob 0x2A00 0x04
def recOpms : Nat := ob 0x2A00 0x05
def recBanks : Nat := ob 0x2A00 0x06
def recCalField : Nat := ob 0x2A00 0x07
def recLostCount : Nat := ob 0x2A00 0x09

/-- The UTC continuation a principal carries while 0x2A00.07 is true (R299, R300, R306). -/
def State.utcCont (s : State) : List Cont :=
  if s.getBool recCalField then
    [⟨1, s.get (ob 0x2000 3) + (if s.get (ob 0x2000 6) = 1 then 256 else 0),
      i64bits ((s.tm.mt : Int) + s.getI64 (ob 0x2000 5))⟩]
  else []

/-- Put a body into the posting FIFO; a body that finds it full is lost and counted (R302). -/
def State.push (s : State) (kind subject code flags : Nat) (conts : List Cont) : State :=
  if 16 ≤ s.rcd.fifo.length then
    { s.inc32 recLostCount with
      rcd := { s.rcd with lostNew := s.rcd.lostNew + 1 }, flt := { s.flt with recLost := true } }
  else
    { s with rcd := { s.rcd with fifo := s.rcd.fifo ++ [⟨kind, subject, code, flags, s.utcCont ++ conts, s.tm.mt, s.get recOpms⟩] } }

/-- The HDR word of a slot (R298). -/
def hdr (kind pcc flags : Nat) : Nat := kind % 16 * 4096 + pcc % 4 * 1024 + flags % 1024

/-- The 16 bytes of a principal as one number (R298). -/
def principalSlot (seq kind pcc flags subject code opms : Nat) : Nat :=
  seq % 2 ^ 32 + 2 ^ 32 * hdr kind pcc flags + 2 ^ 48 * (subject % 2 ^ 16) + 2 ^ 64 * (code % 2 ^ 16) +
    2 ^ 80 * (opms % 2 ^ 48)

/-- The 16 bytes of a continuation as one number (R299). -/
def contSlot (seq pcc : Nat) (c : Cont) : Nat :=
  seq % 2 ^ 32 + 2 ^ 32 * hdr 15 pcc c.typ + 2 ^ 48 * (c.aux % 2 ^ 16) + 2 ^ 64 * (c.value % 2 ^ 64)

/-- Slots that the bodies waiting in the FIFO will take. -/
def fifoSlots (l : List Body) : Nat := (l.map (fun b => 1 + b.conts.length)).foldl (· + ·) 0

/-! ### Events -/

/-- The event priorities of R343, by class. -/
def eventPrio (cls : Nat) : Nat := [0, 6, 7, 3, 2, 6, 4].getD cls 0

/-- Items that stand in outbound queue `q`. -/
def oqDepth (q : Nat) (l : List OutItem) : Nat := (l.filter (fun i => decide (i.queue = q))).length
def iqDepth (q : Nat) (l : List InItem) : Nat := (l.filter (fun i => decide (i.queue = q))).length

/-- Even queues serve the network transports, odd queues the local port (R344). -/
def Route.odd : Route → Nat
  | .port _ => 1
  | _ => 0

/-- The EVENT packets of one event for one subscription: at most 4,096 bytes in each, all with one sequence, every
packet but the last with MORE, AUX the byte offset (R343). `n` bounds the number of packets. -/
def eventPackets (sess cls seq aux : Nat) : Nat → Nat → List Byte → List Packet
  | 0, _, _ => []
  | n + 1, off, data =>
    let part := data.take 4096
    let rest := data.drop 4096
    let more := decide (rest ≠ [])
    ⟨1, 3, (if sess = 0 then 0 else 1) + (if more then 2 else 0), eventPrio cls, 0, 0, 0, 0, sess, 0, cls, 0, 0xFF, 0, 0, seq,
      if off = 0 && !more then aux else off, part⟩ ::
      (if more then eventPackets sess cls seq aux n (off + 4096) rest else [])

/-- Queue one event packet; one that finds its queue full is dropped and counted (R347). -/
def State.queueEvent (s : State) (r : Route) (p : Packet) : State :=
  let q := 2 * eventPrio p.opcode + r.odd
  if 32 ≤ oqDepth q s.ucp.outq then
    { s.inc32 (ob 0x2E00 0x0A) with flt := { s.flt with evqFull := true } }
  else { s with ucp := { s.ucp with outq := s.ucp.outq ++ [⟨q, s.tm.mt, p, r, none⟩] } }

/-- Count one event of a class for a subscription, and send it if it is the divider's turn (R343). -/
def State.eventTo (s : State) (u : Sub) (cls : Nat) (data : List Byte) (aux : Nat) : State :=
  if u.cls ≠ cls then s
  else
    let due := decide ((u.count + 1) % u.divider = 0)
    let u' := { u with count := u.count + 1, seq := if due then u.seq + 1 else u.seq }
    let s1 := { s with ucp := { s.ucp with subs := s.ucp.subs.map (fun x => if x.num = u.num then u' else x) } }
    if due then
      (eventPackets u.session cls u.seq aux (data.length / 4096 + 1) 0 data).foldl (fun t p => t.queueEvent u.route p) s1
    else s1

/-- Send an event to every subscription of its class (R343). -/
def State.send (s : State) (cls : Nat) (data : List Byte) (aux : Nat) : State :=
  s.ucp.subs.foldl (fun t u => t.eventTo u cls data aux) s

/-! ### Fault sources -/

def stKey (src : Nat) : Nat := ob (0x2810 + src % 512 / 32) (0x40 + src % 32)
def cfgKey (src : Nat) : Nat := ob (0x2810 + src % 512 / 32) (0x20 + src % 32)
def cntKey (src : Nat) : Nat := ob (0x2810 + src % 512 / 32) (0x60 + src % 32)
def codeKey (src : Nat) : Nat := ob (0x2810 + src % 512 / 32) (0x80 + src % 32)
def pendKey (src : Nat) : Nat := ob 0x2800 (0x20 + src % 512 / 64)
def blocksInReset : Nat := ob 0x2800 0x09
def faultPin : Nat := ob 0x2800 0x08

/-- Status bits (R293). -/
def State.raw (s : State) (src : Nat) : Bool := bit (s.get (stKey src)) 0
def State.forced (s : State) (src : Nat) : Bool := bit (s.get (stKey src)) 1
/-- ACTIVE is RAW or FORCED (R269). -/
def State.active (s : State) (src : Nat) : Bool := bit (s.get (stKey src)) 2
def State.isPending (s : State) (src : Nat) : Bool := bit (s.get (stKey src)) 3
def State.escStep (s : State) (src : Nat) : Nat := bits (s.get (stKey src)) 6 2
def State.inReset (s : State) (blk : Nat) : Bool := bit (s.get blocksInReset) blk

/-- The source is in consequential mode (R275). -/
def State.conseqMode (s : State) (src : Nat) : Bool :=
  (srcUpstream src (s.get (codeKey src))).any fun b =>
    (s.inReset b || s.flt.settling.contains b) && !(s.flt.causes.contains (src, b))

/-- The highest step of an escalation field (R276). -/
def escMax (field : Nat) : Nat := if field = 0 then 0 else if field = 3 then 2 else 1

/-- The reactions of a step, as configuration bits 4:0 PIN CHIP BLK NMI INT; CHIP replaces BLK (R273, R276). -/
def escReact (cfg : Nat) (hasBlock : Bool) (step : Nat) : Nat :=
  let base := bits cfg 0 5
  let field := bits cfg 8 2
  let withBlk := if hasBlock then setBit base 2 true else base
  let r :=
    if field = 1 then (if step = 0 then base else withBlk)
    else if field = 2 then (if step = 0 then withBlk else setBit base 3 true)
    else if field = 3 then (if step = 0 then base else if step = 1 then withBlk else setBit withBlk 3 true)
    else base
  if bit r 3 then setBit r 2 false else r

/-- Reactions in the order carried out (R273). -/
def reactOrder (r : Nat) : List Nat := [4, 0, 1, 2, 3].filter (fun i => bit r i)

/-- FAULT_N is driven low while a source is pending with PIN among the reactions it took (R281). -/
def State.drivePin (s : State) : State := s.putBit faultPin 0 (decide (s.flt.pinMap ≠ 0) || s.flt.holdPin)

/-- Set or clear PENDING, in the status word, the pending map and the two counts; `pin` is whether PIN is among the
reactions the source took. -/
def State.setPending (s : State) (src : Nat) (on pin : Bool) : State :=
  let was := s.isPending src
  let wasPin := bit s.flt.pinMap src
  let s1 := (s.putBit (stKey src) 3 on).putBit (pendKey src) (src % 64) on
  let s2 := if on && !was then s1.put (ob 0x2800 1) (s1.get (ob 0x2800 1) + 1)
    else if !on && was then s1.put (ob 0x2800 1) (s1.get (ob 0x2800 1) - 1) else s1
  let nowPin := on && (pin || wasPin)
  let s3 := if nowPin && !wasPin then s2.put (ob 0x2800 2) (s2.get (ob 0x2800 2) + 1)
    else if !nowPin && wasPin then s2.put (ob 0x2800 2) (s2.get (ob 0x2800 2) - 1) else s2
  { s3 with flt := { s3.flt with pinMap := setBit s3.flt.pinMap src nowPin } }.drivePin

/-- FLAGS of a FAULT or ESCALATION record (R300): RAW, FORCED, CONSEQ, STEP, REACTED. -/
def faultFlags (st react step : Nat) (conseq : Bool) : Nat :=
  bits st 0 2 + (if conseq then 4 else 0) + step * 8 + react * 32

/-- Payload of a FAULT event: the principal record with the stamps as they stand, and the source status (R343). -/
def State.faultPayload (s : State) (kind src code flags : Nat) : List Byte :=
  le 16 (principalSlot (s.get recNextSeq + fifoSlots s.rcd.fifo) kind (s.get recPcc) flags src code (s.get recOpms)) ++
    le 4 (s.get (stKey src))

/-- An occurrence in consequential mode takes no reaction (R275). -/
def State.occurConseq (s : State) (src : Nat) : State :=
  let s1 := ((s.inc32 (cntKey src)).inc32 (ob 0x2800 0x0D)).setPending src true false
  let w := setBits (setBit (s1.get (stKey src)) 4 true) 11 5 0
  let s2 := s1.put (stKey src) w
  let s3 := { s2 with flt := { s2.flt with lastMt := Tbl.set 0 s2.flt.lastMt src (s.tm.mt + 1) } }
  s3.push 3 src (s.get (codeKey src)) (faultFlags w 0 (bits w 6 2) true) []

/-- The step that an occurrence now takes: one up inside the escalation window of the one before (R276). -/
def State.occurStep (s : State) (src : Nat) : Nat :=
  let old := s.escStep src
  if bit (s.get (stKey src)) 5 || decide (s.tm.mt < Tbl.get 0 s.flt.window src) then
    (if escMax (bits (s.get (cfgKey src)) 8 2) ≤ old then old else old + 1)
  else old

/-- The block that an occurrence now resets (R270). -/
def State.occurBlk (s : State) (src : Nat) : Option Nat := srcBlock src (s.get (codeKey src))

/-- The block's reset runs already. -/
def State.blkRuns (s : State) (src : Nat) : Bool :=
  match s.occurBlk src with | some b => s.inReset b | none => false

/-- The reactions of the step, and those that are carried out: a reset that runs is not restarted (R271, R276). -/
def State.occurWant (s : State) (src : Nat) : Nat := escReact (s.get (cfgKey src)) (s.occurBlk src).isSome (s.occurStep src)
def State.occurTake (s : State) (src : Nat) : Nat :=
  if s.blkRuns src then setBit (s.occurWant src) 2 false else s.occurWant src

/-- The status word after the occurrence, from the word with PENDING set (R293). -/
def State.occurWord (s : State) (src w : Nat) : Nat :=
  let w1 := setBits (setBits (setBit w 4 false) 6 2 (s.occurStep src)) 11 5 (s.occurTake src)
  setBit w1 5 (bit w1 5 || (bit (s.occurWant src) 2 && s.blkRuns src))

/-- What the collector notes of the occurrence: its window, its causes, the resets and interrupts it calls for. -/
def State.occurFlt (s : State) (src : Nat) (f : FaultSt) : FaultSt :=
  let want := s.occurWant src
  let react := s.occurTake src
  { f with
    window := Tbl.set 0 f.window src (s.tm.mt + 100 * nsMs + 1)
    lastMt := Tbl.set 0 f.lastMt src (s.tm.mt + 1)
    taken := reactOrder react
    intLine := if bit react 0 then f.intLine ||| s.get (ob 0x2800 3) else f.intLine
    nmiLine := if bit react 1 then f.nmiLine ||| s.get (ob 0x2800 4) else f.nmiLine
    causes := match s.occurBlk src with
      | some b => if bit want 2 && !(f.causes.contains (src, b)) then (src, b) :: f.causes else f.causes
      | none => f.causes
    blkReq := match s.occurBlk src with
      | some b => if bit react 2 && !(f.blkReq.contains b) then f.blkReq ++ [b] else f.blkReq
      | none => f.blkReq
    chipReq := if bit react 3 && f.chipReq.isNone then some (src, s.get (codeKey src)) else f.chipReq }

/-- The occurrence is counted, the source is pending, its word and the collector's notes are written. -/
def State.occurMark (s : State) (src : Nat) : State :=
  let s1 := (s.inc32 (cntKey src)).setPending src true (bit (s.occurTake src) 4)
  let s2 := s1.put (stKey src) (s.occurWord src (s1.get (stKey src)))
  { s2 with flt := s.occurFlt src s2.flt }

/-- The records of the occurrence and, with INT, its event; `t` is the state in which it is marked (R272, R282). -/
def State.occurTell (s : State) (src : Nat) (t : State) : State :=
  let code := s.get (codeKey src)
  let fl := faultFlags (t.get (stKey src)) (s.occurTake src) (s.occurStep src) false
  let t1 := t.push 3 src code fl []
  let t2 := if s.occurStep src > s.escStep src then (t1.inc32 (ob 0x2800 0x0E)).push 4 src code fl [] else t1
  if bit (s.occurTake src) 0 then t2.send 1 (t.faultPayload 3 src code fl) 0 else t2

/-- One occurrence of a source whose ACTIVE has risen (R273, R275, R276, R282). -/
def State.occurBase (s : State) (src : Nat) : State :=
  if s.conseqMode src then s.occurConseq src else s.occurTell src (s.occurMark src)

/-- Raise an event source whose raw state was inactive; used for what the operations themselves find. -/
def State.raiseEvent (s : State) (src code : Nat) : State :=
  if s.active src then s
  else
    let s1 := (s.put (codeKey src) code).put (stKey src) (setBit (setBit (s.get (stKey src)) 0 true) 2 true)
    { s1 with flt := { s1.flt with events := src :: s1.flt.events } }.occurBase src

/-- Raise REC_LOST and UCP_EVQ for what the operation lost (R302, R347). -/
def State.settle (s : State) : State :=
  let s1 := if s.flt.recLost then { s with flt := { s.flt with recLost := false } }.raiseEvent srcREC_LOST 0 else s
  let s2 := if s1.flt.evqFull then { s1 with flt := { s1.flt with evqFull := false } }.raiseEvent srcUCP_EVQ 0 else s1
  { s2 with flt := { s2.flt with recLost := false, evqFull := false } }

/-- Post a record. -/
def State.post (s : State) (kind subject code flags : Nat) (conts : List Cont) : State :=
  (s.push kind subject code flags conts).settle

/-- Send an event. -/
def State.event (s : State) (cls : Nat) (data : List Byte) (aux : Nat) : State := (s.send cls data aux).settle

/-- The credential of a clear, or none for an AUTO clear (R282, R300). -/
def credCont (role serial high : Nat) : Cont := ⟨3, role, serial % 2 ^ 32 + 2 ^ 32 * (high % 2 ^ 32)⟩

/-- Post the record of a clear; the recorder may hold an AUTO clear back (R305). -/
def State.clearRecord (s : State) (src : Nat) (cred : Option (Nat × Nat)) : State :=
  match cred with
  | some (role, serial) => s.push 5 src 0 0 [credCont role serial 0]
  | none => s.push 5 src 0 1 []

/-- Clear a pending source (R279, R282): not pending, FAULT_N released if it was the last with PIN, a record, an
event. STEP stays. -/
def State.clearSource (s : State) (src : Nat) (cred : Option (Nat × Nat)) : State :=
  if s.isPending src then
    let s1 := s.setPending src false false
    let s2 := { s1 with flt := { s1.flt with restored := s1.flt.restored.filter (fun x => decide (x ≠ src)) } }
    let s3 := s2.clearRecord src cred
    (s3.send 1 (s2.faultPayload 5 src 0 (if cred.isNone then 1 else 0)) 0).settle
  else s

/-- What follows a change of RAW or FORCED: a rise of ACTIVE is an occurrence, a fall clears an AUTO source, and
clears a restored source whatever its clear mode (R269, R273, R278, R279). -/
def State.afterActive (s : State) (src : Nat) (was : Bool) : State :=
  let now := s.raw src || s.forced src
  let s1 := s.putBit (stKey src) 2 now
  if now && !was then (s1.occurBase src).settle
  else if was && !now then
    if bit (s1.get (cfgKey src)) 13 && !(s1.flt.restored.contains src) then s1 else s1.clearSource src none
  else s1

/-- The block that detects a condition sets or clears its source's raw state; a rise carries the code word. -/
def State.setRaw (s : State) (src : Nat) (on : Bool) (code : Nat) : State :=
  let was := s.active src
  let s1 := s.putBit (stKey src) 0 on
  let s2 := if on then s1.put (codeKey src) code else s1
  let s3 := if on && srcEvent src && !(s2.flt.events.contains src) then
      { s2 with flt := { s2.flt with events := src :: s2.flt.events } } else s2
  s3.afterActive src was

/-- Raise a source with its code word. -/
def State.raise (s : State) (src code : Nat) : State := s.setRaw src true code

/-- A level source follows a condition. -/
def State.follow (s : State) (src : Nat) (on : Bool) (code : Nat) : State :=
  if on = s.raw src then s else s.setRaw src on code

/-- At tick 0 the raw states of the event sources end (R269). -/
def State.endEvents (s : State) : State :=
  let l := s.flt.events
  l.foldl (fun t src => t.setRaw src false 0) { s with flt := { s.flt with events := [] } }

/-! ### Device state -/

/-- A change of the device state (R457): the objects, the STATE record and the STATE event; `cred` is the credential
of the session that asked, `part` the partition. -/
def State.devChange (s : State) (new cause : Nat) (cred : Option (Nat × Nat)) (part : Nat) : State :=
  let old := s.dev
  if old = new then s
  else
    let s0 := ((s.put (ob 0x1200 2) old).put (ob 0x1200 1) new).put (ob 0x1200 9) 0
    let s1 := { s0 with img := { s0.img with once := [] }, pwr := { s0.pwr with stateAt := s.tm.mt } }
    let fl := old + (if cause = 2 then part * 256 else 0)
    let s2 := s1.push 12 new cause fl (match cred with | some (r, n) => [credCont r n 0] | none => [])
    (s2.send 5 (le 1 old ++ le 1 new ++ le 2 cause) (if cause = 2 then part else 0)).settle

end Sys2Proof.Machine
end

