-- ==== Sys2Proof/Machine/Access.lean ====
section
/-! DEFINITION. The access check (R319): who asks, whether the object exists, its class, roles, type, offset, range
and device states, in that order, and the counting of a refusal under R9. -/

namespace Sys2Proof.Machine

open Sys2Proof

/-- Status codes of R342. -/
def stOK : Nat := 0x00
def stUNKNOWN : Nat := 0x01
def stDENIED : Nat := 0x02
def stTYPE : Nat := 0x03
def stRANGE : Nat := 0x04
def stROLE : Nat := 0x05
def stSESSION : Nat := 0x06
def stAUTH : Nat := 0x07
def stBUSY : Nat := 0x08
def stTAG_BUSY : Nat := 0x09
def stSTALE : Nat := 0x0A
def stSTATE : Nat := 0x0B
def stPENDING2 : Nat := 0x0C
def stSEAL : Nat := 0x0D
def stVERSION : Nat := 0x0E
def stOFFSET : Nat := 0x0F
def stINTEGRITY : Nat := 0x10
/-- No answer at all: an access that reaches the module in STANDBY (R9). -/
def stSilent : Nat := 0xFF

/-- Device states of R323. -/
def dsSTANDBY : Nat := 0
def dsSTART : Nat := 1
def dsCONFIGURE : Nat := 2
def dsRUN : Nat := 3
def dsLIMP : Nat := 4
def dsSAFE_HOLD : Nat := 5
def dsSERVICE : Nat := 6

def State.session (s : State) (n : Nat) : Option Session := s.sec.sessions.find? (fun x => decide (x.num = n))

/-- The role of a requester; none where there is no valid session (R24, R318). -/
def State.roleOf (s : State) : Who → Option Role
  | .session n => (s.session n).map (fun x => Role.ofCode x.role)
  | .open_ => none
  | .port p => some (Role.ofCode (s.get (ob 0x1410 (1 + p))))
  | .mapped p => some (Role.ofCode (s.get (ob 0x1410 (1 + p))))
  | .signed r _ => some (Role.ofCode r)

/-- The role code and credential serial a record names for a requester; a partition has no credential. -/
def State.credOf (s : State) : Who → Nat × Nat
  | .session n => match s.session n with | some x => (x.role, x.serial) | none => (0, 0)
  | .open_ => (0, 0)
  | .port p => (s.get (ob 0x1410 (1 + p)), 0)
  | .mapped p => (s.get (ob 0x1410 (1 + p)), 0)
  | .signed r n => (r, n)

/-- The CRED continuation of a record that a requester causes. -/
def State.credOfCont (s : State) (w : Who) : Cont := credCont (s.credOf w).1 (s.credOf w).2 0

def State.app (s : State) (i sub : Nat) : Option AppObj :=
  s.apps.find? (fun a => decide (a.idx = i) && decide (a.desc.sub = sub))

/-- The description of an object, the application-defined objects included (R315, R332). -/
def State.descOf (s : State) (i sub : Nat) : Option Desc :=
  if within 0x4000 0x7FFF i then (s.app i sub).map (fun a => a.desc) else Dict.desc i sub

/-- A raw value lies in the object's range (R3, R5, R6). -/
def inRange (d : Desc) (n : Nat) : Bool :=
  let v : Int := if d.typ.isSigned then signed (8 * d.typ.bytes) n else (n : Int)
  (match d.typ with
    | .bool => decide (n ≤ 1)
    | .f32 => fmt32.finite n
    | _ => decide (n < 2 ^ (8 * d.typ.bytes))) &&
  (match d.rng with
    | .all => true
    | .ints l => l.any (fun p => decide (p.1 ≤ v) && decide (v ≤ p.2))
    | .steps lo hi st l => (decide (lo ≤ v) && decide (v ≤ hi) && decide ((v - lo) % st = 0)) ||
        l.any (fun p => decide (p.1 ≤ v) && decide (v ≤ p.2))
    | .f32 l => l.any (fun p => Q.le (fmt32.toQ p.1) (fmt32.toQ n) && Q.le (fmt32.toQ n) (fmt32.toQ p.2)))

/-- A further byte of a UTF-8 sequence. -/
def utf8Cont (b : Byte) : Bool := decide (128 ≤ b.toNat) && decide (b.toNat < 192)

/-- Valid UTF-8: no overlong form, no surrogate, nothing above U+10FFFF. `n` bounds the bytes. -/
def utf8Ok : Nat → List Byte → Bool
  | _, [] => true
  | 0, _ => false
  | n + 1, a :: rest =>
    if a.toNat < 0x80 then utf8Ok n rest
    else match rest with
      | b :: r1 =>
        if within 0xC2 0xDF a.toNat then utf8Cont b && utf8Ok n r1
        else match r1 with
          | c :: r2 =>
            if within 0xE0 0xEF a.toNat then
              utf8Cont b && utf8Cont c && (decide (a.toNat ≠ 0xE0) || decide (0xA0 ≤ b.toNat)) &&
                (decide (a.toNat ≠ 0xED) || decide (b.toNat < 0xA0)) && utf8Ok n r2
            else match r2 with
              | d :: r3 =>
                within 0xF0 0xF4 a.toNat && utf8Cont b && utf8Cont c && utf8Cont d &&
                  (decide (a.toNat ≠ 0xF0) || decide (0x90 ≤ b.toNat)) &&
                  (decide (a.toNat ≠ 0xF4) || decide (b.toNat < 0x90)) && utf8Ok n r3
              | [] => false
          | [] => false
      | [] => false

/-- Device states in which the object may be written, as a bit mask; anchors may be applied in CONFIGURE only while
none is installed and in SERVICE afterwards (R408). -/
def State.statesOf (s : State) (i sub : Nat) (d : Desc) : Nat :=
  if i = 0x2F00 && (sub = 3 || sub = 4) then (if s.sec.anchors = [] then 0x04 else 0x40) else d.states

/-- Anchor installation with SESSION 0 while the table holds no anchor (R408). -/
def State.anchorOpen (s : State) (i sub : Nat) : Bool :=
  decide (i = 0x2F00) && (decide (sub = 3) || decide (sub = 4)) && decide (s.sec.anchors = [])

/-- Offsets of a write that do not depend on the object's present state (R319 step 6): 4 KiB blocks of an image within
its TOTAL once a delivery is open; within SIZE for every other DOMAIN. -/
def State.offsetOk (s : State) (i sub : Nat) (d : Desc) (off len : Nat) : Bool :=
  if i = 0x3100 && sub = 1 then
    decide (off % 4096 = 0) && decide (off + len ≤ d.size) &&
      (decide (s.get (ob 0x3100 4) ≠ 1) || off = 0 || decide (off < ofLe (((s.getB (ob 0x3100 0x0E)).drop 0x14).take 4)))
  else if i = 0x2300 && sub = 0x26 then true
  else decide (off + len ≤ d.size)

/-- The blocks of a session: a mapped write is judged from step 5 (R330). -/
def Who.isMapped : Who → Bool
  | .mapped _ => true
  | _ => false

/-! ### The process-image map (R327) -/

/-- One entry of the process-image map. -/
structure MapEnt where
  idx : Nat
  sub : Nat
  dir : Nat
  off : Nat
  owner : Nat
  mode : Nat
  rest : Nat
  deriving DecidableEq, Repr

def mapEntryAt (m : List Byte) (i : Nat) : MapEnt :=
  let e := (m.drop (16 + 16 * i)).take 16
  let f (o n : Nat) : Nat := ofLe ((e.drop o).take n)
  ⟨f 0 2, f 2 1, f 3 1, f 4 4, f 8 1, f 9 1, f 10 6⟩
def mapCount (m : List Byte) : Nat := ofLe (m.take 2)
def mapEntries (m : List Byte) : List MapEnt := (List.range (mapCount m)).map (mapEntryAt m)

/-- The process-image map in force (R328). -/
def State.mapInForce (s : State) : List Byte := s.getB (ob 0x1300 0x83)

/-- The number of the output entry in force that names an object, and the entry. -/
def State.outEntry (s : State) (i sub : Nat) : Option (Nat × MapEnt) :=
  let m := s.mapInForce
  ((List.range (mapCount m)).map (fun e => (e, mapEntryAt m e))).find? (fun p =>
    decide (p.2.idx = i) && decide (p.2.sub = sub) && decide (p.2.dir = 1))

/-- A mapped write is refused: counted for its entry in DOMAIN 0x1300.07 and in 0x1300.08 (R330). -/
def State.mappedRefused (s : State) (i sub : Nat) : State :=
  match s.outEntry i sub with
  | some (e, _) =>
    let old := s.getB (ob 0x1300 7)
    let base := old ++ List.replicate (4 * (e + 1) - old.length) (0 : Byte)
    let c := clampN 0xFFFFFFFF (ofLe ((base.drop (4 * e)).take 4) + 1)
    (s.putB (ob 0x1300 7) (base.take (4 * e) ++ le 4 c ++ base.drop (4 * e + 4))).inc32 (ob 0x1300 8)
  | none => s.inc32 (ob 0x1300 8)

/-- A partition may write an RO application object through its local port or its map: the one that a map entry names as
the owner, or any where no entry names the object (R332). -/
def State.appOwnWrite (s : State) (i sub : Nat) : Who → Bool
  | .port p => within 0x4000 0x7FFF i && (match s.outEntry i sub with | some (_, e) => decide (e.owner = p) | none => true)
  | .mapped _ => within 0x4000 0x7FFF i
  | _ => false

/-- What a family adds to the check and the effect of a write: its consistency rules (step 7), its further state
conditions (step 8), and what it does, with a status of step 9. -/
structure Handler where
  consist : State → Val → Bool
  cond : State → Bool
  run : State → Who → Val → State × Nat
  /-- A role that depends on more than the object (step 4). -/
  role : State → Who → Val → Bool := fun _ _ _ => true

/-- A refusal under R9 is counted with the object, the state and MT (R320). -/
def State.refuse9 (s : State) (i sub : Nat) : State :=
  ((((s.inc32 (ob 0x1200 4)).put (ob 0x1200 5) i).put (ob 0x1200 6) sub).put (ob 0x1200 7) s.dev).put (ob 0x1200 8) s.tm.mt

/-- Accesses that their chapters deny: CAL_OFF outside FREE with calendar source 0 (R35), the debug objects after
DEBUG_LOCK (R419). -/
def State.denied (s : State) (i sub : Nat) : Bool :=
  (decide (i = 0x2000) && decide (sub = 5) && decide (s.tcfg 6 = 0) && decide (s.timeState ≠ 0)) ||
    (decide (i = 0x2F00) && (decide (sub = 0x1A) || decide (sub = 0x1B)) && decide (s.get (ob 0x1000 9) ≠ 0))

/-- Steps 1 to 7 of R319 for a write; 0 where all pass. -/
def State.checkWrite (s : State) (w : Who) (i sub : Nat) (v : Val) (h : Handler) : Nat :=
  let role := s.roleOf w
  if !w.isMapped && role.isNone && !(s.anchorOpen i sub) then stSESSION
  else match s.descOf i sub with
    | none => stUNKNOWN
    | some d =>
      let r := role.getD .op
      if s.denied i sub then stDENIED
      else if !w.isMapped && !((decide (d.acc = .rw) || decide (d.acc = .wo) || decide (d.acc = .rws)) || s.appOwnWrite i sub w) then stDENIED
      else if !w.isMapped && !(s.anchorOpen i sub) && !(r.mayWrite d.wrole) && !(decide (d.acc = .ro) && s.appOwnWrite i sub w) then stROLE
      else if !(h.role s w v) then stROLE
      else match v with
        | .num n =>
          if !d.typ.isFixed then stTYPE
          else if !(inRange d n) || !(h.consist s v) then stRANGE
          else stOK
        | .blk off data =>
          if d.typ.isFixed then stTYPE
          else if 4096 < data.length || (i = 0x3100 && sub = 1 && data.length ≠ 4096) then stTYPE
          else if d.typ = .str && d.size < data.length then stTYPE
          else if d.typ = .str && off ≠ 0 then stOFFSET
          else if d.typ = .dom && !(s.offsetOk i sub d off data.length) then stOFFSET
          else if d.typ = .str && !(utf8Ok data.length data) then stRANGE
          else if !(h.consist s v) then stRANGE
          else stOK

/-- An object is stored, in the application table as well (R317, R332). -/
def State.isStored (s : State) (k : Nat) : Bool :=
  match s.descOf (k / 256) (k % 256) with
  | some d => decide (d.kind = .stored) && decide (d.acc ≠ .rws)
  | none => false

/-- A write of a stored object has changed the working configuration (R426, R428). -/
def State.touched (s : State) : State := s.inc32 (ob 0x3000 4)

/-- An object that a command has written in this frame (R330). -/
def State.noteWrite (s : State) (k : Nat) : State :=
  if s.img.wrote.contains k then s else { s with img := { s.img with wrote := k :: s.img.wrote } }

/-- A write judged under R319 and, where every check passes, carried out: the state and the status answered. In
STANDBY nothing happens and nothing is answered (R9). -/
def State.write (s : State) (w : Who) (i sub : Nat) (v : Val) (h : Handler) : State × Nat :=
  if s.dev = dsSTANDBY then (s, stSilent)
  else
    let c := s.checkWrite w i sub v h
    if c ≠ stOK then (s, c)
    else
      let mask := match s.descOf i sub with | some d => s.statesOf i sub d | none => 0
      if !(bit mask s.dev) || !(h.cond s) then (s.refuse9 i sub, stSTATE)
      else
        let r := h.run s w v
        if r.2 ≠ stOK then r
        else
          let r1 := if s.isStored (ob i sub) then r.1.touched else r.1
          (if w.isMapped then r1 else r1.noteWrite (ob i sub), r.2)

/-- Record the answer of an access that a command makes. -/
def State.answer (s : State) (st aux : Nat) (data : List Byte) : State :=
  { s with ucp := { s.ucp with last := ⟨st, aux, data, s.dev⟩ } }

/-- AUX of a refusal: the reason of an AUTH_FAILED (R405). -/
def State.auxOf (s : State) (st : Nat) : Nat := if st = stAUTH then s.get (ob 0x2F00 0x1C) else 0

/-- A write request as one command: its effect, with the status kept as the newest answer. -/
def State.request (s : State) (w : Who) (i sub : Nat) (v : Val) (h : Handler) : State :=
  let r := s.write w i sub v h
  r.1.answer r.2 (r.1.auxOf r.2) []

/-- A handler with no rule of its own. -/
def Handler.simple (f : State → Who → Val → State × Nat) : Handler := { consist := fun _ _ => true, cond := fun _ => true, run := f }

/-- The number a value carries. -/
def Val.toNum : Val → Nat
  | .num n => n
  | .blk _ _ => 0

/-- Put a block into a staged copy; a write of length 0 at offset 0 discards it (R324, R326). -/
def stageInto (old : List Byte) (off : Nat) (data : List Byte) : List Byte :=
  if data = [] && off = 0 then []
  else
    let base := old ++ List.replicate (off - old.length) (0 : Byte)
    base.take off ++ data ++ base.drop (off + data.length)

end Sys2Proof.Machine
end

