-- ==== Sys2Proof/Machine/Recorder.lean ====
section
/-! DEFINITION. The event recorder: accepting bodies into the retention banks, repeats, held clears, the archive,
bank failures, clearing and application records (R297 to R314). -/

namespace Sys2Proof.Machine

open Sys2Proof

def State.bankUsed (s : State) (b : Nat) : Bool := bit (s.get recBanks) b
def State.directMode (s : State) : Bool := bit (s.get recBanks) 3

/-- Write one slot: to every bank in use at SEQ mod 1,024, or straight to the archive in direct mode (R302, R308). -/
def State.putSlot (s : State) (seq w : Nat) : State :=
  if s.directMode then
    { s.put recArchived (seq + 1) with rcd := { s.rcd with archive := Tbl.set 0 s.rcd.archive (seq % 1048576) w } }
  else
    { s with rcd := { s.rcd with
        bank0 := if s.bankUsed 0 then Tbl.set 0 s.rcd.bank0 (seq % 1024) w else s.rcd.bank0
        bank1 := if s.bankUsed 1 then Tbl.set 0 s.rcd.bank1 (seq % 1024) w else s.rcd.bank1 } }

/-- Write a new slot at the next SEQ. A retention slot whose record is not yet archived is lost with it and counted
(R302, R303). -/
def State.newSlot (s : State) (mk : Nat → Nat) : State :=
  let seq := s.get recNextSeq
  let s1 := s.putSlot seq (mk seq)
  let s2 := s1.put recNextSeq (seq + 1)
  if !s.directMode && s.get recArchived + 1024 ≤ seq then
    { (s2.inc32 recLostCount).put recArchived (seq + 1 - 1024) with
      rcd := { s2.rcd with lostNew := s2.rcd.lostNew + 1 }, flt := { s2.flt with recLost := true } }
  else s2

/-- Write a principal and its continuations as one unit (R298, R299, R302). -/
def State.writeUnit (s : State) (b : Body) : State :=
  let pcc := s.get recPcc
  let s1 := s.newSlot (fun q => principalSlot q b.kind pcc b.flags b.subject b.code (s.get recOpms))
  let s2 := b.conts.foldl (fun t c => t.newSlot (fun q => contSlot q pcc c)) s1
  { s2 with rcd := { s2.rcd with chain := some ⟨b.kind, b.subject, b.code, b.flags, b.mt, none, 0⟩ } }

/-- The UTC continuation a held clear carries is formed when it is written (R305, R306). -/
def State.writeHeld (s : State) : State :=
  match s.rcd.held with
  | none => s
  | some h =>
    let s1 : State := { s with rcd := { s.rcd with held := none } }
    s1.writeUnit
      (Body.mk 5 h.src 0 3 (s.utcCont ++ [⟨6, 0, h.opms⟩]) s.tm.mt (s.get recOpms))

/-- The body repeats the newest principal (R304). -/
def Chain.repeats (c : Chain) (b : Body) : Bool :=
  (decide (b.kind = 3) || decide (b.kind = 14)) && decide (c.kind = b.kind) && decide (c.subject = b.subject) &&
    decide (c.code = b.code) && (decide (b.kind ≠ 3) || decide (bits c.flags 1 2 = bits b.flags 1 2)) &&
    decide (b.mt ≤ c.lastMt + nsS)

/-- Fold a repeat into the LAST continuation of the newest principal (R304). -/
def State.foldRepeat (s : State) (c : Chain) (b : Body) : State :=
  let pcc := s.get recPcc
  let op := s.get recOpms
  let rep := clampN 65535 (c.rep + 1)
  match c.lastSeq with
  | none =>
    let q := s.get recNextSeq
    let s1 := s.newSlot (fun n => contSlot n pcc ⟨2, 1, op⟩)
    { s1 with rcd := { s1.rcd with held := none, chain := some { c with lastMt := b.mt, lastSeq := some q, rep := 1 } } }
  | some q =>
    let arch := s.get recArchived
    let s1 := s.putSlot q (contSlot q pcc ⟨2, rep, op⟩)
    let s2 := if s.directMode then s1.put recArchived arch else s1
    { s2 with rcd := { s2.rcd with
        held := none
        chain := some { c with lastMt := b.mt, rep := rep }
        redo := if decide (q < arch) && !(s2.rcd.redo.contains q) then q :: s2.rcd.redo else s2.rcd.redo } }

/-- An AUTO clear of the source of the newest principal, less than 1 s after its last occurrence (R305). -/
def Chain.holds (c : Chain) (b : Body) : Bool :=
  decide (b.kind = 5) && decide (bits b.flags 0 1 = 1) && decide (c.kind = 3) && decide (c.subject = b.subject) &&
    decide (b.mt < c.lastMt + nsS)

/-- Accept one body (R302, R304, R305). -/
def State.acceptBody (s : State) (b : Body) : State :=
  match s.rcd.chain with
  | none => s.writeHeld.writeUnit b
  | some c =>
    if c.repeats b then s.foldRepeat c b
    else if c.holds b then { s with rcd := { s.rcd with held := some ⟨b.subject, b.opms, b.mt⟩ } }
    else s.writeHeld.writeUnit b

/-- RECORD_POST: the oldest posted body is accepted (R302), from the POWER_UP record of the cycle on (R301). -/
def recordPost (s : State) : State :=
  match s.rcd.fifo with
  | [] => s
  | b :: rest =>
    if s.pwr.opening then s else ({ s with rcd := { s.rcd with fifo := rest } }.acceptBody b).settle

/-- Accept every posted body, as the hold-up save does (R303). -/
def drainFifo : Nat → State → State
  | 0, s => s
  | n + 1, s => if s.rcd.fifo = [] then s else drainFifo n (recordPost s)

/-- RECORD_LOST: when the FIFO is empty after losses, one RECORDER record carries the number lost (R302). -/
def recordLost (s : State) : State :=
  if s.rcd.fifo = [] && 0 < s.rcd.lostNew then
    let n := s.rcd.lostNew
    let s1 := { s with rcd := { s.rcd with lostNew := 0 } }.writeHeld
    s1.writeUnit (Body.mk 13 3 0 0 (s1.utcCont ++ [⟨6, 0, n⟩]) s.tm.mt (s.get recOpms))
  else s

/-- The retention copy of a slot, from a bank in use. -/
def State.retained (s : State) (seq : Nat) : Nat :=
  if s.bankUsed 0 then Tbl.get 0 s.rcd.bank0 (seq % 1024)
  else if s.bankUsed 1 then Tbl.get 0 s.rcd.bank1 (seq % 1024) else 0

def State.archiveSlot (s : State) (seq : Nat) : State :=
  { s with rcd := { s.rcd with archive := Tbl.set 0 s.rcd.archive (seq % 1048576) (s.retained seq) } }

/-- Write SEQ, PCC and OPMS to the non-volatile store (R297). -/
def State.storeCounters (s : State) : State :=
  { s with nv := { s.nv with seq := s.get recArchived, pcc := s.get recPcc, opms := s.get recOpms } }

/-- ARCHIVE_COPY: the next record not yet archived, or one rewritten since, is copied; a failed write raises NVS_ERR
and the record stays (R303). The counters go to the store with the migration (R297). -/
def archiveCopy (ok : Bool) (s : State) : State :=
  if !ok then s.raise srcNVS_ERR 0
  else match s.rcd.redo with
    | q :: rest => ({ s with rcd := { s.rcd with redo := rest } }.archiveSlot q).storeCounters
    | [] =>
      let q := s.get recArchived
      if q < s.get recNextSeq then ((s.archiveSlot q).put recArchived (q + 1)).storeCounters else s

/-- Archive every record outstanding (R303); `n` bounds the records. -/
def archiveAll : Nat → State → State
  | 0, s => s
  | n + 1, s =>
    if s.rcd.redo = [] && s.get recNextSeq ≤ s.get recArchived then s else archiveAll n (archiveCopy true s)

/-- HELD_CLEAR_WRITE: 1 s has passed since the last occurrence folded into the principal (R305). -/
def heldClearWrite (s : State) : State :=
  match s.rcd.chain with
  | some c => if c.lastMt + nsS ≤ s.tm.mt then s.writeHeld.settle else s
  | none => s.writeHeld.settle

/-- Count a bank's failure; a second one since production retires it (R307, R309). -/
def State.bankOut (s : State) (b : Nat) : State :=
  let f0 := s.rcd.fails0 + (if b = 0 then 1 else 0)
  let f1 := s.rcd.fails1 + (if b = 1 then 1 else 0)
  let s1 := ((s.putBit recBanks b false).inc32 (ob 0x2A00 0x0A))
  let s2 := { s1 with rcd := { s1.rcd with fails0 := f0, fails1 := f1 } }
  (s2.putBit recBanks 4 (decide (2 ≤ f0))).putBit recBanks 5 (decide (2 ≤ f1))

/-- REC_BANK_FAIL: one of two banks is taken out of use (R307). -/
def recBankFail (b : Nat) (verify : Bool) (s : State) : State :=
  if b < 2 && s.bankUsed b && s.bankUsed (1 - b) then (s.bankOut b).raise srcREC_BANK (b + 256 * ofBool verify) else s

/-- REC_DUAL_FAIL: the surviving bank fails; DUAL_FAIL and direct mode, with the RECORDER record first (R308). -/
def recDualFail (s : State) : State :=
  if s.bankUsed 0 != s.bankUsed 1 then
    let s1 := ((s.bankOut (if s.bankUsed 0 then 0 else 1)).putBit recBanks 2 true).putBit recBanks 3 true
    let s2 := s1.writeHeld.writeUnit ⟨13, 4, 0, 0, s1.utcCont, s.tm.mt, s.get recOpms⟩
    (s2.raise srcREC_DUAL 0).settle
  else s

/-- A write of 1 to 0x2A00.0D (R309): BUSY unless both banks passed at the last START. A retired bank stays out. -/
def hDualReset : Handler := Handler.simple fun s _ _ =>
  if !s.rcd.passed || !bit (s.get recBanks) 2 then (s, if s.rcd.passed then stOK else stBUSY)
  else
    let out0 := bit (s.get recBanks) 4
    let out1 := bit (s.get recBanks) 5
    let s1 := (((s.putBit recBanks 0 (!out0)).putBit recBanks 1 (!out1)).putBit recBanks 2 false).putBit recBanks 3 (out0 && out1)
    let s2 := s1.follow srcREC_DUAL false 0
    (if out0 || out1 then s2 else s2.follow srcREC_BANK false 0, stOK)

/-- A write of 1 to 0x2A00.0B (R311): the clear record is the first record kept. A held clear goes ahead of it (R305). -/
def hRecClear : Handler := Handler.simple fun s0 w _ =>
  let s := s0.writeHeld
  let q := s.get recNextSeq
  let n := q - s.get recOldest
  let c := s.credOf w
  let s1 := { s with rcd := { s.rcd with bank0 := [], bank1 := [], archive := [], redo := [], held := none, chain := none } }
  let s2 := (((s1.put recOldest q).put recArchived q).put (ob 0x2A00 0x0C) q)
  (s2.writeUnit ⟨13, 1, 0, 0, s2.utcCont ++ [credCont c.1 c.2 n], s.tm.mt, s.get recOpms⟩, stOK)

/-- A write to 0x2A00.0E (R312): at most 100 in any 1 s, the rest BUSY. -/
def hAppRecord : Handler := Handler.simple fun s w v =>
  let recent := s.rcd.appMt.filter (fun t => decide (s.tm.mt < t + nsS))
  if 100 ≤ recent.length then (s, stBUSY)
  else
    let part := match w with | .port p => p % 4 | .mapped p => p % 4 | _ => 3
    let n := v.toNum
    (({ s with rcd := { s.rcd with appMt := s.tm.mt :: recent } }).post 14 (n / 65536) (n % 65536) part [], stOK)

/-- What START does for the recorder (R297, R309): a bank taken out earlier that now passes is refilled from the
other, with the RECORDER record of its return; banks that are retired stay out. -/
def State.recRejoin (s : State) (pass0 pass1 : Bool) : State :=
  let dual := bit (s.get recBanks) 2
  let s0 := { s with rcd := { s.rcd with passed := pass0 && pass1 } }
  if dual then s0
  else
    let join (b : Nat) (pass : Bool) (t : State) : State :=
      if !(t.bankUsed b) && pass && !(bit (t.get recBanks) (4 + b)) then
        let t1 := if b = 0 then { t with rcd := { t.rcd with bank0 := t.rcd.bank1 } }
          else { t with rcd := { t.rcd with bank1 := t.rcd.bank0 } }
        (((t1.putBit recBanks b true).follow srcREC_BANK false 0).post 13 2 b 0 [])
      else t
    join 1 pass1 (join 0 pass0 s0)

def execRecordPost (s : State) : Host.Outcome State Fault Refusal := .next (recordPost s)
def execRecordLost (s : State) : Host.Outcome State Fault Refusal := .next (recordLost s)
def execArchiveCopy (ok : Bool) (s : State) : Host.Outcome State Fault Refusal := .next (archiveCopy ok s)
def execHeldClearWrite (s : State) : Host.Outcome State Fault Refusal := .next (heldClearWrite s)
def execRecBankFail (bank : Nat) (verify : Bool) (s : State) : Host.Outcome State Fault Refusal :=
  .next (recBankFail bank verify s)
def execRecDualFail (s : State) : Host.Outcome State Fault Refusal := .next (recDualFail s)
def execDualFailReset (who : Who) (s : State) : Host.Outcome State Fault Refusal :=
  .next (s.request who 0x2A00 0x0D (.num 1) hDualReset)
def execRecorderClear (who : Who) (s : State) : Host.Outcome State Fault Refusal :=
  .next (s.request who 0x2A00 0x0B (.num 1) hRecClear)
def execApplicationRecord (who : Who) (value : Nat) (s : State) : Host.Outcome State Fault Refusal :=
  .next (s.request who 0x2A00 0x0E (.num value) hAppRecord)
def execCounterStore (s : State) : Host.Outcome State Fault Refusal := .next s.storeCounters

end Sys2Proof.Machine
end

