-- ==== Sys2Proof/Machine/Faults.lean ====
section
/-! DEFINITION. The fault collector's commands: occurrences and clears, forcing, consequential mode, step decay and
the readback of FAULT_N (R269 to R282, R504). -/

namespace Sys2Proof.Machine

open Sys2Proof

/-- FAULT_OCCURRENCE: the block that detects the condition sets the source's raw state (R269, R273). -/
def faultOccurrence (src code : Nat) (s : State) : State := if srcExists src then s.raise src code else s

/-- FAULT_AUTO_CLEAR: the condition has ended and the raw state falls (R279). -/
def faultAutoClear (src : Nat) (s : State) : State := if srcExists src && s.raw src then s.setRaw src false 0 else s

/-- The sources downstream of a block that are still ACTIVE after a consequential occurrence (R275). -/
def State.conseqLeft (s : State) (blk : Nat) : List Nat :=
  (List.range 512).filter fun src =>
    (srcUpstream src (s.get (codeKey src))).contains blk && s.active src && bit (s.get (stKey src)) 4

/-- CONSEQ_MODE_END: 10 µs after the block's reset ended, a source still ACTIVE whose consequential mode ends takes
its reactions as a new occurrence (R275). -/
def conseqModeEnd (blk : Nat) (s : State) : State :=
  if s.flt.settling.contains blk then
    let s1 := { s with flt := { s.flt with
      settling := s.flt.settling.filter (fun b => decide (b ≠ blk))
      causes := s.flt.causes.filter (fun p => decide (p.2 ≠ blk)) } }
    (s1.conseqLeft blk).foldl (fun t src => if t.conseqMode src then t else (t.occurBase src).settle) s1
  else s

/-- STEP_DECAY: STEP returns to 0 after the decay time without an occurrence (R276). -/
def stepDecay (src : Nat) (s : State) : State :=
  let l := Tbl.get 0 s.flt.lastMt src
  if l ≠ 0 && l + s.get (ob 0x2800 7) * nsS ≤ s.tm.mt + 1 && s.escStep src ≠ 0 then
    s.put (stKey src) (setBits (s.get (stKey src)) 6 2 0)
  else s

/-- A write to 0x2800.12 (R279). -/
def hFaultClear : Handler where
  consist := fun _ v => srcExists v.toNum
  cond := fun _ => true
  run := fun s w v => if s.active v.toNum then (s, stBUSY) else (s.clearSource v.toNum (some (s.credOf w)), stOK)

/-- A write of 1 to 0x2800.13: every pending source whose ACTIVE is 0 (R279). -/
def hFaultClearAll : Handler := Handler.simple fun s w _ =>
  (((List.range 512).filter (fun x => s.isPending x && !(s.active x))).foldl (fun t x => t.clearSource x (some (s.credOf w))) s, stOK)

/-- Writes to 0x2800.10 and 0x2800.11 (R280). -/
def hForce (on : Bool) : Handler where
  consist := fun _ v => srcExists v.toNum
  cond := fun _ => true
  run := fun s _ v =>
    let was := s.active v.toNum
    ((s.putBit (stKey v.toNum) 1 on).afterActive v.toNum was, stOK)

/-- A source's configuration word breaks none of the rules of R274, R308 and R425. -/
def cfgOk (src cfg : Nat) : Bool :=
  let hasBlk := (srcBlock src 0).isSome
  decide (bits cfg 5 3 = 0) && decide (bits cfg 10 3 = 0) && decide (cfg / 2 ^ 14 = 0) && srcExists src &&
    ((decide (src ≠ srcHOLLY_SELF) && decide (src ≠ srcCLK_PLL)) || bit cfg 3) &&
    ((decide (src ≠ srcHOLLY_SELF) && decide (src ≠ srcREC_DUAL) && decide (src ≠ srcSEC_DEBUG)) || bit cfg 4) &&
    (hasBlk || (!(bit cfg 2) && decide (bits cfg 8 2 ≠ 1) && decide (bits cfg 8 2 ≠ 3)))

/-- A write of a source configuration (R274, R291): it takes effect for the next occurrence. -/
def hSrcConfig (src : Nat) : Handler where
  consist := fun _ v => cfgOk src v.toNum
  cond := fun _ => true
  run := fun s _ v => (s.put (cfgKey src) v.toNum, stOK)

/-- FAULT_SNS_SAMPLE: the level read on FAULT_SNS; `counts` is false for a sample taken less than 20 µs after the
drive last changed (R281). -/
def faultSnsSample (high counts : Bool) (s : State) : State :=
  let s1 := s.putBit faultPin 2 high
  if !counts then s1
  else if bit (s.get faultPin) 0 then
    if high then
      let n := s1.flt.snsRun + 1
      let s2 := { s1 with flt := { s1.flt with snsRun := n } }
      if n = 10 then s2.raise srcFLT_PIN 0 else s2
    else ({ s1 with flt := { s1.flt with snsRun := 0 } }).follow srcFLT_PIN false 0
  else
    let s2 := { s1 with flt := { s1.flt with snsRun := 0 } }.putBit faultPin 1 (!high)
    if high then s2 else s2.follow srcFLT_PIN false 0

/-- A monitored condition behind a level source is found to stand, or to stand no longer. -/
def levelFinding (src : Nat) (on : Bool) (code : Nat) (s : State) : State := s.follow src on code

/-- SRAM_UNCORRECTABLE_ERROR: the reading core gets a bus error, and SRAM_UE carries bank and word (R270, R19). -/
def sramUncorrectable (bank word : Nat) (s : State) : State :=
  (s.inc32 (ob 0x1400 5)).raise srcSRAM_UE (Config.sramUeCode bank word % 2 ^ 16)

def execFaultOccurrence (src : Fin 512) (code : Nat) (s : State) : Host.Outcome State Fault Refusal :=
  .next (faultOccurrence src.val code s)
def execFaultAutoClear (src : Fin 512) (s : State) : Host.Outcome State Fault Refusal := .next (faultAutoClear src.val s)
def execConseqModeEnd (blk : Nat) (s : State) : Host.Outcome State Fault Refusal := .next (conseqModeEnd blk s)
def execStepDecay (src : Fin 512) (s : State) : Host.Outcome State Fault Refusal := .next (stepDecay src.val s)
def execFaultClearRequest (who : Who) (src : Nat) (s : State) : Host.Outcome State Fault Refusal :=
  .next (s.request who 0x2800 0x12 (.num src) hFaultClear)
def execFaultClearAll (who : Who) (s : State) : Host.Outcome State Fault Refusal :=
  .next (s.request who 0x2800 0x13 (.num 1) hFaultClearAll)
def execForceSet (who : Who) (src : Nat) (s : State) : Host.Outcome State Fault Refusal :=
  .next (s.request who 0x2800 0x10 (.num src) (hForce true))
def execForceClear (who : Who) (src : Nat) (s : State) : Host.Outcome State Fault Refusal :=
  .next (s.request who 0x2800 0x11 (.num src) (hForce false))
def execFaultSnsSample (high counts : Bool) (s : State) : Host.Outcome State Fault Refusal :=
  .next (faultSnsSample high counts s)
def execDieTempExceed (hot : Bool) (s : State) : Host.Outcome State Fault Refusal :=
  .next (levelFinding srcDIE_TEMP hot 0 s)
def execHollyhockRailMismatch (disagree : Bool) (s : State) : Host.Outcome State Fault Refusal :=
  .next (levelFinding srcHOLLY_SELF disagree 0 s)
def execLupinRailMismatch (s : State) : Host.Outcome State Fault Refusal := .next (s.raise srcSPARE_FAIL 0)
def execSramUncorrectableError (bank word : Nat) (s : State) : Host.Outcome State Fault Refusal :=
  .next (sramUncorrectable bank word s)
def execClkPllLoss (lost : Bool) (s : State) : Host.Outcome State Fault Refusal :=
  .next (levelFinding srcCLK_PLL lost 0 s)

end Sys2Proof.Machine
end

