-- ==== Sys2Proof/Machine/Spares.lean ====
section
/-! DEFINITION. The spare manager: pools, wear gauges, swaps, self-tests, the swap history and the wear table
(R284 to R296). -/

namespace Sys2Proof.Machine

open Sys2Proof

/-- Elements of each pool (R285). -/
def poolSize (p : Nat) : Nat := [4, 4, 68, 256, 10, 26, 72, 4].getD p 0

/-- The elements that are spares as the module is delivered (R285): pairs and lanes 3, banks 64 to 67, the second
cell of each switch, controllers 8 and 9, correlator banks 24 and 25, converters 64 to 71, IMU 3. -/
def bornSpare (p e : Nat) : Bool :=
  if p = 0 || p = 1 || p = 7 then decide (e = 3)
  else if p = 2 then decide (64 ≤ e)
  else if p = 3 then decide (e % 2 = 1)
  else if p = 4 then decide (8 ≤ e)
  else if p = 5 then decide (24 ≤ e)
  else decide (64 ≤ e)

/-- A spare may serve an element: a cell only its own switch, a converter only its own group (R285). -/
def mayServe (p spare e : Nat) : Bool :=
  if p = 3 then decide (spare / 2 = e / 2)
  else if p = 6 then decide (spare = 64 + e / 8)
  else true

def elKey (p e : Nat) : Nat := p * 1024 + e
def elemDflt (p e : Nat) : Elem := ⟨if bornSpare p e then 1 else 0, 0, 0, 0, 0, 0⟩
def State.elem (s : State) (p e : Nat) : Elem := Tbl.get (elemDflt p e) s.sp.elems (elKey p e)
def State.setElem (s : State) (p e : Nat) (x : Elem) : State :=
  { s with sp := { s.sp with elems := Tbl.set (elemDflt p e) s.sp.elems (elKey p e) x } }

/-- An element's state, with the pool's count of spares ready kept beside it (R294). -/
def State.setElemState (s : State) (p e st : Nat) : State :=
  let x := s.elem p e
  let k := ob 0x2900 (0x21 + 8 * p)
  let n := s.get k
  let s1 := s.setElem p e { x with state := st }
  if x.state = 1 && st ≠ 1 then s1.put k (n - 1) else if x.state ≠ 1 && st = 1 then s1.put k (n + 1) else s1

/-- A self-check mismatch of a pair, lane, controller or bank is counted since production (R284, R295); a pair and a bank
cross their threshold at the first one. -/
def State.selfCheck (s : State) (p e : Nat) : State :=
  let x := s.elem p e
  let n := clampN 0xFFFFFFFF (x.v2 + 1)
  let lv := clampN 65535 (1000 * n)
  if (p = 0 || p = 5) && x.level ≤ lv then s.setElem p e { x with v2 := n, level := lv, gauge := 5 }
  else s.setElem p e { x with v2 := n }

/-- The ready spares that may serve an element, lowest first (R285). -/
def State.readySpares (s : State) (p e : Nat) : List Nat :=
  (List.range (poolSize p)).filter (fun x => decide ((s.elem p x).state = 1) && mayServe p x e)

/-- SPARE_LOW follows whether some pool has no ready spare; the code names the pool and an element (R289, R504). -/
def State.spareLow (s : State) (p e : Nat) : State :=
  let none := (List.range 8).any (fun q => decide (s.get (ob 0x2900 (0x21 + 8 * q)) = 0))
  s.follow srcSPARE_LOW none (p * 4096 + e)

/-- The state an element takes that a swap has taken out (R288). `cause` is a source number, or 0x8000 plus a gauge
code for a wear swap. -/
def outState (p cause swaps : Nat) : Nat :=
  if 0x8000 ≤ cause then 3
  else if p = 2 || p = 3 then 3
  else if p = 5 || p = 6 then 4
  else if p = 7 then 2
  else if 4 ≤ swaps then 4 else 5

/-- Write one swap to the history, the pool's objects and the recorder (R282, R294, R296, R300). -/
def State.recordSwap (s : State) (p e inn cause result dur mt : Nat) : State :=
  let n := s.get (ob 0x2900 1)
  let b := 0x20 + 8 * p
  let s1 := (((((s.inc32 (ob 0x2900 1)).inc32 (ob 0x2900 (b + 2))).put (ob 0x2900 (b + 3)) mt).put (ob 0x2900 (b + 4)) e).put
    (ob 0x2900 (b + 5)) inn).put (ob 0x2900 (b + 6)) cause
  let s2 := s1.put (ob 0x2900 (b + 7)) result
  let h : SwapRec := ⟨n, mt, p, result, e, inn, cause, dur, (s.elem p e).level⟩
  let s3 := { s2 with sp := { s2.sp with hist := (s2.sp.hist ++ [h]).drop (s2.sp.hist.length + 1 - 256) } }
  s3.post 8 (p * 4096 + e) inn result [⟨6, cause, dur⟩]

/-- Try the ready spares in turn: one that fails its verification is failed, the first that passes is the result
(R286). -/
def trySpares (p : Nat) : List Nat → List Bool → State → State × Option Nat
  | [], _, s => (s, none)
  | x :: rest, vs, s =>
    if vs.headD true then (s, some x) else trySpares p rest vs.tail (s.setElemState p x 4)

/-- The wear crossings that wait, but for those of an element. -/
def State.unwaited (s : State) (p e : Nat) : List (Nat × Nat × Nat) :=
  s.sp.waiting.filter (fun w => !(decide (w.1 = p) && decide (w.2.1 = e)))

/-- An element that a swap has taken out waits for no spare: one swap is made (R286, R290). -/
def State.wearDone (s : State) (p e : Nat) : State :=
  if s.unwaited p e = s.sp.waiting then s
  else ({ s with sp := { s.sp with waiting := s.unwaited p e } }).follow srcWEAR (decide (s.unwaited p e ≠ [])) 0

/-- One swap (R286, R288): the element goes out, the spare serves in its place; with no spare the request is recorded
with result 1, and result 2 where every spare failed its verification. `verify` says of each spare tried whether its
first vote, conversion, dump or exchange lay in tolerance; `dur` is the swap's duration in ns. -/
def State.swap (s : State) (p e cause mt : Nat) (verify : List Bool) (dur : Nat) : State × Option Nat :=
  let cand := s.readySpares p e
  if cand = [] then
    let s1 := if 0x8000 ≤ cause then
        ({ s with sp := { s.sp with waiting := s.unwaited p e ++ [(p, e, cause - 0x8000)] } }).follow srcWEAR true (p * 4096 + e)
      else s.raise srcSPARE_LOW (p * 4096 + e)
    (s1.recordSwap p e 0xFFFF cause 1 dur mt, none)
  else
    match trySpares p cand verify s with
    | (s1, none) => (((s1.recordSwap p e 0xFFFF cause 2 dur mt).raise srcSPARE_FAIL (p * 4096 + e)).spareLow p e, none)
    | (s1, some x) =>
      let n := (s1.elem p e).swaps + 1
      let s2 := s1.setElem p e { s1.elem p e with swaps := n }
      let s3 := (s2.setElemState p e (outState p cause n)).setElemState p x 0
      let s4 := { s3 with sp := { s3.sp with serves := Tbl.set 0 s3.sp.serves (elKey p x) (e + 1) } }
      let s5 := if outState p cause n = 5 then s4.startTimer (0x100000 + elKey p e) else s4
      (((s5.recordSwap p e x cause 0 dur mt).spareLow p e).wearDone p e, some x)

/-- Ask Lupin for a swap; a request for an element that waits already keeps the fault as its cause (R286). -/
def State.askSwap (s : State) (p e cause : Nat) (hold : Bool) : State :=
  let same (r : SwapReq) : Bool := decide (r.pool = p) && decide (r.el = e)
  if s.sp.reqs.any same then
    if 0x8000 ≤ cause then s
    else { s with sp := { s.sp with reqs := s.sp.reqs.map (fun r => if same r then { r with cause := cause, hold := false } else r) } }
  else { s with sp := { s.sp with reqs := s.sp.reqs ++ [⟨p, e, cause, s.tm.mt, hold⟩] } }

def State.reqOf (s : State) (p e : Nat) : Option SwapReq :=
  s.sp.reqs.find? (fun r => decide (r.pool = p) && decide (r.el = e))

def State.dropReq (s : State) (p e : Nat) : State :=
  { s with sp := { s.sp with reqs := s.sp.reqs.filter (fun r => !(decide (r.pool = p) && decide (r.el = e))) } }

/-- The block a pool's elements belong to, for a swap that must wait for the end of its reset (R271, R285); a core pair's
is the way out of its own reset (R18). -/
def poolBlock (p : Nat) : Option Nat :=
  if p = 1 then some blkLARK else if p = 3 then some blkOTU
  else if p = 5 then some blkSUN else if p = 6 then some blkFAB else if p = 7 then some blkYAR else none

/-- A swap that has been asked for can start now (R271, R285). -/
def State.canSwap (s : State) (p : Nat) : Bool :=
  !(s.inReset blkLUPIN) && (match poolBlock p with | some b => !(s.inReset b) | none => true)

/-- Carry out a swap that has been asked for (R286). -/
def State.doRequested (s : State) (p e : Nat) (verify : List Bool) (dur : Nat) : State × Option Nat :=
  match s.reqOf p e with
  | none => (s, none)
  | some r =>
    if r.hold || !(s.canSwap p) then (s, none) else (s.dropReq p e).swap p e r.cause r.mt verify dur

/-- WEAR_CROSSING: a gauge crosses its threshold and asks for a swap (R284, R286); a core pair's waits for its
checkpoint (R285). `level` is in 0.1 % of the threshold. -/
def wearCrossing (p e gauge level v1 v2 : Nat) (s : State) : State :=
  if p < 8 && p ≠ 7 && e < poolSize p then
    let x := s.elem p e
    (s.setElem p e { x with level := level, gauge := gauge, v1 := v1, v2 := v2 }).askSwap p e (0x8000 + gauge) (decide (p = 0))
  else s

/-- SPARE_SWAP: a requested swap is made (R286). A core pair, a bank and a CAN controller are swapped by the commands that
carry what goes with them (R18, R287, R392). -/
def spareSwap (p e : Nat) (verify : List Bool) (dur : Nat) (s : State) : State :=
  if p = 0 || p = 2 || p = 4 then s else (s.doRequested p e verify dur).1

/-- A spare of a pool has become ready: the wear requests that waited for one are made again (R290). -/
def State.spareReady (s : State) (p : Nat) : State :=
  let mine := s.sp.waiting.filter (fun w => decide (w.1 = p))
  let rest := s.sp.waiting.filter (fun w => !(decide (w.1 = p)))
  let s1 := { s with sp := { s.sp with waiting := rest } }
  let s2 := mine.foldl (fun t w => t.askSwap w.1 w.2.1 (0x8000 + w.2.2) (decide (p = 0))) s1
  if mine = [] then s2 else s2.follow srcWEAR (decide (rest ≠ [])) 0

/-- ELEMENT_SELFTEST_DONE: the 1 s self-test of a swapped-out element ends (R288). -/
def elementSelftestDone (p e : Nat) (pass : Bool) (s : State) : State :=
  if (s.elem p e).state = 5 && s.timerPast (0x100000 + elKey p e) nsS then
    let s1 := (s.setElemState p e (if pass then 1 else 4)).stopTimer (0x100000 + elKey p e)
    (if pass then s1.spareReady p else s1).spareLow p e
  else s

/-- SPARE_TEST: the test of a spare that is not in use (R289). Switch cells are tested in START
alone, and an excluded IMU does not come back by a test (R138). -/
def spareTest (p e : Nat) (pass : Bool) (s : State) : State :=
  let st := (s.elem p e).state
  if p ≠ 3 && !(decide (p = 7) && decide (s.get (ob 0x2400 (0x40 + 8 * e)) ≠ 1)) && (st = 1 || st = 2) then
    let s1 := s.setElemState p e (if pass then 1 else 4)
    (if pass && st = 2 then s1.spareReady p else s1).spareLow p e
  else s

/-- SRAM_SCRUB: a pass over a bank found corrected errors (R284): `lastHour` of them in the last hour, `new` of them
new, and whether the same word was corrected twice. -/
def sramScrub (bank lastHour new : Nat) (sameWord : Bool) (s : State) : State :=
  let x := s.elem 2 bank
  let th := s.get (ob 0x2900 0x14)
  let lvl := clampN 65535 (lastHour * 1000 / th)
  let s1 := s.setElem 2 bank { x with v1 := clampN 0xFFFFFFFF lastHour, v2 := clampN 0xFFFFFFFF (x.v2 + new), level := lvl, gauge := 4 }
  if bank < 68 && x.state = 0 && (th ≤ lastHour || sameWord) then
    (s1.raise srcSRAM_CE bank).askSwap 2 bank 0x8004 false
  else s1

/-- SRAM_BANK_COPY: the bank's words are copied to the spare, which then answers at its addresses; a word that cannot
be corrected is poisoned (R287). -/
def sramBankCopy (bank : Nat) (words : List Nat) (verify : List Bool) (dur : Nat) (s : State) : State :=
  match s.doRequested 2 bank verify dur with
  | (s1, some x) => { s1 with sp := { s1.sp with poisoned := s1.sp.poisoned ++ words.map (fun w => x * 65536 + w % 65536) } }
  | (s1, none) => s1

/-- The wear table entry of an element (R295). -/
def State.wearEntry (s : State) (p e : Nat) : List Byte :=
  let x := s.elem p e
  le 1 p ++ le 1 x.state ++ le 2 e ++ le 2 x.level ++ le 1 x.gauge ++ le 1 0 ++ le 4 x.v1 ++ le 4 x.v2

/-- DOMAIN 0x2900.60: 444 entries of 16 bytes in pool order (R295). -/
def State.wearTable (s : State) : List Byte :=
  (List.range 8).flatMap (fun p => (List.range (poolSize p)).flatMap (fun e => s.wearEntry p e))

/-- DOMAIN 0x2900.61: swap n at offset (n mod 256) × 32 (R296). -/
def State.swapHistory (s : State) : List Byte :=
  (List.range 256).flatMap fun i =>
    match s.sp.hist.find? (fun h => decide (h.seq % 256 = i)) with
    | some h => le 4 h.seq ++ le 8 h.mt ++ le 1 h.pool ++ le 1 h.result ++ le 2 h.out ++ le 2 h.inn ++ le 2 h.cause ++
        le 4 h.dur ++ le 2 h.level ++ le 6 0
    | none => le 32 0

def execWearCrossing (pool : Fin 8) (el gauge level v1 v2 : Nat) (s : State) : Host.Outcome State Fault Refusal :=
  .next (wearCrossing pool.val el gauge level v1 v2 s)
def execSpareSwap (pool : Fin 8) (el : Nat) (verify : List Bool) (dur : Nat) (s : State) : Host.Outcome State Fault Refusal :=
  .next (spareSwap pool.val el verify dur s)
def execSramBankCopy (bank : Fin 64) (words : List Nat) (verify : List Bool) (dur : Nat) (s : State) :
    Host.Outcome State Fault Refusal := .next (sramBankCopy bank.val words verify dur s)
def execElementSelftestDone (pool : Fin 8) (el : Nat) (pass : Bool) (s : State) : Host.Outcome State Fault Refusal :=
  .next (elementSelftestDone pool.val el pass s)
def execSpareTest (pool : Fin 8) (el : Nat) (pass : Bool) (s : State) : Host.Outcome State Fault Refusal :=
  .next (spareTest pool.val el pass s)
def execSramScrub (bank : Fin 68) (lastHour new : Nat) (sameWord : Bool) (s : State) : Host.Outcome State Fault Refusal :=
  .next (sramScrub bank.val lastHour new sameWord s)

end Sys2Proof.Machine
end

