-- ==== Sys2Proof/Machine/Time.lean ====
section
/-! DEFINITION. Module time, the time states, the discipline, steps of G_OFF, the calendar and the time pulse
(R30 to R44, R506). -/

namespace Sys2Proof.Machine

open Sys2Proof

def tk (sub : Nat) : Nat := ob 0x2000 sub

def tsFREE : Nat := 0
def tsLOCKED : Nat := 1
def tsHOLDOVER : Nat := 2
def tsUNQUALIFIED : Nat := 3
def tsNETWORK : Nat := 4

/-- The increment per tick in units of 2⁻³² ns: round(10 × (1 + c) × 2³²) for c in 10⁻¹² (R32). -/
def tickInc (c : Int) : Nat := (Q.mk' (10 * (1000000000000 + c) * 2 ^ 32) 1000000000000).roundAway.toNat

def State.rate (s : State) : Int := s.getI32 (tk 9)

/-- MT moves on by a number of ticks, with the fraction below the nanosecond carried (R32); OPMS counts whole ms. -/
def State.advance (s : State) (ticks : Nat) : State :=
  let total := s.tm.frac + ticks * tickInc s.rate
  let mt := s.tm.mt + total / 2 ^ 32
  let s1 := { s with tm := { s.tm with mt := mt, frac := total % 2 ^ 32 } }
  s1.put recOpms (s1.get recOpms + (mt / nsMs - s.tm.mt / nsMs))

/-- The settings of 0x2000 take effect at a second boundary (R48). -/
def State.snapTime (s : State) : State :=
  let subs := [6, 0x0A, 0x0B, 0x0C, 0x0D, 0x0E, 0x0F, 0x10, 0x11, 0x15, 0x16, 0x17]
  { s with tm := { s.tm with conf := subs.foldl (fun t k => Tbl.set (Dict.dflt (tk k)) t (tk k) (s.get (tk k))) [] } }

/-- TIME_FLAGS of R44: SLEWING, STEPPED, CAL_HOST, MT_GAP. -/
def State.timeFlags (s : State) : Nat :=
  ofBool s.tm.slewing + 2 * ofBool s.tm.stepPulse.isSome + 4 * ofBool (decide (s.tcfg 6 = 1)) + 8 * ofBool (s.getBool (tk 0x14))

/-- GPS − UNIX epoch in s (R35). -/
def gpsUnix : Int := 315964800

/-- Change CAL_OFF; more than 1 ms writes a CAL_STEP record with the old and new offsets (R36, R300). -/
def State.setCal (s : State) (v : Int) (subject : Nat) : State :=
  let old := s.getI64 (tk 5)
  let s1 := s.putI64 (tk 5) v
  if 1000000 < (v - old).natAbs then s1.post 7 subject 0 0 [⟨4, 0, i64bits old⟩, ⟨5, 0, i64bits v⟩] else s1

/-- CAL_OFF recomputed from G_OFF and L (R35). -/
def State.recomputeCal (s : State) (subject : Nat) : State :=
  if s.tcfg 6 = 0 && s.timeState ≠ tsFREE then
    let v := s.goff + (gpsUnix - s.getI16 (tk 7)) * 1000000000
    let s1 := { s with tm := { s.tm with stepCal := false } }
    if v = s.getI64 (tk 5) then s1 else s1.setCal v subject
  else s

/-- The first second that a pulse may mark: later than every pulse so far, and at least `lead` ns ahead of MT under
the offset `g` (R40, R506). -/
def State.firstSec (s : State) (g lead : Int) : Int :=
  max (s.tm.lastSec + 1) (-((-((s.tm.mt : Int) + g + lead)) / 1000000000))

/-- The update of R38 for a phase error b in ns and a frequency error d in 10⁻¹². -/
def State.discipline (s : State) (b d : Int) : State :=
  let c := s.rate
  let c' := clampI (-10000000) 10000000 (c + clampI (-10000) 10000 (-d))
  let lim : Int := s.tcfg 0x11
  let s1 := s.putI32 (tk 9) c'
  if b.natAbs < 1000 then
    { s1.putI64 (tk 4) (s.goff - clampI (-lim) lim b) with tm := { s1.tm with slewing := decide (lim < (b.natAbs : Int)) } }
  else
    let sec := (s1.firstSec (s.goff - b) 500000000).toNat
    { s1 with tm := { s1.tm with step := some (-b, sec), stepPulse := some sec, slewing := false, reported := false } }

/-- TIME_SOLUTION_DELIVERY (R156, R37, R38, R29): b in ns, d in 10⁻¹², the 1σ of b in ps, the frequency uncertainty
in 10⁻¹², the satellites applied. A second
in which the false-signal state is DETECTED is not valid (R119). -/
def timeSolutionDelivery (b d : Int) (sigma sf sats : Nat) (s : State) : State :=
  let st := s.timeState
  let need := s.rate - d
  let beyond := decide (10000000 < need.natAbs)
  let valid := decide (4 ≤ sats) && decide (sigma ≤ 50000) && decide (s.get (ob 0x2300 0x25) ≠ 2)
  let ok := valid && !((st = tsHOLDOVER || st = tsUNQUALIFIED) && beyond)
  let s1 := { s with tm := { s.tm with
    solB := b, solD := d, solUnc := sigma, solOk := ok
    sigf := if ok then sf else s.tm.sigf
    good := if ok then s.tm.good + 1 else 0
    bad := if ok then 0 else s.tm.bad + 1
    overRate := beyond && valid } }
  if st = tsLOCKED && valid then
    (s1.discipline b d).follow srcCLK_TCXO (decide (5000000 < need.natAbs)) 0
  else s1

/-- TIME_SOLUTION_DEADLINE: the second counts as not valid; c and G_OFF stand (R37). -/
def timeSolutionDeadline (s : State) : State :=
  { s with tm := { s.tm with good := 0, bad := s.tm.bad + 1, solOk := false, overRate := false } }

/-- The time state at this boundary (R37, R29). -/
def State.nextTimeState (s : State) : Nat :=
  let st := s.timeState
  let net := decide (3 ≤ s.tm.netGood) && decide (s.tcfg 0x15 = 1)
  if st ≠ tsLOCKED && 3 ≤ s.tm.good then tsLOCKED
  else if st = tsLOCKED then
    if s.tm.overRate then tsHOLDOVER
    else if 3 ≤ s.tm.bad then (if net then tsNETWORK else if 3 ≤ s.tm.noneRun then tsHOLDOVER else tsLOCKED)
    else tsLOCKED
  else if st ≠ tsNETWORK && 0 < s.tm.bad && net then tsNETWORK
  else if st = tsNETWORK then (if 3 ≤ s.tm.noneRun then tsHOLDOVER else tsNETWORK)
  else st

/-- The growth of E in one second, in fs: σf + kT × |ΔT|, ΔT in mK (R39). -/
def State.errGrowth (s : State) (dT : Nat) : Nat := s.tm.sigf * 1000 + s.tcfg 0x0C * dT

/-- E as 0x2000.08 shows it, in ns. -/
def State.publishErr (s : State) : State :=
  s.put (tk 8) (if s.timeState = tsFREE then 0xFFFFFFFF
    else clampN 0xFFFFFFFF (Q.mk' (s.tm.errFs : Int) 1000000).roundAway.toNat)

/-- The source's phase error, frequency error and uncertainty in a state that has a source. -/
def State.sourceB (s : State) (st : Nat) : Int := if st = tsNETWORK then s.tm.netB else s.tm.solB
def State.sourceD (s : State) (st : Nat) : Int := if st = tsNETWORK then s.tm.netD else s.tm.solD
def State.sourceUnc (s : State) (st : Nat) : Nat := if st = tsNETWORK then s.tm.netUnc else s.tm.solUnc
def State.sourceOk (s : State) (st : Nat) : Bool := if st = tsNETWORK then s.tm.netOk else s.tm.solOk

/-- E at a boundary (R39, R506): from the source where its second was valid; otherwise grown, the first time for both
seconds since the last valid one. -/
def State.updateErr (s : State) (old new dT : Nat) : State :=
  if new = tsFREE then s
  else if (new = tsLOCKED || new = tsNETWORK) && s.sourceOk new then
    let b := if old = tsFREE then 0 else (s.sourceB new).natAbs
    { s with tm := { s.tm with errFs := b * 1000000 + s.sourceUnc new * 1000, growing := false } }
  else
    let g := s.errGrowth dT
    { s with tm := { s.tm with errFs := s.tm.errFs + (if s.tm.growing then g else 2 * g), growing := true } }

/-- G_OFF set on entry from FREE, to the source's time propagated to the boundary (R506). -/
def State.setGoff (s : State) (new : Nat) : State :=
  s.putI64 (tk 4) (s.goff - (s.sourceB new + (Q.mk' (s.sourceD new) 1000).roundAway))

/-- At a boundary the settings are taken, network time lapses without synchronisation, and the seconds with and without a
source are counted (R37, R45, R48). -/
def State.countSources (s : State) : State :=
  let s9 := s.snapTime
  let ok := s9.tm.netOk && decide (s9.tm.mt ≤ s9.tm.netAt + 375 * nsMs)
  let netV := ok && decide (s9.tcfg 0x15 = 1)
  { s9 with tm := { s9.tm with
    netOk := ok
    netGood := if netV then s9.tm.netGood + 1 else 0
    noneRun := if netV || s9.tm.solOk then 0 else s9.tm.noneRun + 1 } }

/-- Leaving FREE sets G_OFF and starts the pulses anew (R43, R506). -/
def State.leaveFree (s : State) (new : Nat) : State :=
  { s.setGoff new with tm := { s.tm with lastSec := -1, reported := false, pps := false } }

/-- SECOND_BOUNDARY (R35, R37, R39, R48, R506): `dT` is the magnitude of the baseplate's temperature change since the
loss, in mK. -/
def secondBoundary (dT : Nat) (s : State) : State :=
  let s1 := s.countSources
  let old := s1.timeState
  let new0 := s1.nextTimeState
  let s2 := if old = tsFREE && new0 ≠ tsFREE then s1.leaveFree new0 else s1
  let s3 := s2.updateErr old new0 dT
  let hold1 := if new0 = tsHOLDOVER || new0 = tsUNQUALIFIED then
      (if old = tsHOLDOVER || old = tsUNQUALIFIED then s3.tm.hold + 1 else 0) else 0
  let new := if new0 = tsHOLDOVER && old = tsHOLDOVER &&
      (s3.tcfg 0x0A ≤ hold1 || s3.tcfg 0x0B * 1000000 < s3.tm.errFs) then tsUNQUALIFIED else new0
  let s4 := { s3.put (tk 3) new with tm := { s3.tm with
    hold := hold1
    good := if new = tsHOLDOVER && old = tsLOCKED then 0 else s3.tm.good
    slewing := if new = tsLOCKED && old ≠ tsLOCKED && old ≠ tsFREE then
        decide ((s3.tcfg 0x11 : Int) < (s3.tm.solB.natAbs : Int)) && decide (s3.tm.solB.natAbs < 1000)
      else s3.tm.slewing && (new = tsLOCKED || new = tsNETWORK) } }
  let s5 := if new = tsNETWORK && old ≠ tsFREE && s4.tm.netOk then s4.discipline s4.tm.netB s4.tm.netD else s4
  let s6 := if new = tsUNQUALIFIED && s5.tcfg 0x0E = 1 then { s5 with tm := { s5.tm with pps := false, reported := false } } else s5
  let s7 := s6.publishErr.recomputeCal (if s6.tm.stepCal then 2 else 3)
  (s7.follow srcTIME_HOLD (decide (new = tsHOLDOVER) || decide (new = tsUNQUALIFIED)) 0).follow srcTIME_UNQUAL
    (decide (new = tsUNQUALIFIED)) 0

/-- G_OFF takes its stepped value (R40): the count, the step size, TIME_STEP, and the time-step record. As gPTP
grandmaster the module marks the phase change (R46). -/
def State.applyStep (s : State) : State :=
  match s.tm.step with
  | none => s
  | some (size, _) =>
    let s1 := ((s.putI64 (tk 4) (s.goff + size)).inc32 (tk 0x12)).putI64 (tk 0x13) size
    let s2 := { s1 with tm := { s1.tm with step := none, stepCal := true } }
    let g := s2.eth.gp
    let s3 := if g.slave.isNone && s2.tcfg 0x17 = 1 then
        { s2 with eth := { s2.eth with gp := { g with timeBase := (g.timeBase + 1) % 65536, change := size, mark := 0x3F } } } else s2
    (s3.post 6 0 0 0 [⟨6, 0, i64bits size⟩]).raise srcTIME_STEP 0

/-- Pulses are given in the present time state (R41, R43). -/
def State.ppsOn (s : State) : Bool :=
  let st := s.timeState
  if st = tsFREE then decide (s.tcfg 0x0D = 1) else if st = tsUNQUALIFIED then decide (s.tcfg 0x0E = 0) else true

/-- The grid instant of the 400 MHz edge grid nearest to an MT, as (MT truncated to ns, QERR in ps) (R41, R42). -/
def State.gridEdge (s : State) (ideal : Int) : Int × Int :=
  let q : Int := tickInc s.rate
  let base : Int := (s.tm.mt : Int) * 2 ^ 32 + s.tm.frac
  let k := (Q.mk' (4 * (ideal * 2 ^ 32 - base)) q.toNat).roundAway
  let edge4 := 4 * base + k * q
  (edge4 / 2 ^ 34, (Q.mk' ((edge4 - ideal * 2 ^ 34) * 1000) (2 ^ 34)).roundAway)

/-- PULSE_REPORT (R42): the second, QERR and the flags of the next pulse, with the TIME event. -/
def pulseReport (s : State) : State :=
  if s.ppsOn && !s.tm.reported then
    let st := s.timeState
    let g : Int := (if st = tsFREE then 0 else s.goff) + (match s.tm.step with | some (size, _) => size | none => 0)
    let sec : Int := match s.tm.stepPulse with | some n => (n : Int) | none => s.firstSec g 499000000
    let e := s.gridEdge (sec * 1000000000 - g)
    let s1 := (s.putI16 (tk 0x18) e.2).put (tk 0x19) (sec.toNat % 2 ^ 32)
    let s2 := { s1 with tm := { s1.tm with nextMt := e.1.toNat, reported := true } }
    s2.event 2 (le 4 (sec.toNat % 2 ^ 32) ++ le 2 (s2.get (tk 0x18)) ++ le 1 st ++ le 1 s2.timeFlags ++ le 8 e.1.toNat) 0
  else s

/-- PPS_PULSE (R41, R43): the on-time edge of the reported pulse, or, with `off`, the end of the pulse width. -/
def ppsPulse (off : Bool) (s : State) : State :=
  if off then { s with tm := { s.tm with pps := false } }
  else if s.ppsOn && s.tm.reported then
    let sec := s.get (tk 0x19)
    let s1 := { s with tm := { s.tm with
      pps := true, reported := false, lastSec := (sec : Int)
      stepPulse := if s.tm.stepPulse = some sec then none else s.tm.stepPulse } }
    if s.tm.stepPulse = some sec then s1.applyStep else s1
  else s

/-- MT_STORE (R34). -/
def mtStore (s : State) : State := { s with nv := { s.nv with mt := s.tm.mt, corr := s.get (tk 9) } }

/-- STANDBY_OSC_MEASURE (R33, R34): the oscillator's offset over the window, in 10⁻⁹. -/
def standbyOscMeasure (offset : Int) (s : State) : State := s.putI32 (tk 0x1A) (clampI (-200000) 200000 offset)

/-- LEAP_SECOND (R36): L changes, and CAL_OFF with it where the module computes it. -/
def leapSecond (l : Nat) (s : State) : State := (s.put (tk 7) (clampN 255 l)).recomputeCal 1

/-- A write of 0x2000.05 (R35, R36). -/
def hCalOff : Handler := Handler.simple fun s _ v => (s.setCal (signed 64 v.toNum) 0, stOK)

def execTimeSolutionDeadline (s : State) : Host.Outcome State Fault Refusal := .next (timeSolutionDeadline s)
def execSecondBoundary (dT : Nat) (s : State) : Host.Outcome State Fault Refusal := .next (secondBoundary dT s)
def execGoffStepApply (s : State) : Host.Outcome State Fault Refusal := .next s.applyStep
def execPpsPulse (off : Bool) (s : State) : Host.Outcome State Fault Refusal := .next (ppsPulse off s)
def execPulseReport (s : State) : Host.Outcome State Fault Refusal := .next (pulseReport s)
def execMtStore (s : State) : Host.Outcome State Fault Refusal := .next (mtStore s)
def execStandbyOscMeasure (offset : Int) (s : State) : Host.Outcome State Fault Refusal :=
  .next (standbyOscMeasure offset s)
def execLeapSecond (l : Nat) (s : State) : Host.Outcome State Fault Refusal := .next (leapSecond l s)
def execCalOffWrite (who : Who) (value : Int) (s : State) : Host.Outcome State Fault Refusal :=
  .next (s.request who 0x2000 0x05 (.num (i64bits value)) hCalOff)

end Sys2Proof.Machine
end

