-- ==== Sys2Proof/Machine/Inputs.lean ====
section
/-! DEFINITION. The universal inputs and the sensor supplies (R49 to R77): scaling the sealed block, edges,
diagnostics, protection, supplies and their test pulses, spare converters, and the rules of the settings. -/

namespace Sys2Proof.Machine

open Sys2Proof

/-- Object `sub` of channel UINnn. -/
def ik (ch sub : Nat) : Nat := ob (0x2100 + ch % 64) sub
/-- Object `sub` of SUPk: 0 voltage, 1 enable, 2 retry limit, 3 voltage, 4 current, 5 status, 6 trips (R77). -/
def supk (k sub : Nat) : Nat := ob 0x2140 (0x10 * (k + 1) + sub)

def State.chan (s : State) (c : Nat) : ChanSt := Tbl.get ChanSt.reset s.inp.chans c
def State.setChan (s : State) (c : Nat) (f : ChanSt → ChanSt) : State :=
  { s with inp := { s.inp with chans := Tbl.modify ChanSt.reset s.inp.chans c f } }
def State.sup (s : State) (k : Nat) : SupSt := Tbl.get SupSt.reset s.inp.sups k
def State.setSup (s : State) (k : Nat) (f : SupSt → SupSt) : State :=
  { s with inp := { s.inp with sups := Tbl.modify SupSt.reset s.inp.sups k f } }

/-- Conversion interval in ticks for a rate code (R51). -/
def rateInterval (code : Nat) : Nat := [100, 200, 500, 1000, 2500, 5000].getD code 5000

/-- Ranges of each mode (R49). -/
def rangeOk (mode range : Nat) : Bool :=
  if mode = 1 || mode = 7 then decide (range ≤ 2) else if mode = 4 then decide (range ≤ 1)
  else if mode = 9 then true else decide (range = 0)

/-- Modes whose VALUE comes from the converter (R53). -/
def isAnalogue (mode : Nat) : Bool := mode = 1 || mode = 2 || mode = 3 || mode = 6 || mode = 7

/-! ### Supplies -/

def supStatus (s : State) (k i : Nat) : Bool := bit (s.get (supk k 5)) i

/-- A supply is on: enabled, neither tripped nor latched nor held off by Foxglove, and the module powered (R65, R66). -/
def State.supOn (s : State) (k : Nat) : Bool :=
  decide (s.cfg (supk k 1) = 1) && !(supStatus s k 3) && !(supStatus s k 4) && !(supStatus s k 6) &&
    !(supStatus s k 8) && decide (s.dev ≠ dsSTANDBY)

def tmSupRetry (k : Nat) : Nat := 0x200 + k
def tmSupReg (k : Nat) : Nat := 0x208 + k

/-- SUPk_FAULT follows TRIPPED, LATCHED and OVERVOLT (R504). -/
def State.supFault (s : State) (k : Nat) : State :=
  s.follow (srcSUP k) (supStatus s k 3 || supStatus s k 4 || supStatus s k 6) 0

/-- A trip of a supply (R65): off, counted, latched where its retries are used up. -/
def State.supTrip (s : State) (k : Nat) (overvolt : Bool) : State :=
  let lim := s.cfg (supk k 2)
  let latch := decide (lim ≠ 255) && decide (lim ≤ (s.sup k).retries)
  let w := setBit (setBit (s.get (supk k 5)) 0 false) 3 true
  let w1 := setBit (setBit w 4 (bit w 4 || latch)) 6 (overvolt || bit w 6)
  let s1 := ((s.put (supk k 5) w1).inc32 (supk k 6)).startTimer (tmSupReg k)
  (if latch then s1.stopTimer (tmSupRetry k) else s1.startTimer (tmSupRetry k)).supFault k

/-- SUP_TRIP: a supply in current limit for 2 ms (R65). -/
def supTrip (k : Nat) (s : State) : State := if s.supOn k then s.supTrip k false else s

/-- SUP_OVERVOLT: back-feed above 108 % for 1 ms (R65). -/
def supOvervolt (k : Nat) (s : State) : State := if s.supOn k then s.supTrip k true else s

/-- SUP_UNDERVOLT: below 92 % for 1 ms (R65). -/
def supUndervolt (k : Nat) (s : State) : State := if s.supOn k then s.putBit (supk k 5) 5 true else s

/-- SUP_RETRY: 100 ms after a trip (R65). -/
def supRetry (k : Nat) (s : State) : State :=
  if supStatus s k 3 && !(supStatus s k 4) && s.timerPast (tmSupRetry k) (100 * nsMs) then
    let w := setBit (setBit (setBit (s.get (supk k 5)) 0 true) 3 false) 6 false
    let s1 := ((s.put (supk k 5) w).stopTimer (tmSupRetry k)).startTimer (tmSupReg k)
    (s1.setSup k (fun x => { x with retries := x.retries + 1 })).supFault k
  else s

/-- SUP_RETRY_RESET: 10 s of regulation without a trip (R65). -/
def supRetryReset (k : Nat) (s : State) : State :=
  if s.supOn k && s.timerPast (tmSupReg k) (10 * nsS) then
    (s.setSup k (fun x => { x with retries := 0 })).stopTimer (tmSupReg k)
  else s

/-- A write of 0x2140.01: bit k restarts SUPk where it is latched (R65). -/
def hSupRestart : Handler := Handler.simple fun s _ v =>
  ((bitList 8 v.toNum).foldl (fun t k =>
      if supStatus t k 4 then
        let w := setBit (setBit (setBit (t.get (supk k 5)) 3 false) 4 false) 6 false
        ((t.put (supk k 5) w).setSup k (fun x => { x with retries := 0 })).supFault k
      else t) s, stOK)

/-- A write of the enable of SUP0 to SUP3: false cancels a pending retry; true does not restart a latched supply. -/
def hSupEnable (k : Nat) : Handler := Handler.simple fun s _ v =>
  let s1 := s.put (supk k 1) v.toNum
  if v.toNum = 0 && supStatus s k 3 && !(supStatus s k 4) then
    ((((s1.putBit (supk k 5) 3 false).putBit (supk k 5) 6 false).stopTimer (tmSupRetry k)).supFault k, stOK)
  else (s1, stOK)

/-- Ticks since the start of the newest scheduled pulse of SUPk, at a tick of the frame with schedule counter `n`
(R66). -/
def pulseAge (n k tick : Nat) : Nat := ((n + 200 - 50 * (k - 4)) % 200) * 5000 + tick

/-- SUPPLY_TEST_PULSE: Foxglove drives SUPk to 0 V for 300 µs at tick 0 of its scheduled frames (R66). -/
def supplyTestPulse (k : Nat) (s : State) : State :=
  if 4 ≤ k && s.supOn k && s.tm.sched = 50 * (k - 4) then
    (s.putBit (supk k 5) 7 true).setSup k (fun x => { x with pulseMt := s.tm.mt })
  else s

/-- The schedule counter of the frame whose block is sealed. -/
def State.blockSched (s : State) : Nat := (s.tm.sched + 199) % 200

/-- The supplies' monitor samples of the sealed block (R67, R68). -/
def State.scaleSup (s : State) (m : SupMon) : State :=
  if m.k < 8 then
    let on := s.supOn m.k
    let nominal := 1000 * s.cfgB (supk m.k 0)
    let idx := (List.range m.volts.length).filter (fun i =>
      !(decide (4 ≤ m.k) && on && decide (pulseAge s.blockSched m.k (500 * i) < 30000)))
    let vs := idx.map (fun i => m.volts.getD i 0)
    let mean := (Q.mk' ((vs.sum : Nat) : Int) (if vs = [] then 1 else vs.length)).roundAway.toNat
    let low := on && vs.any (fun v => decide (2 * v < nominal))
    let uv := supStatus s m.k 5 && on && decide (100 * mean < 92 * nominal)
    let w0 := setBit (setBit (s.get (supk m.k 5)) 0 on) 2 (on && m.limiting)
    let w1 := setBit (setBit w0 5 uv) 7 (decide (4 ≤ m.k) && on && decide (pulseAge s.blockSched m.k 0 < 30000))
    let w2 := setBit w1 1 (on && !m.limiting && !uv && !(bit w1 6))
    let s1 := ((s.put (supk m.k 3) (clampN 65535 mean)).put (supk m.k 4) (clampN 65535 m.cur)).put (supk m.k 5) w2
    s1.setSup m.k (fun x => { x with agree := if low then 20 else x.agree - 1 })
  else s

/-- The supply is off, out of regulation, or its schedule or level has disagreed (R54, R67). -/
def State.supBad (s : State) (k : Nat) : Bool :=
  !(s.supOn k) || supStatus s k 5 || supStatus s k 6 || decide (0 < (s.sup k).agree)

/-! ### Scaling -/

/-- VALUE units of one code, as (numerator, denominator) (R49). -/
def codeUnit (mode range : Nat) : Nat × Nat :=
  if mode = 1 then ([5000000, 10000000, 32000000].getD range 5000000, 65536)
  else if mode = 2 then (500, 1)
  else if mode = 3 then (200, 1)
  else if mode = 6 then (10000000, 65536)
  else if mode = 7 then ([4000000, 20000000, 100000000].getD range 4000000, 65536)
  else (32000000, 65536)

def isBipolar (mode : Nat) : Bool := mode = 6 || mode = 7

/-- A conversion beyond the converter span (R54). -/
def convOver (mode : Nat) (c : Conv) : Bool :=
  if isBipolar mode then c.code = 0 || c.code = 0xFFFF
  else if mode = 1 || mode = 2 || mode = 3 then c.code = 0xFFFF || c.under
  else false

/-- The supplies a channel's assignment and reference name. -/
def State.chanSups (s : State) (c : Nat) : List Nat :=
  (if s.cfgB (ik c 7) < 8 then [s.cfgB (ik c 7)] else []) ++ (if s.cfgB (ik c 6) = 0 then [] else [s.cfgB (ik c 6) - 1])

/-- The conversion held at a tick of the sealed block is masked by a test pulse (R67). -/
def State.maskedAt (s : State) (c tick : Nat) : Bool :=
  (s.chanSups c).any (fun k =>
    decide (4 ≤ k) && s.supOn k && decide (pulseAge s.blockSched k tick < 30000 + 100 * s.cfgB (ik c 0x15)))

/-- The converter that reads the channel. -/
def State.convOf (s : State) (c : Nat) : Nat := if s.get (ik c 0x19) = 1 then 64 + c / 8 else c

/-- One conversion in the VALUE unit of the mode, calibrated (R53); in bridge mode at 5.000 V of excitation. -/
def State.convValue (s : State) (c mode range code : Nat) : Q :=
  let u := codeUnit mode range
  let x : Int := if isBipolar mode then (code : Int) - 32768 else (code : Int)
  let cal := Q.add (Q.mul (Q.mk' (Config.factoryGain c (s.convOf c) : Int) (2 ^ 30)) (Q.ofInt x))
    (Q.mk' (Config.factoryOffset c (s.convOf c)) (2 ^ 16))
  Q.mul cal (Q.mk' (u.1 : Int) u.2)

/-- The divisor of a ratiometric or bridge conversion at a tick: the monitor sample, in mV (R61). -/
def monAt (mon : List SupMon) (k tick : Nat) : Nat :=
  match mon.find? (fun m => decide (m.k = k)) with
  | some m => m.volts.getD (tick / 500) 0
  | none => 0

/-- What one conversion of the sealed block comes to: masked, discarded for want of a divisor, or a value. -/
inductive ConvRes where
  | masked
  | noDivisor
  | value (x : Q) (out : Bool)
  deriving DecidableEq, Repr

def State.convRes (s : State) (mon : List SupMon) (c mode range i : Nat) (cv : Conv) : ConvRes :=
  let tick := s.cfgB (ik c 4) + i * rateInterval (s.cfgB (ik c 3))
  let ref := s.cfgB (ik c 6)
  if s.maskedAt c tick then .masked
  else
    let x := s.convValue c mode range cv.code
    if ref = 0 || (mode ≠ 1 && mode ≠ 7) then .value x (convOver mode cv)
    else
      let v := monAt mon (ref - 1) tick
      if 2 * v < 1000 * s.cfgB (supk (ref - 1) 0) then .noDivisor
      else .value (Q.mul x (Q.mk' (if mode = 7 then 5000 else 1000) v)) (convOver mode cv)

/-- x of R53: the mean, or in acoustic mode the rms, rounded to 16 fraction bits, in units of 2⁻¹⁶. -/
def meanX (mode : Nat) (xs : List Q) : Int :=
  let n := Q.ofNat xs.length
  let m := if mode = 6 then Q.sqrt (Q.div (Q.sum (xs.map Q.sq)) n) else Q.div (Q.sum xs) n
  (Q.mul m (Q.ofNat 65536)).roundAway

/-- The filter coefficient a = 1 − exp(−2π f_c × 50 µs) as UQ0.16 (R53). -/
def filterA (fc : Nat) : Nat :=
  (Q.mul (Q.sub Q.one (Q.exp (Q.neg (Q.mul Q.pi (Q.mk' ((fc : Nat) : Int) 10000))))) (Q.ofNat 65536)).roundAway.toNat

/-- One step of the filter: y + a × (x − y), the product rounded to 16 fraction bits (R53). -/
def filterStep (fc : Nat) (y x : Int) : Int := y + (Q.mk' ((filterA fc : Int) * (x - y)) 65536).roundAway

def i32sat (x : Int) : Int := clampI (-2147483648) 2147483647 x

/-- The frequency of R58 after the sealed block: (numerator, denominator) in edges per ns, the reference edge, and
ZERO_TIMEOUT. `quad` is quadrature mode. -/
def freqStep (quad : Bool) (now gate zt : Nat) (x : ChanSt) : ChanSt × Bool :=
  let d : Int := if quad then signed 32 (x.sealCount + 2 ^ 32 - x.nRef) else (((x.sealCount + 2 ^ 32 - x.nRef) % 2 ^ 32 : Nat) : Int)
  let x1 := if x.hasRef && 0 < x.sealEdges && x.tRef + gate * 1000 ≤ x.sealTN && x.tRef < x.sealTN then
      { x with fNum := d, fDen := x.sealTN - x.tRef, tRef := x.sealTN, nRef := x.sealCount } else x
  let age := now - x1.sealTN
  if zt * nsMs < age then ({ x1 with fNum := 0, fDen := 1 }, true)
  else if age ≠ 0 && x1.fDen < x1.fNum.natAbs * age then
    ({ x1 with fNum := if x1.fNum < 0 then -1 else 1, fDen := age }, false)
  else (x1, false)

/-- VALUE of frequency and quadrature modes: mHz, or the period in units of 10 ns (R58). -/
def freqValue (mode range : Nat) (x : ChanSt) : Int :=
  if mode = 4 && range = 1 then
    if x.fNum = 0 then 0x7FFFFFFF else i32sat (Q.mk' (x.fDen : Int) (10 * x.fNum.natAbs)).roundAway
  else i32sat (Q.mk' (x.fNum * 1000000000000) x.fDen).roundAway

/-- The blocks a time in ms takes to pass. -/
def runPast (run ms : Nat) : Bool := decide (ms * 20 ≤ run)

/-- Run lengths of the diagnostic comparison (R63): `lo` is compared with DIAG_LO and `hi` with DIAG_HI. -/
def diagRuns (en : Bool) (dlo dhi lo hi : Int) (ms : Nat) (x : ChanSt) : ChanSt :=
  if !en then { x with lowRun := 0, highRun := 0, okRun := 0, diagLow := false, diagHigh := false }
  else
    let isLow := decide (lo < dlo)
    let isHigh := decide (dhi < hi)
    let ok := if !isLow && !isHigh then x.okRun + 1 else 0
    let clr := runPast ok ms
    { x with
      lowRun := if isLow then x.lowRun + 1 else 0
      highRun := if isHigh then x.highRun + 1 else 0
      okRun := ok
      diagLow := x.diagLow && !clr
      diagHigh := x.diagHigh && !clr }

/-- One channel's values and status for the sealed block (R53 to R55, R57 to R64). -/
def State.scaleChan (s : State) (mon : List SupMon) (c : Nat) (convs : List Conv) : State :=
  let mode := s.cfgB (ik c 1)
  let range := s.cfgB (ik c 2)
  let x0 := s.chan c
  let convFail := decide (s.get (ik c 0x19) = 0xFF)
  let cvs := if x0.protect || convFail || mode = 0 then [] else convs
  let res := (List.range cvs.length).map (fun i => s.convRes mon c mode range i (cvs.getD i ⟨0, false⟩))
  let xs := res.filterMap (fun r => match r with | .value x _ => some x | _ => none)
  let masked := (res.filter (fun r => decide (r = .masked))).length
  let noDiv := res.any (fun r => decide (r = .noDivisor))
  let overR := res.any (fun r => match r with | .value _ b => b | _ => false)
  let fc := s.cfgB (ik c 5)
  let fz := freqStep (mode = 5) s.tm.mt (s.cfgB (ik c 0x0C)) (s.cfgB (ik c 0x0D)) x0
  let isFreq := mode = 4 || mode = 5
  let x1 := if isFreq then fz.1 else x0
  let zt := isFreq && fz.2
  let xm := meanX mode xs
  let y := match x0.y with
    | none => xm
    | some y0 => if fc = 0 then xm else filterStep fc y0 xm
  let usesConv := isAnalogue mode || mode = 9
  let keep := decide (xs = [])
  let v : Int :=
    if usesConv then (if keep then s.getI32 (ik c 0x16) else i32sat (Q.mk' y 65536).roundAway)
    else if isFreq then (if x0.settling || !x0.hasRef then (if mode = 4 && range = 1 then 0x7FFFFFFF else 0) else freqValue mode range x1)
    else if mode = 8 then (if x0.dig then 1 else 0)
    else 0
  let pins := xs.map (fun q => q.roundAway)
  let lo := if usesConv then v else pins.foldl max (pins.headD 0)
  let hi := if usesConv then v else pins.foldl min (pins.headD 0)
  let hasDiag := decide (s.cfgB (ik c 0x11) = 1) && decide (mode ≠ 0) && !(convFail)
  let x2 := if keep then (if hasDiag then x1 else diagRuns false 0 0 0 0 1 x1)
    else diagRuns hasDiag (signed 32 (s.cfgB (ik c 0x12))) (signed 32 (s.cfgB (ik c 0x13))) lo hi (s.cfgB (ik c 0x14)) x1
  let res3 := decide (mode = 3)
  let x3 := { x2 with
    y := if usesConv && !keep then (if x0.settling then none else some y) else x2.y
    resHigh := if res3 then (if keep then x2.resHigh else decide (12000000 < v)) else false
    resLow := if res3 then (if keep then x2.resLow else decide (v < 5000)) else false
    samples := xs.length
    edgeTime := x2.sealTN % 2 ^ 32 }
  let low := x3.diagLow || x3.resLow
  let high := x3.diagHigh || x3.resHigh
  let supFail := (s.chanSups c).any s.supBad || noDiv ||
    (s.raw srcSUP_MON && ((mode = 1 && s.cfgB (ik c 6) ≠ 0) || mode = 7))
  let ovf := decide (8 < x0.sealEdges)
  let flags := x0.settling || overR || low || high || x0.protect || supFail || x0.sealSuspect
  let haveConv := decide (xs ≠ []) || (decide (0 < masked) && decide (masked = cvs.length))
  let valid := decide (mode ≠ 0) && !flags && (if usesConv then haveConv && !convFail else true)
  let st := ofBool valid + 2 * ofBool x0.settling + 4 * ofBool overR + 8 * ofBool low + 16 * ofBool high +
    32 * ofBool x0.protect + 64 * ofBool (decide (0 < masked)) + 128 * ofBool supFail + 256 * ofBool zt +
    512 * ofBool ovf + 1024 * ofBool x0.sealQuad + 2048 * ofBool (decide (s.get (ik c 0x19) = 1)) +
    4096 * ofBool convFail + 8192 * ofBool x0.sealSuspect + 16384 * ofBool (decide (mode = 9))
  let x4 := { x3 with
    settling := x0.settling || decide (0 < x0.newSettle)
    settleLeft := if 0 < x0.newSettle then x0.newSettle else x0.settleLeft - 1
    newSettle := 0
    y := if 0 < x0.newSettle then none else x3.y }
  let s1 := ((s.putI32 (ik c 0x16) v).put (ik c 0x17) st).put (ik c 0x18) (if mode = 9 then 0 else x0.sealCount)
  let s2 := (s1.add32 (ik c 0x1D) masked).add32 (ik c 0x1A) (ofBool ovf)
  (s2.setChan c (fun _ => x4)).follow (srcIN_DIAG c) (low || high) 0

/-- SCALE (R53): the monitor samples first, then every channel. A fabric in reset scales nothing (R75). -/
def scaleBlock (blk : List ChBlock) (mon : List SupMon) (s : State) : State :=
  if s.inReset blkFAB then s
  else
    let s1 := mon.foldl State.scaleSup s
    let s2 := (List.range 64).foldl (fun t c =>
      t.scaleChan mon c (match blk.find? (fun b => decide (b.ch = c)) with | some b => b.convs | none => [])) s1
    { s2 with inp := { s2.inp with block := blk } }

/-- What the Seal tick does to a channel (R51, R74): its edges close with the block, and a changed setting starts
SETTLING with the block that opens. `old` and `new` are the settings' stores before and at this tick. -/
def sealChan (old new : Tbl Nat) (c : Nat) (x : ChanSt) : ChanSt :=
  let chg (sub : Nat) : Bool :=
    decide (Tbl.get (Dict.dflt (ik c sub)) old (ik c sub) ≠ Tbl.get (Dict.dflt (ik c sub)) new (ik c sub))
  { x with
    newSettle := if chg 1 || chg 2 || chg 3 || chg 6 || chg 0x0F then 40 else if chg 5 then max x.newSettle 1 else x.newSettle
    sealEdges := x.edges, sealStamps := x.stamps, sealQuad := x.quadErr, sealCount := x.count, sealTN := x.tN
    sealSuspect := x.suspect
    edges := 0, stamps := [], quadErr := false, suspect := false }

def State.sealInputs (s : State) : State :=
  { s with inp := { s.inp with chans := (List.range 64).foldl (fun t c => Tbl.modify ChanSt.reset t c (sealChan s.objsB s.objs0 c)) s.inp.chans } }

/-- SETTLING_END: 40 blocks after the change, or the first block after a new filter corner (R74, R58). -/
def settlingEnd (c : Nat) (s : State) : State :=
  if (s.chan c).settling && (s.chan c).settleLeft = 0 then
    s.setChan c (fun x => { x with settling := false, hasRef := false, tN := s.tm.mt, sealTN := s.tm.mt, fNum := 0, fDen := 1, y := none })
  else s

/-- After a reset of the capture fabric: SETTLING for 40 frames, new reference edges; COUNT continues (R75). -/
def State.fabRestart (s : State) : State :=
  { s with inp := { s.inp with
      block := []
      chans := (List.range 64).foldl (fun t c => Tbl.modify ChanSt.reset t c (fun x =>
        { x with newSettle := 40, hasRef := false, edges := 0, stamps := [], quadErr := false, y := none })) s.inp.chans } }

/-! ### Edges -/

/-- A selected edge: COUNT, the list of stamps, the first reference after SETTLING (R57, R58). -/
def addEdge (stamp : Nat) (step : Int) (x : ChanSt) : ChanSt :=
  let n := ((x.count : Int) + step) % 2 ^ 32
  let x1 := { x with
    count := n.toNat, tN := stamp, edges := x.edges + 1
    stamps := (x.stamps ++ [stamp]).drop (x.stamps.length + 1 - 8) }
  if x.settling || x.hasRef then x1 else { x1 with hasRef := true, tRef := stamp, nRef := n.toNat }

/-- The edge selection 0 rising, 1 falling, 2 both takes a change to `up`. -/
def edgeSelected (sel : Nat) (up : Bool) : Bool := decide (sel = 2) || (if up then decide (sel = 0) else decide (sel = 1))

/-- The step a quadrature transition counts: line A or B of the pair goes to `up` while the other stands at `other`
(R59). -/
def quadStep (dec : Nat) (isA up other : Bool) : Option Int :=
  if isA then
    if dec = 1 then (if up then some (if other then -1 else 1) else none)
    else some (if up != other then 1 else -1)
  else if dec = 4 then some (if up = other then 1 else -1)
  else none

/-- INPUT_EDGE (R56, R59, R60): a change accepted with the MT stamp of its crossing; `both` says that the other line
of a quadrature pair changed within the same 10 ns. -/
def inputEdge (c : Nat) (up both : Bool) (stamp : Nat) (s : State) : State :=
  if s.inReset blkFAB then s
  else
    let a := c - c % 2
    let s0 := s.setChan c (fun x => { x with line := up })
    if s.cfg (ik a 1) = 5 then
      if both then (s0.setChan a (fun x => { x with quadErr := true })).inc32 (ik a 0x1B)
      else
        let other := (s.chan (if c = a then a + 1 else a)).line
        match quadStep (s.cfg (ik a 0x0E)) (decide (c = a)) up other with
        | some d => s0.setChan a (addEdge stamp d)
        | none => s0
    else if s.cfg (ik c 1) = 4 then
      if edgeSelected (s.cfg (ik c 0x0A)) up then s0.setChan c (addEdge stamp 1) else s0
    else if s.cfg (ik c 1) = 8 then
      let s1 := s0.setChan c (fun x => { x with dig := up })
      if edgeSelected (s.cfg (ik c 0x0A)) up then s1.setChan c (addEdge stamp 1)
      else s1.setChan c (fun x => { x with tN := stamp })
    else s0

/-! ### Diagnostics and protection -/

/-- INPUT_DIAG_FAULT: the limit has been passed for the diagnostic time (R63). -/
def inputDiagFault (c : Nat) (high : Bool) (s : State) : State :=
  let x := s.chan c
  let ms := s.cfg (ik c 0x14)
  if (if high then runPast x.highRun ms && !x.diagHigh else runPast x.lowRun ms && !x.diagLow) then
    let s1 := (s.setChan c (fun y => if high then { y with diagHigh := true } else { y with diagLow := true })).inc32 (ik c 0x1C)
    (s1.putBit (ik c 0x17) (if high then 4 else 3) true).follow (srcIN_DIAG c) true 0
  else s

def tmProt (c : Nat) : Nat := 0x240 + c

/-- CURRENT_INPUT_PROTECT: the burden is disconnected (R64). -/
def currentInputProtect (c : Nat) (s : State) : State :=
  if s.cfg (ik c 1) = 2 then
    ((s.setChan c (fun x => { x with protect := true })).putBit (ik c 0x17) 5 true).startTimer (tmProt c)
  else s

/-- CURRENT_INPUT_TRIAL: every 1 s the burden is reconnected for a trial (R64). -/
def currentInputTrial (c : Nat) (s : State) : State :=
  if (s.chan c).protect && s.timerPast (tmProt c) nsS then
    (s.setChan c (fun x => { x with protect := false })).startTimer (tmProt c)
  else s

/-! ### Spare converters -/

def tmConfirm (c : Nat) : Nat := 0x280 + c

/-- A converter is decided failed (R71): ADC_nn, SUSPECT for the open block, and the request to Lupin. -/
def State.convFailed (s : State) (c : Nat) : State :=
  if (s.chan c).failed then s
  else
    let s1 := s.setChan c (fun x => { x with failed := true, suspect := true, disagree := 0 })
    ((s1.follow (srcADC c) true 0).askSwap 6 c (srcADC c) false).startTimer (tmConfirm c)

/-- The channel a group's spare shadows next: ascending among those that convert (R69). -/
def State.nextShadow (s : State) (g : Nat) : Nat :=
  let cur := Tbl.get 0 s.inp.shadow g
  let order := (List.range 8).map (fun i => (cur + 1 + i) % 8)
  match order.find? (fun i => decide (s.cfg (ik (8 * g + i) 1) ≠ 0)) with
  | some i => i
  | none => cur

/-- SHADOW_WINDOW_END (R69): the calibrated means of the own and the spare converter in units of 2⁻¹⁶ of a code;
`counts` is false for a window that gives no comparison. -/
def shadowWindowEnd (g : Nat) (own sp : Int) (counts : Bool) (s : State) : State :=
  if (s.elem 6 (64 + g)).state = 1 then
    let c := 8 * g + Tbl.get 0 s.inp.shadow g
    let s1 := { s with inp := { s.inp with shadow := Tbl.set 0 s.inp.shadow g (s.nextShadow g) } }
    if s.cfg (ik c 1) = 0 || !counts || (s.chan c).failed then s1
    else if 5 * 65536 * 65536 < (own - sp).natAbs * 10000 then
      let n := (s.chan c).disagree + 1
      let y := s1.elem 6 c
      let s2 := (s1.setElem 6 c { y with v1 := clampN 0xFFFFFFFF (y.v1 + 1) }).setChan c (fun x => { x with disagree := n })
      if 3 ≤ n then s2.convFailed c else s2
    else s1.setChan c (fun x => { x with disagree := 0 })
  else s

/-- CONVERSION_FAIL: a conversion that fails its checks is discarded; two within 1 ms fail the converter (R70). -/
def conversionFail (c : Nat) (s : State) : State :=
  let x := s.chan c
  if s.cfg (ik c 1) = 0 then s
  else
    let z := s.elem 6 c
    let s1 := (s.setElem 6 c { z with v2 := clampN 0xFFFFFFFF (z.v2 + 1) }).setChan c (fun y => { y with lastBad := s.tm.mt + 1 })
    if x.lastBad ≠ 0 && s.tm.mt + 1 ≤ x.lastBad + nsMs then s1.convFailed c else s1

/-- The channel carries CONV_FAIL from now on (R72). -/
def State.convNone (s : State) (c : Nat) : State :=
  ((s.put (ik c 0x19) 0xFF).putBit (ik c 0x17) 12 true).dropReq 6 c

/-- SPARE_CONVERTER_SWITCH: at the Seal tick Lupin switches SPCg to the channel (R71). -/
def spareConverterSwitch (c : Nat) (verify : List Bool) (dur : Nat) (s : State) : State :=
  if (s.reqOf 6 c).isSome then
    match s.doRequested 6 c verify dur with
    | (s1, some _) => ((s1.put (ik c 0x19) 1).stopTimer (tmConfirm c)).follow (srcADC c) false 0
    | (s1, none) => if (s1.reqOf 6 c).isSome then s1 else (s1.convNone c).stopTimer (tmConfirm c)
  else s

/-- SPARE_CONFIRM_TIMEOUT: the spare is in use, or 2 frames have passed without its confirmation (R72). -/
def spareConfirmTimeout (c : Nat) (s : State) : State :=
  if (s.chan c).failed && s.get (ik c 0x19) = 0 && ((s.elem 6 (64 + c / 8)).state = 0 || s.timerPast (tmConfirm c) 100000) then
    (s.convNone c).stopTimer (tmConfirm c)
  else s

/-! ### Settings -/

/-- A write of a channel's mode (R50, R52). -/
def hInMode (c : Nat) : Handler where
  consist := fun s v => decide (s.get (ik c 1) ≠ 9) && decide (v.toNum ≤ 8) &&
    !((v.toNum = 5 || v.toNum = 7) && c % 2 = 1)
  cond := fun _ => true
  run := fun s _ v =>
    let m := v.toNum
    let old := s.get (ik c 1)
    let s1 := s.put (ik c 1) m
    let s2 := if m = 6 && 2 ≤ s.get (ik c 3) then (s1.put (ik c 3) 0).put (ik c 4) 0 else s1
    let s3 := if rangeOk m (s.get (ik c 2)) then s2 else s2.put (ik c 2) 0
    let pairNow := m = 5 || m = 7
    let pairOld := old = 5 || old = 7
    (if pairNow then s3.put (ik (c + 1) 1) 9 else if pairOld then s3.put (ik (c + 1) 1) 0 else s3, stOK)

def hInRange (c : Nat) : Handler where
  consist := fun s v => rangeOk (s.get (ik c 1)) v.toNum
  cond := fun _ => true
  run := fun s _ v => (s.put (ik c 2) v.toNum, stOK)

def hInRate (c : Nat) : Handler where
  consist := fun s v => decide (s.get (ik c 1) ≠ 6) || decide (v.toNum ≤ 1)
  cond := fun _ => true
  run := fun s _ v =>
    let s1 := s.put (ik c 3) v.toNum
    (if rateInterval v.toNum ≤ s.get (ik c 4) then s1.put (ik c 4) 0 else s1, stOK)

def hInPhase (c : Nat) : Handler where
  consist := fun s v => decide (v.toNum < rateInterval (s.cfg (ik c 3)))
  cond := fun _ => true
  run := fun s _ v => (s.put (ik c 4) v.toNum, stOK)

def execInputEdge (ch : Fin 64) (up both : Bool) (stamp : Nat) (s : State) : Host.Outcome State Fault Refusal :=
  .next (inputEdge ch.val up both stamp s)
def execInputDiagFault (ch : Fin 64) (high : Bool) (s : State) : Host.Outcome State Fault Refusal :=
  .next (inputDiagFault ch.val high s)
def execCurrentInputProtect (ch : Fin 64) (s : State) : Host.Outcome State Fault Refusal :=
  .next (currentInputProtect ch.val s)
def execCurrentInputTrial (ch : Fin 64) (s : State) : Host.Outcome State Fault Refusal :=
  .next (currentInputTrial ch.val s)
def execSettlingEnd (ch : Fin 64) (s : State) : Host.Outcome State Fault Refusal := .next (settlingEnd ch.val s)
def execSupTrip (k : Fin 8) (s : State) : Host.Outcome State Fault Refusal := .next (supTrip k.val s)
def execSupRetry (k : Fin 8) (s : State) : Host.Outcome State Fault Refusal := .next (supRetry k.val s)
def execSupUndervolt (k : Fin 8) (s : State) : Host.Outcome State Fault Refusal := .next (supUndervolt k.val s)
def execSupOvervolt (k : Fin 8) (s : State) : Host.Outcome State Fault Refusal := .next (supOvervolt k.val s)
def execSupRetryReset (k : Fin 8) (s : State) : Host.Outcome State Fault Refusal := .next (supRetryReset k.val s)
def execSupRestart (who : Who) (mask : Nat) (s : State) : Host.Outcome State Fault Refusal :=
  .next (s.request who 0x2140 0x01 (.num mask) hSupRestart)
def execSupplyTestPulse (k : Fin 8) (s : State) : Host.Outcome State Fault Refusal := .next (supplyTestPulse k.val s)
def execShadowWindowEnd (g : Fin 8) (own sp : Int) (counts : Bool) (s : State) : Host.Outcome State Fault Refusal :=
  .next (shadowWindowEnd g.val own sp counts s)
def execConversionFail (ch : Fin 64) (s : State) : Host.Outcome State Fault Refusal := .next (conversionFail ch.val s)
def execSpareConverterSwitch (ch : Fin 64) (verify : List Bool) (dur : Nat) (s : State) :
    Host.Outcome State Fault Refusal := .next (spareConverterSwitch ch.val verify dur s)
def execSpareConfirmTimeout (ch : Fin 64) (s : State) : Host.Outcome State Fault Refusal :=
  .next (spareConfirmTimeout ch.val s)
def execSupplyMonitorFault (faulty : Bool) (s : State) : Host.Outcome State Fault Refusal :=
  .next (levelFinding srcSUP_MON faulty 0 s)

end Sys2Proof.Machine
end

