-- ==== Sys2Proof/Machine/Receiver.lean ====
section
/-! DEFINITION. The satellite baseband (R100 to R131): antenna feeds, channels and their states, acquisition, aiding,
interference, false-signal checks, measurement epochs, NMEA, corrections, spare correlator banks. -/

namespace Sys2Proof.Machine

open Sys2Proof

def rk (sub : Nat) : Nat := ob 0x2300 sub
/-- Object `sub` of chain c's status block: 0 status, 1 J/N, 2 share, 3 blanked, 4 to 7 notches, 8 AGC (R131). -/
def rck (c sub : Nat) : Nat := ob 0x2300 (0x50 + 0x10 * c + sub)

def rxIDLE : Nat := 0
def rxSEARCH : Nat := 1
def rxVERIFY : Nat := 2
def rxPULL_IN : Nat := 3
def rxTRACK : Nat := 4
def rxCOAST : Nat := 5
def rxREACQ : Nat := 6

def State.rxc (s : State) (c : Nat) : RxChan := Tbl.get RxChan.reset s.rx.chans c

/-- The receiver's counts of channels and its state (0x2300.05 to .07). -/
def State.rxCounts (s : State) : State :=
  let tr := s.rx.chans.filter (fun p => decide (p.2.state = rxTRACK))
  let ve := tr.filter (fun p => decide (p.2.mode = 2))
  ((s.put (rk 6) tr.length).put (rk 7) ve.length).put (rk 5)
    (if s.cfg (rk 1) = 0 then 0 else if tr = [] then 1 else 2)

def State.setRx (s : State) (c : Nat) (f : RxChan → RxChan) : State :=
  { s with rx := { s.rx with chans := Tbl.modify RxChan.reset s.rx.chans c f } }.rxCounts

def State.setRf (s : State) (c : Nat) (f : RfChain → RfChain) : State := { s with rx := { s.rx with rf := oneOf RfChain.reset 4 s.rx.rf c f } }
def State.rf (s : State) (c : Nat) : RfChain := s.rx.rf.getD c RfChain.reset

/-- A start mark: kept while the condition holds, set when it begins, 0 while it does not hold. -/
def markAt (now : Nat) (cond : Bool) (old : Nat) : Nat := if cond then (if old = 0 then now + 1 else old) else 0
/-- A mark has stood for `ns`. -/
def State.stood (s : State) (mark ns : Nat) : Bool := decide (mark ≠ 0) && decide (mark + ns ≤ s.tm.mt + 1)

/-! ### Antenna feeds (R102) -/

def feedState (s : State) (a : Nat) : Nat := bits (s.get (rk 0x1A)) (2 * a) 2
def State.setFeed (s : State) (a st : Nat) : State :=
  (s.put (rk 0x1A) (setBits (s.get (rk 0x1A)) (2 * a) 2 st)).follow (srcGNSS_ANT a) (decide (st = 2) || decide (st = 3)) 0
def State.feedEnabled (s : State) (a : Nat) : Bool := bit (s.cfg (rk 0x19)) a
def tmFeed (a : Nat) : Nat := 0x2C0 + a

def antFeedShort (a : Nat) (s : State) : State :=
  if s.feedEnabled a then
    let s1 : State := { s with rx := { s.rx with feedOn := setBit s.rx.feedOn a false } }
    (s1.setFeed a 3).startTimer (tmFeed a)
  else s

def antFeedTrial (a : Nat) (s : State) : State :=
  if s.feedEnabled a && feedState s a = 3 && s.timerPast (tmFeed a) nsS then
    { s.startTimer (tmFeed a) with rx := { s.rx with feedOn := setBit s.rx.feedOn a true } }
  else s

def antFeedOpen (a : Nat) (s : State) : State :=
  if s.feedEnabled a && bit s.rx.feedOn a then s.setFeed a 2 else s

def antFeedNormal (a : Nat) (s : State) : State :=
  if s.feedEnabled a && bit s.rx.feedOn a then s.setFeed a 1 else s

/-- At tick 0 a feed follows its enable bit: cleared, it is neither driven nor judged. -/
def State.feedTick (s : State) (a : Nat) : State :=
  if s.feedEnabled a then
    (if feedState s a = 3 then s else { s with rx := { s.rx with feedOn := setBit s.rx.feedOn a true } })
  else
    let s1 : State := { s with rx := { s.rx with feedOn := setBit s.rx.feedOn a false } }
    if feedState s a = 0 then s1 else s1.setFeed a 0

/-! ### Signals, banks and channels -/

/-- A signal uses the L5 chain of its antenna (R103). -/
def sigL5 (sig : Nat) : Bool := sig = 3 || sig = 5 || sig = 7 || sig = 10
def sigSys (sig : Nat) : Nat := [0, 0, 0, 0, 1, 1, 2, 2, 3, 4, 4, 5].getD sig 0
/-- Signals with a data component alone (R103). -/
def sigDataOnly (sig : Nat) : Bool := sig = 1 || sig = 8 || sig = 9 || sig = 11
/-- A signal is received (R103). -/
def State.sigOn (s : State) (sig : Nat) : Bool := bit (s.cfg (rk 2)) (sigSys sig) && bit (s.cfg (rk 3)) (sig - 1)
def chainOf (ant sig : Nat) : Nat := (ant - 1) * 2 + (if sigL5 sig then 1 else 0)
def State.chainUsed (s : State) (c : Nat) : Bool := bit (s.get (rck c 0)) 0

/-- The bank element that serves logical bank b: the bank itself, or the spare that a swap put in its place (R127). -/
def State.bankOf (s : State) (b : Nat) : Nat :=
  if (s.elem 5 b).state = 0 then b
  else match (List.range 26).find? (fun x => decide (Tbl.get 0 s.sp.serves (elKey 5 x) = b + 1) && decide ((s.elem 5 x).state = 0)) with
    | some x => x
    | none => b
/-- The bank has an element in use. -/
def State.bankUp (s : State) (b : Nat) : Bool := decide ((s.elem 5 (s.bankOf b)).state = 0)

/-- The lowest idle channel of an antenna whose bank is in use. -/
def State.freeChan (s : State) (ant : Nat) : Option Nat :=
  ((List.range 192).map (fun i => (ant - 1) * 192 + i)).find?
    (fun c => decide ((s.rxc c).state = rxIDLE) && s.bankUp (c / 16))

/-- Send a channel to IDLE. -/
def State.rxIdle (s : State) (c : Nat) : State := s.setRx c (fun _ => RxChan.reset)

/-! ### Acquisition (R107 to R110) -/

/-- An item may go to engine e: entry j of the cold sweep goes to engine j mod 8 (R109). -/
def AcqItem.mayGo (i : AcqItem) (e : Nat) : Bool := i.kind ≠ 3 || i.order % 8 = e

/-- Item a is served before item b (R109). -/
def AcqItem.before (a b : AcqItem) : Bool :=
  a.kind < b.kind || (a.kind = b.kind && (if a.kind ≤ 1 then a.due < b.due else a.order < b.order))

/-- The item an engine takes next. -/
def nextItem (e : Nat) (l : List AcqItem) : Option AcqItem :=
  (l.filter (fun i => i.mayGo e)).foldl (fun best i =>
    match best with | none => some i | some b => if i.before b then some i else some b) none

/-- Give an idle engine its next item, on a free channel. -/
def State.feedEngine (s : State) (e : Nat) : State :=
  match s.rx.engines.getD e none with
  | some _ => s
  | none =>
    match nextItem e s.rx.work with
    | none => s
    | some i =>
      match (match i.ch with | some c => some c | none => s.freeChan i.sat.ant) with
      | none => s
      | some c =>
        let s1 : State := { s with rx := { s.rx with
          work := s.rx.work.filter (fun x => decide (x ≠ i)), engines := s.rx.engines.set e (some ⟨i, c, false⟩) } }
        if i.kind = 0 then s1
        else s1.setRx c (fun _ => { RxChan.reset with state := rxSEARCH, sat := i.sat, since := s.tm.mt })

/-- Idle engines take waiting work, the lowest number first (R109). -/
def State.schedule (s : State) : State := if s.cfg (rk 1) = 0 then s else (List.range 8).foldl State.feedEngine s

def State.addWork (s : State) (l : List AcqItem) : State := { s with rx := { s.rx with work := s.rx.work ++ l } }.schedule

/-- Satellites of each system's list. PRESUMED but for GPS (Example 05-1): the sizes of the constellations' code lists. -/
def satCount (sys : Nat) : Nat := [32, 36, 63, 24, 10, 39].getD sys 0

/-- The cold sweep of R109 for the systems about which nothing usable is stored: `known` has their bits set. -/
def State.coldList (s : State) (known : Nat) : List SvSig :=
  [(0, 1), (1, 4), (3, 8), (2, 6), (4, 9), (5, 11)].flatMap fun p =>
    if bit known p.1 || !(s.sigOn p.2) then []
    else (List.range (satCount p.1)).map (fun i => ⟨p.1, i + 1, p.2, 1, if p.1 = 3 then i % 14 else 0xFF⟩)

/-- What a start of the receiver schedules: the directed search, then the cold sweep; `hot` is the start of R110. -/
def State.rxStart (s : State) (directed : List SvSig) (known : Nat) (hot : Bool) : State :=
  let cold := s.coldList known
  let d : List AcqItem := (List.range directed.length).map (fun i => ⟨2, i, s.tm.mt, directed.getD i SvSig.reset, none⟩)
  let c : List AcqItem := (List.range cold.length).map (fun i => ⟨3, i, s.tm.mt, cold.getD i SvSig.reset, none⟩)
  let s1 : State := { s with rx := { s.rx with
    chans := [], engines := List.replicate 8 none, work := [], hot := hot
    rf := everyOf RfChain.reset 4 s.rx.rf (fun r => { r with notches := [none, none, none, none], lastSeen := [] }) } }
  let s2 := (List.range 4).foldl (fun t ch =>
    (List.range 4).foldl (fun u n => u.put (rck ch (4 + n)) 0x7FFFFFFF) ((t.putBit (rck ch 0) 3 false).putBit (rck ch 0) 4 false)) s1
  s2.rxCounts.addWork (d ++ c)

/-- A hot start's conditions (R110): 4 ephemerides less than 4 h old, the stored position within 10 km, no MT_GAP. -/
def State.mayBeHot (s : State) (near : Bool) : Bool :=
  decide (4 ≤ (s.rx.eph.filter (fun p => decide (s.tm.mt < p.2 + 4 * 3600 * nsS))).length) && near &&
    bit (s.get (rk 0x36)) 2 && !(s.getBool (tk 0x14))

/-- The other enabled signals of a satellite that has reached TRACK, on both antennas (R109). -/
def State.handovers (s : State) (x : SvSig) : List AcqItem :=
  ([1, 2].flatMap (fun ant => (List.range 11).map (fun i => (ant, i + 1)))).filterMap fun p =>
    let sat : SvSig := { x with sig := p.2, ant := p.1 }
    let busy := s.rx.chans.any (fun q => decide (q.2.state ≠ rxIDLE) && decide (q.2.sat = sat))
    if sigSys p.2 = x.sys && s.sigOn p.2 && !busy && !(s.rx.work.any (fun i => decide (i.sat = sat))) &&
        s.chainUsed (chainOf p.1 p.2) then some ⟨1, 0, s.tm.mt, sat, none⟩ else none

/-- A channel enters PULL_IN. -/
def State.enterPullIn (s : State) (c : Nat) : State :=
  s.setRx c (fun x => { x with state := rxPULL_IN, since := s.tm.mt, pli8At := 0 })

/-- ACQUISITION_DWELL_DONE (R107, R108): a sweep found a cell above the threshold, or a verification found `hits` of
its 3 re-dwells above it. -/
def acqDone (e : Nat) (above : Bool) (hits : Nat) (s : State) : State :=
  match s.rx.engines.getD e none with
  | none => s
  | some w =>
    let st := (s.rxc w.ch).state
    let free (t : State) : State := ({ t with rx := { t.rx with engines := t.rx.engines.set e none } }).schedule
    if st ≠ rxSEARCH && st ≠ rxVERIFY && st ≠ rxREACQ then free s
    else if w.verify then
      if 2 ≤ hits then free (s.enterPullIn w.ch)
      else
        let s1 := s.setRx w.ch (fun x => { x with state := rxSEARCH, since := s.tm.mt })
        { s1 with rx := { s1.rx with engines := s1.rx.engines.set e (some { w with verify := false }) } }
    else if above then
      let s1 := s.setRx w.ch (fun x => { x with state := rxVERIFY, since := s.tm.mt })
      { s1 with rx := { s1.rx with engines := s1.rx.engines.set e (some { w with verify := true }) } }
    else if w.item.kind = 0 then
      free { s with rx := { s.rx with work := s.rx.work ++ [{ w.item with due := s.tm.mt }] } }
    else
      let back : AcqItem := { w.item with due := s.tm.mt, order := w.item.order + 1024, kind := if w.item.kind = 1 then 2 else w.item.kind }
      free { s.rxIdle w.ch with rx := { (s.rxIdle w.ch).rx with work := s.rx.work ++ [back] } }

/-- A channel goes to REACQ, and its window waits for an engine (R107, R109). -/
def State.toReacq (s : State) (c : Nat) : State :=
  let s1 := s.setRx c (fun x => { x with state := rxREACQ, since := s.tm.mt, mode := 0 })
  s1.addWork [⟨0, 0, s.tm.mt, (s.rxc c).sat, some c⟩]

def State.toCoast (s : State) (c : Nat) : State :=
  s.setRx c (fun x => { x with state := rxCOAST, since := s.tm.mt, recAt := 0 })

/-- PULL_IN_TIMEOUT (R107). -/
def pullInTimeout (c : Nat) (s : State) : State :=
  let x := s.rxc c
  if x.state = rxPULL_IN && x.since + nsS ≤ s.tm.mt then
    let s1 := s.setRx c (fun y => { y with state := rxSEARCH, since := s.tm.mt })
    s1.addWork [⟨2, 0, s.tm.mt, x.sat, some c⟩]
  else s

/-- COAST_TIMEOUT and REACQ_TIMEOUT (R107). -/
def coastTimeout (c : Nat) (s : State) : State :=
  let x := s.rxc c
  if x.state = rxCOAST && x.since + 5 * nsS ≤ s.tm.mt then s.toReacq c else s
def reacqTimeout (c : Nat) (s : State) : State :=
  let x := s.rxc c
  if x.state = rxREACQ && x.since + 10 * nsS ≤ s.tm.mt then
    { s.rxIdle c with rx := { (s.rxIdle c).rx with
      work := s.rx.work.filter (fun i => decide (i.ch ≠ some c))
      engines := s.rx.engines.map (fun (w : Option AcqWork) => match w with
        | some u => if u.ch = c then none else some u
        | none => none) } }.schedule
  else s

/-! ### Carrier and code (R112) -/

def cnCodeOnly (mode : Nat) : Nat := if mode = 2 then 2000 else 2300
def cnCarrier (mode : Nat) : Nat := if mode = 2 then 2200 else 2500
def cnLost (mode : Nat) : Nat := if mode = 2 then 1200 else if mode = 1 then 1500 else 2000

/-- CARRIER_LOSS: low C/N0 for 200 ms or low PLI for 100 ms. -/
def carrierLoss (c : Nat) (s : State) : State :=
  let x := s.rxc c
  if x.state = rxTRACK && !x.codeOnly && (s.stood x.lowAt (200 * nsMs) || s.stood x.pliLowAt (100 * nsMs)) then
    s.setRx c (fun y => { y with codeOnly := true, goodAt := 0 })
  else s

/-- CARRIER_RESTORE: C/N0 and PLI good for 100 ms; lock time from 0, SLIP in the next entry. -/
def carrierRestore (c : Nat) (s : State) : State :=
  let x := s.rxc c
  if x.state = rxTRACK && x.codeOnly && s.stood x.goodAt (100 * nsMs) then
    s.setRx c (fun y => { y with codeOnly := false, lockAt := s.tm.mt, slip := true })
  else s

/-- CODE_LOST: C/N0 below the mode's limit for 1 s: SCALAR to REACQ, aided to COAST. -/
def codeLost (c : Nat) (s : State) : State :=
  let x := s.rxc c
  if x.state = rxTRACK && s.stood x.lostAt nsS then (if x.mode = 0 then s.toReacq c else s.toCoast c) else s

/-- COAST_RECOVER: C/N0 at or above 15 dB-Hz for 100 ms with aiding present: TRACK, CODE_ONLY. -/
def coastRecover (c : Nat) (s : State) : State :=
  let x := s.rxc c
  if x.state = rxCOAST && s.stood x.recAt (100 * nsMs) then
    s.setRx c (fun y => { y with state := rxTRACK, since := s.tm.mt, codeOnly := true, lostAt := 0, goodAt := 0 })
  else s

/-! ### Aiding (R113) -/

def f64ofF32 (w : Nat) : F64 := F32.wide (BitVec.ofNat 32 w)

/-- Aiding may not be used: absent for 2 ms, scalar tracking configured, or EXCLUDE set. -/
def State.aidAbsent (s : State) (x : RxChan) : Bool := x.aid.isNone || decide (x.aidAt + 2 * nsMs ≤ s.tm.mt + 1)
def State.aidBarred (s : State) (x : RxChan) : Bool := decide (s.cfg (rk 0x10) = 1) || x.yExclude || decide (2 ≤ popCount 5 x.fails) || bit x.fails 1

/-- A reversion to SCALAR for want of aiding is counted, and GNSS_AID raised once an episode. -/
def State.aidReversion (s : State) : State :=
  let s1 := s.inc32 (rk 0x35)
  if s1.rx.aidEpisode then s1 else { s1 with rx := { s1.rx with aidEpisode := true } }.follow srcGNSS_AID true 0

def clamp64 (lim x : Q) : Q := Q.clamp lim.neg lim x

/-- The channel applies its newest set at the start of an interval: the mode and the NCO commands. -/
def State.applyAid (s : State) (c : Nat) (d : Dump) : State :=
  let x := s.rxc c
  if x.state ≠ rxTRACK && x.state ≠ rxCOAST then s
  else if s.aidAbsent x then
    if x.state = rxCOAST then s.toReacq c
    else if x.mode ≠ 0 then (s.setRx c (fun y => { y with mode := 0 })).aidReversion else s
  else if s.aidBarred x then
    if x.state = rxCOAST then s.toReacq c else s.setRx c (fun y => { y with mode := 0 })
  else
    match x.aid with
    | none => s
    | some a =>
      let age := Q.mk' ((s.tm.mt : Int) - x.tA) 1000000000
      let fp := Q.add (F64.toQ a.f) (Q.mul (F64.toQ a.rateF) age)
      let pp := Q.add (F64.toQ a.phase) (Q.mul (F64.toQ a.rateC) age)
      let pull := clamp64 (Q.ofNat 20) (Q.mul (Q.sub pp (F64.toQ d.phase)) (Q.ofNat 1000))
      let vec := Q.le (F64.toQ a.sigF) (F32.toQ (s.cfgF (rk 0x11))) && Q.le (F64.toQ a.sigC) (F32.toQ (s.cfgF (rk 0x12)))
      if x.state = rxCOAST then
        s.setRx c (fun y => { y with fNco := F64.ofQ fp, codeRate := F64.ofQ (Q.add (F64.toQ a.rateC) pull) })
      else if vec then
        s.setRx c (fun y => { y with
          mode := 2, fNco := F64.ofQ (Q.add fp (F64.toQ d.df))
          codeRate := F64.ofQ (Q.add (Q.add (F64.toQ a.rateC) pull) (F64.toQ d.dc)) })
      else
        s.setRx c (fun y => { y with
          mode := 1, fNco := F64.ofQ (Q.add fp (F64.toQ d.df)), codeRate := d.dc })

/-- AIDING_TIMEOUT: 2 ms without a set. -/
def aidingTimeout (c : Nat) (s : State) : State :=
  let x := s.rxc c
  if s.aidAbsent x then
    if x.state = rxCOAST then s.toReacq c
    else if x.state = rxTRACK && x.mode ≠ 0 then (s.setRx c (fun y => { y with mode := 0 })).aidReversion else s
  else s

/-- AIDING_SET_ISSUE (R133, R145): in a frame with s a multiple of 20 each channel in TRACK or COAST gets its set. -/
def aidingIssue (sets : List AidSet) (s : State) : State :=
  if s.tm.sched % 20 = 0 && s.cfg (ob 0x2400 1) = 1 && !(s.inReset blkYAR) then
    let tA := s.tm.mt + 1500 * tickInc s.rate / 2 ^ 32
    let give (t : State) (a : AidSet) : State :=
      let x := t.rxc a.ch
      if x.state = rxTRACK || x.state = rxCOAST then
        t.setRx a.ch (fun y => { y with aid := some a, tA := tA, aidAt := s.tm.mt + 1 })
      else t
    let s1 := sets.foldl give s
    if sets = [] then s1
    else { s1 with rx := { s1.rx with aidEpisode := false } }.follow srcGNSS_AID false 0
  else s

/-! ### False-signal checks (R118, R119) -/

/-- 0x2300.25 and GNSS_SPOOF from the channels' failed checks. -/
def State.spoofState (s : State) : State :=
  let on := decide (s.cfg (rk 0x22) = 1)
  let aoa := s.rx.chans.any (fun p => bit p.2.fails 1)
  let excl := (s.rx.chans.filter (fun p => decide (2 ≤ popCount 5 p.2.fails) || bit p.2.fails 1)).length
  let any := s.rx.chans.any (fun p => decide (p.2.fails ≠ 0))
  let v := if !on then 0xFF else if aoa || 4 ≤ excl then 2 else if any then 1 else 0
  (s.put (rk 0x25) v).follow srcGNSS_SPOOF (decide (v = 2)) 0

/-- A check fails on a channel: 0 POWER, 1 AOA, 2 MULTIPEAK, 3 KINEMATIC, 4 CLOCK. -/
def State.checkFail (s : State) (c k : Nat) : State :=
  if s.cfg (rk 0x22) = 1 && (s.rxc c).state ≠ rxIDLE then
    (s.setRx c (fun x => { x with fails := setBit x.fails k true, failAt := s.tm.mt + 1 })).spoofState
  else s

def State.tracked (s : State) : List Nat := (s.rx.chans.filter (fun p => decide (p.2.state = rxTRACK))).map Prod.fst

/-- FALSE_SIGNAL_CLEAR: no check has failed on the channel for 30 s. -/
def falseSignalClear (c : Nat) (s : State) : State :=
  let x := s.rxc c
  if x.fails ≠ 0 && s.stood x.failAt (30 * nsS) then (s.setRx c (fun y => { y with fails := 0, failAt := 0 })).spoofState else s

/-- MULTIPEAK_CHECK: an idle engine looked for a second peak above prompt − 6 dB; two in a row fail. -/
def multipeakCheck (c : Nat) (second : Bool) (s : State) : State :=
  if (s.rxc c).state = rxTRACK && s.rx.engines.any (fun e => decide (e = none)) then
    let n := if second then (s.rxc c).peaks + 1 else 0
    let s1 := s.setRx c (fun x => { x with peaks := n })
    if 2 ≤ n then s1.checkFail c 2 else s1
  else s

/-- The clock check at a delivery: a rate change above 50 ppb between consecutive seconds fails every channel. -/
def State.clockCheck (s : State) (need : Int) : State :=
  let bad := match s.rx.lastNeed with | some o => decide (50000 < (need - o).natAbs) | none => false
  let s1 : State := { s with rx := { s.rx with lastNeed := some need } }
  if bad then s1.tracked.foldl (fun t c => t.checkFail c 4) s1 else s1

/-- TIME_SOLUTION_DELIVERY, with the CLOCK check of R118 first. -/
def timeDelivery (b d : Int) (sigma sf sats : Nat) (s : State) : State :=
  timeSolutionDelivery b d sigma sf sats (s.clockCheck (s.rate - d))

/-! ### Dumps (R106, R107, R127) -/

/-- A bank is found faulty (R127): GNSS_BANK, its bit, the request to Lupin. -/
def State.bankFaulty (s : State) (b : Nat) : State :=
  let e := s.bankOf b
  let s1 := s.raise srcGNSS_BANK e
  if bit (s1.get (rk 0x32)) e then s1
  else
    ((s1.selfCheck 5 e).putBit (rk 0x32) e true).askSwap 5 e srcGNSS_BANK false

/-- A channel enters TRACK (R107), and its satellite's other signals are scheduled (R109). -/
def State.enterTrack (s : State) (c : Nat) : State :=
  let s1 := s.setRx c (fun x => { x with state := rxTRACK, since := s.tm.mt, lockAt := s.tm.mt, mode := 0, codeOnly := false })
  s1.addWork (s1.handovers (s1.rxc c).sat)

/-- CORRELATOR_DUMP: the interval of a channel ends. -/
def correlatorDump (d : Dump) (s : State) : State :=
  let x := s.rxc d.ch
  if s.inReset blkSUN || x.state < rxPULL_IN || x.state = rxREACQ then s
  else
    let now := s.tm.mt
    let aided := !(s.aidAbsent x)
    let s1 := s.setRx d.ch (fun y => { y with
      cn0 := d.cn0, pli := d.pli, badDump := d.mismatch
      lowAt := markAt now (decide (d.cn0 < cnCodeOnly y.mode)) y.lowAt
      pliLowAt := markAt now (decide (d.pli < 500)) y.pliLowAt
      goodAt := markAt now (decide (cnCarrier y.mode ≤ d.cn0) && decide (800 ≤ d.pli)) y.goodAt
      lostAt := markAt now (decide (d.cn0 < cnLost y.mode)) y.lostAt
      recAt := markAt now (decide (1500 ≤ d.cn0) && aided) y.recAt
      pli8At := markAt now (decide (800 ≤ d.pli)) y.pli8At })
    let s2 := if d.mismatch then s1.bankFaulty (d.ch / 16) else s1
    let y := s2.rxc d.ch
    let s3 := if x.state = rxPULL_IN && y.pli8At ≠ 0 && s2.stood (max y.pli8At (y.since + 100 * nsMs + 1)) (100 * nsMs) &&
        now ≤ y.since + nsS then s2.enterTrack d.ch else s2
    let s4 := s3.applyAid d.ch d
    if (s4.rxc d.ch).state = rxTRACK && s4.cfg (rk 0x24) < d.cn0 then s4.checkFail d.ch 0 else s4

/-- BANK_SWAP (R127): at the next 1 ms boundary Lupin moves the bank's channels; without a spare they go to IDLE. -/
def bankSwap (e : Nat) (verify : List Bool) (dur : Nat) (s : State) : State :=
  if (s.reqOf 5 e).isSome then
    match s.doRequested 5 e verify dur with
    | (s1, some _) =>
      let s2 : State := { s1 with rx := { s1.rx with bankSwap := true } }
      s2.put (rk 0x33) (s2.get (ob 0x2900 0x49))
    | (s1, none) =>
      if (s1.reqOf 5 e).isSome then s1
      else
        let s2 := s1.setElemState 5 e 4
        let b := (List.range 24).find? (fun b => decide (s1.bankOf b = e))
        match b with
        | some b => (List.range 16).foldl (fun t i => t.rxIdle (16 * b + i)) s2
        | none => s2
  else s

/-! ### Interference (R114 to R117) -/

/-- BLANKING_WINDOW: the blanked share in 0.1 % and the samples blanked in the window. -/
def blankingWindow (c share n : Nat) (s : State) : State :=
  let shareNow := if s.cfg (rk 0x1E) = 1 then share else 0
  let beyond := decide (10 * s.cfg (rk 0x21) < shareNow)
  let s1 := ((s.put (rck c 2) (clampN 1000 shareNow)).add32 (rck c 3) (if s.cfg (rk 0x1E) = 1 then n else 0)).setRf c
    (fun r => { r with overRun := if beyond then r.overRun + 1 else 0, underRun := if beyond then 0 else r.underRun + 1 })
  let r := s1.rf c
  if 3 ≤ r.overRun then s1.putBit (rck c 0) 5 true
  else if 10 ≤ r.underRun then s1.putBit (rck c 0) 5 false else s1

/-- The notch width in Hz that covers an interferer with one bin to spare on each side (R115). -/
def notchWidth (bins : Nat) : Nat := if bins + 2 ≤ 2 then 156250 else if bins + 2 ≤ 4 then 312500 else 625000

/-- An interferer may be notched (R116). -/
def Interferer.narrow (i : Interferer) : Bool := decide (i.width ≤ 8) && decide (i.sweep ≤ notchWidth i.width)

/-- Keep the notches of interferers still there, moved to the peak; release those absent too long (R115). -/
def keepNotch (now hold : Nat) (l : List Interferer) (n : Option Notch) : Option Notch :=
  match n with
  | none => none
  | some x =>
    match l.find? (fun i => decide (i.id = x.id)) with
    | some i => some { x with centre := i.peak, power := i.power, width := notchWidth i.width, seen := now }
    | none => if x.seen + hold ≤ now then none else some x

/-- Give one interferer a notch: a free one, or the weakest one where it is weaker (R116). -/
def giveNotch (now : Nat) (ns : List (Option Notch)) (i : Interferer) : List (Option Notch) :=
  let fresh : Notch := ⟨i.id, i.peak, notchWidth i.width, i.power, now⟩
  if ns.any (fun n => match n with | some x => decide (x.id = i.id) | none => false) then ns
  else match (List.range 4).find? (fun k => decide (ns.getD k none = none)) with
    | some k => ns.set k (some fresh)
    | none =>
      let pw (k : Nat) : Int := match ns.getD k none with | some x => x.power | none => 0
      let w := (List.range 4).foldl (fun b k => if pw k < pw b then k else b) 0
      if pw w < i.power then ns.set w (some fresh) else ns

/-- DETECTOR_EPOCH (R115, R116). -/
def detectorEpoch (c : Nat) (l : List Interferer) (s : State) : State :=
  let r := s.rf c
  let on := bit (s.cfg (rk 0x1B)) c
  let kept := if on then r.notches.map (keepNotch s.tm.mt (s.cfg (rk 0x1D) * nsMs) l) else [none, none, none, none]
  let ready := l.filter (fun i => i.narrow && r.lastSeen.contains i.id)
  let order := ready.mergeSort (fun a b => decide (b.power ≤ a.power))
  let ns := if on then order.foldl (giveNotch s.tm.mt) kept else kept
  let s1 := s.setRf c (fun x => { x with notches := ns, lastSeen := l.map (fun i => i.id) })
  let s2 := (List.range 4).foldl (fun t k =>
    t.put (rck c (4 + k)) (match ns.getD k none with | some x => i32bits x.centre | none => 0x7FFFFFFF)) s1
  (s2.putBit (rck c 0) 3 (ns.any (fun n => decide (n ≠ none)))).putBit (rck c 0) 4 (on && decide (4 < ready.length))

/-- Take a chain out of use or back (R117). -/
def State.chainUse (s : State) (c : Nat) (use : Bool) : State :=
  let s1 := s.putBit (rck c 0) 0 use
  let s2 := if use then s1 else
    (s1.rx.chans.filter (fun p => decide (chainOf p.2.sat.ant p.2.sat.sig = c) && decide (p.2.state ≠ rxIDLE))).foldl (fun t p => t.rxIdle p.1) s1
  s2.follow srcGNSS_RF ((List.range 4).any (fun k => !(s2.chainUsed k)) && decide (s2.cfg (rk 1) = 1)) 0

/-- The rise of R118 on one chain: the AGC gain has fallen by 3 dB within 10 s while the C/N0 of at least 4 of its
channels has risen by 3 dB. -/
def State.powerRise (s : State) (c agc : Nat) : Bool :=
  let r := s.rf c
  let onChain := s.rx.chans.filter (fun p => decide (p.2.state = rxTRACK) && decide (chainOf p.2.sat.ant p.2.sat.sig = c))
  r.agcHist.any (fun g => decide (agc + 30 ≤ g)) &&
    decide (4 ≤ (onChain.filter (fun p => p.2.cnHist.any (fun n => decide (n + 300 ≤ p.2.cn0)))).length)

/-- JAMMING_MEASURE (R117): J/N and the AGC gain in 0.1 dB, the gain at its limit, the chain's PLL locked. -/
def jammingMeasure (c jn agc : Nat) (limit pll : Bool) (s : State) : State :=
  let lvl := if 150 ≤ jn then 2 else if 30 ≤ jn then 1 else 0
  let w := setBit (setBit (setBits (s.get (rck c 0)) 6 2 lvl) 1 limit) 2 (!pll)
  let s1 := ((s.put (rck c 0) w).put (rck c 1) (clampN 65535 jn)).put (rck c 8) (clampN 65535 agc)
  let rise := s1.powerRise c agc
  let s2 := s1.setRf c (fun r => { r with
    severeAt := markAt s.tm.mt (decide (lvl = 2)) r.severeAt
    calmAt := markAt s.tm.mt (decide (lvl ≠ 2)) r.calmAt
    limitAt := markAt s.tm.mt limit r.limitAt
    okAt := markAt s.tm.mt (!limit && pll) r.okAt
    agcHist := (agc :: r.agcHist).take 100 })
  let mine := (s2.rx.chans.filter (fun p => decide (chainOf p.2.sat.ant p.2.sat.sig = c) && decide (p.2.state = rxTRACK))).map Prod.fst
  let s3 := mine.foldl (fun t k => t.setRx k (fun x => { x with cnHist := (x.cn0 :: x.cnHist).take 100 })) s2
  let s4 := if rise then mine.foldl (fun t k => t.checkFail k 0) s3 else s3
  if (List.range 4).all (fun k => s4.stood (s4.rf k).calmAt (10 * nsS) || decide ((s4.rf k).severeAt = 0 && (s4.rf k).calmAt = 0)) then
    s4.follow srcGNSS_JAM false 0 else s4

/-- GNSS_JAM_RAISE: a chain SEVERE for 1 s. -/
def gnssJamRaise (c : Nat) (s : State) : State := if s.stood (s.rf c).severeAt nsS then s.follow srcGNSS_JAM true c else s

/-- CHAIN_OUT_OF_USE: the AGC at its limit for 1 s, or the chain's PLL out of lock. -/
def chainOut (c : Nat) (s : State) : State :=
  if bit (s.get (rck c 0)) 2 || s.stood (s.rf c).limitAt nsS then s.chainUse c false else s

/-- CHAIN_BACK_IN_USE: the chain's condition has been absent for 1 s. -/
def chainBack (c : Nat) (s : State) : State :=
  if !(s.chainUsed c) && s.stood (s.rf c).okAt nsS then s.chainUse c true else s

/-! ### Measurement epochs (R120, R121) -/

/-- Signal centre from its chain's centre, and half the main lobe, in Hz. PRESUMED: the signals' own definitions. -/
def sigLobe (sig gloK : Nat) : Int × Nat :=
  if sig = 8 then (1602000000 + ((gloK : Int) - 7) * 562500 - 1590000000, 511000)
  else if sigL5 sig then (0, 10230000)
  else (1575420000 - 1590000000, if sig = 2 || sig = 4 || sig = 6 then 2046000 else 1023000)

/-- An active notch lies in the main lobe of the channel's signal (R116). -/
def State.notchNear (s : State) (x : RxChan) : Bool :=
  let l := sigLobe x.sat.sig x.sat.gloK
  (s.rf (chainOf x.sat.ant x.sat.sig)).notches.any fun n =>
    match n with | some k => decide ((k.centre - l.1).natAbs ≤ l.2) | none => false

/-- One entry of an epoch record (R121). -/
def State.measEntry (s : State) (m : Meas) : List Byte :=
  let x := s.rxc m.ch
  let trackMs := (s.tm.mt - x.since) / nsMs
  let halfOk := !(sigDataOnly x.sat.sig) || x.half
  let excl := decide (2 ≤ popCount 5 x.fails) || bit x.fails 1
  let fl := ofBool true + 2 * ofBool (decide (100 ≤ trackMs)) + 4 * ofBool (!x.codeOnly && halfOk) + 8 * ofBool halfOk +
    16 * ofBool x.slip + 32 * ofBool (s.notchNear x) + 64 * ofBool (bit (s.get (rck (chainOf x.sat.ant x.sat.sig) 0)) 5) +
    128 * ofBool (decide (x.fails ≠ 0) && !excl) + 256 * ofBool excl
  le 1 x.sat.sys ++ le 1 x.sat.sv ++ le 1 x.sat.sig ++ le 1 x.sat.ant ++ le 1 x.sat.gloK ++ le 1 x.mode ++ le 2 fl ++
    le 8 m.pr ++ le 8 (i64bits m.cp) ++ le 4 (i32bits m.doppler) ++ le 2 (clampN 65535 x.cn0) ++ le 2 (clampN 65535 m.sigma) ++
    le 4 (if x.codeOnly then 0 else clampN 0xFFFFFFFF ((s.tm.mt - x.lockAt) / nsMs)) ++ le 4 0

/-- The epoch instant at or before the present frame: GNSS time in ns, a multiple of the epoch interval (R120). -/
def State.epochInstant (s : State) : Int :=
  let p : Int := 1000000000 / (s.cfg (rk 0x13) : Int)
  (((s.tm.mt : Int) + s.goff) / p) * p

/-- The record of the measurements of an epoch (R120, R121); an epoch already formed is skipped. -/
def State.formEpoch (s : State) (l : List Meas) : State :=
  let t := s.epochInstant
  if s.inReset blkSUN || s.cfg (rk 1) = 0 || t ≤ s.rx.epochTime then s
  else
    let st := s.timeState
    let ms := l.filter (fun m => decide ((s.rxc m.ch).state = rxTRACK))
    let jam := (List.range 4).foldl (fun a c => a + 256 ^ c * bits (s.get (rck c 0)) 6 2) 0
    let fl := ofBool (decide (s.get (tk 0x12) ≠ s.rx.stepSeen)) + 2 * ofBool (decide (st = tsHOLDOVER) || decide (st = tsUNQUALIFIED)) +
      4 * ofBool (decide (st = tsFREE)) + 8 * ofBool s.rx.bankSwap + 16 * ofBool ((List.range 4).any (fun c => !(s.chainUsed c)))
    let secs := (t / 1000000000).toNat
    let body := le 4 s.rx.epochSeq ++ le 2 ms.length ++ le 2 fl ++ le 8 (t - s.goff).toNat ++ le 2 (secs / 604800) ++ le 1 st ++
      le 1 (s.get (rk 0x25)) ++ le 4 ((t / 1000000).toNat % 604800000) ++ le 4 jam ++ le 4 0 ++ ms.flatMap s.measEntry
    let data := body ++ le 4 (crc32 body)
    let s1 := ms.foldl (fun u m => u.setRx m.ch (fun x => { x with slip := false })) s
    let s2 : State := { s1.putB (rk 0x2D) data with rx := { s1.rx with
      epochTime := t, epochSeq := s1.rx.epochSeq + 1, stepSeen := s.get (tk 0x12), bankSwap := false } }
    s2.event 3 data 0

/-! ### NMEA and corrections (R122 to R124) -/

/-- NMEA_OUTPUT: the sentences formed go to the stream and to subscribers. -/
def nmeaOutput (bytes : List Byte) (s : State) : State :=
  if s.cfg (rk 0x2E) = 0 || bytes = [] then s
  else
    let n := s.rx.nmeaCount
    let all := s.rx.nmea ++ bytes
    let s1 : State := { s with rx := { s.rx with nmeaCount := (n + bytes.length) % 2 ^ 32, nmea := all.drop (all.length - 65536) } }
    s1.event 4 bytes n

/-- One bit step and one byte step of CRC-24Q (polynomial 0x864CFB, initial value 0). PRESUMED: the polynomial of that
name. -/
def crc24Bits : Nat → Nat → Nat
  | 0, c => c
  | k + 1, c => crc24Bits k (if 2 ^ 23 ≤ c then ((2 * c) % 2 ^ 24) ^^^ 0x864CFB else 2 * c)
def crc24Go : List Byte → Nat → Nat
  | [], c => c
  | b :: rest, c => crc24Go rest (crc24Bits 8 (c ^^^ (b.toNat * 65536)))

/-- Bits `lo` to `lo + n − 1` of a message, most significant first, as RTCM counts them. -/
def msgBits (m : List Byte) (lo n : Nat) : Nat :=
  (List.range n).foldl (fun a i => 2 * a + (if Nat.testBit (m.getD ((lo + i) / 8) 0).toNat (7 - (lo + i) % 8) then 1 else 0)) 0

/-- Messages whose reference observations the parser uses (R124). -/
def isMsm (t : Nat) : Bool :=
  within 1074 1077 t || within 1084 1087 t || within 1094 1097 t || within 1114 1117 t || within 1124 1127 t

/-- A correct frame's message (R124): the station is bits 12 to 23, the multiple-message bit of an MSM is bit 54. -/
def State.rtcmMessage (s : State) (m : List Byte) : State :=
  let t := msgBits m 0 12
  let st := msgBits m 12 12
  let s1 := s.inc32 (rk 0x29)
  if isMsm t then
    let change := decide (s1.get (rk 0x28) ≠ 0xFFFF) && decide (s1.get (rk 0x28) ≠ st)
    let last := decide (msgBits m 54 1 = 0)
    let s2 := s1.put (rk 0x28) st
    match s1.rx.corr with
    | some c =>
      if c.station = st then { s2 with rx := { s2.rx with corr := some { c with complete := c.complete || last } } }
      else { s2.inc32 (rk 0x2B) with rx := { s2.rx with corr := some ⟨st, s.tm.mt, last, true⟩ } }
    | none => { s2 with rx := { s2.rx with corr := some ⟨st, s.tm.mt, last, change⟩ } }
  else if t = 1005 || t = 1006 || t = 1033 || t = 1230 then s1
  else s1.inc32 (rk 0x2B)

/-- Frame the bytes held: after a failed frame the search goes on at the byte after its preamble. `n` bounds the bytes. -/
def State.rtcmParse : Nat → State → State
  | 0, s => s
  | n + 1, s =>
    match s.rx.rtcm with
    | [] => s
    | a :: rest =>
      let drop1 : State := { s with rx := { s.rx with rtcm := rest } }
      if a.toNat ≠ 0xD3 then State.rtcmParse n drop1
      else if rest.length < 2 then s
      else
        let h := rest.getD 0 0
        if 4 ≤ h.toNat then State.rtcmParse n (drop1.inc32 (rk 0x2A))
        else
          let len := h.toNat % 4 * 256 + (rest.getD 1 0).toNat
          let all := s.rx.rtcm
          if all.length < len + 6 then s
          else
            let crc := (all.getD (len + 3) 0).toNat * 65536 + (all.getD (len + 4) 0).toNat * 256 + (all.getD (len + 5) 0).toNat
            if crc24Go (all.take (len + 3)) 0 = crc then
              State.rtcmParse n ({ s with rx := { s.rx with rtcm := all.drop (len + 6) } }.rtcmMessage ((all.drop 3).take len))
            else State.rtcmParse n (drop1.inc32 (rk 0x2A))

/-- A write to 0x2300.26 (R123): the offset must equal the stream's running count; the state condition precedes it only
where R319 puts it, so a wrong offset answers OFFSET_INVALID here. -/
def hCorrection : Handler := Handler.simple fun s _ v =>
  match v with
  | .num _ => (s, stTYPE)
  | .blk off data =>
    if off ≠ s.get (rk 0x37) then (s, stOFFSET)
    else
      let s1 := s.put (rk 0x37) ((s.get (rk 0x37) + data.length) % 2 ^ 32)
      let all := s1.rx.rtcm ++ data
      (State.rtcmParse (2 * all.length + 1) { s1 with rx := { s1.rx with rtcm := all } }, stOK)

/-- CORRECTION_EPOCH_PASS (R124): `age` is the epoch's age by GNSS time in 0.1 s; `usable` that some of its signals are
enabled; `carrier` that the station lies within the distance of R147. -/
def correctionPass (age : Nat) (usable carrier : Bool) (s : State) : State :=
  match s.rx.corr with
  | none => s
  | some c =>
    if !c.complete && s.tm.mt < c.first + 200 * nsMs then s
    else
      let s1 : State := { s with rx := { s.rx with corr := none } }
      if 10 * s.cfg (rk 0x27) < age || !usable then s1
      else
        let s2 : State := { s1 with
          rx := { s1.rx with corrAt := s.tm.mt + 1, corrAge := age, corrCarrier := carrier }
          nav := { s1.nav with stationChange := s1.nav.stationChange || c.change } }
        s2.follow srcGNSS_CORR false 0

/-- GNSS_CORR_TIMEOUT (R124). -/
def corrTimeout (s : State) : State :=
  if s.stood s.rx.corrAt (s.cfg (rk 0x27) * nsS) then s.follow srcGNSS_CORR true 0 else s

/-- 0x2300.2C: the age of the last correction epoch now, in 0.1 s. -/
def State.corrAgeNow (s : State) : Nat :=
  if s.rx.corrAt = 0 then 0xFFFF else clampN 0xFFFF (s.rx.corrAge + (s.tm.mt + 1 - s.rx.corrAt) / 100000000)

/-! ### Stored data and starts (R109, R110, R130) -/

/-- RECEIVER_DATA_STORE: what is known goes to the store: bits as 0x2300.36, and the satellites with ephemerides. -/
def receiverStore (mask : Nat) (sats : List Nat) (s : State) : State :=
  { s.put (rk 0x36) ((s.get (rk 0x36) ||| mask) % 16) with
    rx := { s.rx with eph := if bit mask 1 then sats.map (fun k => (k, s.tm.mt)) else s.rx.eph } }

/-- A write of 1, 2 or 3 to 0x2300.34 (R130): what the stored data predict above the mask, the systems about which
something usable is stored, and whether the stored position lies within 10 km. -/
def hRxStart (directed : List SvSig) (known : Nat) (near : Bool) : Handler := Handler.simple fun s _ v =>
  if v.toNum = 1 then (s.rxStart directed known (s.mayBeHot near), stOK)
  else if v.toNum = 2 then
    let s1 : State := { s.putBit (rk 0x36) 1 false with rx := { s.rx with eph := [] } }
    (s1.rxStart directed known false, stOK)
  else
    let s1 : State := { s.put (rk 0x36) 0 with rx := { s.rx with eph := [] } }
    (s1.rxStart [] 0 false, stOK)

/-- A write of a baseline component (R125): the length must lie between 500 mm and 5,000 mm. -/
def hBaseline (sub : Nat) : Handler where
  consist := fun s v =>
    let c (k : Nat) : Int := if k = sub then signed 32 v.toNum else s.getI32 (rk k)
    let l2 := c 0x14 * c 0x14 + c 0x15 * c 0x15 + c 0x16 * c 0x16
    decide (250000 ≤ l2) && decide (l2 ≤ 25000000)
  cond := fun _ => true
  run := fun s _ v => (s.put (rk sub) v.toNum, stOK)

def execTimeSolutionDelivery (b d : Int) (sigma sf sats : Nat) (s : State) : Host.Outcome State Fault Refusal :=
  .next (timeDelivery b d sigma sf sats s)
def execAntFeedShort (a : Fin 2) (s : State) : Host.Outcome State Fault Refusal := .next (antFeedShort a.val s)
def execAntFeedTrial (a : Fin 2) (s : State) : Host.Outcome State Fault Refusal := .next (antFeedTrial a.val s)
def execAntFeedOpen (a : Fin 2) (s : State) : Host.Outcome State Fault Refusal := .next (antFeedOpen a.val s)
def execAntFeedNormal (a : Fin 2) (s : State) : Host.Outcome State Fault Refusal := .next (antFeedNormal a.val s)
def execCorrelatorDump (d : Dump) (s : State) : Host.Outcome State Fault Refusal := .next (correlatorDump d s)
def execAidingTimeout (ch : Nat) (s : State) : Host.Outcome State Fault Refusal := .next (aidingTimeout ch s)
def execAcquisitionDwellDone (eng : Fin 8) (above : Bool) (hits : Nat) (s : State) : Host.Outcome State Fault Refusal :=
  .next (acqDone eng.val above hits s)
def execPullInTimeout (ch : Nat) (s : State) : Host.Outcome State Fault Refusal := .next (pullInTimeout ch s)
def execCarrierLoss (ch : Nat) (s : State) : Host.Outcome State Fault Refusal := .next (carrierLoss ch s)
def execCarrierRestore (ch : Nat) (s : State) : Host.Outcome State Fault Refusal := .next (carrierRestore ch s)
def execCodeLost (ch : Nat) (s : State) : Host.Outcome State Fault Refusal := .next (codeLost ch s)
def execCoastRecover (ch : Nat) (s : State) : Host.Outcome State Fault Refusal := .next (coastRecover ch s)
def execCoastTimeout (ch : Nat) (s : State) : Host.Outcome State Fault Refusal := .next (coastTimeout ch s)
def execReacqTimeout (ch : Nat) (s : State) : Host.Outcome State Fault Refusal := .next (reacqTimeout ch s)
def execBlankingWindow (c : Fin 4) (share n : Nat) (s : State) : Host.Outcome State Fault Refusal :=
  .next (blankingWindow c.val share n s)
def execDetectorEpoch (c : Fin 4) (l : List Interferer) (s : State) : Host.Outcome State Fault Refusal :=
  .next (detectorEpoch c.val l s)
def execJammingMeasure (c : Fin 4) (jn agc : Nat) (limit pll : Bool) (s : State) : Host.Outcome State Fault Refusal :=
  .next (jammingMeasure c.val jn agc limit pll s)
def execGnssJamRaise (c : Fin 4) (s : State) : Host.Outcome State Fault Refusal := .next (gnssJamRaise c.val s)
def execChainOutOfUse (c : Fin 4) (s : State) : Host.Outcome State Fault Refusal := .next (chainOut c.val s)
def execChainBackInUse (c : Fin 4) (s : State) : Host.Outcome State Fault Refusal := .next (chainBack c.val s)
def execMultipeakCheck (ch : Nat) (second : Bool) (s : State) : Host.Outcome State Fault Refusal :=
  .next (multipeakCheck ch second s)
def execFalseSignalClear (ch : Nat) (s : State) : Host.Outcome State Fault Refusal := .next (falseSignalClear ch s)
def execNmeaOutput (bytes : List Byte) (s : State) : Host.Outcome State Fault Refusal := .next (nmeaOutput bytes s)
def execCorrectionInput (who : Who) (off : Nat) (data : List Byte) (s : State) : Host.Outcome State Fault Refusal :=
  .next (s.request who 0x2300 0x26 (.blk off data) hCorrection)
def execCorrectionEpochPass (age : Nat) (usable carrier : Bool) (s : State) : Host.Outcome State Fault Refusal :=
  .next (correctionPass age usable carrier s)
def execGnssCorrTimeout (s : State) : Host.Outcome State Fault Refusal := .next (corrTimeout s)
def execBankSwap (el : Nat) (verify : List Bool) (dur : Nat) (s : State) : Host.Outcome State Fault Refusal :=
  .next (bankSwap el verify dur s)
def execReceiverDataStore (mask : Nat) (sats : List Nat) (s : State) : Host.Outcome State Fault Refusal :=
  .next (receiverStore mask sats s)
def execReceiverHotStart (who : Who) (directed : List SvSig) (known : Nat) (near : Bool) (s : State) :
    Host.Outcome State Fault Refusal := .next (s.request who 0x2300 0x34 (.num 1) (hRxStart directed known near))
def execReceiverStartNoEph (who : Who) (directed : List SvSig) (known : Nat) (s : State) :
    Host.Outcome State Fault Refusal := .next (s.request who 0x2300 0x34 (.num 2) (hRxStart directed known false))
def execReceiverColdStart (who : Who) (s : State) : Host.Outcome State Fault Refusal :=
  .next (s.request who 0x2300 0x34 (.num 3) (hRxStart [] 0 false))
def execAidingSetIssue (sets : List AidSet) (s : State) : Host.Outcome State Fault Refusal := .next (aidingIssue sets s)

end Sys2Proof.Machine
end

