-- ==== Sys2Proof/Machine/Fusion.lean ====
section
/-! DEFINITION. Raw-sample fusion (R132 to R161): the votes of the inertial units and of the speed sources, ground
speed, the navigation solution and its ring, late samples, alignment, RTK and heading, the limits of dead reckoning.
The filter's estimate itself comes with the command. -/

namespace Sys2Proof.Machine

open Sys2Proof

def nk (sub : Nat) : Nat := ob 0x2400 sub
/-- Object `sub` of wheel source k, from 0 for the channel (R161). -/
def wk (k sub : Nat) : Nat := nk (0x60 + 0x10 * k + sub)
def ek (j sub : Nat) : Nat := nk (0xA0 + 8 * j + sub)
def imk (n sub : Nat) : Nat := nk (0x40 + 8 * n + sub)

def State.setNav (s : State) (f : NavSt → NavSt) : State := { s with nav := f s.nav }

/-- A setting of 0x2400 as it stands since the last 1 ms boundary (R159). -/
def State.ncfg (s : State) (k : Nat) : Nat := Tbl.get (Dict.dflt k) s.nav.conf k
def State.ncfgQ (s : State) (k : Nat) : Q := F32.toQ (BitVec.ofNat 32 (s.ncfg k))

/-- Settings that R159 lets take effect at 1 ms boundaries. -/
def navSettings : List Nat :=
  (List.range 25).map (fun i => nk (i + 1)) ++ (List.range 4).flatMap (fun k => (List.range 7).map (wk k)) ++ [ek 0 0, ek 1 0]

/-- At a 1 ms boundary the settings take effect. -/
def State.snapNav (s : State) : State :=
  s.setNav (fun n => { n with conf := navSettings.foldl (fun t k => Tbl.set (Dict.dflt k) t k (s.get k)) [] })

/-- Fusion runs: it is enabled and Yarrow is not in reset. -/
def State.fusing (s : State) : Bool := decide (s.ncfg (nk 1) = 1) && !(s.inReset blkYAR)

/-- At tick 0: settings at a 1 ms boundary, and the count of frames since fusion was enabled (R133). -/
def State.navTick (s : State) : State :=
  let s1 := if s.tm.sched % 20 = 0 then s.snapNav else s
  if s1.ncfg (nk 1) = 1 then
    s1.setNav (fun n => { n with frames := n.frames + 1, alignAt := if n.alignAt = 0 then s.tm.mt + 1 else n.alignAt })
  else s1.setNav (fun n => { n with frames := 0, alignAt := 0 })

/-! ### Late samples (R151 to R153) -/

def lateKey (sensor : Nat) : Nat :=
  if sensor < 4 then imk sensor 1 else if sensor < 8 then wk (sensor - 4) 9 else if sensor < 10 then ek (sensor - 8) 4 else nk 0x24
def discKey (sensor : Nat) : Nat :=
  if sensor < 4 then imk sensor 2 else if sensor < 8 then wk (sensor - 4) 0x0A else if sensor < 10 then ek (sensor - 8) 5 else nk 0x25
def degKey (sensor : Nat) : Option Nat :=
  if sensor < 4 then some (imk sensor 4) else if sensor < 8 then some (wk (sensor - 4) 0x0D) else if sensor < 10 then some (ek (sensor - 8) 6) else none

/-- Samples of a sensor are counted for the second under way. -/
def State.countSample (s : State) (sensor n late : Nat) : State :=
  s.setNav (fun v => { v with late := v.late.modify sensor (fun x => { x with cur := x.cur + n, late := x.late + late }) })

/-- The sample's instant lies before MT_VALID of the last solution issued. -/
def State.isLate (s : State) (mt : Nat) : Bool := match s.nav.ring with | r :: _ => decide (mt < r.mt) | [] => false

/-- A late sample is re-applied from a snapshot, or discarded beyond the history window (R151, R152). -/
def State.lateSample (s : State) (l : LateSample) : State :=
  if 11 ≤ l.sensor then s
  else if s.tm.mt + 500 * tickInc s.rate / 2 ^ 32 ≤ l.mt + 200 * nsMs then
    let s1 := (s.inc32 (lateKey l.sensor)).countSample l.sensor 1 1
    if s1.nav.repro then s1.setNav (fun v => { v with reproWait := v.reproWait ++ [l] })
    else s1.setNav (fun v => { v with repro := true })
  else (s.inc32 (discKey l.sensor)).countSample l.sensor 1 1

/-- Ingest what arrived with an earlier instant; a sample that is not late is applied as it is. -/
def State.ingest (s : State) (l : LateSample) : State := if s.isLate l.mt then s.lateSample l else s.countSample l.sensor 1 0

/-- REPROPAGATION_DONE: one further re-propagation starts where samples wait; the outputs after completion include the
correction. -/
def repropagationDone (s : State) : State :=
  if s.nav.repro then
    (s.inc32 (nk 0x23)).setNav (fun v => { v with repro := decide (v.reproWait ≠ []), reproWait := [], reproFlag := true })
  else s

/-- LATE_EVALUATION: a sensor with more than 10 % of its samples of the last 10 s late is degraded. -/
def lateEvaluation (s : State) : State :=
  let s1 := s.setNav (fun v => { v with late := v.late.map (fun x => ⟨0, 0, ((x.cur, x.late) :: x.hist).take 10⟩) })
  let bad (i : Nat) : Bool :=
    let h := (s1.nav.late.getD i LateCount.reset).hist
    decide (10 * (h.map Prod.fst).sum < 100 * (h.map Prod.snd).sum)
  let s2 := (List.range 11).foldl (fun t i =>
    let t1 := t.setNav (fun v => { v with degraded := setBit v.degraded i (bad i) })
    match degKey i with | some k => t1.putBool k (bad i) | none => t1) s1
  s2.follow srcNAV_LATE (decide (s2.nav.degraded ≠ 0)) 0

/-! ### Inertial units (R135 to R138) -/

def State.imuRole (s : State) (n : Nat) : Nat := s.get (imk n 0)
def State.imuVoters (s : State) : List Nat := (List.range 4).filter (fun n => decide (s.imuRole n = 0))

/-- The pairs of the four units, as (a, b, number). -/
def imuPairs : List (Nat × Nat × Nat) := [(0, 1, 0), (0, 2, 1), (0, 3, 2), (1, 2, 3), (1, 3, 4), (2, 3, 5)]
def imuPair (a b : Nat) : Nat :=
  match imuPairs.find? (fun p => decide (p.1 = min a b) && decide (p.2.1 = max a b)) with | some p => p.2.2 | none => 6

def State.imuHere (s : State) (n : Nat) : Bool := decide (s.nav.imuAt.getD n 0 = s.tm.mt + 1)
def State.imuAxis (s : State) (n i : Nat) : Q := F32.toQ ((s.nav.imu.getD n []).getD i 0)
def State.axisLimit (s : State) (i : Nat) : Q := if i < 3 then s.ncfgQ (nk 0x10) else s.ncfgQ (nk 0x11)
def State.imuHold (s : State) : Nat := s.ncfg (nk 0x12) * nsMs

/-- Two units contradict each other on some axis (R136). -/
def State.imuContra (s : State) (a b : Nat) : Bool :=
  (List.range 6).any (fun i => s.stood (Tbl.get 0 s.nav.contra (imuPair a b * 6 + i)) s.imuHold)

def medianQ (a b c : Q) : Q := Q.max (Q.min a b) (Q.min (Q.max a b) c)

/-- The voted value of an axis: median of three, mean of two, else unresolved (R135, R137). -/
def State.voteAxis (s : State) (i : Nat) : Option F32 :=
  match s.imuVoters.filter s.imuHere with
  | [a, b, c] => some (F32.ofQ (medianQ (s.imuAxis a i) (s.imuAxis b i) (s.imuAxis c i)))
  | [a, b] =>
    if s.nav.noInertial && s.stood (Tbl.get 0 s.nav.contra (imuPair a b * 6 + i)) s.imuHold then none
    else some (F32.ofQ (Q.div (Q.add (s.imuAxis a i) (s.imuAxis b i)) (Q.ofNat 2)))
  | _ => none

/-- The comparisons of two units at a sample instant (R136, R137). -/
def State.comparePair (s : State) (p : Nat × Nat × Nat) : State :=
  let a := p.1
  let b := p.2.1
  if s.imuHere a && s.imuHere b then
    let diff (i : Nat) : Bool := Q.lt (s.axisLimit i) (Q.abs (Q.sub (s.imuAxis a i) (s.imuAxis b i)))
    let s1 := (List.range 6).foldl (fun t i => t.setNav (fun v =>
      { v with contra := Tbl.modify 0 v.contra (p.2.2 * 6 + i) (markAt s.tm.mt (diff i)) })) s
    s1.setNav (fun v => { v with pairAgree := Tbl.modify 0 v.pairAgree p.2.2 (markAt s.tm.mt ((List.range 6).all (fun i => !(diff i)))) })
  else s.setNav (fun v => { v with pairAgree := Tbl.set 0 v.pairAgree p.2.2 0 })

/-- A unit's agreement with the voted value on every axis (R138). -/
def State.compareUnit (s : State) (n : Nat) : State :=
  let ok := s.imuHere n && (List.range 6).all (fun i =>
    match s.nav.voted.getD i none with
    | some v => Q.le (Q.abs (Q.sub (s.imuAxis n i) (F32.toQ v))) (s.axisLimit i)
    | none => false)
  s.setNav (fun v => { v with unitAgree := Tbl.modify 0 v.unitAgree n (markAt s.tm.mt ok) })

def votedBelow (l : List (Option F32)) (lim : Q) : Bool :=
  (l.take 3).all (fun o => match o with | some r => Q.lt (Q.abs (F32.toQ r)) lim | none => false)

/-- One unit's sample: the axes with the unit's own bias taken off, and the magnitude of its gyro bias. -/
def State.imuTake (s : State) (x : ImuSample) : State :=
  if x.unit < 4 && s.imuRole x.unit ≠ 3 then
    let vals := (List.range 6).map (fun i => F32.sub (x.axes.getD i 0) (x.bias.getD i 0))
    let b2 := Q.sum ((List.range 3).map (fun i => Q.sq (F32.toQ (x.bias.getD i 0))))
    let s1 := s.setNav (fun v => { v with imu := v.imu.set x.unit vals, imuAt := v.imuAt.set x.unit (s.tm.mt + 1) })
    (s1.putF (imk x.unit 5) (F32.ofQ (Q.sqrt b2))).countSample x.unit 1 0
  else s

/-- IMU_SAMPLE: at tick 0 of a frame with s a multiple of 10 the units are sampled, compared and voted (R135). -/
def imuSample (l : List ImuSample) (s : State) : State :=
  if s.tm.sched % 10 = 0 && s.fusing then
    let s1 := l.foldl State.imuTake s
    let s2 := imuPairs.foldl State.comparePair s1
    let s3 := s2.setNav (fun v => { v with voted := (List.range 6).map s2.voteAxis })
    let s4 := (List.range 4).foldl State.compareUnit s3
    s4.setNav (fun v => { v with stillAt := markAt s.tm.mt (votedBelow v.voted ⟨1, 100⟩) v.stillAt })
  else s

/-- Unit n contradicts the two other voters while those two, neither degraded, agree (R136, R153). -/
def State.imuOutvoted (s : State) (n : Nat) : Bool :=
  match s.imuVoters.filter (fun x => decide (x ≠ n)) with
  | [a, b] => decide (s.imuRole n = 0) && s.imuContra n a && s.imuContra n b && !(s.imuContra a b) &&
      !(bit s.nav.degraded a) && !(bit s.nav.degraded b)
  | _ => false

/-- No sample has arrived from the unit for 10 ms (R136). -/
def State.imuSilent (s : State) (n : Nat) : Bool := decide (max (s.nav.imuAt.getD n 0) s.nav.alignAt + 10 * nsMs ≤ s.tm.mt + 1)

/-- IMU_EXCLUDE: the unit is excluded, NAV_IMUn rises, and Lupin is asked for the spare. -/
def imuExclude (n : Nat) (s : State) : State :=
  if s.fusing && s.imuRole n ≤ 1 && (s.imuOutvoted n || s.imuSilent n) then
    let voter := decide (s.imuRole n = 0)
    let y := s.elem 7 n
    let s1 := ((((s.setElem 7 n { y with v1 := clampN 0xFFFFFFFF (y.v1 + 1) }).put (imk n 0) 2).inc32 (imk n 3)).setNav (fun v => { v with unitAgree := Tbl.set 0 v.unitAgree n 0 })).follow (srcNAV_IMU n) true 0
    if voter then s1.askSwap 7 n (srcNAV_IMU n) false else s1.setElemState 7 n 2
  else s

/-- IMU_SWAP: at the next sample instant the spare votes in (R136). -/
def imuSwap (n : Nat) (verify : List Bool) (dur : Nat) (s : State) : State :=
  if s.tm.sched % 10 = 0 then
    match s.doRequested 7 n verify dur with
    | (s1, some x) => s1.put (imk x 0) 0
    | (s1, none) => s1
  else s

/-- INERTIAL_VOTE_LOST: two voting units remain and contradict each other (R137). -/
def inertialVoteLost (s : State) : State :=
  match s.imuVoters with
  | [a, b] =>
    if s.imuContra a b && !s.nav.noInertial then
      let s1 := s.setNav (fun v => { v with noInertial := true, inertAt := 0 })
      (s1.setNav (fun v => { v with voted := (List.range 6).map s1.voteAxis })).follow srcNAV_VOTE true 0
    else s
  | _ => s

/-- INERTIAL_RESTORE: two units have agreed on every axis for 30 s (R137). -/
def inertialRestore (s : State) : State :=
  if s.nav.noInertial && imuPairs.any (fun p => s.stood (Tbl.get 0 s.nav.pairAgree p.2.2) (30 * nsS)) then
    (s.setNav (fun v => { v with noInertial := false })).follow srcNAV_VOTE false 0
  else s

/-- IMU_READMIT: after 30 s of agreement an excluded unit is the spare, or a voter where fewer than three vote (R138). -/
def imuReadmit (n : Nat) (s : State) : State :=
  if s.imuRole n = 2 && s.stood (Tbl.get 0 s.nav.unitAgree n) (30 * nsS) then
    let voter := decide (s.imuVoters.length < 3)
    let s1 := ((s.put (imk n 0) (if voter then 0 else 1)).dropReq 7 n).setElemState 7 n (if voter then 0 else 1)
    (s1.follow (srcNAV_IMU n) false 0).spareLow 7 n
  else s

/-! ### Speed sources (R139 to R143) -/

/-- Admission of source a: 0 GNSS, 1 to 4 W0 to W3, 5 and 6 E0 and E1. -/
def admKey (a : Nat) : Nat := if a = 0 then nk 0x29 else if a ≤ 4 then wk (a - 1) 8 else ek (a - 5) 3
def State.adm (s : State) (a : Nat) : Nat := s.get (admKey a)
def State.speedSrc (s : State) (a : Nat) : SpeedSrc := s.nav.speed.getD a SpeedSrc.reset
def State.setSpeed (s : State) (a : Nat) (f : SpeedSrc → SpeedSrc) : State := s.setNav (fun n => { n with speed := oneOf SpeedSrc.reset 7 n.speed a f })
def State.gsState (s : State) : Nat := s.get (nk 0x21)

/-- The channel of wheel source k is in a mode that gives its edges (R161). -/
def State.wheelModeOk (s : State) (k : Nat) : Bool :=
  let c := s.ncfg (wk k 0)
  decide (s.cfg (ik c 1) = 5) || (decide (s.cfg (ik c 1) = 4) && decide (s.cfg (ik c 2) = 0))
def State.wheelOff (s : State) (k : Nat) : Bool := decide (64 ≤ s.ncfg (wk k 0)) || !(s.wheelModeOk k)
def State.srcOff (s : State) (a : Nat) : Bool :=
  if a = 0 then false else if a ≤ 4 then s.wheelOff (a - 1) else decide (s.ncfg (ek (a - 5) 0) ≠ 1)
def State.wheelValid (s : State) (k : Nat) : Bool := !(s.wheelOff k) && bit (s.get (ik (s.ncfg (wk k 0)) 0x17)) 0

/-- The selected edges of the sealed block: the two latest stamps, or with STAMP_OVF the counts since the last edge. -/
def wheelEdges (c : ChanSt) (x : SpeedSrc) : SpeedSrc :=
  if c.sealEdges = 0 then x
  else
    let step := signed 32 (c.sealCount + 2 ^ 32 - x.cnt)
    let y := { x with cnt := c.sealCount, neg := if step = 0 then x.neg else decide (step < 0) }
    if 8 < c.sealEdges then { y with tPrev := x.tLast, tLast := c.sealTN, span := step.natAbs }
    else match c.sealStamps.reverse with
      | t1 :: t0 :: _ => { y with tPrev := t0, tLast := t1, span := 1 }
      | [t1] => { y with tPrev := x.tLast, tLast := t1, span := 1 }
      | [] => y

/-- A time in ns as seconds. -/
def secQ (ns : Nat) : Q := Q.mk' (ns : Int) 1000000000

/-- The speed of wheel source k at the reference point (R139, R141). -/
def State.wheelSpeed (s : State) (k : Nat) (x : SpeedSrc) : Option F32 :=
  if !(s.wheelValid k) then none
  else if x.tLast + s.ncfg (wk k 6) * nsMs < s.tm.mt then some 0
  else if x.tPrev = 0 || x.tLast ≤ x.tPrev then none
  else
    let dk := Q.mul (Q.div (s.ncfgQ (wk k 2)) (Q.ofNat 1000)) (Q.add Q.one (F32.toQ (s.getF (wk k 7))))
    let v1 := Q.div (Q.mul dk (Q.ofNat x.span)) (secQ (x.tLast.sub x.tPrev))
    let v := if x.tLast < s.tm.mt then Q.min v1 (Q.div dk (secQ (s.tm.mt - x.tLast))) else v1
    let back := if s.ncfg (wk k 3) = 1 then x.neg else fmt32.sign s.nav.est.gs.toNat
    let w := match s.nav.voted.getD 2 none with | some r => F32.toQ r | none => F32.toQ s.nav.est.yaw
    let turn := Q.mul w (Q.mk' (signed 32 (s.ncfg (wk k 5))) 1000)
    some (F32.ofQ (Q.add (if back then v.neg else v) turn))

/-- Every source's present reading. -/
def State.readSpeeds (s : State) (g : Option GnssMeas) : State :=
  let s0 := match g with
    | some m => s.setSpeed 0 (fun x => { x with v := if m.speedOk then some m.speed else none, tLast := s.tm.mt })
    | none => if (s.speedSrc 0).tLast + 100 * nsMs < s.tm.mt then s.setSpeed 0 (fun x => { x with v := none }) else s
  let s1 := (List.range 4).foldl (fun t k =>
    let y := if t.wheelOff k then SpeedSrc.reset else wheelEdges (t.chan (t.ncfg (wk k 0))) (t.speedSrc (k + 1))
    let t1 := t.setSpeed (k + 1) (fun _ => { y with v := t.wheelSpeed k y })
    (if t.wheelOff k then t1 else t1.countSample (4 + k) (t.chan (t.ncfg (wk k 0))).sealEdges 0).follow (srcNAV_WHEEL k)
      ((decide (t.ncfg (wk k 0) < 64) && !(t.wheelModeOk k)) || (decide (t1.adm (k + 1) = 3) && decide (y.cause = 1))) 0) s0
  (List.range 2).foldl (fun t j => t.setSpeed (5 + j) (fun x =>
    { x with v := if t.ncfg (ek j 0) = 1 && x.tLast ≠ 0 && t.tm.mt ≤ x.tLast + 200 * nsMs then some (t.getF (ek j 1)) else none })) s1

def State.voters (s : State) : List Nat := (List.range 7).filter (fun a => decide (s.adm a = 1))

/-- The voting set is the first three admitted sources; the others stand by (R140). A source that is off leaves. -/
def State.revote (s : State) : State :=
  let keepOut (a : Nat) : Bool := (decide (s.adm a = 3) || decide (s.adm a = 4)) && !(s.srcOff a)
  let live := (List.range 7).filter (fun a => !(keepOut a) && (s.speedSrc a).v.isSome)
  (List.range 7).foldl (fun t a =>
    if keepOut a then t
    else t.put (admKey a) (if (live.take 3).contains a then 1 else if live.contains a then 2 else 0)) s

/-- GS_STATE follows the vote (R140, R154, "When an IMU exclusion coincides with a speed contradiction"). -/
def State.decideGs (s : State) : State :=
  let n := s.voters.length
  let susp := (List.range 7).any (fun a => decide (s.adm a = 4))
  let g := if 2 ≤ n then 0 else if n = 1 then 1 else if susp && !s.nav.noInertial then 2 else if s.gsState = 4 then 4 else 3
  let s1 := (s.put (nk 0x21) g).setNav (fun v => { v with inertAt := markAt s.tm.mt (decide (g = 3)) v.inertAt })
  s1.follow srcNAV_SPEED (decide (g = 2)) 0

def State.tAbs (s : State) : Q := s.ncfgQ (nk 0x0C)

/-- The test of R140 on two readings. -/
def State.apart (s : State) (a b : F32) : Bool :=
  let x := F32.toQ a
  let y := F32.toQ b
  Q.lt (Q.add s.tAbs (Q.mul (Q.mk' (s.ncfg (nk 0x0D)) 100) (Q.max (Q.abs x) (Q.abs y)))) (Q.abs (Q.sub x y))

def speedPairs : List (Nat × Nat) := (List.range 7).flatMap (fun a => ((List.range 7).filter (fun b => decide (a < b))).map (fun b => (a, b)))
def spKey (a b : Nat) : Nat := min a b * 8 + max a b

/-- The marks of the contradiction test, of agreement, and of R141, at a 1 ms boundary. -/
def State.compareSpeeds (s : State) : State :=
  let now := s.tm.mt
  let s1 := speedPairs.foldl (fun t p =>
    match (s.speedSrc p.1).v, (s.speedSrc p.2).v with
    | some x, some y => t.setNav (fun v => { v with
        spContra := Tbl.modify 0 v.spContra (spKey p.1 p.2) (markAt now (s.apart x y))
        spAgree := Tbl.modify 0 v.spAgree (spKey p.1 p.2) (markAt now (!(s.apart x y))) })
    | _, _ => t.setNav (fun v => { v with
        spContra := Tbl.set 0 v.spContra (spKey p.1 p.2) 0, spAgree := Tbl.set 0 v.spAgree (spKey p.1 p.2) 0 })) s
  let s2 := (List.range 7).foldl (fun t a =>
    let ok := match (s.speedSrc a).v with | some x => decide (s.gsState ≠ 4) && !(s.apart x s.nav.pubGs) | none => false
    t.setSpeed a (fun x => { x with agreeAt := markAt now ok x.agreeAt })) s1
  (List.range 4).foldl (fun t k =>
    let a := k + 1
    let admitted := s.voters.filter (fun b => decide (b ≠ a))
    let fast (x : F32) : Bool := Q.lt s.tAbs (Q.abs (F32.toQ x))
    let others := if admitted = [] then fast s.nav.est.gs
      else admitted.any (fun b => match (s.speedSrc b).v with | some x => fast x | none => false)
    let zero := match (s.speedSrc a).v with | some x => F32.isZero x | none => false
    t.setSpeed a (fun x => { x with noEdgeAt := markAt now (zero && others) x.noEdgeAt })) s2

def State.tHold (s : State) : Nat := s.ncfg (nk 0x0E) * nsMs
def State.spHeld (s : State) (a b : Nat) : Bool := s.stood (Tbl.get 0 s.nav.spContra (spKey a b)) s.tHold

/-- A wheel source's contradiction is counted. -/
def State.countContra (s : State) (a : Nat) : State := if 1 ≤ a && a ≤ 4 then s.inc32 (wk (a - 1) 0x0B) else s

/-- SPEED_CONTRADICTION: of three voters the one that contradicts both others is excluded; of two both are suspended,
and the standby sources move up (R140). -/
def speedContradiction (s : State) : State :=
  match s.voters with
  | [a, b, c] =>
    let out (x y z : Nat) : Bool := s.spHeld x y && s.spHeld x z && !(s.spHeld y z)
    match (if out a b c then some a else if out b a c then some b else if out c a b then some c else none) with
    | some x => ((((s.put (admKey x) 3).setSpeed x (fun y => { y with agreeAt := 0, cause := 0 })).countContra x).revote).decideGs
    | none => s
  | [a, b] =>
    if s.spHeld a b then
      let s1 := ((s.put (admKey a) 4).put (admKey b) 4).setNav (fun v => { v with spAgree := Tbl.set 0 v.spAgree (spKey a b) 0 })
      let s2 := (s1.setSpeed a (fun y => { y with agreeAt := 0 })).setSpeed b (fun y => { y with agreeAt := 0 })
      (((s2.countContra a).countContra b).revote).decideGs
    else s
  | _ => s

/-- SPEED_SOURCE_READMIT: 30 s of agreement with the published ground speed, or of two suspended sources with each
other (R140). -/
def speedReadmit (a : Nat) (s : State) : State :=
  let back (t : State) (x : Nat) : State := (t.put (admKey x) 2).setSpeed x (fun y => { y with cause := 0 })
  if s.adm a = 3 || s.adm a = 4 then
    match (if s.adm a = 4 then (List.range 7).find? (fun b => decide (b ≠ a) && decide (s.adm b = 4) &&
        s.stood (Tbl.get 0 s.nav.spAgree (spKey a b)) (30 * nsS)) else none) with
    | some b => ((back (back s a) b).revote).decideGs
    | none => if s.stood (s.speedSrc a).agreeAt (30 * nsS) then ((back s a).revote).decideGs else s
  else s

/-- WHEEL_NO_EDGE (R141). -/
def wheelNoEdge (k : Nat) (s : State) : State :=
  if (s.adm (k + 1) = 1 || s.adm (k + 1) = 2) && s.stood (s.speedSrc (k + 1)).noEdgeAt s.tHold then
    let s1 := (s.put (admKey (k + 1)) 3).setSpeed (k + 1) (fun x => { x with cause := 1, agreeAt := 0 })
    ((s1.follow (srcNAV_WHEEL k) true 0).revote).decideGs
  else s

/-- The standstill of R141. -/
def State.standstill (s : State) : Bool :=
  let wheels := (List.range 4).filter (fun k => decide (s.adm (k + 1) = 1) || decide (s.adm (k + 1) = 2))
  decide (wheels ≠ []) &&
    wheels.all (fun k => match (s.speedSrc (k + 1)).v with | some x => F32.isZero x | none => false) &&
    votedBelow s.nav.voted ⟨5, 1000⟩ &&
    (match (s.speedSrc 0).v with | some x => Q.lt (Q.abs (F32.toQ x)) s.tAbs | none => true)

/-- ZERO_VELOCITY_UPDATE: at 100 Hz during a standstill (R141). -/
def zeroVelocity (s : State) : State :=
  if s.tm.sched % 200 = 0 && s.fusing && s.standstill then s.setNav (fun v => { v with zeroUpd := true }) else s

/-- INERTIAL_ONLY_LIMIT (R154). -/
def inertialOnlyLimit (s : State) : State :=
  if s.gsState = 3 && s.stood s.nav.inertAt (s.ncfg (nk 0x15) * nsS) then
    (s.put (nk 0x21) 4).setNav (fun v => { v with inertAt := 0 })
  else s

/-- Wheel scales and slips after the ground speed of the frame (R142, R143). -/
def State.wheelOutputs (s : State) : State :=
  (List.range 4).foldl (fun t k =>
    match (t.speedSrc (k + 1)).v with
    | some v =>
      let q := F32.toQ v
      let slip := Q.div (Q.sub q (F32.toQ t.nav.pubGs)) (Q.max (Q.abs q) ⟨1, 10⟩)
      let t1 := t.putI16 (wk k 0x0C) (clampI (-1000) 1000 (Q.mul slip (Q.ofNat 1000)).roundAway)
      let agrees := t.voters.all (fun b => decide (b = k + 1) || decide (Tbl.get 0 t.nav.spContra (spKey (k + 1) b) = 0))
      if t.gsState = 0 && t.adm (k + 1) = 1 && agrees && Q.le Q.one (Q.abs q) then
        t1.putF (wk k 7) (F32.ofQ (Q.clamp ⟨-1, 5⟩ ⟨1, 5⟩ (F32.toQ (t.nav.est.scale.getD k 0))))
      else t1
    | none => t.put (wk k 0x0C) 0x7FFF) s

/-! ### Satellites (R144, R154) -/

/-- One innovation test of a channel: the squared innovation over its variance (R144). -/
def State.innovation (s : State) (t : Nat × F32) : State :=
  let bad := Q.lt (s.ncfgQ (nk 0x13)) (F32.toQ t.2)
  let s1 := s.setRx t.1 (fun x => { x with tests := (bad :: x.tests).take 10, testAt := if bad then s.tm.mt + 1 else x.testAt })
  if s.ncfg (nk 0x14) ≤ ((s1.rxc t.1).tests.filter id).length && !(s1.rxc t.1).yExclude then
    (s1.setRx t.1 (fun x => { x with yExclude := true })).checkFail t.1 3
  else s1

/-- CHANNEL_READMIT: 30 s without a failed test, and no EXCLUDED mark of Sunflower's (R144). -/
def channelReadmit (c : Nat) (s : State) : State :=
  let x := s.rxc c
  if x.yExclude && s.stood x.testAt (30 * nsS) && popCount 5 x.fails < 2 && !(bit x.fails 1) then
    s.setRx c (fun y => { y with yExclude := false, tests := [] })
  else s

/-- Corrections are within their age limit (R124, R154). -/
def State.corrFresh (s : State) : Bool := decide (s.rx.corrAt ≠ 0) && decide (s.corrAgeNow ≤ 10 * s.cfg (rk 0x27))

/-- The solution type (R147, R150). -/
def State.solType (s : State) : Nat :=
  let n := s.nav
  let sat := decide (n.satAt ≠ 0) && decide (n.drAt = 0)
  let aligned := decide (s.get (nk 0x28) = 2)
  if n.drNone then 0
  else if aligned && sat && s.corrFresh && n.carrier && n.fixed then 5
  else if aligned && sat && s.corrFresh && n.carrier then 4
  else if aligned && sat && s.corrFresh && n.code then 3
  else if sat then 2
  else if aligned && n.drAt ≠ 0 then 1
  else 0

def State.putType (s : State) : State := s.put (nk 0x20) s.solType

/-- The satellite part of a Fuse step; with false signals DETECTED no update is applied (R154). -/
def State.satellites (s : State) (g : Option GnssMeas) : State :=
  match g with
  | none => s
  | some m =>
    if m.sats < 4 then s.setNav (fun v => { v with sats := m.sats })
    else
      let s1 := s.setNav (fun v => { v with sats := m.sats, nFix := if v.fixed then m.fixed else 0, satAt := s.tm.mt + 1, drAt := 0, drNone := false })
      (s1.countSample 10 1 0).follow srcNAV_DR false 0

/-- DEAD_RECKONING_ENTRY: 2 s without a satellite update (R147, R154). -/
def drEntry (s : State) : State :=
  if s.nav.drAt = 0 && s.stood s.nav.satAt (2 * nsS) then
    (s.setNav (fun v => { v with drAt := s.tm.mt + 1, sats := 0, nFix := 0 })).putType
  else s

/-- Horizontal σ in mm. -/
def NavEst.sigHoriz (e : NavEst) : Q :=
  Q.mul (Q.ofNat 1000) (Q.sqrt (Q.add (Q.sq (F32.toQ (e.sig.getD 0 0))) (Q.sq (F32.toQ (e.sig.getD 1 0)))))

/-- DEAD_RECKONING_LIMIT: the time or the accuracy limit (R154). -/
def drLimit (s : State) : State :=
  if s.nav.drAt ≠ 0 && !s.nav.drNone && (s.stood s.nav.drAt (s.ncfg (nk 0x16) * nsS + 1) ||
      Q.lt (Q.ofNat (s.ncfg (nk 0x17))) s.nav.est.sigHoriz) then
    ((s.setNav (fun v => { v with drNone := true })).follow srcNAV_DR true 0).putType
  else s

/-! ### The Fuse step -/

/-- FUSE_STEP (R134, R139 to R143, R151, R155): what has arrived is ingested, the sources are read and compared, and
the ground speed of the frame is published. -/
def fuseStep (est : NavEst) (gnss : Option GnssMeas) (tests : List (Nat × F32)) (late : List LateSample) (s : State) : State :=
  if s.fusing then
    let g := if s.get (rk 0x25) = 2 then none else gnss
    let s1 := late.foldl State.ingest s
    let s2 := tests.foldl State.innovation s1
    let s3 := (s2.setNav (fun v => { v with
      est := est, snapAt := if s.tm.sched % 20 = 0 then s.tm.mt + 1 else v.snapAt })).satellites g
    let s4 := (s3.readSpeeds g).revote
    let s5 := (if s.tm.sched % 20 = 0 then s4.compareSpeeds else s4).decideGs
    let straight := Q.le ⟨3, 2⟩ (Q.abs (F32.toQ est.gs)) && (match s5.nav.voted.getD 2 none with
      | some r => Q.lt (Q.abs (F32.toQ r)) ⟨2, 100⟩ | none => false)
    let s6 := s5.setNav (fun v => { v with
      straightAt := markAt s.tm.mt straight v.straightAt, zeroUpd := v.zeroUpd && s5.standstill })
    let s7 := if s6.gsState = 4 then s6
      else { s6.setNav (fun v => { v with pubGs := est.gs, pubSig := est.gsSigma, pubYaw := est.yaw, gsFrame := s.frameNo }) with
        img := { s6.img with staleNav := false } }
    s7.wheelOutputs.putType
  else s.put (nk 0x21) 4

/-! ### The solution (R133, R147, R157, R158) -/

/-- FLAGS of a solution. -/
def State.navFlags (s : State) : Nat :=
  let n := s.nav
  let t := s.timeState
  let dr := decide (n.drAt ≠ 0)
  let th := decide (t = tsHOLDOVER) || decide (t = tsUNQUALIFIED)
  let sp := decide (s.get (rk 0x25) = 2)
  let un := decide (s.gsState = 2)
  ofBool (dr || n.noInertial || un || n.headInertial || th || sp) + 2 * ofBool dr + 4 * ofBool n.noInertial + 8 * ofBool un +
    16 * ofBool n.headInertial + 32 * ofBool (decide (n.degraded ≠ 0)) + 64 * ofBool n.reproFlag + 128 * ofBool th +
    256 * ofBool sp + 512 * ofBool n.stationChange + 1024 * ofBool (decide (s.get (nk 0x28) ≠ 2))

/-- SOURCES of a solution. -/
def State.navSources (s : State) : Nat :=
  let votes (a : Nat) : Nat := ofBool (decide (s.adm a = 1))
  (List.range 4).foldl (fun w n => w + 2 ^ n * ofBool (decide (s.imuRole n = 0))) 0 +
    (List.range 4).foldl (fun w k => w + 2 ^ (4 + k) * votes (k + 1)) 0 + 256 * votes 5 + 512 * votes 6 + 1024 * votes 0 +
    2048 * ofBool (decide (s.nav.headAt ≠ 0) && !s.nav.headInertial) + 4096 * ofBool (s.nav.code && s.corrFresh)

def fle (x : F32) : List Byte := le 4 x.toNat
def fles (n : Nat) (l : List F32) : List Byte := (List.range n).flatMap (fun i => fle (l.getD i 0))

def State.gsByte (s : State) : Nat := s.gsState + 128 * ofBool s.nav.zeroUpd

/-- The instant every output of Yarrow describes: tick 1,500 of the present frame (R132). -/
def State.mtValid (s : State) : Nat := s.tm.mt + (s.tm.frac + 1500 * tickInc s.rate) / 2 ^ 32

/-- The 128 bytes of a solution record (R157). -/
def State.navRecord (s : State) (seq : Nat) (lat lon height : Int) : List Byte :=
  let e := s.nav.est
  let body := le 4 seq ++ le 4 s.navFlags ++ le 8 s.mtValid ++ le 8 (i64bits lat) ++ le 8 (i64bits lon) ++
    le 4 (i32bits height) ++ le 1 s.solType ++ le 1 (clampN 255 s.nav.sats) ++ le 1 (clampN 255 s.nav.nFix) ++ le 1 s.gsByte ++
    fles 3 e.vel ++ fles 3 e.att ++ fles 3 e.rate ++ fles 3 e.acc ++ fles 3 e.sig ++ fle e.sigVel ++ fle e.sigAtt ++
    fle e.sigHead ++ le 2 s.corrAgeNow ++ le 2 (s.get (rk 0x28)) ++ le 4 s.navSources ++ fle e.gs
  body ++ le 4 (crc32 body)

/-- NAV_SOLUTION_ISSUE: every N_s frames from the frame in which fusion was enabled (R133). The position fields stand
while the type is NONE by the limits of R154. -/
def navSolutionIssue (s : State) : State :=
  let n := 20000 / s.ncfg (nk 2)
  if s.fusing && s.nav.frames ≠ 0 && (s.nav.frames - 1) % n = 0 then
    let e := s.nav.est
    let seq : Nat := match s.nav.ring with | r :: _ => (r.seq + 1) % 2 ^ 32 | [] => 0
    let pos : Int × Int × Int := match s.nav.drNone, s.nav.ring with
      | true, r :: _ => (r.lat, r.lon, r.height)
      | _, _ => (e.lat, e.lon, e.height)
    let bytes := s.navRecord seq pos.1 pos.2.1 pos.2.2
    let sol : NavSol := ⟨seq, s.mtValid, pos.1, pos.2.1, pos.2.2, e.att.getD 2 0, e.gs, F32.ofQ (Q.div e.sigHoriz (Q.ofNat 1000)),
      e.att.getD 0 0, e.att.getD 1 0, s.navFlags, bytes⟩
    let s1 := s.setNav (fun v => { v with ring := (sol :: v.ring).take 16384, fresh := true, reproFlag := false, stationChange := false })
    ((s1.put (nk 0x22) seq).put (nk 0x27) ((s1.nav.ring.getLastD sol).seq)).putType
  else s

/-- DOMAIN 0x2400.26 read at an offset: the record that lies there (R158). -/
def State.navRingAt (s : State) (off : Nat) : List Byte :=
  match s.nav.ring.find? (fun r => decide (r.seq % 16384 = off / 128)) with | some r => r.bytes | none => le 128 0

/-- Bytes 0x80 to 0xFF of the navigation block (R157). -/
def State.navFast (s : State) : List Byte :=
  let g := F32.toQ s.nav.pubGs
  let curv := if Q.lt (Q.abs g) ⟨1, 10⟩ then (0 : F32) else F32.ofQ (Q.div (F32.toQ s.nav.pubYaw) g)
  le 4 s.nav.gsFrame ++ le 2 0 ++ le 1 s.gsByte ++ le 1 0 ++ fle s.nav.pubGs ++ fle s.nav.pubSig ++ fle s.nav.pubYaw ++
    fle curv ++ (List.range 4).flatMap (fun k => le 2 (s.get (wk k 0x0C))) ++ le 96 0

/-! ### RTK, heading, alignment (R146 to R150) -/

/-- RTK_CORRECTION_EPOCH (R146, R147): whether Yarrow holds its own epoch at T, the ratio of the search, the satellites
that take part, the fixed position within 3σ of the float one. -/
def rtkEpoch (held : Bool) (ratio : F32) (sats : Nat) (near : Bool) (s : State) : State :=
  if s.fusing && s.rx.corrAt ≠ 0 then
    if held then
      let fix := s.rx.corrCarrier && decide (5 ≤ sats) && near && Q.le (s.ncfgQ (nk 0x19)) (F32.toQ ratio)
      (s.setNav (fun v => { v with code := true, carrier := s.rx.corrCarrier, fixed := fix, nFix := if fix then sats else 0, ambAt := s.tm.mt + 1 })).putType
    else s.inc32 (nk 0x25)
  else s

/-- AMBIGUITY_DISCARD: 30 s after corrections have lapsed (R154). -/
def ambiguityDiscard (s : State) : State :=
  if s.nav.ambAt ≠ 0 && s.rx.corrAt ≠ 0 && s.rx.corrAt + (s.cfg (rk 0x27) + 30) * nsS ≤ s.tm.mt + 1 + s.rx.corrAge * 100000000 then
    (s.setNav (fun v => { v with fixed := false, carrier := false, code := false, nFix := 0, ambAt := 0 })).putType
  else s

/-- MEASUREMENT_EPOCH (R116, R118 to R121, R148): the epoch record, the AOA check's agreeing set, and the heading
search. -/
def measurementEpoch (l : List Meas) (aoa : List Nat) (h : Option HeadingRes) (s : State) : State :=
  let s0 := s.formEpoch l
  let s1 := if s.cfg (rk 0x23) = 1 then aoa.foldl (fun t c => t.checkFail c 1) s0 else s0
  match h with
  | none => s1
  | some r =>
    if !s1.fusing then s1
    else
      let now := s.tm.mt
      let s2 := s1.setNav (fun v => { v with
        headAt := if r.accepted then now + 1 else v.headAt
        headInertial := v.headInertial && !r.accepted
        headRun := markAt now (r.accepted && decide (6 ≤ r.sats)) v.headRun
        lengthAt := markAt now (r.lengthOff && decide (6 ≤ r.sats)) v.lengthAt })
      let s3 := if r.accepted && s2.get (nk 0x1E) = 0 then s2.put (nk 0x1E) 1 else s2
      if r.lengthOff then s3 else s3.follow srcNAV_HEADING false 0

/-- NAV_HEADING_RAISE: the length has disagreed for 30 s (R148). -/
def navHeadingRaise (s : State) : State := if s.stood s.nav.lengthAt (30 * nsS) then s.follow srcNAV_HEADING true 0 else s

/-- LINE_BIAS_STORE: once, after 60 s of accepted heading with at least 6 satellites (R149). -/
def lineBiasStore (l1 l5 : F32) (s : State) : State :=
  if s.get (nk 0x1E) ≠ 2 && s.stood s.nav.headRun (60 * nsS) then
    let lim (x : F32) : F32 := F32.ofQ (Q.clamp ⟨-1, 2⟩ ⟨1, 2⟩ (F32.toQ x))
    ((s.putF (nk 0x1C) (lim l1)).putF (nk 0x1D) (lim l5)).put (nk 0x1E) 2
  else s

/-- A write of 1 to 0x2400.1F (R149). -/
def hLineBiasReset : Handler := Handler.simple fun s _ _ =>
  ((((s.put (nk 0x1C) 0).put (nk 0x1D) 0).put (nk 0x1E) 1).setNav (fun v => { v with headRun := 0 }), stOK)

/-- ALIGN_LEVEL: 1 s of standstill, or 10 s without one (R150). -/
def alignLevel (s : State) : State :=
  if s.fusing && s.get (nk 0x28) = 0 && (s.stood s.nav.stillAt nsS || (s.nav.stillAt = 0 && s.stood s.nav.alignAt (10 * nsS))) then
    s.put (nk 0x28) 1
  else s

/-- ALIGN_HEADING: the first accepted heading, or 3 s of straight driving (R150). -/
def alignHeading (s : State) : State :=
  if s.fusing && s.get (nk 0x28) = 1 && (s.nav.headAt ≠ 0 || s.stood s.nav.straightAt (3 * nsS)) then (s.put (nk 0x28) 2).putType else s

/-- HEADING_FIX_TIMEOUT: 10 s without an accepted heading (R154). -/
def headingFixTimeout (s : State) : State :=
  if s.fusing && s.stood (max s.nav.headAt s.nav.alignAt) (10 * nsS) then s.setNav (fun v => { v with headInertial := true }) else s

/-! ### External samples (R159) -/

/-- A write of a sample MT of Ej: the pair is taken. -/
def hExtSample (j : Nat) : Handler where
  consist := fun s v => decide (s.get (ek j 2) < v.toNum) && decide (v.toNum ≤ s.tm.mt)
  cond := fun _ => true
  run := fun s _ v =>
    let s1 := s.put (ek j 2) v.toNum
    (if s1.ncfg (ek j 0) = 1 then (s1.setSpeed (5 + j) (fun x => { x with tPrev := x.tLast, tLast := v.toNum })).ingest ⟨8 + j, v.toNum⟩ else s1, stOK)

def execFuseStep (est : NavEst) (gnss : Option GnssMeas) (tests : List (Nat × F32)) (late : List LateSample) (s : State) :
    Host.Outcome State Fault Refusal := .next (fuseStep est gnss tests late s)
def execNavSolutionIssue (s : State) : Host.Outcome State Fault Refusal := .next (navSolutionIssue s)
def execImuSample (l : List ImuSample) (s : State) : Host.Outcome State Fault Refusal := .next (imuSample l s)
def execImuExclude (n : Fin 4) (s : State) : Host.Outcome State Fault Refusal := .next (imuExclude n.val s)
def execImuSwap (n : Fin 4) (verify : List Bool) (dur : Nat) (s : State) : Host.Outcome State Fault Refusal :=
  .next (imuSwap n.val verify dur s)
def execInertialVoteLost (s : State) : Host.Outcome State Fault Refusal := .next (inertialVoteLost s)
def execInertialRestore (s : State) : Host.Outcome State Fault Refusal := .next (inertialRestore s)
def execImuReadmit (n : Fin 4) (s : State) : Host.Outcome State Fault Refusal := .next (imuReadmit n.val s)
def execSpeedContradiction (s : State) : Host.Outcome State Fault Refusal := .next (speedContradiction s)
def execSpeedSourceReadmit (a : Fin 7) (s : State) : Host.Outcome State Fault Refusal := .next (speedReadmit a.val s)
def execWheelNoEdge (k : Fin 4) (s : State) : Host.Outcome State Fault Refusal := .next (wheelNoEdge k.val s)
def execZeroVelocityUpdate (s : State) : Host.Outcome State Fault Refusal := .next (zeroVelocity s)
def execChannelReadmit (ch : Nat) (s : State) : Host.Outcome State Fault Refusal := .next (channelReadmit ch s)
def execRtkCorrectionEpoch (held : Bool) (ratio : F32) (sats : Nat) (near : Bool) (s : State) : Host.Outcome State Fault Refusal :=
  .next (rtkEpoch held ratio sats near s)
def execNavHeadingRaise (s : State) : Host.Outcome State Fault Refusal := .next (navHeadingRaise s)
def execLineBiasStore (l1 l5 : F32) (s : State) : Host.Outcome State Fault Refusal := .next (lineBiasStore l1 l5 s)
def execLineBiasReset (who : Who) (s : State) : Host.Outcome State Fault Refusal :=
  .next (s.request who 0x2400 0x1F (.num 1) hLineBiasReset)
def execAlignLevel (s : State) : Host.Outcome State Fault Refusal := .next (alignLevel s)
def execAlignHeading (s : State) : Host.Outcome State Fault Refusal := .next (alignHeading s)
def execRepropagationDone (s : State) : Host.Outcome State Fault Refusal := .next (repropagationDone s)
def execLateEvaluation (s : State) : Host.Outcome State Fault Refusal := .next (lateEvaluation s)
def execDeadReckoningEntry (s : State) : Host.Outcome State Fault Refusal := .next (drEntry s)
def execDeadReckoningLimit (s : State) : Host.Outcome State Fault Refusal := .next (drLimit s)
def execInertialOnlyLimit (s : State) : Host.Outcome State Fault Refusal := .next (inertialOnlyLimit s)
def execExternalSpeedSample (who : Who) (j : Fin 2) (mt : Nat) (s : State) : Host.Outcome State Fault Refusal :=
  .next (s.request who 0x2400 (0xA2 + 8 * j.val) (.num mt) (hExtSample j.val))
def execMeasurementEpoch (l : List Meas) (aoa : List Nat) (h : Option HeadingRes) (s : State) : Host.Outcome State Fault Refusal :=
  .next (measurementEpoch l aoa h s)
def execHeadingFixTimeout (s : State) : Host.Outcome State Fault Refusal := .next (headingFixTimeout s)
def execAmbiguityDiscard (s : State) : Host.Outcome State Fault Refusal := .next (ambiguityDiscard s)

end Sys2Proof.Machine
end

