-- ==== Sys2Proof/Machine/Crop.lean ====
section
/-! DEFINITION. The crop measurement engine (R78 to R99): impacts and loss rates, mass flow and its zero, moisture, cut
intervals, yield records and their buffer. -/

namespace Sys2Proof.Machine

open Sys2Proof

def hk (sub : Nat) : Nat := ob 0x2200 sub
/-- Object `sub` of loss sensor LSk, 0 channel to 0x0C dead time (R99). -/
def lsk (k sub : Nat) : Nat := ob 0x2200 (0x80 + 0x10 * k + sub)

def State.setCrop (s : State) (f : CropSt → CropSt) : State := { s with crop := f s.crop }
def State.cfgQ (s : State) (k : Nat) : Q := F32.toQ (s.cfgF k)
def State.cropBit (s : State) (i : Nat) (b : Bool) : State := s.putBit (hk 0x2B) i b
def State.cropHas (s : State) (i : Nat) : Bool := bit (s.get (hk 0x2B)) i

/-- Frames in a number of milliseconds. -/
def framesOf (ms : Nat) : Nat := 20 * ms

/-! ### Assignments (R79) -/

def State.inMode (s : State) (c mode : Nat) : Bool := decide (s.cfgB (ik c 1) = mode)
/-- An assigned channel stands in the mode that its use requires. -/
def State.lossModeOk (s : State) (k : Nat) : Bool := s.inMode (s.cfg (lsk k 0)) 6
def State.flowModeOk (s : State) : Bool := s.inMode (s.cfg (hk 4)) 7 && decide (s.cfg (hk 4) % 2 = 0)
def State.freqModeOk (s : State) (sub : Nat) : Bool := s.inMode (s.cfg (hk sub)) 4 && decide (s.cfgB (ik (s.cfg (hk sub)) 2) = 0)
def State.tempModeOk (s : State) : Bool := s.inMode (s.cfg (hk 7)) 3

def State.cropCfgBad (s : State) : Bool :=
  let used (k : Nat) : Bool := decide (s.cfg k < 64)
  (List.range 8).any (fun k => used (lsk k 0) && !(s.lossModeOk k)) || (used (hk 4) && !(s.flowModeOk)) ||
    (used (hk 5) && !(s.freqModeOk 5)) || (used (hk 6) && !(s.freqModeOk 6)) || (used (hk 7) && !(s.tempModeOk))

def State.chanValid (s : State) (c : Nat) : Bool := decide (c < 64) && bit (s.get (ik c 0x17)) 0
def State.flowOk (s : State) : Bool := s.chanValid (s.cfg (hk 4)) && s.flowModeOk
def State.elevOk (s : State) : Bool := s.chanValid (s.cfg (hk 5)) && s.freqModeOk 5
def State.moistOk (s : State) : Bool := s.chanValid (s.cfg (hk 6)) && s.freqModeOk 6
def State.tempOk (s : State) : Bool := s.chanValid (s.cfg (hk 7)) && s.tempModeOk

/-- VALUE of a frequency channel in Hz. -/
def State.chanHz (s : State) (c : Nat) : Q := Q.mk' (s.getI32 (ik c 0x16)) 1000

/-! ### Impacts (R81, R82). Magnitudes in units of 1/65,536 mV, times in µs. -/

/-- Thresholds of a sensor: trigger, kernel peak, rise, duration, ring frequency, dead time. -/
structure LossCfg where
  trig : Nat
  ak : Nat
  rk : Nat
  dk : Nat
  fk : Nat
  dead : Nat
  deriving DecidableEq, Repr

/-- Kernels, straws and NOISE impacts closed in a block. -/
structure LossCount where
  kernels : Nat
  straws : Nat
  noise : Nat
  deriving DecidableEq, Repr

/-- The impact is a kernel (R82). -/
def isKernel (c : LossCfg) (x : LossSt) : Bool :=
  let d := x.tLast - x.t0
  decide (c.ak ≤ x.peak) && decide (x.tPk - x.t0 ≤ c.rk) && decide (d ≤ c.dk) &&
    (if d = 0 then decide (c.fk = 0) else decide (c.fk * (2 * min d 100) ≤ x.zc * 1000000))

/-- Close the open impact with its class. -/
def closeImpact (c : LossCfg) (noise : Bool) (tc : Nat) (p : LossSt × LossCount) : LossSt × LossCount :=
  let x := { p.1 with isOpen := false, tClose := some tc }
  (x, if noise then { p.2 with noise := p.2.noise + 1 }
    else if isKernel c p.1 then { p.2 with kernels := p.2.kernels + 1 } else { p.2 with straws := p.2.straws + 1 })

def openImpact (t a : Nat) (neg : Bool) (x : LossSt) : LossSt :=
  { x with isOpen := true, t0 := t, peak := a, tPk := t, zc := 0, neg := neg, quiet := 0, tLast := t, fell := false }

/-- One sample of an open impact after the pile-up test. -/
def extendImpact (c : LossCfg) (dt t a : Nat) (neg : Bool) (x : LossSt) : LossSt :=
  let x1 := if x.peak < a then { x with peak := a, tPk := t } else x
  let x2 := if 2 * a < x1.peak then { x1 with fell := true } else x1
  let x3 := if t - x.t0 < 100 && neg != x2.neg && c.trig < 8 * a then { x2 with zc := x2.zc + 1, neg := neg } else x2
  if max (c.trig * 2) x3.peak ≤ 8 * a then { x3 with tLast := t, quiet := 0 } else { x3 with quiet := x3.quiet + dt }

/-- One sample x, as code − 32,768, at instant t (R81). -/
def lossSample (c : LossCfg) (dt t : Nat) (x : Int) (p : LossSt × LossCount) : LossSt × LossCount :=
  let a := x.natAbs * 10000
  let neg := decide (x < 0)
  if !p.1.isOpen then
    let due := match p.1.tClose with | none => true | some tc => decide (tc + c.dead ≤ t)
    if c.trig ≤ a && due then (openImpact t a neg p.1, p.2) else p
  else
    let p1 := if p.1.fell && max (4 * c.trig) (3 * p.1.peak) ≤ 4 * a then
        let q := closeImpact c false p.1.tLast p
        (openImpact t a neg q.1, q.2)
      else p
    let y := extendImpact c dt t a neg p1.1
    if 50 ≤ y.quiet then closeImpact c false y.tLast (y, p1.2)
    else if y.t0 + 5000 ≤ t then closeImpact c true t (y, p1.2)
    else (y, p1.2)

/-- The samples of a block, from instant t. -/
def lossBlock (c : LossCfg) (dt : Nat) : List Conv → Nat → LossSt × LossCount → LossSt × LossCount
  | [], _, p => p
  | v :: rest, t, p => lossBlock c dt rest (t + dt) (lossSample c dt t ((v.code : Int) - 32768) p)

/-- The block of the frame is included for the sensor (R80). -/
def State.lossIncluded (s : State) (k : Nat) : Bool :=
  let c := s.cfg (lsk k 0)
  s.lossModeOk k && s.chanValid c && !(bit (s.get (ik c 0x17)) 6) &&
    decide ((s.chan c).samples = 5000 / rateInterval (s.cfgB (ik c 3)))

def State.lossCfg (s : State) (k : Nat) : LossCfg :=
  ⟨s.cfg (lsk k 3) * 65536, s.cfg (lsk k 4) * 65536, s.cfg (lsk k 5), s.cfg (lsk k 6), s.cfg (lsk k 7), s.cfg (lsk k 0x0C)⟩

def histSum (l : List (Nat × Nat × Nat × Bool)) (n : Nat) : Nat × Nat × Nat × Nat :=
  (l.take n).foldl (fun a x => (a.1 + x.1, a.2.1 + x.2.1, a.2.2.1 + x.2.2.1, a.2.2.2 + ofBool x.2.2.2)) (0, 0, 0, 0)

/-- More than 10 NOISE impacts, or more than 20,000 impacts, in the last second (R85). -/
def LossSt.noisyNow (x : LossSt) : Bool :=
  let h := histSum x.hist (framesOf 1000)
  decide (10 < h.2.2.1) || decide (20000 < h.2.1)
def LossSt.quietNow (x : LossSt) : Bool := decide (framesOf 30000 ≤ x.quietRun)

/-- One sensor's frame: detection, counts, the kernel rate over the loss window, the status (R80 to R83, R85). -/
def State.lossFrame (s : State) (due : Bool) (k : Nat) : State :=
  let c := s.cfg (lsk k 0)
  if 64 ≤ c then s.put (lsk k 0x0B) 0
  else
    let x := s.crop.loss.getD k LossSt.reset
    let dt := rateInterval (s.cfgB (ik c 3)) / 100
    let incl := s.lossIncluded k
    let blk := match s.inp.block.find? (fun b => decide (b.ch = c)) with | some b => b.convs | none => []
    let r := if incl then lossBlock (s.lossCfg k) dt blk s.crop.clock (x, ⟨0, 0, 0⟩)
      else ({ x with isOpen := false, tClose := some (s.crop.clock - dt) }, ⟨0, 0, 0⟩)
    let n := r.2.kernels + r.2.straws + r.2.noise
    let y := { r.1 with
      hist := ((r.2.kernels, n, r.2.noise, incl) :: r.1.hist).take (max (framesOf (s.cfg (hk 0x1E))) (framesOf 1000))
      quietRun := if due && n = 0 then r.1.quietRun + 1 else 0 }
    let y1 := { y with quietFree := if y.quietNow then 0 else y.quietFree + 1, noisyFree := if y.noisyNow then 0 else y.noisyFree + 1 }
    let w := framesOf (s.cfg (hk 0x1E))
    let h := histSum y1.hist w
    let s1 := (s.setCrop (fun v => { v with loss := v.loss.set k y1 })).addWrap (lsk k 8) r.2.kernels
    let s2 := s1.addWrap (lsk k 9) r.2.straws
    let s3 := if h.2.2.2 = 0 then s2 else s2.putF (lsk k 0x0A) (F32.ofQ (Q.mk' ((h.1 * 20000 : Nat) : Int) h.2.2.2))
    let st := s.get (lsk k 0x0B)
    let valid := decide (w ≤ 2 * h.2.2.2) && !(bit st 4) && !(bit st 5)
    let sat := bit (s.get (ik c 0x17)) 2
    s3.put (lsk k 0x0B) (ofBool valid + 2 + 4 * ofBool (!incl) + 8 * ofBool sat + 16 * bits st 4 2)

/-- LOSS_SENSOR_QUIET and LOSS_SENSOR_NOISY (R85). -/
def State.lossMark (s : State) (k i : Nat) (on : Bool) : State :=
  let s1 := s.putBit (lsk k 0x0B) i on
  s1.follow (srcCROP_LS k) (decide (bits (s1.get (lsk k 0x0B)) 4 2 ≠ 0)) 0
def lossQuiet (k : Nat) (s : State) : State :=
  if (s.crop.loss.getD k LossSt.reset).quietNow then s.lossMark k 4 true else s
def lossNoisy (k : Nat) (s : State) : State :=
  if (s.crop.loss.getD k LossSt.reset).noisyNow then s.lossMark k 5 true else s

/-- LOSS_SENSOR_CLEAR: 10 s free of the condition. -/
def lossClear (k : Nat) (noisy : Bool) (s : State) : State :=
  let x := s.crop.loss.getD k LossSt.reset
  if framesOf 10000 ≤ (if noisy then x.noisyFree else x.quietFree) then s.lossMark k (if noisy then 5 else 4) false else s

/-- Sensors assigned to a loss group. -/
def State.lossGroup (s : State) (g : Nat) : List Nat :=
  (List.range 8).filter (fun k => decide (s.cfg (lsk k 0) < 64) && decide (s.cfg (lsk k 1) = g))
def State.lossValid (s : State) (g : Nat) : Bool := (s.lossGroup g).all (fun k => bit (s.get (lsk k 0x0B)) 0)
/-- L_g in g/s (R84). -/
def State.lossRate (s : State) (g : Nat) : Q :=
  Q.sum ((s.lossGroup g).map (fun k =>
    Q.div (Q.mul (Q.mul (s.cfgQ (lsk k 2)) (F32.toQ (s.getF (lsk k 0x0A)))) (s.cfgQ (hk 0x18))) (Q.ofNat 1000)))

/-! ### Flow and moisture (R86 to R89) -/

/-- 1 − exp(−50 µs / τ), τ in ms. -/
def frameGain (ms : Nat) : Q := Q.sub Q.one (Q.exp (Q.neg (Q.mk' 1 (framesOf ms))))

/-- ZERO_REQUEST: a write of 1 to 0x2200.0A (R87). -/
def hZero : Handler := Handler.simple fun s _ _ =>
  if s.cfg (hk 2) = 1 || s.cropHas 6 || !(s.flowOk) then (s.put (hk 0x0B) 3, stOK)
  else (((s.put (hk 0x0B) 1).setCrop (fun v => { v with zeroSum := 0, zeroN := 0 })).cropBit 8 true, stOK)

/-- The frame of a running zero. -/
def State.zeroFrame (s : State) : State :=
  if s.get (hk 0x0B) = 1 then
    if s.cfg (hk 2) = 1 || s.cropHas 6 || !(s.flowOk) then (s.put (hk 0x0B) 3).cropBit 8 false
    else s.setCrop (fun v => { v with zeroSum := v.zeroSum + s.getI32 (ik (s.cfg (hk 4)) 0x16), zeroN := v.zeroN + 1 })
  else s

/-- ZERO_DONE: the zero duration has passed. -/
def zeroDone (s : State) : State :=
  if s.get (hk 0x0B) = 1 && framesOf (s.cfg (hk 0x0C)) ≤ s.crop.zeroN then
    ((s.putI32 (hk 9) (Q.mk' s.crop.zeroSum s.crop.zeroN).roundAway).put (hk 0x0B) 2).cropBit 8 false
  else s

/-- Pitch and roll of the last issued solution. -/
def State.lastAtt (s : State) : Q × Q := match s.nav.ring with | r :: _ => (F32.toQ r.pitch, F32.toQ r.roll) | [] => (Q.zero, Q.zero)

/-- The mass flow of the frame (R86). -/
def State.flowFrame (s : State) : State :=
  let cutting := decide (s.cfg (hk 2) = 1)
  let bad := if s.flowOk || !cutting then 0 else s.crop.flowBad + 1
  let s0 := s.setCrop (fun v => { v with flowBad := bad })
  let s1 := if s.flowOk then s0.follow srcCROP_FLOW false 0 else s0
  if s.flowOk && s.elevOk then
    let fe := s.chanHz (s.cfg (hk 5))
    let fref := s.cfgQ (hk 0x0D)
    let x := s.getI32 (ik (s.cfg (hk 4)) 0x16) - s.getI32 (hk 9)
    let stop := Q.lt fe (Q.mul (Q.mk' (s.cfg (hk 0x0E)) 100) fref)
    let att := s.lastAtt
    let tilt := Q.add Q.one (Q.add (Q.mul (s.cfgQ (hk 0x10)) att.1) (Q.mul (s.cfgQ (hk 0x11)) att.2))
    let raw := if stop then Q.zero
      else Q.max Q.zero (Q.mul (Q.mul (Q.mul (s.cfgQ (hk 8)) (Q.mk' x 1000000)) (Q.div fref fe)) tilt)
    let q := F32.toQ s.crop.q
    let run := s.crop.inclRun + 1
    let s2 := s1.setCrop (fun v => { v with
      q := F32.ofQ (Q.add q (Q.mul (frameGain (s.cfg (hk 0x0F))) (Q.sub raw q)))
      plate := F32.ofQ (Q.ofInt x), elevFreq := F32.ofQ fe, inclRun := run })
    (s2.cropBit 6 stop).cropBit 1 (decide (20 ≤ run))
  else (s1.setCrop (fun v => { v with inclRun := 0 })).cropBit 1 false

/-- CROP_FLOW_TIMEOUT (R86). -/
def flowTimeout (s : State) : State := if framesOf 1000 ≤ s.crop.flowBad then s.follow srcCROP_FLOW true 0 else s

/-- The moisture of the frame (R88, R89). -/
def State.moistFrame (s : State) : State :=
  let fc := s.chanHz (s.cfg (hk 6))
  let fe := s.cfgQ (hk 0x12)
  let d := Q.div (Q.sub fe fc) fe
  let full := s.moistOk && Q.le (Q.mk' (s.cfg (hk 0x13)) 1000000) d
  let s1 := s.cropBit 5 full
  let std := s.cfgQ (hk 0x17)
  let s2 :=
    if full then
      let gives := decide (framesOf 500 ≤ s.crop.fullRun)
      let t := if s.tempOk then
          Q.div (Q.sub (Q.mk' (s.getI32 (ik (s.cfg (hk 7)) 0x16)) 1000000) Q.one) ⟨385, 100000⟩
        else Q.ofNat 20
      let inst := Q.add (Q.add (s.cfgQ (hk 0x14)) (Q.mul (s.cfgQ (hk 0x15)) d)) (Q.mul (s.cfgQ (hk 0x16)) (Q.sub t (Q.ofNat 20)))
      let m := F32.toQ s.crop.m
      let fill := if gives then s.crop.fillRun + 1 else 0
      let ok := decide (framesOf 1000 ≤ fill)
      let u := s1.setCrop (fun v => { v with
        m := if gives then F32.ofQ (Q.add m (Q.mul (frameGain 5000) (Q.sub inst m))) else v.m
        fullRun := v.fullRun + 1, fillRun := fill, noFull := 0, moistEver := v.moistEver || ok })
      if ok then (u.cropBit 2 true).follow srcCROP_MOIST false 0 else u
    else s1.setCrop (fun v => { v with fullRun := 0, fillRun := 0, noFull := v.noFull + 1 })
  let m := if s2.crop.moistEver then F32.toQ s2.crop.m else std
  let dry := Q.mul (F32.toQ s2.crop.q) (Q.div (Q.sub (Q.ofNat 100) m) (Q.sub (Q.ofNat 100) std))
  s2.setCrop (fun v => { v with qDry := F32.ofQ dry })

/-- MOIST_TIMEOUT: 120 s without a full frame (R88). -/
def moistTimeout (s : State) : State :=
  if s.cropHas 2 && framesOf 120000 ≤ s.crop.noFull then (s.cropBit 2 false).follow srcCROP_MOIST true 0 else s

/-! ### Cut intervals and records (R90 to R93) -/

def CutInt.new (a b : Nat) : CutInt :=
  ⟨a, b, Q.zero, Q.zero, 0, false, none, false, 0, Q.zero, Q.zero, 0, Q.zero, 0, Q.zero, Q.zero, false, false, false, false⟩

/-- A calibration value took effect at this frame's tick 0 (R97). -/
def State.calibrated (s : State) : Bool :=
  ([hk 8] ++ (List.range 9).map (fun i => hk (0x10 + i)) ++ [hk 0x19, hk 0x1A, hk 0x1B, hk 0x20] ++ (List.range 8).map (fun k => lsk k 2)).any
    (fun k => decide (s.cfg k ≠ s.cfgB k))

def lagNs (s : State) (sub : Nat) : Nat := s.cfg (hk sub) * nsMs
/-- A quantity in one frame's 50 µs. -/
def perFrame (x : Q) : Q := Q.div x (Q.ofNat 20000)

/-- What a frame adds to one cut interval (R90). -/
def State.gather (s : State) (v : Q) (areaOk flowIn full : Bool) (x : CutInt) : CutInt :=
  let t := s.tm.mt
  let inW (lag : Nat) : Bool := decide (x.a + lag ≤ t) && decide (t < x.b + lag)
  let cutting := decide (s.cfg (hk 2) = 1)
  let w := Q.mk' (s.cfg (hk 3)) 1000
  let here := inW 0
  let inF := inW (lagNs s 0x19)
  let inM := inW (lagNs s 0x1A)
  let inL := inW (lagNs s 0x1B)
  let x1 := if here then { x with
      area := if cutting && areaOk && Q.lt Q.zero v then Q.add x.area (perFrame (Q.mul v w)) else x.area
      speedSum := Q.add x.speedSum v, speedN := x.speedN + 1, cut := x.cut || cutting
      cutFirst := some (x.cutFirst.getD cutting)
      partialCut := x.partialCut || decide (x.cutFirst.getD cutting ≠ cutting)
      width := s.cfg (hk 3) } else x
  let x2 := if inF then { x1 with
      wet := if flowIn then Q.add x1.wet (perFrame (F32.toQ s.crop.q)) else x1.wet
      dry := if flowIn then Q.add x1.dry (perFrame (F32.toQ s.crop.qDry)) else x1.dry
      incl := if flowIn then x1.incl + 1 else x1.incl
      elevStop := x1.elevStop || s.cropHas 6
      moistStd := x1.moistStd || !s.crop.moistEver } else x1
  let x3 := if inM && full then { x2 with moist := Q.add x2.moist (F32.toQ s.crop.m), moistN := x2.moistN + 1 } else x2
  let x4 := if inL then { x3 with
      loss0 := if s.cropHas 3 then Q.add x3.loss0 (perFrame (F32.toQ s.crop.loss0)) else x3.loss0
      loss1 := if s.cropHas 4 then Q.add x3.loss1 (perFrame (F32.toQ s.crop.loss1)) else x3.loss1
      lossBad := x3.lossBad || !(s.cropHas 3 && s.cropHas 4) } else x3
  { x4 with calChanged := x4.calChanged || (s.calibrated && (here || inF || inM || inL)) }

/-- Open the interval that the frame lies in. -/
def State.openCut (s : State) : State :=
  let p := s.cfg (hk 0x1D) * nsMs
  let a := s.tm.mt / p * p
  match s.crop.cuts.reverse with
  | x :: _ => if s.tm.mt < x.b then s else s.setCrop (fun v => { v with cuts := v.cuts ++ [CutInt.new a (a + p)] })
  | [] => s.setCrop (fun v => { v with cuts := [CutInt.new a (a + p)] })

/-- MT at which an interval's record closes. -/
def State.closeMt (s : State) (x : CutInt) : Nat :=
  max (x.b + max (lagNs s 0x19) (max (lagNs s 0x1A) (lagNs s 0x1B)) + 250 * nsMs) ((x.a + x.b) / 2 + 800 * nsMs)

/-- The solutions on both sides of an instant, each within 500 ms of it (R91). -/
def State.around (s : State) (t : Nat) : Option (NavSol × NavSol) :=
  match s.nav.ring.find? (fun r => decide (r.mt ≤ t)), s.nav.ring.reverse.find? (fun r => decide (t ≤ r.mt)) with
  | some x, some y => if t ≤ x.mt + 500 * nsMs && y.mt ≤ t + 500 * nsMs then some (x, y) else none
  | _, _ => none

/-- Linear interpolation at instant t between values at t0 and t1. -/
def lerp (t t0 t1 : Nat) (x y : Q) : Q :=
  if t1 ≤ t0 then x else Q.add x (Q.mul (Q.sub y x) (Q.mk' ((t - t0 : Nat) : Int) (t1 - t0)))

/-- Metres per radian along the meridian and the parallel at a latitude in rad. PRESUMED: WGS-84, which R134 names. -/
def earthRadii (lat : Q) : Q × Q :=
  let e2 : Q := ⟨669437999014, 100000000000000⟩
  let sn := Q.sin lat
  let w2 := Q.sub Q.one (Q.mul e2 (Q.sq sn))
  let n := Q.div (Q.ofNat 6378137) (Q.sqrt w2)
  (Q.mul (Q.div n w2) (Q.sub Q.one e2), Q.mul n (Q.cos lat))

/-- Position of a record: latitude, longitude in 10⁻⁷ °, height in mm, heading in 0.01 °, accuracy in mm, degraded. -/
def State.cutPos (s : State) (t : Nat) : Option (Int × Int × Int × Nat × Nat × Bool) :=
  match s.around t with
  | none => none
  | some (x, y) =>
    let f (a b : Int) : Q := lerp t x.mt y.mt (Q.ofInt a) (Q.ofInt b)
    let lat := f x.lat y.lat
    let lon := f x.lon y.lon
    let h0 := F32.toQ x.heading
    let dh := Q.sub (F32.toQ y.heading) h0
    let two := Q.mul (Q.ofNat 2) Q.pi
    let dh1 := if Q.lt Q.pi dh then Q.sub dh two else if Q.lt dh Q.pi.neg then Q.add dh two else dh
    let h := lerp t x.mt y.mt h0 (Q.add h0 dh1)
    let deg := Q.div (Q.ofNat 180) Q.pi
    let off := Q.mk' (s.cfgI16 (hk 0x1C)) 1000
    let r := earthRadii (Q.div (Q.mul lat ⟨1, 1000000000⟩) deg)
    let lat1 := Q.add lat (Q.mul (Q.mul (Q.div (Q.mul off (Q.cos h)) r.1) deg) (Q.ofNat 1000000000))
    let lon1 := Q.add lon (Q.mul (Q.mul (Q.div (Q.mul off (Q.sin h)) r.2) deg) (Q.ofNat 1000000000))
    let hd := ((Q.mul (Q.mul h deg) (Q.ofNat 100)).roundAway % 36000).toNat
    let acc := (Q.mul (Q.max (F32.toQ x.sigH) (F32.toQ y.sigH)) (Q.ofNat 1000)).roundAway.toNat
    some ((Q.div lat1 (Q.ofNat 100)).roundAway, (Q.div lon1 (Q.ofNat 100)).roundAway, (f x.height y.height).roundAway, hd,
      clampN 65535 acc, bit x.flags 0 || bit y.flags 0)

def satQ (hi : Nat) (x : Q) : Nat := clampN hi x.roundAway.toNat

/-- Yield over area: 0xFFFF where the area is 0. -/
def overArea (cm2 : Nat) (x : Q) : Nat := if cm2 = 0 then 0xFFFF else satQ 0xFFFF x

/-- A yield record (R92); `open_` is what a share of a mass of 0 reads. -/
def State.yieldRecord (s : State) (seq open_ : Nat) (x : CutInt) : List Byte × Nat × Nat × Nat :=
  let t := (x.a + x.b) / 2
  let pos := s.cutPos t
  let cover := clampN 100 (Q.mk' ((x.incl * 5000000 : Nat) : Int) (x.b - x.a)).roundAway.toNat
  let wet := satQ 0xFFFFFFFF (Q.mul x.wet (Q.ofNat 1000))
  let dry := satQ 0xFFFFFFFF (Q.mul x.dry (Q.ofNat 1000))
  let cm2 := satQ 0xFFFFFFFF (Q.mul x.area (Q.ofNat 10000))
  let std := s.cfgQ (hk 0x17)
  let moist := if x.moistN ≠ 0 then Q.div x.moist (Q.ofNat x.moistN) else if s.crop.moistEver then F32.toQ s.crop.m else std
  let per (l : Q) : Nat := overArea cm2 (Q.div (Q.mul l (Q.ofNat 100)) x.area)
  let pct (l : Q) : Nat := if x.wet.num = 0 then open_ % 65536 else satQ 0xFFFF (Q.div (Q.mul l (Q.ofNat 10)) x.wet)
  let ts := s.timeState
  let fl := ofBool x.partialCut + 2 * ofBool (decide (cover < 100)) + 4 * ofBool x.moistStd +
    8 * ofBool (decide (x.moistN = 0)) + 16 * ofBool (match pos with | some p => p.2.2.2.2.2 | none => false) + 32 * ofBool pos.isNone +
    64 * ofBool x.lossBad + 128 * ofBool x.elevStop + 256 * ofBool x.calChanged +
    512 * ofBool (decide (ts = tsHOLDOVER) || decide (ts = tsUNQUALIFIED))
  let none32 := le 4 0x7FFFFFFF
  let place := match pos with
    | some p => le 4 (i32bits p.1) ++ le 4 (i32bits p.2.1) ++ le 4 (i32bits p.2.2.1) ++ le 2 p.2.2.2.1
    | none => none32 ++ none32 ++ none32 ++ le 2 0
  let speed := satQ 65535 (Q.mul (Q.div x.speedSum (Q.ofNat (max 1 x.speedN))) (Q.ofNat 1000))
  let acc := match pos with | some p => p.2.2.2.2.1 | none => 0xFFFF
  let body := le 4 seq ++ le 2 fl ++ le 2 x.width ++ le 8 t ++ place ++ le 2 speed ++ le 4 wet ++ le 4 dry ++ le 4 cm2 ++
    le 2 (satQ 65535 (Q.mul moist (Q.ofNat 100))) ++ le 2 (overArea cm2 (Q.div (Q.mul x.dry (Q.ofNat 1000)) x.area)) ++
    le 2 (per x.loss0) ++ le 2 (per x.loss1) ++ le 2 (pct x.loss0) ++ le 2 (pct x.loss1) ++ le 1 cover ++ le 1 0 ++ le 2 acc
  (body ++ le 4 (crc32 body), wet, dry, cm2)

def yieldSlots : Nat := 1048576

/-- Write one interval's record (R90, R93). -/
def State.writeYield (s : State) (x : CutInt) : State :=
  if !x.cut && !(Q.lt Q.zero x.wet) then s
  else
    let seq := s.get (hk 0x23)
    let held := seq - s.get (hk 0x2C)
    if yieldSlots ≤ held && s.cfg (hk 0x21) = 1 then
      ((s.inc32 (hk 0x24)).cropBit 11 true).follow srcCROP_BUF true 0
    else
      let r := s.yieldRecord seq s.freeVal x
      let s1 := if yieldSlots ≤ held then s.put (hk 0x2C) (s.get (hk 0x2C) + 1) else s
      let cm := s1.crop.areaRest + r.2.2.2
      let s2 := s1.useFree.setCrop (fun v => { v with
        yields := Tbl.insert v.yields (seq % yieldSlots) (ofLe r.1), lastSeq := seq, areaRest := cm % 10000 })
      (((s2.put (hk 0x23) (seq + 1)).add32 (hk 0x26) r.2.1).add32 (hk 0x27) r.2.2.1).add32 (hk 0x28) (cm / 10000)

/-- RECORD_CLOSE: the oldest interval whose closing MT has come. -/
def recordClose (s : State) : State :=
  match s.crop.cuts with
  | x :: rest => if s.closeMt x ≤ s.tm.mt then (s.writeYield x).setCrop (fun v => { v with cuts := rest }) else s
  | [] => s

/-- Every pending record closes at once with what it has gathered (R95). -/
def State.closeAllCuts (s : State) : State := (s.crop.cuts.foldl State.writeYield s).setCrop (fun v => { v with cuts := [] })

/-! ### The Crop phase -/

/-- The engine switched off: the crop block reads 0 (R78). -/
def State.cropOff (s : State) : State :=
  if s.get (hk 0x2B) = 0 && s.crop.clock = 0 then s
  else
    (s.put (hk 0x2B) (setBit 0 11 (s.cropHas 11))).setCrop (fun v => { CropSt.reset with
      yields := v.yields, lastSeq := v.lastSeq, areaRest := v.areaRest })

/-- The normalised rates (R84); an invalid one, and one over a speed or a flow of 0, reads a value that the spec leaves
open. -/
def State.normFrame (s : State) (v : Q) (w q : Q) (ok : Bool) : State :=
  let l0 := s.lossRate 0
  let l1 := s.lossRate 1
  let f := F32.ofQ
  let o : F32 := BitVec.ofNat 32 s.freeVal
  let area (l : Q) (g : Bool) : F32 := if ok && g && Q.lt Q.zero v then f (Q.div (Q.mul (Q.ofNat 10) l) (Q.mul v w)) else o
  let pct (l : Q) (g : Bool) : F32 := if ok && g && Q.lt Q.zero q then f (Q.div (Q.mul (Q.mk' 1 10) l) q) else o
  let g0 := s.lossValid 0
  let g1 := s.lossValid 1
  (((s.useFree.setCrop (fun c => { c with
    loss0 := f l0, loss1 := f l1, area0 := area l0 g0, area1 := area l1 g1, pct0 := pct l0 g0, pct1 := pct l1 g1 })).cropBit 3 g0).cropBit 4 g1).cropBit 9 (!ok)

/-- Some assigned input is excluded in this frame (R80, R86). -/
def State.anyExcluded (s : State) : Bool :=
  (List.range 8).any (fun k => decide (s.cfg (lsk k 0) < 64) && bit (s.get (lsk k 0x0B)) 2) ||
    (decide (s.cfg (hk 4) < 64) && !s.flowOk) || (decide (s.cfg (hk 5) < 64) && !s.elevOk)

/-- CROP (R78): the sealed block's loss, flow and moisture results, and what the frame adds to the cut intervals. -/
def cropPhase (s : State) : State :=
  if s.cfg (hk 1) ≠ 1 then s.cropOff
  else if s.inReset blkCROP then s.inc32 (hk 0x2A)
  else
    let s0 := if s.cropHas 0 then s else (s.cropBit 0 true).setCrop (fun v => { v with m := s.cfgF (hk 0x17), moistEver := false })
    let cutting := decide (s.cfg (hk 2) = 1)
    let s1 := ((s0.follow srcCROP_CFG s0.cropCfgBad 0).cropBit 7 cutting)
    let s2 := (s1.zeroFrame.flowFrame).moistFrame
    let qmin := s.cfgQ (hk 0x20)
    let q := F32.toQ s2.crop.q
    let s3 := (List.range 8).foldl (fun t k => t.lossFrame (cutting && Q.le qmin q) k) s2
    let stale := decide ((s.nav.gsFrame + 1) % 2 ^ 32 ≠ s.frameNo)
    let run := if stale then s.crop.staleRun + 1 else 0
    let v := F32.toQ s.nav.pubGs
    let w := Q.mk' (s.cfg (hk 3)) 1000
    let areaOk := decide (run < 21)
    let ok := areaOk && cutting && !(Q.lt v (Q.mk' (s.cfg (hk 0x1F)) 1000)) && Q.lt Q.zero w && Q.le qmin q
    let s4 := (s3.normFrame v w q ok).setCrop (fun c => { c with staleRun := run, clock := c.clock + 50 })
    let ex := s4.anyExcluded
    let s5 := (if ex then s4.inc32 (hk 0x2A) else s4).cropBit 10 ex
    let s6 := s5.openCut
    s6.setCrop (fun c => { c with cuts := c.cuts.map (s6.gather v areaOk (s6.flowOk && s6.elevOk) (s6.cropHas 5)) })

/-- The end of a block reset of the engine: open impacts and rate windows are clear (R95). -/
def State.cropRestart (s : State) : State :=
  s.setCrop (fun v => { v with loss := List.replicate 8 LossSt.reset })

/-- A chip reset loses the pending records and counts them (R95). -/
def State.cropChipReset (s : State) : State :=
  (s.add32 (hk 0x24) s.crop.cuts.length).setCrop (fun v => { CropSt.reset with
    yields := v.yields, lastSeq := v.lastSeq, areaRest := v.areaRest })

/-- The crop block of the input image (R96). -/
def State.cropBlock (s : State) : List Byte :=
  if s.cfg (hk 1) ≠ 1 then le 128 0
  else
    let c := s.crop
    fles 8 [c.q, c.qDry, c.m, c.area0, c.area1, c.pct0, c.pct1, c.elevFreq] ++
      (List.range 8).flatMap (fun k => le 4 (s.get (lsk k 0x0A))) ++ (List.range 8).flatMap (fun k => le 2 (s.get (lsk k 0x0B))) ++
      le 4 (s.get (hk 0x27)) ++ le 4 (s.get (hk 0x28)) ++ le 4 c.lastSeq ++ le 2 (s.get (hk 0x2B)) ++ le 2 0 ++ fle c.plate ++ le 28 0

/-- BUFFER_CLEAR (R93). -/
def hBufferClear : Handler := Handler.simple fun s _ _ =>
  (((s.put (hk 0x2C) (s.get (hk 0x23))).cropBit 11 false).follow srcCROP_BUF false 0, stOK)

/-- TOTALS_RESET (R98). -/
def hTotalsReset : Handler := Handler.simple fun s _ _ =>
  ((((s.put (hk 0x26) 0).put (hk 0x27) 0).put (hk 0x28) 0).setCrop (fun v => { v with areaRest := 0 }), stOK)

/-- DOMAIN 0x2200.22 read at an offset (R93). -/
def State.yieldAt (s : State) (off : Nat) : List Byte := le 64 (Tbl.get 0 s.crop.yields (off / 64))

def execCrop (s : State) : Host.Outcome State Fault Refusal := .next (cropPhase s)
def execLossSensorQuiet (k : Fin 8) (s : State) : Host.Outcome State Fault Refusal := .next (lossQuiet k.val s)
def execLossSensorNoisy (k : Fin 8) (s : State) : Host.Outcome State Fault Refusal := .next (lossNoisy k.val s)
def execLossSensorClear (k : Fin 8) (noisy : Bool) (s : State) : Host.Outcome State Fault Refusal := .next (lossClear k.val noisy s)
def execCropFlowTimeout (s : State) : Host.Outcome State Fault Refusal := .next (flowTimeout s)
def execMoistTimeout (s : State) : Host.Outcome State Fault Refusal := .next (moistTimeout s)
def execZeroRequest (who : Who) (s : State) : Host.Outcome State Fault Refusal := .next (s.request who 0x2200 0x0A (.num 1) hZero)
def execZeroDone (s : State) : Host.Outcome State Fault Refusal := .next (zeroDone s)
def execRecordClose (s : State) : Host.Outcome State Fault Refusal := .next (recordClose s)
def execBufferClear (who : Who) (s : State) : Host.Outcome State Fault Refusal := .next (s.request who 0x2200 0x25 (.num 1) hBufferClear)
def execTotalsReset (who : Who) (s : State) : Host.Outcome State Fault Refusal := .next (s.request who 0x2200 0x29 (.num 1) hTotalsReset)

end Sys2Proof.Machine
end

