-- ==== Sys2Proof/Machine/Slots.lean ====
section
/-! DEFINITION. The control engine (R162 to R194): schedule, sources, slew limiter, control law, slot states and
commands, bumpless close, banks, cascades, supervision, test signals, lanes and the rules of the slots' settings. -/

namespace Sys2Proof.Machine

open Sys2Proof

def sk (n sub : Nat) : Nat := ob (0x2500 + n % 96) sub
/-- Parameter i of bank b, 0 Kp to 12 R_out (R184). -/
def bk (n b i : Nat) : Nat := sk n (0x20 + 0x10 * b + i)

def State.slot (s : State) (n : Nat) : SlotSt := Tbl.get SlotSt.reset s.lark.slots n
def State.setSlot (s : State) (n : Nat) (f : SlotSt → SlotSt) : State :=
  { s with lark := { s.lark with slots := Tbl.modify SlotSt.reset s.lark.slots n f } }
def State.setLark (s : State) (f : LarkSt → LarkSt) : State := { s with lark := f s.lark }

def slOFF : Nat := 0
def slOPEN : Nat := 1
def slCLOSED : Nat := 2
def slHOLD : Nat := 3
def slTRIPPED : Nat := 4
def State.eff (s : State) (n : Nat) : Nat := s.get (sk n 0x1B)

/-- D of a rate code, in frames (R162). -/
def rateD (code : Nat) : Nat := [1, 2, 4, 10, 20, 40, 100, 200].getD code 200
def State.slotD (s : State) (n : Nat) : Nat := rateD (s.cfg (sk n 2))
def State.slotOn (s : State) (n : Nat) : Bool := decide (s.cfg (sk n 1) = 1)
/-- Ts in binary32 (R167). -/
def tsOf (d : Nat) : F32 := F32.ofQ (Q.mk' ((d * 50 : Nat) : Int) 1000000)
def State.opt (s : State) (n i : Nat) : Bool := bit (s.cfg (sk n 0x10)) i
/-- Parameter of the bank in force. -/
def State.par (s : State) (n i : Nat) : F32 := s.cfgF (bk n (s.slot n).bank i)

/-- Device states in which enabled slots are evaluated (R176). -/
def evalState (d : Nat) : Bool := within 3 6 d

/-! ### Binary32 helpers -/

def f32clamp (x lo hi : F32) : F32 := if F32.lt x lo then lo else if F32.lt hi x then hi else x
def f64clamp (x lo hi : F64) : F64 := if F64.lt x lo then lo else if F64.lt hi x then hi else x
def F32.pos (x : F32) : Bool := F32.lt 0 x
def F32.negv (x : F32) : Bool := F32.lt x 0
def F32.sgn (x : F32) : F32 := if F32.pos x then F32.one else if F32.negv x then F32.neg F32.one else 0
/-- 2π in binary32. -/
def twoPi32 : F32 := F32.ofQ (Q.mul (Q.ofNat 2) Q.pi)
/-- x − 2π × round(x / 2π), ties away from zero (R168, R186). -/
def wrapPi (x : F32) : F32 := F32.sub x (F32.mul twoPi32 (F32.ofInt (F32.toQ (F32.div x twoPi32)).roundAway))
def wrapIf (w : Bool) (x : F32) : F32 := if w then wrapPi x else x

/-! ### Sources (R164 to R166) -/

/-- Bytes of a CAN map entry's type. -/
def canTypeSize (t : Nat) : Nat := [1, 2, 2, 4, 4, 4].getD t 0
def canSelOk (v : Nat) : Bool := decide (v / 4096 < 6) && decide (v % 4096 + canTypeSize (v / 4096) ≤ 4096)

def State.rxBytes (s : State) (off n : Nat) : Nat :=
  (List.range n).foldl (fun a i => a + 256 ^ i * Tbl.get 0 s.can.rxMap (off + i)) 0

/-- The value of a CAN receive map entry. -/
def State.canVal (s : State) (sel : Nat) : F32 :=
  let t := sel / 4096
  let w := s.rxBytes (sel % 4096) (canTypeSize t)
  if t = 2 then F32.ofInt (signed 16 w) else if t = 4 then F32.ofInt (signed 32 w)
  else if t = 5 then BitVec.ofNat 32 w else F32.ofInt (w : Int)

def State.outCur (s : State) (c : Nat) : Option Int := (Tbl.get OutChan.reset s.outs.chans c).cur

/-- A navigation value by its code, where it is valid. -/
def State.navVal (s : State) (c : Nat) : Option F32 :=
  if c ≤ 2 then
    if s.img.staleNav then none
    else
      let g := F32.toQ s.nav.pubGs
      some (if c = 0 then s.nav.pubGs else if c = 1 then s.nav.pubYaw
        else if Q.lt (Q.abs g) ⟨1, 10⟩ then 0 else F32.ofQ (Q.div (F32.toQ s.nav.pubYaw) g))
  else match s.nav.ring with
    | r :: _ =>
      if s.tm.mt ≤ r.mt + 3 * (1000000000 / s.ncfg (nk 2)) then
        some (if c = 3 then r.roll else if c = 4 then r.pitch else r.heading) else none
    | [] => none

/-- The value of a source, where it is valid (R164). -/
def State.srcVal (s : State) (src sel : Nat) : Option F32 :=
  if src = 0 then some 0
  else if src = 1 then
    if bit (s.get (ik sel 0x17)) 0 then some (F32.ofInt (s.getI32 (ik sel 0x16))) else none
  else if src = 2 then (s.outCur sel).map F32.ofInt
  else if src = 3 then s.navVal sel
  else if src = 4 then
    if s.cropHas (if sel ≤ 1 then 1 else if sel = 2 then 3 else 4) then
      some (if sel = 0 then s.crop.q else if sel = 1 then s.crop.qDry else if sel = 2 then s.crop.pct0 else s.crop.pct1)
    else none
  else if Tbl.get 0 s.can.rxFresh (sel % 4096) = 1 then some (s.canVal sel) else none

/-- A selector is valid under its source (R164). -/
def selOk (src sel : Nat) : Bool :=
  if src = 1 || src = 2 then decide (sel ≤ 63) else if src = 3 then decide (sel ≤ 5) else if src = 4 then decide (sel ≤ 3)
  else if src = 5 then canSelOk sel else true

/-- Consecutive invalid frames, the present one counted. -/
def State.badFrames (s : State) (f : Option Nat) : Nat := match f with | some k => (s.frameNo + 2 ^ 32 - k) % 2 ^ 32 + 1 | none => 0

/-- The slots that follow slot n (R177). -/
def State.followers (s : State) (n : Nat) : List Nat :=
  (List.range 96).filter (fun j => s.slotOn j && decide (s.cfg (sk j 0x0A) = 2) && decide (s.cfg (sk j 0x0B) = n))

/-- The channels a destination names (R170), from a view of the slots' settings. -/
def chansOf (dest a b : Nat) : List Nat :=
  if (dest = 1 || dest = 3) && a ≤ 63 then [a] else if dest = 2 && a ≤ 63 && b ≤ 63 then [a, b] else []
def State.slotChans (s : State) (n : Nat) : List Nat := chansOf (s.cfg (sk n 0x13)) (s.cfg (sk n 0x14)) (s.cfg (sk n 0x15))

/-- The enabled slot that drives a channel (R171, R205). -/
def State.driver (s : State) (c : Nat) : Option Nat :=
  (List.range 96).find? (fun n => s.slotOn n && (s.slotChans n).contains c)

/-- Cascade level, from a view of set-point source and selector; n bounds the levels. -/
def levelFrom (src sel : Nat → Nat) : Nat → Nat → Nat
  | 0, _ => 0
  | k + 1, n => if src n = 2 then levelFrom src sel k (sel n) + 1 else 0
def State.level (s : State) (n : Nat) : Nat := levelFrom (fun j => s.cfg (sk j 0x0A)) (fun j => s.cfg (sk j 0x0B)) 3 n

/-! ### States, causes, trips (R172 to R176) -/

def State.cond (s : State) (n code : Nat) (on : Bool) : State :=
  let x := s.slot n
  if on then
    if Tbl.get 0 x.conds code ≠ 0 then s
    else (s.setLark (fun l => { l with seq := l.seq + 1 })).setSlot n (fun y => { y with conds := Tbl.set 0 y.conds code (s.lark.seq + 1) })
  else s.setSlot n (fun y => { y with conds := Tbl.set 0 y.conds code 0 })

/-- The active hold causes: the first six act only while the commanded state is CLOSED (R174). -/
def SlotSt.active (x : SlotSt) : List (Nat × Nat) :=
  x.conds.filter (fun p => decide (p.1 = 1) || decide (p.1 = 8) || decide (x.cmd = 2))

/-- Effective state and cause (R172, R174). -/
def State.effOf (s : State) (n : Nat) : Nat × Nat :=
  let x := s.slot n
  if !(s.slotOn n) || !(evalState s.dev) then (slOFF, 0)
  else if x.trip ≠ 0 then (slTRIPPED, x.trip)
  else match x.active with
    | [] => (x.cmd, 0)
    | p :: rest => (slHOLD, (rest.foldl (fun b q => if q.2 < b.2 then q else b) p).1)

def supStat (n : Nat) : Nat := sk n 0x77

/-- End the test on a slot (R194): state 2 completed or 3 aborted with its cause. -/
def State.testEnd (s : State) (n st cause : Nat) : State :=
  (((s.setSlot n (fun x => { x with test := none, testStop := 0 })).put (sk n 0x8A) st).put (sk n 0x8B) cause).put (sk n 0x8C) 0

/-- The effective state follows (R172, R187, R189, R194). -/
def State.settleSlot (s : State) (n : Nat) : State :=
  let e := s.effOf n
  let old := s.eff n
  let s1 := (s.put (sk n 0x1B) e.1).put (sk n 0x1E) e.2
  if e.1 = old then s1
  else
    let s2 := s1.setSlot n (fun x => { x with
      closing := decide (e.1 = slCLOSED), nFe := 0
      started := x.started && decide (e.1 ≠ slOFF), dead := x.dead && decide (e.1 ≠ slOFF)
      out := if e.1 = slOFF then 0 else x.out, uPrev := if e.1 = slOFF then 0 else x.uPrev })
    let s3 := s2.put (supStat n) (s2.get (supStat n) / 4 % 2 * 4)
    let s4 := if e.1 = slHOLD then (s3.putF (sk n 0x65) 0).put (sk n 0x66) (s3.get (sk n 0x66) % 2) else s3
    match (s4.slot n).test with
    | some t => if e.1 = t.eff then s4
        else s4.testEnd n 3 (if e.1 = slTRIPPED then 4 else if s.dev = dsRUN || s.dev = dsSERVICE then 2 else 3)
    | none => s4

/-- The fault value of a tripped slot (R190). -/
def State.faultOut (s : State) (n : Nat) : State :=
  let mode := s.cfg (sk n 0x73)
  let v := if mode = 0 then f32clamp (s.cfgF (sk n 0x74)) (s.par n 8) (s.par n 9) else if mode = 1 then (s.slot n).pre else 0
  s.setSlot n (fun x => { x with out := v, uPrev := v, dead := decide (mode = 2) })

def State.capEvent (s : State) (n : Nat) (trip : Bool) : State :=
  s.setLark (fun l => { l with caps := (List.range 4).map (fun k =>
    let c := l.caps.getD k CapSt.reset
    if s.get (ob (0x2561 + k) 9) = 1 && s.get (ob (0x2561 + k) 7) = n then
      (if trip then { c with evTrip := true } else { c with evTest := true }) else c) })

/-- A trip cause acts on a slot in CLOSED or HOLD (R174). -/
def State.tripSlot (s : State) (n code : Nat) : State :=
  if (s.slot n).trip ≠ 0 || (s.eff n ≠ slCLOSED && s.eff n ≠ slHOLD) then s
  else
    let s1 := s.setSlot n (fun x => { x with trip := code })
    let s2 := if code = 9 then (s1.inc32 (sk n 0x79)).putBit (supStat n) 2 true else s1
    (((s2.follow (srcLOOP n) true 0).settleSlot n).faultOut n).capEvent n true

/-- A trip is cleared by an open command (R173). -/
def State.untrip (s : State) (n : Nat) : State :=
  ((s.setSlot n (fun x => { x with trip := 0, dead := false, nFe := 0 })).put (supStat n) 0).follow (srcLOOP n) false 0

/-- A command judged under the effective state: status, new commanded state, whether it clears a trip (R173). -/
def State.judgeCmd (s : State) (n c : Nat) : Nat × Nat × Bool :=
  let e := s.eff n
  if e = slOFF then (stSTATE, 0, false)
  else if c = 1 then
    if e = slTRIPPED || s.dev = dsSAFE_HOLD || s.cfg (sk n 4) = 0 then (stSTATE, 0, false)
    else if !(F32.lt (s.par n 8) (s.par n 9)) || !(F32.le (s.par n 0x0A) (s.par n 0x0B)) then (stRANGE, 0, false)
    else (stOK, slCLOSED, false)
  else if c = 2 then (stOK, slOPEN, decide (e = slTRIPPED))
  else if e = slTRIPPED then (stSTATE, 0, false)
  else (stOK, slHOLD, false)

/-- An accepted command. -/
def State.applyCmd (s : State) (n new : Nat) (clear : Bool) : State :=
  let s1 := if clear then s.untrip n else s
  let s2 := (s1.setSlot n (fun x => { x with cmd := new })).putBit (sk n 0x1C) 9 false
  (s2.cond n 1 (decide (new = slHOLD))).settleSlot n

/-- Writes of 1, 2 or 3 to 0x25nn.1A: judged on arrival, acting in the next frame (R173, R182). -/
def hSlotCmd (n : Nat) : Handler := Handler.simple fun s _ v =>
  match s.judgeCmd n v.toNum with
  | (st, new, clear) =>
    if st = stOK then (s.setSlot n (fun x => { x with cmds := x.cmds ++ [(new, clear)] }), stOK)
    else ((if st = stSTATE then s.refuse9 (0x2500 + n) 0x1A else s).inc32 (sk n 0x1F), st)

/-! ### Banks (R178) -/

/-- A bank may become active. -/
def State.bankOk (s : State) (n b : Nat) : Bool :=
  F32.lt (s.getF (bk n b 8)) (s.getF (bk n b 9)) && F32.le (s.getF (bk n b 0x0A)) (s.getF (bk n b 0x0B))

/-- A write of 0x25nn.19: judged now, or, mapped, in the Control phase. -/
def hBank (n : Nat) : Handler where
  consist := fun s v => s.bankOk n v.toNum
  cond := fun _ => true
  run := fun s w v =>
    if w.isMapped then (s.setSlot n (fun x => { x with mapSel := some v.toNum }), stOK)
    else if s.eff n = slCLOSED || s.eff n = slTRIPPED then (s.refuse9 (0x2500 + n) 0x19, stSTATE)
    else (s.put (sk n 0x19) v.toNum, stOK)

/-- The integral sum's bounds in binary64. -/
def bound64 (i ki : F32) : F64 := F64.div (F32.wide i) (F32.wide ki)

/-- INT_SAT: S or I_c stands at an integral limit (R169). -/
def State.intSat (s : State) (n : Nat) : Bool :=
  let x := s.slot n
  let ki := s.par n 1
  if (F32.pos ki) then decide (x.sum = bound64 (s.par n 0x0A) ki) || decide (x.sum = bound64 (s.par n 0x0B) ki)
  else F32.eqv x.ic (s.par n 0x0A) || F32.eqv x.ic (s.par n 0x0B)

/-- The rescale from Ki_a to the Ki of the bank in force (R178). -/
def State.rescale (s : State) (n : Nat) : State :=
  let x := s.slot n
  let ka := x.kiUsed
  let kb := s.par n 1
  let lo := s.par n 0x0A
  let hi := s.par n 0x0B
  let x1 := if (F32.pos ka) && (F32.pos kb) then { x with sum := F64.div (F64.mul x.sum (F32.wide ka)) (F32.wide kb) }
    else if (F32.pos ka) then { x with ic := F64.narrow (F64.mul (F32.wide ka) x.sum) }
    else if (F32.pos kb) then { x with sum := F64.div (F32.wide x.ic) (F32.wide kb) } else x
  let x2 := if (F32.pos kb) then { x1 with sum := f64clamp x1.sum (bound64 lo kb) (bound64 hi kb) } else { x1 with ic := f32clamp x1.ic lo hi }
  let s1 := s.setSlot n (fun _ => { x2 with kiUsed := kb })
  s1.putBit (sk n 0x1C) 2 (s1.intSat n)

/-- The bank selections of the frame, mapped before written (R178, R182). -/
def State.selectBank (s : State) (n : Nat) : State :=
  let x := s.slot n
  let bad := decide (s.eff n = slCLOSED) || decide (s.eff n = slTRIPPED)
  let written := s.cfg (sk n 0x19)
  let s1 := match x.mapSel with
    | none => s
    | some b =>
      let t := s.setSlot n (fun y => { y with mapSel := none })
      if bad then (((t.mappedRefused (0x2500 + n) 0x19).refuse9 (0x2500 + n) 0x19).putBit (sk n 0x1C) 9 true).inc32 (sk n 0x1F)
      else
        let u := t.setSlot n (fun y => { y with bank := b })
        if written = x.bank then (if s.get (sk n 0x19) = written then u.putNow (sk n 0x19) b else u) else u
  let s2 := if written = x.bank then s1 else s1.setSlot n (fun y => { y with bank := written })
  if (s2.slot n).bank = x.bank && s2.par n 1 = x.kiUsed then s2 else s2.rescale n

/-! ### The slew limiter (R186 to R188) -/

def setLim (s : State) (n : Nat) (r v : F32) (st : Nat) : State :=
  ((s.putF (sk n 0x64) r).putF (sk n 0x65) v).put (sk n 0x66) st

def f32sqrt (x : F32) : F32 := F32.ofQ (Q.sqrt (F32.toQ x))

/-- One update: the new r and v, RATE_LIMITED, ACCEL_LIMITED, and whether every result is finite. -/
def limStep (r v w ts rmax acc : F32) (wrap : Bool) : F32 × F32 × Bool × Bool × Bool :=
  let d := wrapIf wrap (F32.sub w r)
  if (F32.isZero rmax) && (F32.isZero acc) then (w, 0, false, false, (F32.fin d))
  else if (F32.isZero acc) then
    let q := F32.div d ts
    let v1 := f32clamp q (F32.neg rmax) rmax
    let r1 := F32.add r (F32.mul v1 ts)
    (r1, v1, !(F32.eqv v1 q), false, (F32.fin d) && (F32.fin q) && (F32.fin r1))
  else
    let ad := (F32.abs d)
    let root := f32sqrt (F32.mul (F32.mul (F32.ofInt 2) acc) ad)
    let m0 := F32.min root (F32.div ad ts)
    let m := if (F32.isZero rmax) then m0 else F32.min rmax m0
    let vd := F32.mul (F32.sgn d) m
    let dv := F32.mul acc ts
    let want := F32.sub vd v
    let cl := f32clamp want (F32.neg dv) dv
    let v1 := F32.add v cl
    let rn := F32.add r (F32.mul v1 ts)
    let tgt := if wrap then F32.add r d else w
    let half := F32.div (F32.mul (F32.mul acc ts) ts) (F32.ofInt 2)
    let between := (F32.le r tgt && F32.le tgt rn) || (F32.le rn tgt && F32.le tgt r)
    let arrive := F32.le (F32.abs v1) dv && (between || F32.le (F32.abs (F32.sub tgt rn)) half)
    let r1 := if arrive then tgt else rn
    let v2 := if arrive then 0 else v1
    (wrapIf wrap r1, v2, !(F32.isZero rmax) && F32.eqv (F32.abs vd) rmax, !(F32.eqv cl want), (F32.fin d) && (F32.fin root) && (F32.fin v1) && (F32.fin rn))

/-- The limiter's evaluation in CLOSED; the status of R188. -/
def State.limiter (s : State) (n : Nat) (w ts : F32) : State × Bool :=
  let wrap := s.opt n 2
  let r := s.getF (sk n 0x64)
  let d := wrapIf wrap (F32.sub w r)
  match limStep r (s.getF (sk n 0x65)) w ts (s.cfgF (sk n 0x60)) (s.cfgF (sk n 0x61)) wrap with
  | (r1, v1, rl, al, ok) =>
    let left := wrapIf wrap (F32.sub w r1)
    let rev := !(F32.isZero v1) && !(decide ((F32.sgn v1) = (F32.sgn d)))
    (setLim s n r1 v1 (ofBool (!(F32.isZero left)) + 2 * ofBool rl + 4 * ofBool al + 8 * ofBool rev), ok)

/-! ### Test signals (R191 to R194) -/

/-- The taps of a PRBS register, beside its order (R192). -/
def prbsTap (m : Nat) : Nat := if m = 5 then 3 else if m = 7 then 6 else if m = 9 then 5 else if m = 11 then 9 else 14

/-- One shift: the new bit enters at the low end, and the bit shifted out is the output. -/
def prbsShift (m : Nat) (t : TestRun) : TestRun :=
  let new := Nat.testBit t.reg (m - 1) != Nat.testBit t.reg (prbsTap m - 1)
  { t with reg := (t.reg * 2 + (if new then 1 else 0)) % 2 ^ m, out := Nat.testBit t.reg (m - 1) }

/-- Phase in cycles, in binary64. -/
def cycles64 (f : F32) (t : F64) : Q := F64.toQ (F64.mul (F32.wide f) t)

/-- s(t) of the running test (R192); t in binary64. -/
def State.testValue (s : State) (n : Nat) (t : TestRun) : F32 :=
  let a := s.cfgF (sk n 0x82)
  let f1 := s.cfgF (sk n 0x84)
  let f2 := s.cfgF (sk n 0x85)
  let wave := s.cfg (sk n 0x81)
  let tm := F64.ofQ (Q.mk' ((t.n * s.slotD n * 50 : Nat) : Int) 1000000)
  if wave = 0 then a
  else if wave = 1 then
    let c := cycles64 f1 tm
    if Q.lt (Q.sub c (Q.ofInt c.floor)) ⟨1, 2⟩ then a else (F32.neg a)
  else if wave = 2 then
    F32.mul a (F32.ofQ (Q.sin (F64.toQ (F64.ofQ (Q.mul (Q.mul (Q.ofNat 2) Q.pi) (cycles64 f1 tm))))))
  else if wave = 3 then
    let dur := Q.mk' ((s.cfg (sk n 0x86) : Nat) : Int) 1000
    let k := Q.div (F32.toQ f2) (F32.toQ f1)
    let g := Q.sub (Q.rpow k (Q.div (F64.toQ tm) dur)) Q.one
    let ph := Q.div (Q.mul (Q.mul (Q.mul (Q.ofNat 2) Q.pi) (Q.mul (F32.toQ f1) dur)) g) (Q.ln k)
    F32.mul a (F32.ofQ (Q.sin (F64.toQ (F64.ofQ ph))))
  else if t.out then a else (F32.neg a)

/-- t ≥ T at this evaluation. -/
def State.testOver (s : State) (n : Nat) (t : TestRun) : Bool := decide (s.cfg (sk n 0x86) * 1000 ≤ t.n * s.slotD n * 50)

/-- The test's part of an evaluation: a pending stop, a start, the end, and the value s (R193, R194). -/
def State.testStep (s : State) (n : Nat) : State × F32 :=
  let x := s.slot n
  let s1 := if x.testStop ≠ 0 && x.test.isSome then s.testEnd n 3 x.testStop else s.setSlot n (fun y => { y with testStop := 0 })
  let s2 := match x.testNow with
    | some w =>
      ((s1.setSlot n (fun y => { y with
        test := some ⟨s.cfg (sk n 0x80), s.eff n, w, 0, 2 ^ s.cfg (sk n 0x87) - 1, true⟩, testNow := none })).put (sk n 0x8A) 1).put (sk n 0x8B) 0
    | none => s1
  let s3 := if x.testNow.isSome then s2.capEvent n false else s2
  match (s3.slot n).test with
  | none => (s3, 0)
  | some t =>
    if s3.testOver n t then (s3.testEnd n 2 0, 0)
    else
      let t1 := if s3.cfg (sk n 0x81) = 4 && t.n % max 1 (s3.cfg (sk n 0x88)) = 0 then prbsShift (s3.cfg (sk n 0x87)) t else t
      let v := s3.testValue n t1
      ((s3.setSlot n (fun y => { y with test := some { t1 with n := t1.n + 1 } })).putF (sk n 0x8C) v, v)

/-! ### The law (R168, R175) -/

/-- m of the law. -/
def State.mOf (s : State) (n : Nat) (r y : F32) : F32 :=
  let neg := s.opt n 0
  if s.opt n 1 then
    let e := F32.sub r y
    wrapIf (s.opt n 2) (if neg then (F32.neg e) else e)
  else if neg then y else (F32.neg y)

/-- β of the derivative filter (R168). -/
def betaOf (ts tf : F32) : F32 :=
  if (F32.isZero tf) then F32.one else F32.sub F32.one (F32.ofQ (Q.exp (Q.neg (F32.toQ (F32.div ts tf)))))

/-- What an evaluation of the law gives: the slot, its flags among those of R169, and whether every result was finite. -/
structure LawOut where
  slot : SlotSt
  flags : Nat
  bump : Bool
  ok : Bool

/-- Directions in which a follower blocks the master's integration: up, down (R177). -/
def State.blockedBy (s : State) (n : Nat) : Bool × Bool :=
  (s.followers n).foldl (fun b j =>
    let k := s.cfgF (sk j 0x0C)
    let fl := s.get (sk j 0x1C)
    (b.1 || ((F32.pos k) && bit fl 0) || ((F32.negv k) && bit fl 1), b.2 || ((F32.pos k) && bit fl 1) || ((F32.negv k) && bit fl 0))) (false, false)

/-- The law of R168 with the close of R175 where one is due; `r` is r_t and `test` an output test value. -/
def State.law (s : State) (n : Nat) (r ts test : F32) : LawOut :=
  let x := s.slot n
  let p (i : Nat) : F32 := s.par n i
  let neg := s.opt n 0
  let wrap := s.opt n 2
  let e0 := F32.sub r x.y
  let e := wrapIf wrap (if neg then (F32.neg e0) else e0)
  let inDb := F32.le (F32.abs e) (p 7)
  let ed := if inDb then (0 : F32) else F32.sub e (F32.mul (p 7) (F32.sgn e))
  let m := s.mOf n r x.y
  let pT := F32.mul (p 0) ed
  let fT := F32.add (F32.add (F32.mul (p 4) r) (F32.mul (p 5) x.xff)) (p 6)
  let ki := p 1
  let lo := bound64 (p 0x0A) ki
  let hi := bound64 (p 0x0B) ki
  let u0 := x.out
  let i0 := F32.sub (F32.sub u0 pT) fT
  let q := F64.div (F32.wide i0) (F32.wide ki)
  let x1 : SlotSt := if !x.closing then x
    else if (F32.pos ki) then { x with d := 0, mPrev := m, sum := f64clamp q lo hi, uPrev := u0, closing := false }
    else { x with d := 0, mPrev := m, ic := f32clamp i0 (p 0x0A) (p 0x0B), uPrev := u0, closing := false }
  let bump := !(F32.le (p 8) u0 && F32.le u0 (p 9)) || (if (F32.pos ki) then decide (x1.sum ≠ q) else !(F32.eqv x1.ic i0))
  let dm := wrapIf wrap (F32.sub m x1.mPrev)
  let d := F32.add x1.d (F32.mul (betaOf ts (p 3)) (F32.sub (F32.div (F32.mul (p 2) dm) ts) x1.d))
  let st := f64clamp (F64.add x1.sum (F32.wide (F32.mul ed ts))) lo hi
  let vt := F32.add (F32.add (F32.add pT (F64.narrow (F64.mul (F32.wide ki) st))) d) fT
  let blk := s.blockedBy n
  let fblk := ((F32.pos ed) && blk.1) || ((F32.negv ed) && blk.2)
  let blocked := (F32.lt (p 9) vt && (F32.pos ed)) || (F32.lt vt (p 8) && (F32.negv ed)) || fblk
  let sum := if (F32.pos ki) && !blocked then st else x1.sum
  let iT := if (F32.pos ki) then F64.narrow (F64.mul (F32.wide ki) sum) else x1.ic
  let ul := F32.add (F32.add (F32.add (F32.add pT iT) d) fT) test
  let uc := f32clamp ul (p 8) (p 9)
  let step := F32.mul (p 0x0C) ts
  let u := if (F32.pos (p 0x0C)) then f32clamp uc (F32.sub x1.uPrev step) (F32.add x1.uPrev step) else uc
  let okKi := !(F32.pos ki) || (F64.fin st && F32.fin vt && (!x.closing || F64.fin q))
  { slot := { x1 with d := d, mPrev := m, sum := sum, uPrev := u, out := u, e := e }
    flags := ofBool (F32.lt (p 9) ul) + 2 * ofBool (F32.lt ul (p 8)) + 64 * ofBool inDb + 1024 * ofBool (!(F32.eqv u uc)) +
      2048 * ofBool ((F32.pos ki) && fblk)
    bump := bump
    ok := (F32.fin e) && (F32.fin ed) && (F32.fin m) && (F32.fin pT) && (F32.fin fT) && (F32.fin dm) && (F32.fin d) && (F32.fin iT) && (F32.fin ul) && okKi && (!x.closing || (F32.fin i0)) }

/-! ### One evaluation (R163, R189) -/

/-- Set-point source 0 is frozen: a partition's pair has failed, or the owner's output image has timed out (R165). -/
def State.targetHeld (s : State) (n : Nat) : Bool :=
  s.parts.any (fun p => p.resumeHold) || (s.part (Tbl.get 0 s.img.owner (0x40 + 8 * n))).timedOut

/-- The sources of an evaluation: y, w, x_ff, the flags, the hold causes, and the frames since the feedback was lost. -/
def State.slotInputs (s : State) (n : Nat) : State × Nat × Nat :=
  let x := s.slot n
  let src := s.cfg (sk n 4)
  let sel := s.cfg (sk n 5)
  let v := s.srcVal src sel
  let spd := src = 3 && sel ≤ 2
  let badFb := match v with | some _ => none | none => some (x.badFb.getD s.frameNo)
  let yv := match v with
    | some a => some (F32.add (F32.mul (s.cfgF (sk n 6)) a) (s.cfgF (sk n 7)))
    | none => x.yv
  let y := yv.getD 0
  let lost := if spd then (if v.isSome then 0 else s.lark.staleRun) else s.badFrames badFb
  let fbHold := v.isNone && !spd && src ≠ 2 && decide (s.cfg (sk n 8) < lost)
  let fsrc := s.cfg (sk n 0x11)
  let fsel := s.cfg (sk n 0x12)
  let fv := s.srcVal fsrc fsel
  let xff := if fsrc = 0 then 0 else fv.getD x.xff
  let stale := decide (20 < s.lark.staleRun)
  let ssrc := s.cfg (sk n 0x0A)
  let ssel := s.cfg (sk n 0x0B)
  let held := ssrc = 0 && s.targetHeld n
  let x0 : F32 := if held then x.x0 else BitVec.ofNat 32 (Tbl.get 0 s.img.taken (0x40 + 8 * n))
  let nv := s.navVal ssel
  let badSp := if ssrc = 3 then (match nv with | some _ => none | none => some (x.badSp.getD s.frameNo)) else none
  let spn := nv.getD x.spn
  let xin := if ssrc = 0 then x0 else if ssrc = 1 then s.cfgF (sk n 0x0E) else if ssrc = 2 then (s.slot ssel).out else spn
  let spHold := ssrc = 3 && 3 ≤ ssel && decide (s.cfg (sk n 8) < s.badFrames badSp)
  let navHold := stale && (spd || (fsrc = 3 && fsel ≤ 2) || (ssrc = 3 && ssel ≤ 2))
  let w := F32.add (F32.mul (s.cfgF (sk n 0x0C)) xin) (s.cfgF (sk n 0x0D))
  let noPermit := (s.slotChans n).any (fun c => !(bit s.fox.reported c))
  let s1 := (s.setSlot n (fun z => { z with
    y := y, yv := yv, xff := xff, x0 := if ssrc = 0 then x0 else z.x0, spn := if ssrc = 3 then spn else z.spn
    badFb := badFb, badSp := badSp })).putF (sk n 0x63) w
  let s2 := ((s1.cond n 2 (fbHold || spHold)).cond n 3 navHold).cond n 4 (src = 2 && v.isNone)
  let s3 := (s2.cond n 5 noPermit).cond n 6 ((s.followers n).any (fun j => decide (s.eff j ≠ slCLOSED)))
  let fl := 8 * ofBool held + 16 * ofBool v.isNone + 32 * ofBool noPermit + 256 * ofBool (fsrc ≠ 0 && fv.isNone)
  (s3, fl, lost)

/-- Following-error supervision after the law (R189). -/
def State.supervise (s : State) (n : Nat) (rt : F32) : State :=
  let ef := wrapIf (s.opt n 2) (F32.sub rt (s.slot n).y)
  let emax := s.cfgF (sk n 0x70)
  let ewarn := s.cfgF (sk n 0x71)
  let k := if (F32.pos emax) && F32.lt emax (F32.abs ef) then (s.slot n).nFe + 1 else 0
  let ts := s.slotD n * 50
  let lim := max 1 ((s.cfg (sk n 0x72) * 1000 + ts - 1) / ts)
  let s1 := ((s.setSlot n (fun x => { x with nFe := k })).putF (sk n 0x75) ef).putF (sk n 0x76) (F32.max (s.getF (sk n 0x76)) (F32.abs ef))
  let s2 := s1.put (supStat n) (ofBool ((F32.pos ewarn) && F32.lt ewarn (F32.abs ef)) + 2 * ofBool (decide (0 < k)) + s.get (supStat n) / 4 % 2 * 4)
  if (F32.pos emax) && lim ≤ k then s2.tripSlot n 9 else s2

/-- The integral term as the objects show it. -/
def State.putIntegral (s : State) (n : Nat) : State :=
  let ki := s.par n 1
  s.putF (sk n 0x1D) (if (F32.pos ki) then F64.narrow (F64.mul (F32.wide ki) (s.slot n).sum) else (s.slot n).ic)

/-- The slot flags after an evaluation: CMD_REFUSED and BUMP stand (R169). -/
def State.putFlags (s : State) (n fl : Nat) (bump : Option Bool) : State :=
  let old := s.get (sk n 0x1C)
  s.put (sk n 0x1C) (fl + 4 * ofBool (s.intSat n) + 128 * ofBool (bump.getD (bit old 7)) + 512 * ofBool (bit old 9))

/-- OPEN: the open output, with an output test, under the output rate limit (R172, R191). -/
def State.openOut (s : State) (n : Nat) (ts test : F32) : State × Bool :=
  let u := f32clamp (F32.add (f32clamp (s.cfgF (sk n 0x0F)) (s.par n 8) (s.par n 9)) test) (s.par n 8) (s.par n 9)
  let step := F32.mul (s.par n 0x0C) ts
  let up := (s.slot n).uPrev
  let v := if (F32.pos (s.par n 0x0C)) then f32clamp u (F32.sub up step) (F32.add up step) else u
  (s.setSlot n (fun x => { x with out := v, uPrev := v, dead := false }), !(F32.eqv u v))

/-- A slot whose loop was not closed starts its limiter from the feedback, or from the set-point where the ramp is off. -/
def State.primeSlot (s : State) (n : Nat) : State :=
  let e := s.eff n
  let start := if s.cfg (sk n 0x62) = 0 then (s.slot n).y else s.getF (sk n 0x63)
  let s1 := if e = slOPEN || e = slTRIPPED || !(s.slot n).started then setLim s n start 0 0 else s
  s1.setSlot n (fun x => { x with started := true })

/-- The test signal enters at the set-point (1) or at the output (2); 0 where no test runs. -/
def State.testPoint (s : State) (n : Nat) : Nat := match (s.slot n).test with | some t => t.point | none => 0

def State.sourcesOk (s : State) (n : Nat) : Bool :=
  F32.fin (s.getF (sk n 0x63)) && F32.fin (s.slot n).y && F32.fin (s.slot n).xff

/-- A closed loop after its limiter: a value that is not finite trips it. -/
def State.closedLaw (s : State) (n fl : Nat) (ok : Bool) (test ts : F32) : State :=
  let r := s.getF (sk n 0x64)
  let rt := if s.testPoint n = 1 then F32.add r test else r
  let o := s.law n rt ts (if s.testPoint n = 2 then test else 0)
  if o.ok && ok && F32.fin rt then
    (((s.setSlot n (fun _ => o.slot)).putFlags n (fl + o.flags) (if (s.slot n).closing then some o.bump else none)).putIntegral n).supervise n rt
  else (s.tripSlot n 10).putFlags n fl none

/-- What the slot does in its state. -/
def State.actState (s : State) (n fl : Nat) (test ts : F32) : State :=
  let e := s.eff n
  let ok := s.sourcesOk n
  if e = slCLOSED then
    let l := s.limiter n (s.getF (sk n 0x63)) ts
    l.1.closedLaw n fl (ok && l.2) test ts
  else if !ok && e = slHOLD then (s.tripSlot n 10).putFlags n fl none
  else if e = slHOLD then
    (s.setSlot n (fun x => { x with mPrev := s.mOf n (s.getF (sk n 0x64)) x.y })).putFlags n fl none
  else if e = slOPEN then
    let o := s.openOut n ts (if s.testPoint n = 2 then test else 0)
    o.1.putFlags n (fl + 1024 * ofBool o.2) none
  else if e = slTRIPPED then (s.faultOut n).putFlags n fl none
  else s

/-- One evaluation of slot n. -/
def State.evalSlot (s : State) (n : Nat) : State :=
  let ts := tsOf (s.slotD n)
  let a := (s.setSlot n (fun x => { x with pre := x.out })).slotInputs n
  let b := ((if a.1.cfg (sk n 9) ≤ a.2.2 && 0 < a.2.2 then a.1.tripSlot n 11 else a.1).settleSlot n).testStep n
  (b.1.primeSlot n).actState n a.2.1 b.2 ts

/-! ### Lanes (R179, R180) -/

def State.laneRole (s : State) (l : Nat) : Nat := bits (s.get (ob 0x2560 2)) (2 * l) 2
def State.setLaneRole (s : State) (l r : Nat) : State := s.put (ob 0x2560 2) (setBits (s.get (ob 0x2560 2)) (2 * l) 2 r)
def State.laneVoters (s : State) : List Nat := (List.range 4).filter (fun l => decide (s.laneRole l = 0))

def State.capMark (s : State) (i : Nat) : State :=
  s.setLark (fun l => { l with caps := (List.range 4).map (fun k =>
    let c := l.caps.getD k CapSt.reset
    let st := s.get (ob (0x2561 + k) 9)
    if st = 1 || st = 2 then { c with flags := setBit c.flags i true } else c) })

/-- Lane l is excluded: counted, LARK_LANE, its self-test, and for a voter the spare in its place (R180). -/
def State.excludeLane (s : State) (l : Nat) : State :=
  let voter := decide (s.laneRole l = 0)
  let s1 := (s.selfCheck 1 l).put (ob 0x2560 5) (clampN 255 (s.get (ob 0x2560 5) + 1))
  let s2 := (s1.raise srcLARK_LANE l).capMark 2
  let r := if voter then s2.swap 1 l srcLARK_LANE s.tm.mt [] 0 else (s2, none)
  let s3 := match r.2 with
    | some sp => r.1.setLaneRole sp 0
    | none =>
      let y := r.1.elem 1 l
      let n := y.swaps + 1
      let t := (r.1.setElem 1 l { y with swaps := n }).setElemState 1 l (if 4 ≤ n then 4 else 5)
      (if 4 ≤ n then t else t.startTimer (0x100000 + elKey 1 l)).spareLow 1 l
  s3.setLaneRole l (if (s3.elem 1 l).state = 4 then 3 else 2)

/-- The vote of one evaluation: the lanes of `mask` differ from the right result (R179, R180). A lane that disagrees
with two agreeing voters, and a spare that differs, is excluded; without an agreeing pair the slot holds. -/
def State.vote (s : State) (n mask : Nat) : State :=
  let wrong := (List.range 4).filter (fun l => bit mask l && decide (s.laneRole l ≤ 1))
  if wrong = [] then s
  else
    let right := s.laneVoters.filter (fun l => !(bit mask l))
    let s1 := wrong.foldl (fun t _ => t.inc32 (ob 0x2560 3)) s
    if 2 ≤ right.length then wrong.foldl State.excludeLane s1
    else ((((s1.cond n 8 true).inc32 (ob 0x2560 4)).settleSlot n).setSlot n (fun x => { x with pre := x.out })).follow srcLARK_VOTE true n

/-- LANE_SELFTEST_DONE: the lane becomes the spare, or fails (R180). -/
def laneTestDone (l : Nat) (pass : Bool) (s : State) : State :=
  if s.laneRole l = 2 && (s.elem 1 l).state = 5 && s.timerPast (0x100000 + elKey 1 l) nsS then
    let s1 := (s.setLaneRole l (if pass then 1 else 3)).setElemState 1 l (if pass then 1 else 4)
    let s2 := s1.stopTimer (0x100000 + elKey 1 l)
    (if pass then s2.spareReady 1 else s2).spareLow 1 l
  else s

/-! ### The Control phase (R163, R182) -/

/-- At tick 0 what arrived in the frame before may act (R182). -/
def State.larkSeal (s : State) : State :=
  s.setLark (fun l => { l with slots := (List.range 96).foldl (fun t n => Tbl.modify SlotSt.reset t n (fun x =>
    { x with cmdsNow := x.cmdsNow ++ x.cmds, cmds := [], testNow := (match x.testReq with | some w => some w | none => x.testNow), testReq := none })) l.slots })

/-- A CMD byte whose taken value has changed and is not 0; one that the device state refuses counts under R320. -/
def State.cmdByte (s : State) (n : Nat) : State :=
  let c := Tbl.get 0 s.img.taken (0x44 + 8 * n)
  let old := (s.slot n).prevCmd
  let s1 := s.setSlot n (fun x => { x with prevCmd := c })
  if c = old || c = 0 || 3 < c then s1
  else match s1.judgeCmd n c with
    | (st, new, clear) =>
      if st = stOK then s1.applyCmd n new clear
      else
        let s2 := (s1.putBit (sk n 0x1C) 9 true).inc32 (sk n 0x1F)
        if !(evalState s.dev) || (s.dev = dsSAFE_HOLD && c = 1) then s2.refuse9 (0x2500 + n) 0x1A else s2

/-- What acts on a slot before its evaluation: device state, CMD byte, object commands, bank selections. -/
def State.preSlot (entered : Bool) (s : State) (n : Nat) : State :=
  let s0 := if entered then (s.setSlot n (fun x => { x with cmd := 1 })).cond n 1 false else s
  let s1 := (s0.cond n 7 (decide (s.dev = dsSAFE_HOLD) || (decide (s.dev = dsLIMP) && s.opt n 3))).settleSlot n
  let s2 := s1.cmdByte n
  let cs := (s2.slot n).cmdsNow
  let s3 := cs.foldl (fun t p => t.applyCmd n p.1 p.2) (s2.setSlot n (fun x => { x with cmdsNow := [] }))
  let s4 := if (s.dev = dsRUN || s.dev = dsSERVICE) then s3
    else match (s3.slot n).test with | some _ => s3.setSlot n (fun x => { x with testStop := 3 }) | none => s3
  (s4.selectBank n).settleSlot n

/-- The due slots in order of level and number (R162, R163). -/
def State.dueSlots (s : State) : List Nat :=
  let due := (List.range 96).filter (fun n => s.slotOn n && decide ((s.tm.sched + 200 - s.cfg (sk n 3)) % s.slotD n = 0))
  [0, 1, 2, 3].flatMap (fun lv => due.filter (fun n => decide (s.level n = lv)))

/-- CONTROL: every due slot is evaluated and voted; `upsets` names the lanes whose result differs at a slot. -/
def controlPhase (upsets : List (Nat × Nat)) (s : State) : State :=
  if s.inReset blkLARK then s
  else
    let s0 := s.setLark (fun l => { l with staleRun := if s.img.staleNav then l.staleRun + 1 else 0, dev := s.dev })
    let entered := evalState s.dev && !(evalState s.lark.dev)
    let s1 := (List.range 96).foldl (State.preSlot entered) s0
    let s2 := (List.range 96).foldl (fun t n => t.put (sk n 0x18) (t.level n)) s1
    if !(evalState s.dev) then s2
    else
      let due := s2.dueSlots
      let s3 := s2.put (ob 0x2560 6) (max (s2.get (ob 0x2560 6)) due.length)
      due.foldl (fun t n =>
        let m := (upsets.filter (fun p => decide (p.1 = n))).foldl (fun a p => a ||| p.2) 0
        (t.vote n m).evalSlot n) s3

/-- The end of a block reset of Larkspur: `pass` has the bits of the lanes that passed the start test (R181). -/
def State.larkRestart (s : State) (pass : Nat) : State :=
  let took := (List.range 4).filter (fun l => decide (s.laneRole l ≤ 1))
  let ok := took.filter (fun l => bit pass l)
  let bad := took.filter (fun l => !(bit pass l))
  let s1 := (List.range ok.length).foldl (fun t i =>
    let l := ok.getD i 0
    (t.setLaneRole l (if i < 3 then 0 else 1)).setElemState 1 l (if i < 3 then 0 else 1)) s
  let s2 := bad.foldl (fun t l =>
    let t1 := t.selfCheck 1 l
    let y := t1.elem 1 l
    let n := y.swaps + 1
    let u := ((t1.setElem 1 l { y with swaps := n }).setElemState 1 l (if 4 ≤ n then 4 else 5)).put (ob 0x2560 5) (clampN 255 (t.get (ob 0x2560 5) + 1))
    ((if 4 ≤ n then u else u.startTimer (0x100000 + elKey 1 l)).setLaneRole l (if 4 ≤ n then 3 else 2)).raise srcLARK_LANE l) s1
  let s3 := (List.range 96).foldl (fun t n =>
    let u := (t.cond n 8 false).settleSlot n
    match (u.slot n).test with | some _ => u.setSlot n (fun x => { x with testStop := 6 }) | none => u) s2
  ((s3.follow srcLARK_VOTE false 0).spareLow 1 0)

/-! ### Loads (R170) -/

def dutyOf (u : Q) : Nat := clampN 0xFFFF (Q.mul (Q.clamp Q.zero Q.one u) (Q.ofNat 65536)).roundAway.toNat

/-- The value a slot gives: each channel with its duty and, for a current loop in CLOSED, the reference in mA. -/
def State.slotLoad (s : State) (n : Nat) : List (Nat × Nat × Option Int) :=
  let x := s.slot n
  let dest := s.cfg (sk n 0x13)
  let off := decide (s.eff n = slOFF) || x.dead
  let ko := s.cfgF (sk n 0x16)
  let dO := s.cfgF (sk n 0x17)
  let duty (u : F32) : Nat := if off then 0 else dutyOf (F32.toQ (F32.add (F32.mul ko u) dO))
  match s.slotChans n with
  | [a] =>
    let ky := s.cfgF (sk n 6)
    let iref := if dest = 3 && s.eff n = slCLOSED && !(F32.isZero ky) then
        some (Q.div (Q.sub (F32.toQ (s.getF (sk n 0x64))) (F32.toQ (s.cfgF (sk n 7)))) (F32.toQ ky)).roundAway else none
    [(a, duty x.out, iref)]
  | [a, b] =>
    let u := x.out
    [(a, if (F32.pos u) then duty u else 0, none), (b, if (F32.negv u) then duty (F32.neg u) else 0, none)]
  | _ => []

/-- A slot's CAN entry: byte offset and bytes (R170 code 4). -/
def State.slotCan (s : State) (n : Nat) : Option (Nat × List Byte) :=
  let sel := s.cfg (sk n 0x14)
  if s.cfg (sk n 0x13) = 4 && canSelOk sel && s.eff n ≠ slOFF && !(s.slot n).dead then
    let v := F32.add (F32.mul (s.cfgF (sk n 0x16)) (s.slot n).out) (s.cfgF (sk n 0x17))
    let i := (F32.toQ v).roundAway
    let t := sel / 4096
    some (sel % 4096,
      if t = 0 then le 1 (clampI 0 255 i).toNat else if t = 1 then le 2 (clampI 0 65535 i).toNat
      else if t = 2 then le 2 (i16bits (clampI (-32768) 32767 i)) else if t = 3 then le 4 (clampI 0 4294967295 i).toNat
      else if t = 4 then le 4 (i32bits (clampI (-2147483648) 2147483647 i)) else le 4 v.toNat)
  else none

/-! ### Settings (R171, R182) -/

/-- The rules of R171 over the stored settings with a write in place. -/
def slotRules (g : Nat → Nat → Nat) : Bool :=
  let on := (List.range 96).filter (fun n => decide (g n 1 = 1))
  let ch := on.flatMap (fun n => chansOf (g n 0x13) (g n 0x14) (g n 0x15))
  decide (ch.Nodup) &&
  on.all (fun n =>
    (g n 0x13 ≠ 2 || g n 0x14 ≠ g n 0x15) &&
    (g n 0x13 ≠ 3 || (g n 4 = 2 && g n 5 = g n 0x14)) &&
    (g n 0x13 ≠ 4 || canSelOk (g n 0x14)) &&
    decide (levelFrom (fun j => g j 0x0A) (fun j => g j 0x0B) 4 n ≤ 3) &&
    decide ((on.filter (fun j => g j 0x0A = 2 && g j 0x0B = n)).length ≤ 8))

/-- The pair rules of a write (R171). -/
def pairRules (g : Nat → Nat) : Bool :=
  decide (g 3 < rateD (g 2)) && selOk (g 4) (g 5) && (g 0x0A ≠ 3 || g 0x0B ≤ 5) && selOk (g 0x11) (g 0x12) && g 0x11 ≠ 2

/-- In SERVICE, settings and supervision are written only while the slot is OFF or OPEN (R182, R199). -/
def State.slotService (s : State) (n : Nat) : Bool := decide (s.dev ≠ dsSERVICE) || decide (s.eff n ≤ slOPEN)

/-- A write of a slot's configuration object. -/
def hSlotCfg (n sub : Nat) : Handler where
  consist := fun s v =>
    let g (m k : Nat) : Nat := if m = n && k = sub then v.toNum else s.get (sk m k)
    pairRules (g n) && (g n 1 ≠ 1 || slotRules g)
  cond := fun s => s.slotService n
  run := fun s _ v =>
    let s1 := s.put (sk n sub) v.toNum
    (if sub = 1 then (s1.setSlot n (fun x => { x with cmd := 1 })).cond n 1 false else s1, stOK)

/-- A write of a bank parameter (R178). -/
def hBankPar (n b i : Nat) : Handler where
  consist := fun _ _ => true
  cond := fun s => decide ((s.slot n).bank ≠ b) || (decide (s.eff n ≠ slCLOSED) && (decide (i ≠ 1) || decide (s.eff n ≠ slTRIPPED)))
  run := fun s _ v => (s.put (bk n b i) v.toNum, stOK)

/-- A write of supervision or fault settings (R199). -/
def hSupSet (n sub : Nat) : Handler where
  consist := fun _ _ => true
  cond := fun s => s.slotService n
  run := fun s _ v => (s.put (sk n sub) v.toNum, stOK)

def execControl (upsets : List (Nat × Nat)) (s : State) : Host.Outcome State Fault Refusal := .next (controlPhase upsets s)
def execSlotCmdClose (who : Who) (n : Fin 96) (s : State) : Host.Outcome State Fault Refusal :=
  .next (s.request who (0x2500 + n.val) 0x1A (.num 1) (hSlotCmd n.val))
def execSlotCmdOpen (who : Who) (n : Fin 96) (s : State) : Host.Outcome State Fault Refusal :=
  .next (s.request who (0x2500 + n.val) 0x1A (.num 2) (hSlotCmd n.val))
def execSlotCmdHold (who : Who) (n : Fin 96) (s : State) : Host.Outcome State Fault Refusal :=
  .next (s.request who (0x2500 + n.val) 0x1A (.num 3) (hSlotCmd n.val))
def execBankSelect (who : Who) (n : Fin 96) (b : Nat) (s : State) : Host.Outcome State Fault Refusal :=
  .next (s.request who (0x2500 + n.val) 0x19 (.num b) (hBank n.val))
def execLaneSelftestDone (lane : Fin 4) (pass : Bool) (s : State) : Host.Outcome State Fault Refusal :=
  .next (laneTestDone lane.val pass s)

end Sys2Proof.Machine
end

