-- ==== Sys2Proof/Machine/Outputs.lean ====
section
/-! DEFINITION. The protected output channels (R202 to R241): sources and duty, PWM, conduction and inrush, trips and
restarts, sensing, groups, cells, permission and link loss. -/

namespace Sys2Proof.Machine

open Sys2Proof

def xk (c sub : Nat) : Nat := ob (0x2600 + c % 64) sub
def gk (g sub : Nat) : Nat := ob (0x2640 + g % 8) sub

def State.och (s : State) (c : Nat) : OutChan := Tbl.get OutChan.reset s.outs.chans c
def State.setOch (s : State) (c : Nat) (f : OutChan → OutChan) : State :=
  { s with outs := { s.outs with chans := Tbl.modify OutChan.reset s.outs.chans c f } }
def State.grp (s : State) (g : Nat) : GrpSt := Tbl.get GrpSt.reset s.outs.grps g
def State.setGrp (s : State) (g : Nat) (f : GrpSt → GrpSt) : State :=
  { s with outs := { s.outs with grps := Tbl.modify GrpSt.reset s.outs.grps g f } }

/-- The channels of a supply group (R203). -/
def grpChans (g : Nat) : List Nat := (List.range 8).map (fun p => 8 * g + p)

/-! ### PWM (R208 to R210) -/

/-- P of a frequency, in ticks (R208). -/
def pwmPeriod (f : Nat) : Nat := (Q.mk' 100000000 f).roundAway.toNat
/-- Minimum pulse in ticks and highest frequency of an edge rate (R210). -/
def minPulse (e : Nat) : Nat := [2500, 500, 200].getD e 200
def edgeMax (e : Nat) : Nat := [2000, 10000, 20000].getD e 20000

/-- N_on in ticks (R209). -/
def onTicks (p e d : Nat) : Nat :=
  if d = 0xFFFF then p
  else
    let n := (Q.mk' ((d * p : Nat) : Int) 65536).roundAway.toNat
    if n < minPulse e then 0 else if p < n + minPulse e then p else n

/-- The duty the die applies: the one loaded, or in link hold the link-loss action's (R234). -/
def State.dieDuty (s : State) (c : Nat) : Nat :=
  if (s.grp (c / 8)).hold then
    (if s.cfg (xk c 0x13) = 0 then 0 else if s.cfg (xk c 0x13) = 1 then (s.och c).duty else 0xFFFF)
  else (s.och c).duty

/-- Ticks of on-time in a period under a duty. -/
def State.onTime (s : State) (c d : Nat) : Nat := onTicks (pwmPeriod (s.cfg (xk c 2))) (s.cfg (xk c 0x0B)) d

/-- The command produces an on-time. -/
def State.hasOn (s : State) (c : Nat) : Bool := decide (s.onTime c (s.dieDuty c) ≠ 0)

/-! ### Conduction (R207, R216) -/

def State.windowOpen (s : State) (c : Nat) : Bool := decide ((s.och c).winAt ≠ 0)
/-- Another channel of the group has an open inrush window. -/
def State.otherWindow (s : State) (c : Nat) : Bool :=
  (grpChans (c / 8)).any (fun j => decide (j ≠ c) && s.windowOpen j)

/-- The trip cause's fault (R225, R215, R220, R221, R231): OUT_nn stands while the channel is tripped or carries a
finding. -/
def State.outFault (s : State) (c : Nat) : State :=
  let x := s.och c
  s.follow (srcOUT c)
    (decide (x.st = 2) || decide (x.st = 3) || (decide (x.st = 4) && x.wasWait) || x.refDev || x.openLoad || x.cellFault || x.supShort) 0

/-- The channel starts to conduct: an inrush window opens, and a retry or restart begins the recovery phase and ends
the trip (R207, R216, R223). -/
def State.startCh (s : State) (c : Nat) (again : Bool) : State :=
  let noWin := decide (s.cfg (xk c 6) = 0)
  let s1 := s.setOch c (fun x => { x with
    st := 1, cond := true, noOnAt := 0, winAt := if noWin then 0 else s.tm.mt + 1
    winEnd := if noWin then s.tm.mt + 1 else x.winEnd, goodAt := s.tm.mt + 1
    recov := x.recov || again, restart := false, lsOpen := x.lsOpen && !again, wasWait := false, retryAt := 0, retryLeft := 0 })
  (if again then s1.put (xk c 0x1F) 0 else s1).outFault c

/-- What the present command and permission make of a channel that is OFF or ON (R207, R225, R227). -/
def State.kick (s : State) (c : Nat) : State :=
  let x := s.och c
  let on := s.hasOn c && x.perm
  if x.st = 0 then
    if on && !x.latch && !x.lsOpen && !x.supShort && !(x.restart && s.otherWindow c) then s.startCh c x.restart else s
  else if x.st = 1 then
    s.setOch c (fun y => { y with noOnAt := if on then 0 else if y.noOnAt = 0 then s.tm.mt + 1 else y.noOnAt })
  else s

/-- CONDUCTION_END: no on-time for 100 ms (R207). -/
def conductionEnd (c : Nat) (s : State) : State :=
  let x := s.och c
  if x.st = 1 && x.noOnAt ≠ 0 && x.noOnAt + 100 * nsMs ≤ s.tm.mt + 1 then
    s.setOch c (fun y => { y with st := 0, cond := false, noOnAt := 0, goodAt := 0
                                  winEnd := if y.winAt ≠ 0 then s.tm.mt + 1 else y.winEnd, winAt := 0, limiting := false })
  else s

/-- INRUSH_WINDOW_CLOSE: the end of the inrush time (R216). -/
def inrushWindowClose (c : Nat) (s : State) : State :=
  let x := s.och c
  if x.winAt ≠ 0 && x.winAt + s.cfg (xk c 6) * nsMs ≤ s.tm.mt + 1 then
    s.setOch c (fun y => { y with winAt := 0, winEnd := s.tm.mt + 1 })
  else s

/-! ### Trips (R217 to R226) -/

/-- The channel trips with a cause: off, counted, WAIT with the retry timer or LATCHED (R225, R226). A thermal cause
sets THERMAL_LATCH, which pauses the timer; LS_OVERCURRENT keeps the low side open. -/
def State.tripCh (s : State) (c cause : Nat) : State :=
  let toLatch := decide (s.get (xk c 0x20) = 0) || decide (s.cfg (xk c 8) = 0) || decide (cause = 7) || decide (cause = 8)
  let thermal := decide (cause = 4) || decide (cause = 5)
  let delay := s.cfg (xk c 9) * nsMs
  let s1 := s.setOch c (fun x => { x with
    st := if toLatch then 3 else 2, cond := false, noOnAt := 0, goodAt := 0, limiting := false, restart := false
    winEnd := if x.winAt ≠ 0 then s.tm.mt + 1 else x.winEnd, winAt := 0
    latch := x.latch || thermal, lsOpen := x.lsOpen || decide (cause = 6)
    retryAt := if toLatch || x.latch || thermal then 0 else s.tm.mt + delay + 1
    retryLeft := if toLatch then 0 else if x.latch || thermal then delay + 1 else 0 })
  ((s1.put (xk c 0x1F) cause).inc32 (xk c 0x21)).outFault c

/-- OVERCURRENT_TRIP: limiting outside the window for the limiting time (R217). -/
def overcurrentTrip (c : Nat) (s : State) : State :=
  if (s.och c).st = 1 && !(s.windowOpen c) then s.tripCh c 3 else s

/-- SHORT_TRIP (R218): by current, or by collapse of OUTnn_H. -/
def shortTrip (c : Nat) (collapse : Bool) (s : State) : State :=
  if (s.och c).st = 1 then s.tripCh c (if collapse then 2 else 1) else s

/-- LS_OVERCURRENT_TRIP (R219): from ON or OFF. -/
def lsOvercurrentTrip (c : Nat) (s : State) : State := if (s.och c).st ≤ 1 then s.tripCh c 6 else s

/-- THERMAL_ABS_TRIP (R222). -/
def thermalAbsTrip (c : Nat) (s : State) : State := if (s.och c).st = 1 then s.tripCh c 4 else s

/-- The phases in which the difference limit applies (R223). -/
def State.deltaPhase (s : State) (c : Nat) : Bool :=
  let x := s.och c
  decide (x.winAt ≠ 0) || (decide (x.winEnd ≠ 0) && decide (s.tm.mt + 1 ≤ x.winEnd + 500 * nsMs)) || x.recov ||
    decide (x.darkEnd ≠ 0 ∧ s.tm.mt + 1 ≤ x.darkEnd)

/-- THERMAL_DELTA_TRIP (R223). -/
def thermalDeltaTrip (c : Nat) (s : State) : State :=
  if (s.och c).st = 1 && s.deltaPhase c then s.tripCh c 5 else s

/-- Every junction at or below 150 °C and every difference at least 20 K below its limit, by the housekeeping values
(R224). -/
def State.cooled (s : State) (c : Nat) : Bool :=
  let ref := s.getI16 (gk (c / 8) 6)
  let lim : Int := ((s.cfg (xk c 0x10) : Int) - 20) * 10
  [0x22, 0x23].all (fun k => decide (s.getI16 (xk c k) ≤ 1500) && decide (s.getI16 (xk c k) - ref ≤ lim))

/-- THERMAL_LATCH_CLEAR: the paused retry timer runs on (R224, R226). -/
def thermalLatchClear (c : Nat) (s : State) : State :=
  if (s.och c).latch && s.cooled c then
    (s.setOch c (fun x => { x with latch := false, retryLeft := 0
                                   retryAt := if x.retryLeft ≠ 0 then s.tm.mt + x.retryLeft else x.retryAt })).kick c
  else s

/-- The retry timer of a tripped channel has expired and its thermal latch is clear. -/
def State.retryDue (s : State) (c : Nat) : Bool :=
  let x := s.och c
  decide (x.st = 2) && !x.latch && decide (x.retryAt ≠ 0) && decide (x.retryAt ≤ s.tm.mt + 1)

/-- A retry may take place now, but for the order among the channels of the group (R226). -/
def State.retryOpen (s : State) (c : Nat) : Bool :=
  s.retryDue c && (s.och c).perm && !(s.otherWindow c) && (s.hasOn c || decide (s.get (xk c 0x1F) = 6))

/-- A restart waits for nothing but its group (R227). -/
def State.restartOpen (s : State) (c : Nat) : Bool :=
  let x := s.och c
  decide (x.st = 0) && x.restart && !x.latch && x.perm && !(s.otherWindow c) && s.hasOn c

/-- RETRY (R226, R227): the lowest channel of a group goes first. A due retry without on-time ends in OFF; one of
LS_OVERCURRENT is a retry all the same. -/
def retryCh (c : Nat) (s : State) : State :=
  let first := (grpChans (c / 8)).all (fun j => !(decide (j < c)) || !(s.retryOpen j || s.restartOpen j))
  let n := s.get (xk c 0x20)
  let dec := if s.cfg (xk c 8) = 255 then n else n - 1
  if s.retryOpen c && first then
    let s1 := s.put (xk c 0x20) dec
    if s.hasOn c then s1.startCh c true
    else ((s1.setOch c (fun x => { x with st := 0, lsOpen := false, retryAt := 0, recov := true })).put (xk c 0x1F) 0).outFault c
  else if s.restartOpen c && first then s.startCh c true
  else if s.retryDue c && !(s.hasOn c) && s.get (xk c 0x1F) ≠ 6 then
    ((s.setOch c (fun x => { x with st := 0, retryAt := 0 })).put (xk c 0x1F) 0).outFault c
  else s

/-- RETRY_COUNTER_RELOAD: 10 s of conduction without a trip (R226). -/
def retryCounterReload (c : Nat) (s : State) : State :=
  let x := s.och c
  if x.st = 1 && x.goodAt ≠ 0 && x.goodAt + 10 * nsS ≤ s.tm.mt + 1 then
    (s.put (xk c 0x20) (s.cfg (xk c 8))).setOch c (fun y => { y with recov := false, goodAt := 0 })
  else s

/-- A write of 1 to 0x26nn.18 (R227). -/
def hOutRestart (c : Nat) : Handler := Handler.simple fun s _ _ =>
  let x := s.och c
  if x.latch then (s, stBUSY)
  else if x.st = 2 || x.st = 3 || (x.st = 4 && x.wasWait) then
    let s1 := s.setOch c (fun y => { y with
      st := if y.st = 4 then 4 else 0, wasWait := false, restart := true, lsOpen := false, retryAt := 0, retryLeft := 0 })
    (((((s1.put (xk c 0x20) (s.cfg (xk c 8))).put (xk c 0x1F) 0).outFault c).kick c), stOK)
  else (s, stOK)

/-! ### Sources and loads (R205, R206, R170) -/

/-- The duty of a direct entry (R22, R205); the module gives MODE 3 and above no meaning. -/
def State.directDuty (s : State) (c : Nat) : Nat :=
  let m := Tbl.get 0 s.img.taken (0x340 + 8 * c)
  if m = 0 then 0 else if m = 1 then 0xFFFF
  else if m = 2 then Tbl.get 0 s.img.taken (0x342 + 8 * c) else s.freeVal % 65536

/-- The source in force with its slot, duty and current reference (R205, R206): 0 none, 1 slot, 2 direct, 3 service. -/
def State.outSource (s : State) (c : Nat) : Nat × Nat × Nat × Option Int :=
  let ov := s.cfg (xk c 0x16)
  if s.cfg (xk c 1) = 0 || !(evalState s.dev) then (0, 0xFF, 0, none)
  else if s.dev = dsSERVICE && ov ≠ 0 then
    (3, 0xFF, if ov = 1 then 0 else if ov = 2 then 0xFFFF else s.cfg (xk c 0x17), none)
  else match s.driver c with
    | some n => let l := Tbl.get (0, 0, none) s.lark.loads c; (1, n, l.2.1, l.2.2)
    | none =>
      if s.dev = dsSAFE_HOLD then (2, 0xFF, if s.cfg (xk c 0x14) = 1 then (s.och c).lastDirect else 0, none)
      else (2, 0xFF, s.directDuty c, none)

/-- Bytes of the taken view from an offset. -/
def State.setTaken (s : State) (off : Nat) (bs : List Byte) : State :=
  { s with img := { s.img with
      taken := (List.range bs.length).foldl (fun m i => Tbl.set 0 m (off + i) (bs.getD i 0).toNat) s.img.taken } }

/-- Larkspur gives each driven channel its value and writes its CAN entries (R170, R181). -/
def State.larkLoads (s : State) : State :=
  if s.inReset blkLARK || !(evalState s.dev) then s
  else
    let on := (List.range 96).filter s.slotOn
    let s1 := on.foldl (fun t n => (t.slotLoad n).foldl (fun u p =>
      u.setLark (fun l => { l with loads := Tbl.set (0, 0, none) l.loads p.1 (n, p.2.1, p.2.2) })) t) s
    on.foldl (fun t n => match t.slotCan n with
      | some (off, bs) => t.setTaken (0x1000 + off) bs
      | none => t) s1

/-- The high side is commanded off by the processor path (R257). -/
def State.hsBlocked (s : State) (c : Nat) : Bool := !(bit (s.get (ob 0x2700 0x0B)) c) || bit s.fox.rep.inhibit c

/-- One channel's load. -/
def State.loadCh (s : State) (c : Nat) : State :=
  match s.outSource c with
  | (src, slot, duty, iref) =>
    let free := decide (src = 2) && decide (s.dev ≠ dsSAFE_HOLD) && decide (3 ≤ Tbl.get 0 s.img.taken (0x340 + 8 * c))
    let d := if s.hsBlocked c then 0 else duty
    let s1 := s.setOch c (fun x => { x with
      duty := d, iref := iref
      lastDirect := if src = 2 && s.dev ≠ dsSAFE_HOLD then duty else x.lastDirect })
    let s2 := (((s1.put (xk c 0x1D) src).put (xk c 0x1E) slot).putI32 (xk c 0x24) (iref.getD 0)).kick c
    if free then s2.useFree else s2

/-- LOAD (R170, R205 to R209, R257): `bad` names the groups whose transfer failed its check. -/
def loadPhase (bad : Nat) (s : State) : State :=
  let s1 := s.larkLoads
  if s.inReset blkOTU || s.pwr.chip || s.pwr.saving.isSome then s1
  else
    let ok := (List.range 8).filter (fun g => !(bit bad g))
    ok.foldl (fun t g => (grpChans g).foldl State.loadCh (t.setGrp g (fun x => { x with loaded := true }))) s1

/-- The last period start at or before a tick count since power-up; none before the first (R208). -/
def lastStart (p ph t : Nat) : Option Nat := if t < ph || p = 0 then none else some (t - (t - ph) % p)

/-- The duty applied in the frame that closes (R237). -/
def State.sealDuty (s : State) (c : Nat) : State :=
  let x := s.och c
  let t0 := s.outs.frames * 5000
  let p := pwmPeriod (s.cfg (xk c 2))
  if !x.perm || x.st ≠ 1 then s.put (xk c 0x1C) 0
  else match lastStart p (s.cfg (xk c 3)) (t0 + 4999) with
    | some t =>
      if t < t0 then s
      else
        let d := if (s.grp (c / 8)).hold then s.dieDuty c else if t0 + 4000 ≤ t then x.duty else x.prevDuty
        s.put (xk c 0x1C) (clampN 0xFFFF (Q.mk' ((s.onTime c d * 65536 : Nat) : Int) p).roundAway.toNat)
    | none => s

/-- What tick 0 does to the outputs: the duty of the closing frame, and the dies' count of missing loads. -/
def State.sealOutputs (s : State) : State :=
  let s1 := (List.range 64).foldl (fun t c => (t.sealDuty c).setOch c (fun x => { x with prevDuty := x.duty })) s
  let s2 := (List.range 8).foldl (fun t g => t.setGrp g (fun x =>
    { x with noLoad := if x.loaded then 0 else x.noLoad + 1, loaded := false })) s1
  { s2 with outs := { s2.outs with frames := s2.outs.frames + 1 } }

/-! ### Sensing (R212 to R215, R220) -/

/-- One conversion in µA: full scale over 8,192 steps (R213). -/
def senseUa (h : Bool) (cv : SenseConv) : Q :=
  let fs : Int := if cv.fine then (if h then 2 else 1) else if h then 128 else 32
  Q.mk' (cv.code * fs * 1000000) 8192

/-- A group counts 20 frames to the millisecond. -/
def framesPast (n ms : Nat) : Bool := decide (20 * ms ≤ n)

/-- The mean of a channel's conversions in µA, or the last one where the frame has none (R213). -/
def State.senseMean (s : State) (c : Nat) (d : SenseCh) : Q :=
  let xs := d.convs.map (senseUa (outClassH c))
  if xs = [] then Q.ofInt (s.getI32 (xk c 0x2A)) else Q.div (Q.sum xs) (Q.ofNat xs.length)

/-- The filter's y after the frame (R213). -/
def State.senseFilt (s : State) (c : Nat) (d : SenseCh) : Int :=
  let fc := s.cfg (xk c 0x15)
  let raw := (Q.mul (Q.div (s.senseMean c d) (Q.ofNat 1000)) (Q.ofNat 65536)).roundAway
  match (s.och c).filt with | some y0 => if fc = 0 then raw else filterStep fc y0 raw | none => raw

/-- What the frame's results make of the channel's open-load and reference-deviation counts (R216, R220). -/
def State.senseOch (s : State) (c : Nat) (d : SenseCh) (y cur : Int) : OutChan :=
  let x := s.och c
  let ons := (d.convs.filter (fun k => k.on)).map (senseUa (outClassH c))
  let counted := decide (ons ≠ []) && decide (x.winAt = 0) && decide (x.darkEnd = 0 ∨ x.darkEnd + 50000 ≤ s.tm.mt + 1)
  let th := s.cfg (xk c 0x0D)
  let om := Q.div (Q.sum ons) (Q.ofNat ons.length)
  let low := Q.lt om (Q.ofNat (100 * th))
  let high := Q.le (Q.ofNat (120 * th)) om
  let lim := s.cfg (xk c 0x11)
  let dev := match x.iref with | some r => decide (lim < (cur - r).natAbs) | none => false
  { x with
    cur := some cur, filt := some y, missing := false
    lowN := if th = 0 then 0 else if !counted then x.lowN else if low then x.lowN + 1 else 0
    highN := if th = 0 then 0 else if !counted then x.highN else if high then x.highN + 1 else 0
    devN := if x.iref.isNone then x.devN else if dev then x.devN + 1 else 0
    okN := if x.iref.isNone then x.okN else if dev then 0 else x.okN + 1
    limiting := d.limiting }

/-- A channel's part of its group's sense result. -/
def State.senseChan (s : State) (c : Nat) (d : SenseCh) : State :=
  let y := s.senseFilt c d
  let cur := i32sat (Q.mk' y 65536).roundAway
  let s1 := s.setOch c (fun _ => s.senseOch c d y cur)
  let s2 := (s1.putI32 (xk c 0x1B) cur).putI32 (xk c 0x2A) (s.senseMean c d).roundAway
  let s3 := (s2.putI16 (xk c 0x22) d.hsT).putI16 (xk c 0x23) d.lsT
  let s4 := match d.hsR with | some r => s3.put (xk c 0x25) (clampN 65535 r) | none => s3
  match d.lsR with | some r => s4.put (xk c 0x26) (clampN 65535 r) | none => s4

/-- Sum of the CURRENT values of a group, in mA. -/
def State.grpSum (s : State) (g : Nat) : Nat := ((grpChans g).map (fun c => (s.getI32 (xk c 0x1B)).toNat)).sum

/-- SENSE_x follows three missing frames or a failed self-check until 20 frames with results (R214). -/
def State.senseGood (s : State) (g : Nat) (bad : Bool) : State :=
  ((s.setGrp g (fun x => { x with senseBad := bad })).putBit (gk g 3) 3 bad).follow (srcSENSE g) bad 0

/-- A group's sense result (R212). -/
def State.senseGrp (s : State) (b : SenseBlk) : State :=
  if 8 ≤ b.g then s
  else
    let s1 := (List.range 8).foldl (fun t p => match b.chans[p]? with | some d => t.senseChan (8 * b.g + p) d | none => t) s
    let s2 := ((s1.put (gk b.g 1) (clampN 65535 b.vb)).putI16 (gk b.g 6) b.tref).putBit (gk b.g 3) 2
      (bit (s1.get (gk b.g 3)) 0 && decide (b.vb < 6000))
    let sum := s2.grpSum b.g
    let n := (s2.grp b.g).okRun + 1
    let s3 := (s2.put (gk b.g 2) sum).setGrp b.g (fun x =>
      { x with got := true, missRun := 0, okRun := n, sum := x.sum + sum, n := x.n + 1 })
    if 20 ≤ n && (s3.grp b.g).senseBad then s3.senseGood b.g false else s3

/-- The sense results of the frame, published with the Scale phase (R212, R213). -/
def scaleSense (l : List SenseBlk) (s : State) : State :=
  let s0 := (List.range 8).foldl (fun t g => t.setGrp g (fun x => { x with got := false })) s
  let s1 := (List.range 64).foldl (fun t c => t.setOch c (fun x => { x with cur := none })) s0
  let s2 := if s.inReset blkOTU then s1 else l.foldl State.senseGrp s1
  s2.put (ob 0x2648 5) ((List.range 8).map (fun g => s2.get (gk g 2))).sum

/-- SENSE_MISSING (R214): no result by tick 500, or a failed self-check of the converter. -/
def senseMissing (g : Nat) (selfFail : Bool) (s : State) : State :=
  if (s.grp g).got && !selfFail then s
  else
    let n := (s.grp g).missRun + 1
    let s1 := (grpChans g).foldl (fun t c => t.setOch c (fun x => { x with cur := none, missing := true })) s
    let s2 := (s1.inc32 (gk g 5)).setGrp g (fun x => { x with missRun := n, okRun := 0, got := false })
    if 3 ≤ n || selfFail then s2.senseGood g true else s2

/-- OPEN_LOAD_ON (R220). -/
def openLoadOn (c : Nat) (s : State) : State :=
  let x := s.och c
  if s.cfg (xk c 0x0D) ≠ 0 && !x.openLoad && framesPast x.lowN (s.cfg (xk c 0x0E)) then
    ((s.setOch c (fun y => { y with openLoad := true })).inc32 (xk c 0x28)).outFault c
  else s

/-- OPEN_LOAD_CLEAR (R220). -/
def openLoadClear (c : Nat) (s : State) : State :=
  let x := s.och c
  if x.openLoad && s.cfg (xk c 0x0D) ≠ 0 && framesPast x.highN (s.cfg (xk c 0x0E)) then
    (s.setOch c (fun y => { y with openLoad := false })).outFault c
  else s

/-- OFF_STATE_TEST: a level at OUTnn_H that has held for 100 ms, in mV (R221). -/
def offStateTest (c level : Nat) (s : State) : State :=
  let x := s.och c
  if s.cfg (xk c 0x0F) = 1 && x.st = 0 && x.perm then
    let sh := if 6000 < level then true else false
    let ol := if level < 1000 then false else if within 3000 5500 level then true else x.openLoad && !sh
    let cause := if sh then 9 else if s.get (xk c 0x1F) = 9 then 0 else s.get (xk c 0x1F)
    ((((s.setOch c (fun y => { y with supShort := sh, openLoad := ol })).put (xk c 0x1F) cause).outFault c).kick c)
  else s

/-- REF_DEVIATION and REF_DEV_CLEAR (R215). -/
def refDeviation (c : Nat) (s : State) : State :=
  let x := s.och c
  if !x.refDev && x.iref.isSome && framesPast x.devN (s.cfg (xk c 0x12)) then
    (s.setOch c (fun y => { y with refDev := true })).outFault c
  else s
def refDevClear (c : Nat) (s : State) : State :=
  let x := s.och c
  if x.refDev && framesPast x.okN (s.cfg (xk c 0x12)) then (s.setOch c (fun y => { y with refDev := false })).outFault c else s

/-! ### Groups (R228, R229, R475) -/

/-- GRP_x follows the guard and OVERLOAD. -/
def State.grpFault (s : State) (g : Nat) : State :=
  let x := s.grp g
  ((s.putBit (gk g 3) 1 x.guard).putBit (gk g 3) 5 x.overload).follow (srcGRP g) (x.guard || x.overload) 0

/-- Every channel of the group enters GROUP_OFF; a latched one stays LATCHED (R228, R475). -/
def State.grpOff (s : State) (g : Nat) : State :=
  (grpChans g).foldl (fun t c => t.setOch c (fun x =>
    if x.st = 3 then x
    else { x with
      st := 4, wasWait := x.wasWait || decide (x.st = 2), cond := false, noOnAt := 0, goodAt := 0, limiting := false
      winEnd := if x.winAt ≠ 0 then t.tm.mt + 1 else x.winEnd, winAt := 0 }))
    (s.setGrp g (fun x => { x with off := true, queue := [], restartAt := 0 }))

/-- GROUP_GUARD_OFF: VB below 6 V for more than 1 ms (R228). -/
def groupGuardOff (g : Nat) (s : State) : State :=
  if (s.grp g).guard || !(s.getBool (ob 0x1010 5)) then s
  else (((s.grpOff g).setGrp g (fun x => { x with guard := true })).inc32 (gk g 4)).grpFault g

/-- The next channel of the queue leaves GROUP_OFF and starts. -/
def State.grpNext (s : State) (g : Nat) : State :=
  match (s.grp g).queue with
  | [] => s
  | c :: rest =>
    ((s.setGrp g (fun x => { x with queue := rest, restartAt := s.tm.mt + 1 })).setOch c (fun x =>
      if x.st = 4 then { x with st := 0 } else x)).kick c

/-- GROUP_RESTORE (R228): the first call, after VB at or above 7 V for 10 ms or PRESENT, ends the off; each call
restarts one channel, at least 1 ms after the one before. -/
def groupRestore (g : Nat) (s : State) : State :=
  let x := s.grp g
  if x.off then
    if s.getBool (ob 0x1010 5) then
      let q := (grpChans g).filter (fun c => decide ((s.och c).st = 4) && !((s.och c).wasWait) && s.hasOn c)
      let s1 := (grpChans g).foldl (fun t c => t.setOch c (fun y =>
        if y.st = 4 && !(q.contains c) then { y with st := if y.wasWait then 2 else 0, wasWait := false } else y)) s
      (((s1.setGrp g (fun y => { y with off := false, guard := false, queue := q })).grpFault g).grpNext g)
    else s
  else if x.restartAt + nsMs ≤ s.tm.mt + 1 then s.grpNext g
  else s

/-- The energy per second of the PWM edges of a channel, in mW: two edges a period of ½ × VB² × I / slope each. -/
def State.edgePower (s : State) (c : Nat) : Q :=
  let p := pwmPeriod (s.cfg (xk c 2))
  let n := s.onTime c (s.dieDuty c)
  if n = 0 || n = p then Q.zero
  else
    let slope := [2, 10, 30].getD (s.cfg (xk c 0x0B)) 30
    let vb := s.get (gk (c / 8) 1)
    Q.mk' ((s.cfg (xk c 2) * vb * vb * (s.getI32 (xk c 0x1B)).toNat : Nat) : Int) (slope * 1000000000000)

/-- The conduction loss of a channel in mW: CURRENT² times both measured on-resistances. -/
def State.condPower (s : State) (c : Nat) : Q :=
  let i := (s.getI32 (xk c 0x1B)).natAbs
  Q.mk' ((i * i * (s.get (xk c 0x25) + s.get (xk c 0x26)) : Nat) : Int) 1000000000

/-- The budget in mW at a baseplate temperature in 0.1 °C (R229). -/
def budgetOf (t : Int) : Nat := (clampI 15000 45000 (45000 - 75 * (t - 850))).toNat

/-- A group's mean of the last 100 ms, and OVERLOAD over 1 s (R229). -/
def State.grpMean (s : State) (g : Nat) : State :=
  let x := s.grp g
  let m := if x.n = 0 then 0 else x.sum / x.n
  let ms := (m :: x.means).take 10
  let above := decide (ms.length = 10) && decide (300000 < ms.sum)
  (s.setGrp g (fun y => { y with sum := 0, n := 0, means := ms, overload := above })).grpFault g

/-- DISSIPATION_ESTIMATE (R229): `base` is the baseplate temperature, `clamp` the mean clamp power in mW. -/
def dissipationEstimate (base : Int) (clamp : Nat) (s : State) : State :=
  let on := (List.range 64).filter (fun c => (s.och c).cond)
  let p := (Q.sum (on.map (fun c => Q.add (s.condPower c) (s.edgePower c)))).roundAway.toNat + clamp
  let b := budgetOf base
  let above := decide (b < p)
  let at_ := if !above then 0 else if s.outs.overAt = 0 then s.tm.mt + 1 else s.outs.overAt
  let rise := above && decide (at_ + nsS ≤ s.tm.mt + 1)
  let s1 := ((s.put (ob 0x2648 1) (clampN 0xFFFFFFFF p)).put (ob 0x2648 2) b).putI16 (ob 0x2648 3) base
  let s2 := { s1 with outs := { s1.outs with overAt := at_ } }
  let s3 := if rise && !(s.raw srcOUT_BUDGET) then s2.inc32 (ob 0x2648 4) else s2
  (List.range 8).foldl State.grpMean (s3.follow srcOUT_BUDGET (rise || (above && s.raw srcOUT_BUDGET)) 0)

/-! ### Cells (R230, R231) -/

/-- The active cell of a switch in pool 3: `side` 0 high, 1 low. -/
def State.activeCell (s : State) (c side : Nat) : Nat := 4 * c + 2 * side + bits (s.get (xk c 0x27)) side 1

/-- CELL_SWAP (R230): `failed` says that the active cell has failed open, which asks for the swap itself. -/
def cellSwap (c side : Nat) (failed : Bool) (verify : List Bool) (dur : Nat) (s : State) : State :=
  let e := s.activeCell c side
  let s0 := if failed && (s.readySpares 3 e) ≠ [] then s.askSwap 3 e (srcOUT c) false else s
  match s0.doRequested 3 e verify dur with
  | (s1, some x) => s1.put (xk c 0x27) (setBit (setBits (s1.get (xk c 0x27)) side 1 (x % 2)) (2 + side) false)
  | (s1, none) => s1.putBit (xk c 0x27) (2 + side) ((s1.readySpares 3 e) ≠ [])

/-- CELL_FAULT_TRIP (R231): a cell failed open without a spare, or a shorted high-side cell. -/
def cellFaultTrip (c side : Nat) (short : Bool) (s : State) : State :=
  let x := s.och c
  if short then
    let s1 := (s.putBit (xk c 0x27) 4 true).putBit (ob 0x2700 0x1E) c true
    if x.st ≤ 1 then s1.tripCh c 8 else s1
  else if x.st = 1 && s.readySpares 3 (s.activeCell c side) = [] then
    let s1 := (s.swap 3 (s.activeCell c side) (srcOUT c) s.tm.mt [] 0).1
    (s1.setOch c (fun y => { y with cellFault := true })).tripCh c 7
  else s

/-! ### Permission and link (R232, R234) -/

/-- PERMISSION_WITHDRAW: the line has fallen; both switches open (R232). -/
def permissionWithdraw (c : Nat) (s : State) : State :=
  if (s.och c).perm && !(bit s.fox.lines c) then (s.setOch c (fun x => { x with perm := false })).kick c else s

/-- PERMISSION_RETURN (R232). -/
def permissionReturn (c : Nat) (s : State) : State :=
  if !((s.och c).perm) && bit s.fox.lines c then (s.setOch c (fun x => { x with perm := true })).kick c else s

/-- SWITCH_LINK_LOSS: three frames without a Load transfer (R234). -/
def switchLinkLoss (g : Nat) (s : State) : State :=
  if 3 ≤ (s.grp g).noLoad && !((s.grp g).hold) then
    let s1 := ((s.setGrp g (fun x => { x with hold := true })).inc32 (gk g 7)).putBit (gk g 3) 4 true
    (grpChans g).foldl State.kick (s1.follow (srcSWLINK g) true 0)
  else s

/-- SWITCH_LINK_RESTORE: a valid transfer has come (R234). -/
def switchLinkRestore (g : Nat) (s : State) : State :=
  if (s.grp g).hold && (s.grp g).loaded then
    let s1 := (s.setGrp g (fun x => { x with hold := false })).putBit (gk g 3) 4 false
    (grpChans g).foldl State.kick (s1.follow (srcSWLINK g) false 0)
  else s

/-- At a save or the loss of VL every channel is commanded off (R235, R458). -/
def State.outputsOff (s : State) : State :=
  (List.range 64).foldl (fun t c => (t.setOch c (fun x => { x with duty := 0 })).kick c) s

/-! ### Views (R225, R237) -/

/-- Channel state 0x26nn.19: a link hold stands over the others. -/
def State.outState (s : State) (c : Nat) : Nat := if (s.grp (c / 8)).hold then 5 else (s.och c).st

/-- STATUS (R237). -/
def State.outStatus (s : State) (c : Nat) : Nat :=
  let x := s.och c
  let cause := s.get (xk c 0x1F)
  let deferred := (s.retryDue c && x.perm && (s.hasOn c || decide (cause = 6)) && s.otherWindow c) ||
    (decide (x.st = 0) && x.restart && s.hasOn c && x.perm && s.otherWindow c)
  ofBool (s.hasOn c) + 2 * ofBool x.cond + 4 * ofBool (!x.perm) + 8 * ofBool (decide (x.winAt ≠ 0)) + 16 * ofBool x.limiting +
    32 * ofBool (decide (cause = 1) || decide (cause = 2) || decide (cause = 6) || decide (cause = 9)) + 64 * ofBool x.openLoad +
    128 * ofBool deferred + 256 * ofBool (decide (x.st = 2)) + 512 * ofBool x.latch + 1024 * ofBool (decide (x.st = 3)) +
    2048 * ofBool x.refDev + 4096 * ofBool x.missing + 8192 * ofBool (decide (x.st = 4)) +
    16384 * ofBool (bit (s.get (xk c 0x27)) 0 || bit (s.get (xk c 0x27)) 1) + 32768 * ofBool x.cellFault

/-- Cell status 0x26nn.27 with the pending swaps. -/
def State.cellStatus (s : State) (c : Nat) : Nat :=
  s.get (xk c 0x27) + 64 * ofBool (s.reqOf 3 (s.activeCell c 0)).isSome + 128 * ofBool (s.reqOf 3 (s.activeCell c 1)).isSome

/-- Open inrush windows 0x264g.08. -/
def State.grpWindows (s : State) (g : Nat) : Nat :=
  (List.range 8).foldl (fun a p => a + 2 ^ p * ofBool (s.windowOpen (8 * g + p))) 0

/-- Actual PWM frequency 0x26nn.29. -/
def State.actualFreq (s : State) (c : Nat) : F32 := F32.ofQ (Q.mk' 100000000 (pwmPeriod (s.cfg (xk c 2))))

/-! ### Settings (R202, R208, R210, R238, R239) -/

/-- The rules among a channel's settings with a write in place. -/
def outRules (c : Nat) (g : Nat → Nat) : Bool :=
  let h := outClassH c
  decide (g 3 < pwmPeriod (g 2)) && decide (g 2 ≤ edgeMax (g 0x0B)) && decide (g 4 ≤ g 5) &&
    (if h then within 500 15000 (g 4) && decide (g 5 ≤ 60000) && decide (g 6 ≤ 20)
     else within 100 5000 (g 4) && decide (g 5 ≤ 16000) && decide (g 6 ≤ 10))

/-- A write of 0x26nn.01 to 0x26nn.15; a new retry limit moves a counter that no trip has used. -/
def hOutCfg (c sub : Nat) : Handler where
  consist := fun s v => outRules c (fun k => if k = sub then v.toNum else s.get (xk c k))
  cond := fun s => decide (s.dev ≠ dsSERVICE) || decide ((s.och c).st = 0)
  run := fun s _ v =>
    let s1 := if sub = 8 && s.get (xk c 0x20) = s.get (xk c 8) then s.put (xk c 0x20) v.toNum else s
    (s1.put (xk c sub) v.toNum, stOK)

/-- Leaving SERVICE releases every service override (R238). -/
def State.releaseOverrides (s : State) : State := (List.range 64).foldl (fun t c => t.put (xk c 0x16) 0) s

def execScale (blk : List ChBlock) (mon : List SupMon) (sense : List SenseBlk) (s : State) : Host.Outcome State Fault Refusal :=
  .next (scaleSense sense (scaleBlock blk mon s))
def execLoad (bad : Nat) (s : State) : Host.Outcome State Fault Refusal := .next (loadPhase bad s)
def execConductionEnd (ch : Fin 64) (s : State) : Host.Outcome State Fault Refusal := .next (conductionEnd ch.val s)
def execInrushWindowClose (ch : Fin 64) (s : State) : Host.Outcome State Fault Refusal := .next (inrushWindowClose ch.val s)
def execOvercurrentTrip (ch : Fin 64) (s : State) : Host.Outcome State Fault Refusal := .next (overcurrentTrip ch.val s)
def execShortTrip (ch : Fin 64) (collapse : Bool) (s : State) : Host.Outcome State Fault Refusal :=
  .next (shortTrip ch.val collapse s)
def execLsOvercurrentTrip (ch : Fin 64) (s : State) : Host.Outcome State Fault Refusal := .next (lsOvercurrentTrip ch.val s)
def execOpenLoadOn (ch : Fin 64) (s : State) : Host.Outcome State Fault Refusal := .next (openLoadOn ch.val s)
def execOpenLoadClear (ch : Fin 64) (s : State) : Host.Outcome State Fault Refusal := .next (openLoadClear ch.val s)
def execOffStateTest (ch : Fin 64) (level : Nat) (s : State) : Host.Outcome State Fault Refusal :=
  .next (offStateTest ch.val level s)
def execThermalAbsTrip (ch : Fin 64) (s : State) : Host.Outcome State Fault Refusal := .next (thermalAbsTrip ch.val s)
def execThermalDeltaTrip (ch : Fin 64) (s : State) : Host.Outcome State Fault Refusal := .next (thermalDeltaTrip ch.val s)
def execThermalLatchClear (ch : Fin 64) (s : State) : Host.Outcome State Fault Refusal := .next (thermalLatchClear ch.val s)
def execSenseMissing (g : Fin 8) (selfFail : Bool) (s : State) : Host.Outcome State Fault Refusal :=
  .next (senseMissing g.val selfFail s)
def execRefDeviation (ch : Fin 64) (s : State) : Host.Outcome State Fault Refusal := .next (refDeviation ch.val s)
def execRefDevClear (ch : Fin 64) (s : State) : Host.Outcome State Fault Refusal := .next (refDevClear ch.val s)
def execRetry (ch : Fin 64) (s : State) : Host.Outcome State Fault Refusal := .next (retryCh ch.val s)
def execRetryCounterReload (ch : Fin 64) (s : State) : Host.Outcome State Fault Refusal := .next (retryCounterReload ch.val s)
def execChannelRestart (who : Who) (ch : Fin 64) (s : State) : Host.Outcome State Fault Refusal :=
  .next (s.request who (0x2600 + ch.val) 0x18 (.num 1) (hOutRestart ch.val))
def execGroupGuardOff (g : Fin 8) (s : State) : Host.Outcome State Fault Refusal := .next (groupGuardOff g.val s)
def execGroupRestore (g : Fin 8) (s : State) : Host.Outcome State Fault Refusal := .next (groupRestore g.val s)
def execDissipationEstimate (base : Int) (clamp : Nat) (s : State) : Host.Outcome State Fault Refusal :=
  .next (dissipationEstimate base clamp s)
def execCellSwap (ch : Fin 64) (side : Fin 2) (failed : Bool) (verify : List Bool) (dur : Nat) (s : State) :
    Host.Outcome State Fault Refusal := .next (cellSwap ch.val side.val failed verify dur s)
def execCellFaultTrip (ch : Fin 64) (side : Fin 2) (short : Bool) (s : State) : Host.Outcome State Fault Refusal :=
  .next (cellFaultTrip ch.val side.val short s)
def execPermissionWithdraw (ch : Fin 64) (s : State) : Host.Outcome State Fault Refusal := .next (permissionWithdraw ch.val s)
def execPermissionReturn (ch : Fin 64) (s : State) : Host.Outcome State Fault Refusal := .next (permissionReturn ch.val s)
def execSwitchLinkLoss (g : Fin 8) (s : State) : Host.Outcome State Fault Refusal := .next (switchLinkLoss g.val s)
def execSwitchLinkRestore (g : Fin 8) (s : State) : Host.Outcome State Fault Refusal := .next (switchLinkRestore g.val s)

end Sys2Proof.Machine
end

