-- ==== Sys2Proof/Machine/Tuning.lean ====
section
/-! DEFINITION. Test signals as objects, the peak reset and the capture buffers (R193 to R201). -/

namespace Sys2Proof.Machine

open Sys2Proof

def ck (k sub : Nat) : Nat := ob (0x2561 + k % 4) sub

/-! ### Tests (R193, R194, R199) -/

/-- Injection points allow CLOSED, or CLOSED and OPEN (R191). -/
def pointOk (point e : Nat) : Bool :=
  if point = 1 then decide (e = slCLOSED) else decide (e = slCLOSED) || decide (e = slOPEN)

/-- f ≤ 1 / (4 × Ts). -/
def freqOk (d : Nat) (f : F32) : Bool := Q.le (Q.mul (F32.toQ f) (Q.mk' ((4 * d * 50 : Nat) : Int) 1000000)) Q.one

/-- The refusals of a start, in the order of R193. -/
def State.testRefusal (s : State) (n : Nat) : Nat :=
  let point := s.get (sk n 0x80)
  let wave := s.get (sk n 0x81)
  let f1 := s.getF (sk n 0x84)
  let f2 := s.getF (sk n 0x85)
  if point ≠ 0 && !(pointOk point (s.eff n)) then stSTATE
  else if s.dev ≠ dsRUN && s.dev ≠ dsSERVICE then stSTATE
  else if point = 0 then stRANGE
  else if (wave = 1 || wave = 2 || wave = 3) && !(freqOk (s.slotD n) f1 && freqOk (s.slotD n) f2) then stRANGE
  else if wave = 3 && F32.eqv f1 f2 then stRANGE
  else stOK

/-- A write of 1 or 2 to 0x25nn.89 (R193, R194). A refused start is counted as R9 asks. -/
def hTest (n : Nat) : Handler := Handler.simple fun s w v =>
  if v.toNum = 1 then
    let r := s.testRefusal n
    if r = stOK then (s.setSlot n (fun x => { x with testReq := some w }), stOK)
    else (if r = stSTATE then s.refuse9 (0x2500 + n) 0x89 else s, r)
  else (if (s.slot n).test.isSome then s.setSlot n (fun x => { x with testStop := 1 }) else s, stOK)

/-- A write of a test parameter: BUSY while a test runs (R199). -/
def hTestPar (n sub : Nat) : Handler := Handler.simple fun s _ v =>
  if (s.slot n).test.isSome then (s, stBUSY) else (s.put (sk n sub) v.toNum, stOK)

/-- The test's starter is gone: abort cause 5 (R194). -/
def State.abortTests (s : State) (gone : Who → Bool) : State :=
  (List.range 96).foldl (fun t n => match (t.slot n).test with
    | some r => if gone r.who then t.setSlot n (fun x => { x with testStop := 5 }) else t
    | none => t) s

/-- TEST_COMPLETE: t ≥ T (R194). -/
def testComplete (n : Nat) (s : State) : State :=
  match (s.slot n).test with
  | some t => if s.testOver n t && (s.slot n).testStop = 0 then s.testEnd n 2 0 else s
  | none => s

/-- A write of 1 to 0x25nn.78. -/
def hPeakReset (n : Nat) : Handler := Handler.simple fun s _ _ => (s.putF (sk n 0x76) 0, stOK)

/-! ### Capture buffers (R195 to R198) -/

def State.cap (s : State) (k : Nat) : CapSt := s.lark.caps.getD k CapSt.reset
def State.setCap (s : State) (k : Nat) (f : CapSt → CapSt) : State :=
  s.setLark (fun l => { l with caps := oneOf CapSt.reset 4 l.caps k f })

def State.capState (s : State) (k : Nat) : Nat := s.get (ck k 9)
/-- Rows a buffer holds with its channels (R195). -/
def State.capFull (s : State) (k : Nat) : Nat := 131072 / s.get (ck k 1)
/-- P; mode IMMEDIATE takes it as 0 (R196). -/
def State.capPre (s : State) (k : Nat) : Nat := if s.get (ck k 4) = 0 then 0 else s.get (ck k 3)

/-- A descriptor names a signal (R195). -/
def descOk (d : Nat) : Bool :=
  (decide (d / 256 ≤ 10) && decide (d % 256 ≤ 95)) || (within 16 18 (d / 256) && decide (d % 256 ≤ 63))

/-- The signal a descriptor names. -/
def State.capSignal (s : State) (d : Nat) : F32 :=
  let n := d % 256
  let code := d / 256
  if code = 0 then s.getF (sk n 0x63) else if code = 1 then s.getF (sk n 0x64) else if code = 2 then (s.slot n).y
  else if code = 3 then (s.slot n).e else if code = 4 then (s.slot n).out else if code = 5 then s.getF (sk n 0x1D)
  else if code = 6 then (s.slot n).d else if code = 7 then s.getF (sk n 0x8C) else if code = 8 then s.getF (sk n 0x65)
  else if code = 9 then s.getF (sk n 0x75) else if code = 10 then F32.ofInt (s.eff n)
  else if code = 16 then F32.ofInt (s.getI32 (ik n 0x16)) else if code = 17 then F32.ofInt (s.getI32 (xk n 0x1B))
  else F32.ofQ (Q.mk' ((s.get (xk n 0x1C) : Nat) : Int) 65536)

/-- The trigger's condition on a row whose trigger channel reads `v` (R196). -/
def State.capTrig (s : State) (k : Nat) (v : F32) : Bool :=
  let m := s.get (ck k 4)
  let c := s.cap k
  let lv := s.getF (ck k 6)
  let rise := match c.prev with | some p => F32.lt p lv && F32.le lv v | none => false
  let fall := match c.prev with | some p => F32.lt lv p && F32.le v lv | none => false
  c.forced || (if m = 0 then true else if m = 1 then rise else if m = 2 then fall else if m = 3 then rise || fall
    else if m = 4 then c.evTest else if m = 5 then c.evTrip else false)

/-- Frames since F_arm, where it has come. -/
def State.capAge (s : State) (k : Nat) : Option Nat :=
  let d := (s.frameNo + 2 ^ 32 - (s.cap k).fArm) % 2 ^ 32
  if d < 2 ^ 31 then some d else none

/-- The buffer's state and its count of rows. -/
def State.capShow (s : State) (k st : Nat) : State := (s.put (ck k 9) st).put (ck k 0x0A) (s.cap k).rows.length

/-- CAPTURE_ROW (R195, R196). -/
def captureRow (k : Nat) (s : State) : State :=
  let c := s.cap k
  let st := s.capState k
  let due := match s.capAge k with | some d => decide (d % s.get (ck k 2) = 0) | none => false
  let again := match c.rows.getLast? with | some r => decide (r.1 = s.frameNo) | none => false
  if (st ≠ 1 && st ≠ 2) || !due || again || s.inReset blkLARK then s
  else
    let vals := (List.range (s.get (ck k 1))).map (fun i => s.capSignal (s.get (ck k (0x10 + i))))
    let row := (s.frameNo, s.tm.mt + 35000, vals)
    let v := vals.getD (s.get (ck k 5)) 0
    let p := s.capPre k
    let n := c.rows.length
    if st = 1 then
      let held := c.rows.drop (n - p)
      if p ≤ n && s.capTrig k v then
        let s1 := s.setCap k (fun x => { x with
          rows := held ++ [row], trigRow := held.length, prev := some v
          flags := setBit x.flags 0 (bit x.flags 0 || x.forced) })
        s1.capShow k (if s.capFull k ≤ held.length + 1 then 3 else 2)
      else
        let rs := c.rows ++ [row]
        (s.setCap k (fun x => { x with rows := rs.drop (rs.length - p), prev := some v })).capShow k 1
    else
      (s.setCap k (fun x => { x with rows := x.rows ++ [row] })).capShow k (if s.capFull k ≤ n + 1 then 3 else 2)

/-- The capture command 0x256k.08: arm, stop, force (R196). -/
def hCapCmd (k : Nat) : Handler := Handler.simple fun s _ v =>
  let st := s.capState k
  if v.toNum = 1 then
    ((((s.put (ck k 0x0B) ((s.get (ck k 0x0B) + 1) % 2 ^ 32)).setCap k (fun _ =>
      { CapSt.reset with fArm := (s.frameNo + 1) % 2 ^ 32 })).capShow k 1), stOK)
  else if v.toNum = 2 then
    (if st = 1 || st = 2 then (s.setCap k (fun x => { x with flags := setBit x.flags 4 true })).capShow k 3 else s, stOK)
  else (if st = 1 then s.setCap k (fun x => { x with forced := true }) else s, stOK)

/-- A write of a capture setting (R195, R198, R201). -/
def hCapSet (k sub : Nat) : Handler where
  consist := fun s v =>
    let g (i : Nat) : Nat := if i = sub then v.toNum else s.get (ck k i)
    if sub = 1 || sub = 3 then decide (g 1 ≠ 0) && decide (g 3 + 1 ≤ 131072 / g 1) && decide (g 5 < g 1)
    else if sub = 5 then decide (g 5 < g 1)
    else if 0x10 ≤ sub then descOk v.toNum else true
  cond := fun _ => true
  run := fun s _ v =>
    if s.capState k = 1 || s.capState k = 2 then (s, stBUSY) else (s.put (ck k sub) v.toNum, stOK)

/-- A block reset of Larkspur ends captures as TRUNCATED (R198). -/
def State.capsTruncate (s : State) : State :=
  (List.range 4).foldl (fun t k =>
    if t.capState k = 1 || t.capState k = 2 then
      (t.setCap k (fun x => { x with flags := setBit x.flags 1 true })).capShow k 3
    else t) s

/-- A chip reset empties every buffer (R198). -/
def State.capsEmpty (s : State) : State := (List.range 4).foldl (fun t k => (t.setCap k (fun _ => CapSt.reset)).capShow k 0) s

/-- The content of a buffer (R197). -/
def State.capContent (s : State) (k : Nat) : List Byte :=
  let c := s.cap k
  let r0 := c.rows.headD (0, 0, [])
  le 4 (s.get (ck k 0x0B)) ++ le 1 (s.get (ck k 1)) ++ le 1 (s.capState k) ++ le 2 (s.get (ck k 2)) ++ le 8 r0.2.1 ++
    le 4 r0.1 ++ le 4 c.rows.length ++ le 4 c.trigRow ++ le 4 c.flags ++
    (List.range 8).flatMap (fun i => le 2 (s.get (ck k (0x10 + i)))) ++ le 16 0 ++
    c.rows.flatMap (fun r => r.2.2.flatMap (fun v => le 4 v.toNat))

def execTestStart (who : Who) (n : Fin 96) (s : State) : Host.Outcome State Fault Refusal :=
  .next (s.request who (0x2500 + n.val) 0x89 (.num 1) (hTest n.val))
def execTestStop (who : Who) (n : Fin 96) (s : State) : Host.Outcome State Fault Refusal :=
  .next (s.request who (0x2500 + n.val) 0x89 (.num 2) (hTest n.val))
def execTestComplete (n : Fin 96) (s : State) : Host.Outcome State Fault Refusal := .next (testComplete n.val s)
def execPeakReset (who : Who) (n : Fin 96) (s : State) : Host.Outcome State Fault Refusal :=
  .next (s.request who (0x2500 + n.val) 0x78 (.num 1) (hPeakReset n.val))
def execCaptureArm (who : Who) (k : Fin 4) (s : State) : Host.Outcome State Fault Refusal :=
  .next (s.request who (0x2561 + k.val) 8 (.num 1) (hCapCmd k.val))
def execCaptureStop (who : Who) (k : Fin 4) (s : State) : Host.Outcome State Fault Refusal :=
  .next (s.request who (0x2561 + k.val) 8 (.num 2) (hCapCmd k.val))
def execCaptureForce (who : Who) (k : Fin 4) (s : State) : Host.Outcome State Fault Refusal :=
  .next (s.request who (0x2561 + k.val) 8 (.num 3) (hCapCmd k.val))
def execCaptureRow (k : Fin 4) (s : State) : Host.Outcome State Fault Refusal := .next (captureRow k.val s)

end Sys2Proof.Machine
end

