-- ==== Sys2Proof/Machine/Trust.lean ====
section
/-! DEFINITION. Credentials and signature blocks (R403 to R406, R413): their fields, the ordered check, and what a
refusal leaves. -/

namespace Sys2Proof.Machine

open Sys2Proof

/-- The number in `n` bytes at an offset, and the bytes themselves. -/
def fieldAt (l : List Byte) (off n : Nat) : Nat := ofLe ((l.drop off).take n)
def bytesAt (l : List Byte) (off n : Nat) : List Byte := (l.drop off).take n

/-- The serial number 0x1000.04. -/
def serialNo : Nat := Config.serial % 2 ^ 32

def credKind (c : List Byte) : Nat := fieldAt c 3 1
def credSerial (c : List Byte) : Nat := fieldAt c 4 4
def credIssuer (c : List Byte) : Nat := fieldAt c 8 4
def credScope (c : List Byte) : Nat := fieldAt c 0x0C 4
def credFrom (c : List Byte) : Nat := fieldAt c 0x10 8
def credUntil (c : List Byte) : Nat := fieldAt c 0x18 8
def credKey (c : List Byte) : List Byte := bytesAt c 0x20 97
def credKey2 (c : List Byte) : List Byte := bytesAt c 0x88 97

def knownKind (k : Nat) : Bool := decide (k ≤ 5) || within 0x10 0x13 k

/-- Kinds the vendor anchor and an integrator anchor may issue (R404). -/
def vendorIssues (k : Nat) : Bool := decide (k = 5) || decide (k = 0x10) || decide (k = 0x12) || decide (k = 0x13)
def anchorIssues (k : Nat) : Bool := decide (k ≤ 4) || decide (k = 0x11) || decide (k = 0x12)

/-- The installed anchor table in force (R408), and one of its credentials by serial. -/
def State.anchorTable (s : State) : List Byte := s.getB (ob 0x2F00 0x83)
def State.anchorCred (s : State) (n : Nat) : Option (List Byte) :=
  ((List.range 4).map (fun i => bytesAt s.anchorTable (352 * i) 352)).find? (fun c => decide (n ≠ 0) && decide (credSerial c = n))

/-- The public key of an issuer: the vendor anchor or an installed one. -/
def State.issuerKey (s : State) (n : Nat) : Option (List Byte) :=
  if n = 0 then some Config.vendorKey else (s.anchorCred n).map credKey

def State.revoked (s : State) (issuer n : Nat) : Bool :=
  s.sec.revoked.any (fun r => decide (r.1 = issuer) && r.2.2.contains n)

/-- Present GNSS time, MT + G_OFF. -/
def State.gnssNow (s : State) : Int := (s.tm.mt : Int) + s.goff

/-- NOT_AFTER has passed (R406): by GNSS time, in FREE by the time floor. -/
def State.pastEnd (s : State) (e : Nat) : Bool :=
  if s.timeState = 0 then decide (e < s.get (ob 0x1100 8)) else decide ((e : Int) < s.gnssNow)
def State.beforeStart (s : State) (b : Nat) : Bool := decide (s.timeState ≠ 0) && decide (s.gnssNow < (b : Int))

/-- The credential has expired, its own NOT_AFTER or its anchor's (R405). -/
def State.expired (s : State) (c : List Byte) : Bool :=
  s.pastEnd (credUntil c) || (match s.anchorCred (credIssuer c) with | some a => s.pastEnd (credUntil a) | none => false)

/-- The check of R405; 0 where every step passes. `timed` is false where R415 leaves out steps 5 and 6. -/
def State.credCheck (s : State) (c : List Byte) (fits : Nat → Bool) (timed : Bool) : Nat :=
  let k := credKind c
  let iss := credIssuer c
  let allowed := if iss = 0 then vendorIssues k else anchorIssues k
  if c.length ≠ 352 || fieldAt c 0 2 ≠ 0x4352 || fieldAt c 2 1 ≠ 1 || credSerial c = 0 || fieldAt c 0x81 7 ≠ 0 ||
      fieldAt c 0xE9 23 ≠ 0 || !(knownKind k) then 1
  else match s.issuerKey iss with
    | none => 2
    | some key =>
      if !allowed then 2
      else if !(Config.ecdsaOk key (Config.sha384 (c.take 0x100)) (bytesAt c 0x100 96)) then 3
      else if s.revoked iss (credSerial c) then 4
      else if timed && s.expired c then 5
      else if timed && s.beforeStart (credFrom c) then 6
      else if credScope c ≠ 0 && credScope c ≠ serialNo then 7
      else if !(fits k) then 8 else 0

/-- The session number a SECURITY record shows for a requester. -/
def Who.sessionNo : Who → Nat
  | .session n => n
  | _ => 0

/-- A SECURITY record (R424). -/
def State.secRecord (s : State) (subject code role serial sess : Nat) (more : List Cont) : State :=
  s.post 11 subject (code % 65536) 0 (credCont role serial sess :: more)

/-- An authentication is refused: the reason, the count, the record (R405, R422, R424). -/
def State.authRefused (s : State) (reason role serial sess : Nat) : State :=
  ((s.put (ob 0x2F00 0x1C) reason).inc32 (ob 0x1100 6)).secRecord 3 reason role serial sess []

/-- The check of a signature block of 496 bytes over a digest (R413): HASH, the credential with its KIND, SIG, and the
writer's own SERIAL; 0 where all pass. -/
def State.signCheck (s : State) (w : Who) (data digest : List Byte) (kind : Nat) : Nat :=
  let c := bytesAt data 48 352
  if data.length ≠ 496 then 1
  else if data.take 48 ≠ digest then 3
  else
    let r := s.credCheck c (fun k => decide (k = kind)) true
    if r ≠ 0 then r
    else if !(Config.ecdsaOk (credKey c) (data.take 48) (bytesAt data 400 96)) then 3
    else if credSerial c ≠ (s.credOf w).2 then 13
    else 0

end Sys2Proof.Machine
end

