-- ==== Sys2Proof/Machine/Versions.lean ====
section
/-! DEFINITION. Configuration versions as data (R426 to R430): the entries and bytes of a profile and of a version,
the working configuration, and writing a version. -/

namespace Sys2Proof.Machine

open Sys2Proof

/-- The RWS objects in order of index and subindex (R66, R77, R266 to R268): what a safety profile holds. -/
def rwsKeys : List Nat :=
  ([0x50, 0x60, 0x70, 0x80].flatMap (fun b => [ob 0x2140 b, ob 0x2140 (b + 1)])) ++
    ([0x05, 0x08, 0x19, 0x1A, 0x1B].map (ob 0x2700)) ++
    (List.range 24).map (fun i => ob 0x2700 (0x20 + i)) ++ (List.range 16).map (fun i => ob 0x2700 (0x40 + i)) ++
    (List.range 16).flatMap (fun f => (List.range 6).map (fun j => ob 0x2700 (0x60 + 8 * f + j)))

def isRws (k : Nat) : Bool :=
  match Dict.desc (k / 256) (k % 256) with
  | some d => decide (d.acc = .rws)
  | none => false

/-- Zeros up to a multiple of 4. -/
def pad4 (l : List Byte) : List Byte := l ++ List.replicate ((4 - l.length % 4) % 4) (0 : Byte)

/-- One entry of a version (R429). -/
def verEntry (k code : Nat) (v : List Byte) : List Byte :=
  le 2 (k / 256) ++ le 1 (k % 256) ++ le 1 code ++ le 4 v.length ++ pad4 v

def numEntry (k v : Nat) : List Byte :=
  match Dict.desc (k / 256) (k % 256) with
  | some d => verEntry k d.typ.code (le d.typ.bytes v)
  | none => []

/-- The bytes of a profile: its objects as the entries of R429, and their CRC-32 (R262). -/
def profBytes (p : Tbl Nat) : List Byte := rwsKeys.flatMap (fun k => numEntry k (Tbl.get (Dict.dflt k) p k))
def profCrc (p : Tbl Nat) : Nat := crc32 (profBytes p)

/-- The profile in force on the system die: its RWS values. -/
def State.profNow (s : State) : Tbl Nat := s.objs.filter (fun p => isRws p.1)

/-- Blobs that belong to a version, by the key they are in force under, with the object that stages them: installation
name, process-image map, application table, CAN object tables (R327, R332, R370). -/
def verBlobs : List (Nat × Nat) :=
  [(ob 0x1010 6, ob 0x1010 6), (ob 0x1300 0x83, ob 0x1300 3), (ob 0x1300 0x89, ob 0x1300 9)] ++
    (List.range 8).map (fun p => (ob 0x2C00 (0x81 + p), ob 0x2C00 (1 + p)))

/-- The working configuration: stored values that differ from their defaults, and the applied tables (R426). -/
def State.workVals (s : State) : Tbl Nat := s.objs.filter (fun p => s.isStored p.1)
def State.workBlobs (s : State) : Tbl (List Byte) := s.blobs.filter (fun p => (verBlobs.map (·.1)).contains p.1)

/-- The active version is the highest held (R427). -/
def State.activeVer (s : State) : Ver := s.conf.vers.getLast?.getD Ver.factory
def State.verOf (s : State) (n : Nat) : Option Ver := s.conf.vers.find? (fun v => decide (v.num = n))

/-- The working configuration equals the active version. -/
def State.workSame (s : State) : Bool :=
  decide (s.workVals = s.activeVer.vals) && decide (s.workBlobs = s.activeVer.blobs)

/-- The indices that hold objects of the module, in order (the directory of chapter 13). -/
def dictIdx : List Nat :=
  [0x1000, 0x1010, 0x1020, 0x1030, 0x1100, 0x1200, 0x1210, 0x1300, 0x1400, 0x1410, 0x2000] ++ (List.range 64).map (0x2100 + ·) ++
    [0x2140, 0x2200, 0x2300, 0x2400] ++ (List.range 101).map (0x2500 + ·) ++ (List.range 73).map (0x2600 + ·) ++ [0x2700, 0x2800] ++
    (List.range 16).map (0x2810 + ·) ++ [0x2900, 0x2A00] ++ (List.range 8).map (0x2B00 + ·) ++ [0x2C00, 0x2E00, 0x2F00, 0x3000, 0x3100]

/-- Every object of the module with its key, in ascending order of index and subindex. -/
def dictObjs : List (Nat × Desc) :=
  dictIdx.flatMap (fun i => (List.range 256).filterMap (fun sub => (Dict.desc i sub).map (fun d => (ob i sub, d))))

/-- Keys of every fixed-size stored object in order. -/
def storedKeys : List Nat :=
  (dictObjs.filter (fun p => decide (p.2.kind = .stored) && decide (p.2.acc ≠ .rws) && p.2.typ.isFixed)).map (·.1)

/-- The entries of a version: every stored object, what an import wrote beside them, the applied tables, the profile as the value of 0x2700.15. -/
def State.verEntries (s : State) (v : Ver) : List (List Byte) :=
  storedKeys.map (fun k => numEntry k (Tbl.get (Dict.dflt k) v.vals k)) ++
    (s.apps.filter (fun a => decide (a.desc.kind = .stored))).map (fun a =>
      verEntry (ob a.idx a.desc.sub) a.desc.typ.code (le a.desc.typ.bytes (Tbl.get 0 v.vals (ob a.idx a.desc.sub)))) ++
    (v.vals.filter (fun p => decide (p.1 / 256 < 0x4000) && !(s.isStored p.1))).map (fun p => numEntry p.1 p.2) ++
    (verBlobs.filter (fun p => Tbl.get [] v.blobs p.1 ≠ [])).map (fun p =>
      verEntry p.2 (if p.1 = p.2 then 10 else 11) (Tbl.get [] v.blobs p.1)) ++
    [verEntry (ob 0x2700 0x15) 11 (profBytes v.prof)]

/-- The 88-byte header and the entries (R429). -/
def State.verBytes (s : State) (v : Ver) : List Byte :=
  let es := s.verEntries v
  let body := es.flatten
  let head := le 4 0x56474643 ++ le 4 v.num ++ le 4 v.parent ++ le 2 v.layout ++ le 2 v.origin ++ le 8 v.mt ++
    le 4 v.cred ++ le 4 (profCrc v.prof) ++ le 4 (88 + body.length) ++ le 4 es.length
  head ++ Config.sha384 (head ++ body) ++ body

/-- HASH of a version (R429). -/
def State.verHash (s : State) (v : Ver) : List Byte := bytesAt (s.verBytes v) 0x28 48

/-- Write a version (R427, R446): the eight newest stay, and the record carries the credential. -/
def State.writeVersion (s : State) (origin parent : Nat) (vals : Tbl Nat) (blobs : Tbl (List Byte)) (prof : Tbl Nat)
    (profVer : Nat) (cred : Nat × Nat) : State :=
  let n := s.get (ob 0x3000 1) + 1
  let v : Ver := ⟨n, parent, s.get (ob 0x1000 8), origin, s.tm.mt, cred.2, vals, blobs, prof, profVer⟩
  let l := s.conf.vers ++ [v]
  let kept := l.drop (l.length - 8)
  let s1 := { s with conf := { s.conf with vers := kept } }
  let s2 := ((s1.put (ob 0x3000 1) n).put (ob 0x3000 2) (kept.headD v).num).put (ob 0x3000 7) kept.length
  (s2.inc32 (ob 0x3000 0x0E)).post 10 1 origin 0 [credCont cred.1 cred.2 0, ⟨6, parent % 65536, n⟩]

end Sys2Proof.Machine
end

