-- ==== Sys2Proof/Machine/Foxglove.lean ====
section
/-! DEFINITION. Foxglove (R242 to R268): states and causes, safety inputs, pairs and functions, resets, permission
lines, dark pulses, the cross-check with the processor path's own evaluation, the seal, and the two-party change. -/

namespace Sys2Proof.Machine

open Sys2Proof

def fx (sub : Nat) : Nat := ob 0x2700 sub
def State.setFox (s : State) (f : FoxSt → FoxSt) : State := { s with fox := f s.fox }

def fsINIT : Nat := 0
def fsACTIVE : Nat := 1
def fsSAFE : Nat := 2
def fsLOCKOUT : Nat := 3
def State.foxState (s : State) : Nat := s.get (fx 1)
def State.foxCause (s : State) : Nat := s.get (fx 2)

/-- A value of a profile, of the one Foxglove holds, and of the one the processor path evaluates. -/
def profVal (p : Tbl Nat) (sub : Nat) : Nat := Tbl.get (Dict.dflt (fx sub)) p (fx sub)
def State.foxVal (s : State) (sub : Nat) : Nat := profVal s.fox.prof sub

/-- The fault code of an input; from 2 on it is a fault, and the input counts as low (R247, R248). -/
def State.inCode (s : State) (n : Nat) : Nat := s.get (fx (0x50 + n))
def State.inHigh (s : State) (n : Nat) : Bool := bit (s.get (fx 0x0C)) n && decide (s.inCode n < 2)

def State.foxPair (s : State) (p : Nat) : FoxPair := s.fox.pairs.getD p FoxPair.reset
def State.setPair (s : State) (p : Nat) (f : FoxPair → FoxPair) : State :=
  s.setFox (fun x => { x with pairs := oneOf FoxPair.reset 8 x.pairs p f })
def State.foxIn (s : State) (n : Nat) : FoxIn := Tbl.get FoxIn.reset s.fox.ins n
def State.setFoxIn (s : State) (n : Nat) (f : FoxIn → FoxIn) : State :=
  s.setFox (fun x => { x with ins := Tbl.modify FoxIn.reset x.ins n f })

/-! ### Pairs (R249) -/

/-- An input at its healthy level under the pair's mode. -/
def inHealthy (mode : Nat) (odd high : Bool) : Bool := if mode = 2 && odd then !high else high

/-- A pair of mode 1 or 2 after its inputs stand at healthy or not: T_disc runs from the first to leave until the other
follows, and from the first to return until the other is back. -/
def pairStep (h0 h1 : Bool) (now : Nat) (x : FoxPair) : FoxPair :=
  let follow := decide (x.first ≠ 0) && !x.returning
  if x.st = 0 then
    if h0 && h1 then x
    else if h0 || h1 then { x with st := 1, first := now + 1, returning := false, which := if h0 then 1 else 0, back := 0 }
    else { x with st := 1, first := 0, returning := false, back := 0 }
  else if x.st = 1 then
    if !h0 && !h1 then { x with first := 0, returning := false, back := 0 }
    else if h0 && h1 then
      if follow then { x with back := if x.back = 0 then now + 1 else x.back }
      else { x with st := 0, first := 0, returning := false, back := 0 }
    else if follow then
      if (if x.which = 0 then h1 else h0) then { x with back := 0 }
      else { x with first := if x.back = 0 then now + 1 else x.back, returning := true, back := 0 }
    else if x.first ≠ 0 then x
    else { x with first := now + 1, returning := true }
  else if !h0 && !h1 then { x with st := 1, first := 0, returning := false, back := 0 }
  else x

/-- Foxglove's pair p follows its inputs. -/
def State.pairUpdate (s : State) (p : Nat) : State :=
  let mode := s.foxVal (0x20 + p)
  if mode = 1 || mode = 2 then
    s.setPair p (pairStep (inHealthy mode false (s.inHigh (2 * p))) (inHealthy mode true (s.inHigh (2 * p + 1))) s.tm.mt)
  else s

/-- A pair as it starts under a profile. -/
def State.pairInit (s : State) (p : Nat) : State :=
  let mode := s.foxVal (0x20 + p)
  let ok := inHealthy mode false (s.inHigh (2 * p)) && inHealthy mode true (s.inHigh (2 * p + 1))
  s.setPair p (fun _ => { FoxPair.reset with st := if ok then 0 else 1 })

/-- 0x2700.(0x38 + p): 0 healthy, 1 demand, 2 DISCREPANCY, 3 input fault, 4 unused (R267). -/
def State.pairShown (s : State) (p : Nat) : Nat :=
  let mode := s.foxVal (0x20 + p)
  if mode = 0 then 4
  else if 2 ≤ s.inCode (2 * p) || 2 ≤ s.inCode (2 * p + 1) then 3
  else if mode = 3 then (if s.inHigh (2 * p) && s.inHigh (2 * p + 1) then 0 else 1)
  else (s.foxPair p).st

/-! ### Functions (R250, R251) -/

/-- What the inputs of function f say under a profile: a demand, and a fault or DISCREPANCY (R250). Under automatic
reset a pair whose fault has cleared keeps demanding until it is released (R247). -/
def State.fnInputs (s : State) (p : Tbl Nat) (f : Nat) : Bool × Bool :=
  let b := 0x60 + 8 * f
  let ins := bitList 16 (profVal p b)
  let flt := ins.any (fun n => decide (2 ≤ s.inCode n) ||
    (within 1 2 (profVal p (0x20 + n / 2)) && decide ((s.foxPair (n / 2)).st = 2)))
  let dem := ins.any (fun n =>
    let m := profVal p (0x20 + n / 2)
    let x := s.foxPair (n / 2)
    (if m = 1 || m = 2 then decide (x.st ≠ 0) else if m = 3 then !(s.inHigh n) else true) ||
      (decide (profVal p (b + 3) = 0) && x.hold))
  (dem, flt)

/-- One transition of a function, and whether it counts as a demand (R250). -/
def fnTrans (enabled manual cat1 dem flt : Bool) (now : Nat) (x : FoxFn) : FoxFn × Bool :=
  if !enabled then ({ x with st := 0 }, false)
  else if flt then ({ x with st := 5 }, false)
  else if x.st = 0 then ({ x with st := if manual || dem then 3 else 1 }, false)
  else if x.st = 5 then ({ x with st := 3 }, false)
  else if x.st = 1 && dem then (if cat1 then ⟨2, now + 1⟩ else { x with st := 3 }, true)
  else if x.st = 3 && !dem then ({ x with st := if manual then 4 else 1 }, false)
  else if x.st = 4 && dem then ({ x with st := 3 }, false)
  else (x, false)

/-- Transitions until the function rests; `n` bounds them. -/
def fnRun (enabled manual cat1 dem flt : Bool) (now : Nat) : Nat → FoxFn × Nat → FoxFn × Nat
  | 0, r => r
  | n + 1, r =>
    let t := fnTrans enabled manual cat1 dem flt now r.1
    fnRun enabled manual cat1 dem flt now n (t.1, r.2 + ofBool t.2)

/-- A function's run under a profile with its demand and fault. -/
def fnEval (p : Tbl Nat) (f : Nat) (dem flt : Bool) (now : Nat) (x : FoxFn) : FoxFn × Nat :=
  let b := 0x60 + 8 * f
  fnRun (decide (profVal p b ≠ 0)) (decide (profVal p (b + 3) ≠ 0)) (decide (profVal p (b + 1) = 1)) dem flt now 4 (x, 0)

/-- Demand of a function in Foxglove: its inputs, the requests whose option bit 2 allows them, the cause SEAL (R250,
R255, R260, R262). -/
def State.foxDemand (s : State) (f : Nat) : Bool × Bool :=
  let r := s.fnInputs s.fox.prof f
  (r.1 || r.2 || (bit s.fox.demand f && bit (s.foxVal (0x65 + 8 * f)) 2) || s.fox.sealAll || bit s.fox.sealDiff f, r.2)

/-- The permission mask that function states, requests and findings leave under a profile (R244, R245). -/
def permMask (p : Tbl Nat) (st wd dark : Nat) (fns : List FoxFn) : Nat :=
  if st ≠ fsACTIVE && st ≠ fsSAFE then 0
  else
    let stop := (List.range 16).filter (fun f => within 3 5 (fns.getD f FoxFn.reset).st)
    (List.range 64).foldl (fun a n =>
      let held := bit wd n || bit dark n || stop.any (fun f => bit (profVal p (0x64 + 8 * f)) n) ||
        (decide (st = fsSAFE) && bit (profVal p 0x19) n)
      if held then a else a + 2 ^ n) 0

/-- Foxglove asserts SAFE_N (R259). -/
def State.safeAsserted (s : State) : Bool :=
  s.fox.alive && decide (s.dev ≠ dsSTANDBY) &&
    (decide (s.foxState ≠ fsACTIVE) ||
      (List.range 16).any (fun f => bit (s.foxVal (0x65 + 8 * f)) 0 && decide (2 ≤ (s.fox.fns.getD f FoxFn.reset).st)))

/-- The level sources of Foxglove's findings (R504); an input fault is reported at the Exchange phase (R247). -/
def State.foxLevels (s : State) : State :=
  if s.pwr.chip || !s.fox.alive then s
  else
    let s1 := s.follow srcFOX_XCHK (decide (s.foxState = fsSAFE) && within 1 2 s.foxCause) 0
    let s2 := s1.follow srcFOX_SUP ((List.range 4).any (fun i => supStatus s (4 + i) 8)) 0
    let s3 := s2.follow srcFOX_DISC (s.fox.pairs.any (fun x => decide (x.st = 2))) 0
    let s4 := s3.follow srcFOX_DARK (decide (s.get (fx 0x1D) ≠ 0)) 0
    let s5 := s4.follow srcFOX_RESET (decide (s.get (fx 0xE0) = 2) || decide (s.get (fx 0xE1) = 2)) 0
    s5.follow srcFOX_SEAL (s.fox.sealAll || decide (s.fox.sealDiff ≠ 0)) 0

/-- What the objects show of Foxglove. -/
def State.foxShow (s : State) : State :=
  let st (f : Nat) : Nat := (s.fox.fns.getD f FoxFn.reset).st
  let s1 := (List.range 16).foldl (fun t f => t.put (fx (0x66 + 8 * f)) (st f)) s
  let s2 := (List.range 8).foldl (fun t p => t.put (fx (0x38 + p)) (s.pairShown p)) s1
  let s3 := s2.put (fx 9) ((List.range 16).foldl (fun a f => a + 2 ^ f * ofBool (decide (2 ≤ st f))) 0)
  let s4 := s3.put (fx 0x0D) ((List.range 16).foldl (fun a n => a + 2 ^ n * ofBool (decide (2 ≤ s.inCode n))) 0)
  let s5 := (s4.putBit (fx 7) 0 s.safeAsserted).putBit (fx 7) 2 (s.fox.sealOk && decide (s.get (fx 6) = s.foxVal 5))
  s5.put (fx 0x0A) s.fox.lines

/-- Foxglove evaluates its functions, sets the permission lines, and reports (R244, R250). -/
def State.foxSettle (s : State) : State :=
  let run := s.fox.powered && (decide (s.foxState = fsACTIVE) || decide (s.foxState = fsSAFE))
  let s1 := if !run then s
    else
      let rs := (List.range 16).map (fun f =>
        let d := s.foxDemand f
        fnEval s.fox.prof f d.1 d.2 s.tm.mt (s.fox.fns.getD f FoxFn.reset))
      (List.range 16).foldl (fun t f => t.add32 (fx (0x67 + 8 * f)) (rs.getD f (FoxFn.reset, 0)).2)
        (s.setFox (fun x => { x with fns := rs.map (·.1) }))
  let lines := if run then permMask s1.fox.prof s1.foxState s1.fox.withdraw (s1.get (fx 0x1D)) s1.fox.fns else 0
  ((s1.setFox (fun x => { x with lines := lines })).foxShow).foxLevels

/-- The functions of a mask start anew (R250, R258, R262). -/
def State.fnRestart (s : State) (mask : Nat) : State :=
  s.setFox (fun x => { x with fns := (List.range 16).map (fun f => if bit mask f then FoxFn.reset else x.fns.getD f FoxFn.reset) })

/-! ### States and causes (R243, R258, R263) -/

/-- Foxglove enters a state with its cause. -/
def State.foxEnter (s : State) (st cause : Nat) : State :=
  (((s.put (fx 1) st).put (fx 2) cause).setFox (fun x => { x with causeAt := s.tm.mt + 1 })).foxSettle

/-- SAFE with a cause, from ACTIVE or SAFE. -/
def State.foxSafe (s : State) (cause : Nat) : State :=
  if s.fox.powered && (s.foxState = fsACTIVE || s.foxState = fsSAFE) then s.foxEnter fsSAFE cause else s

/-- RAIL_DISAGREEMENT (R242). -/
def railDisagreement (s : State) : State := if s.fox.alive then s.foxEnter fsLOCKOUT 8 else s

/-- FOXGLOVE_REGULATOR_FAULT (R242, R243): out of tolerance for 1 ms, and in a dropout no line is driven at all. -/
def foxRegulatorFault (dropout : Bool) (s : State) : State :=
  if !s.fox.alive then s
  else if dropout then
    ((s.put (fx 1) fsLOCKOUT).put (fx 2) 10).setFox (fun x => { x with powered := false, alive := false }) |>.foxSettle
  else s.foxEnter fsLOCKOUT 10

/-- Foxglove comes up: INIT, functions and checks from the beginning. `vl` is a power cycle of VL, which alone ends
LS_FAIL and HS_FAIL (R254). -/
def State.foxPowerUp (s : State) (vl : Bool) : State :=
  let dark := if vl then 0 else s.get (fx 0x1D)
  let inh := if vl then 0 else s.fox.inhibit
  let s1 := s.setFox (fun x => { FoxSt.reset with
    prof := x.prof, rep := x.rep, pfns := x.pfns, reported := 0, alive := true, inhibit := inh, staged := x.staged
    lostChange := x.lostChange, xfer := x.xfer })
  let s2 := (List.range 16).foldl (fun t n => t.put (fx (0x50 + n)) 0) (((s1.put (fx 1) 0).put (fx 2) 0).put (fx 0x0C) 0)
  let s3 := (((s2.put (fx 0xE0) 0).put (fx 0xE1) 0).put (fx 6) 0).put (fx 0x1D) dark
  ((List.range 4).foldl (fun t i => t.putBit (supk (4 + i) 5) 8 false) s3).foxSettle

/-- FOXGLOVE_REGULATOR_RECOVER: INIT (R243). -/
def foxRegulatorRecover (s : State) : State :=
  if !s.fox.alive || (s.foxState = fsLOCKOUT && s.foxCause = 10) then s.foxPowerUp false else s

/-- FOXGLOVE_SELFTEST (R263). -/
def foxSelftest (pass : Bool) (s : State) : State :=
  if s.fox.alive && !s.fox.powered && s.foxState = fsINIT then
    (if pass then s.setFox (fun x => { x with powered := true }) else s.foxEnter fsLOCKOUT 9)
  else s

/-- FOXGLOVE_PROFILE_VERIFIED (R263): the profile that START sends. After a chip reset Foxglove compares it with the
one it holds. With CFG_LOAD or a boot hold no profile is sent (R400, R415, R434). -/
def foxProfileVerified (crcOk : Bool) (s : State) : State :=
  if s.dev ≠ dsSTART || !s.fox.powered || !s.pwr.ran || s.raw srcCFG_LOAD || s.pwr.bootHold then s
  else if !crcOk then s.follow srcFOX_PROFILE true 0
  else
    let s0 := s.follow srcFOX_PROFILE false 0
    let sent := s.profNow
    if s.foxState = fsINIT then
      let s1 := (s0.setFox (fun x => { x with prof := sent, profDiff := false })).put (fx 3) (profCrc sent)
      let s2 := (List.range 8).foldl State.pairInit s1
      (s2.fnRestart 0xFFFF).foxEnter fsACTIVE 0
    else if s.foxState = fsSAFE then
      if sent = s.fox.prof then s0.setFox (fun x => { x with profDiff := false })
      else (s0.setFox (fun x => { x with profDiff := true })).foxSafe 5
    else s0

/-- A cause of SAFE stands now. -/
def State.foxStands (s : State) : Bool :=
  s.fox.chipHeld || s.fox.tbBad || s.fox.profDiff || decide (3 ≤ s.fox.mism) || decide (10 ≤ s.fox.miss)

/-- The exit from SAFE at an accepted SAFE reset: no cause for 1 s, 20 agreeing exchanges (R258). -/
def State.safeExit (s : State) : State :=
  if s.foxState = fsSAFE && !s.foxStands && s.fox.causeAt + nsS ≤ s.tm.mt + 1 && 20 ≤ s.fox.agree then
    (s.fnRestart 0xFFFF).foxEnter fsACTIVE 0
  else s

/-- TIMEBASE_DEVIATION (R11, R243): found beyond ±2 %, or within again. -/
def timebaseDeviation (beyond : Bool) (s : State) : State :=
  if !s.fox.alive then s
  else if beyond then (s.setFox (fun x => { x with tbBad := true })).foxSafe 4
  else s.setFox (fun x => { x with tbBad := false, causeAt := if x.tbBad then s.tm.mt + 1 else x.causeAt })

/-- The start and the end of a chip reset on the static line (R258). -/
def State.foxChip (s : State) (on : Bool) : State :=
  if on then (s.setFox (fun x => { x with chipHeld := true })).foxSafe 3
  else s.setFox (fun x => { x with chipHeld := false, causeAt := s.tm.mt + 1, mism := 0, miss := 0, agree := 0 })

/-! ### Inputs and their checks (R246 to R249) -/

/-- SAFETY_INPUT_CHANGE: the input has held its new level for T_f (R246). -/
def safetyInputChange (n : Nat) (high : Bool) (s : State) : State :=
  if !s.fox.powered || bit (s.get (fx 0x0C)) n = high then s
  else ((s.putBit (fx 0x0C) n high).pairUpdate (n / 2)).foxSettle

/-- An input's fault code changes; a fault makes the pair wait for a reset (R247). -/
def State.setInCode (s : State) (n code : Nat) : State :=
  let s1 := s.put (fx (0x50 + n)) code
  let s2 := if 2 ≤ code && s.inCode n < 2 then s1.setPair (n / 2) (fun x => { x with hold := true }) else s1
  s2.pairUpdate (n / 2)

/-- INPUT_PULSE_CHECK: the check of input n at the test window of SUPk, k from 4 to 7 (R247). -/
def inputPulseCheck (n k : Nat) (fail : Bool) (s : State) : State :=
  let a := s.foxVal (0x40 + n)
  if !s.fox.powered || a = 0xFF || s.inCode n = 4 || !(bit (s.get (fx 0x0C)) n) then s
  else
    let own := decide (a = k)
    let x := s.foxIn n
    let cnt := if own then x.own else Tbl.get 0 x.cross k
    let code := s.inCode n
    let isKey := (decide (code = 2) && own) || (decide (code = 3) && !own && decide (2 ≤ cnt))
    let setCnt (c : Nat) (y : FoxIn) : FoxIn := if own then { y with own := c } else { y with cross := Tbl.set 0 y.cross k c }
    if fail then
      let s1 := s.setFoxIn n (fun y => { setCnt (cnt + 1) y with passes := if isKey then 0 else y.passes })
      if code = 2 || code = 3 then s1
      else if 2 ≤ cnt + 1 then ((s1.setFoxIn n (fun y => { y with passes := 0 })).setInCode n (if own then 2 else 3)).foxSettle
      else (s1.setInCode n 1).foxSettle
    else if isKey then
      if 1 ≤ x.passes then ((s.setFoxIn n (fun _ => FoxIn.reset)).setInCode n 0).foxSettle
      else s.setFoxIn n (fun y => { y with passes := y.passes + 1 })
    else
      let s1 := s.setFoxIn n (setCnt 0)
      let y := s1.foxIn n
      if code = 1 && y.own = 0 && y.cross = [] then (s1.setInCode n 0).foxSettle else s1

/-- SUPPLY_PULSE_CHECK of SUPk (R248). -/
def supplyPulseCheck (k : Nat) (fail : Bool) (s : State) : State :=
  if !s.fox.powered || !(s.supOn k) then s
  else
    let mine := (List.range 16).filter (fun n => decide (s.foxVal (0x40 + n) = k))
    if fail then
      let c := Tbl.get 0 s.fox.supFails k + 1
      if 2 ≤ c || bit s.fox.supTrial k then
        let s1 := (s.setFox (fun x => { x with supFails := Tbl.set 0 x.supFails k 0, supTrial := setBit x.supTrial k false })).putBit (supk k 5) 8 true
        (mine.foldl (fun t n => t.setInCode n 4) s1).foxSettle
      else s.setFox (fun x => { x with supFails := Tbl.set 0 x.supFails k c })
    else
      let s1 := s.setFox (fun x => { x with supFails := Tbl.set 0 x.supFails k 0, supTrial := setBit x.supTrial k false })
      (mine.foldl (fun t n => if t.inCode n = 4 then t.setInCode n 0 else t) s1).foxSettle

/-- DISCREPANCY: T_disc has run out (R249). -/
def discrepancy (p : Nat) (s : State) : State :=
  let x := s.foxPair p
  if s.fox.powered && x.st = 1 && x.first ≠ 0 && x.first + s.foxVal (0x30 + p) * nsMs ≤ s.tm.mt + 1 then
    (s.setPair p (fun y => { y with st := 2, first := 0, returning := false, back := 0 })).foxSettle
  else s

/-- STOP_DELAY_EXPIRE (R251). -/
def stopDelayExpire (f : Nat) (s : State) : State :=
  let x := s.fox.fns.getD f FoxFn.reset
  if s.fox.powered && x.st = 2 && x.stopAt + s.foxVal (0x62 + 8 * f) * nsMs ≤ s.tm.mt + 1 then
    (s.setFox (fun y => { y with fns := oneOf FoxFn.reset 16 y.fns f (fun z => { z with st := 3 }) })).foxSettle
  else s

/-! ### Reset inputs (R252) -/

/-- Reset input n serves the pair: it is the reset of a function that names it, the SAFE reset for an automatic one or
for a pair that no enabled function names (R247). -/
def State.releases (s : State) (n p : Nat) : Bool :=
  let safe := decide (s.foxVal 8 = n)
  let fs := (List.range 16).filter (fun f => bit (s.foxVal (0x60 + 8 * f)) (2 * p) || bit (s.foxVal (0x60 + 8 * f)) (2 * p + 1))
  (if fs = [] then safe else fs.any (fun f => let m := s.foxVal (0x63 + 8 * f); decide (m = n + 1) || (decide (m = 0) && safe)))

/-- An accepted reset on input n (R252). -/
def State.resetAccepted (s : State) (n : Nat) : State :=
  let s0 := (s.inc32 (fx 0x1C)).setFox (fun x => { x with resets := setBit x.resets n true })
  let s1 := (List.range 8).foldl (fun t p =>
    if t.releases n p && t.inCode (2 * p) < 2 && t.inCode (2 * p + 1) < 2 then t.setPair p (fun y => { y with hold := false }) else t) s0
  let s2 := s1.setFox (fun x => { x with fns := (List.range 16).map (fun f =>
    let y := x.fns.getD f FoxFn.reset
    if y.st = 4 && s1.foxVal (0x63 + 8 * f) = n + 1 && !(s1.foxDemand f).1 then { y with st := 1 } else y) })
  if s.foxVal 8 = n then
    let s3 := (List.range 4).foldl (fun t i =>
      if supStatus t (4 + i) 8 then
        (t.putBit (supk (4 + i) 5) 8 false).setFox (fun x => { x with supTrial := setBit x.supTrial (4 + i) true })
      else t) s2
    s3.safeExit.foxSettle
  else s2.foxSettle

/-- RESET_PRESS: the falling edge after a press of `ms` milliseconds (R252). -/
def resetPress (n ms : Nat) (s : State) : State :=
  if !s.fox.powered || s.get (fx (0xE0 + n)) = 2 || 3000 < ms then s
  else if ms < 50 then s.inc32 (fx 0xE3)
  else s.resetAccepted n

/-- RESET_STUCK (R252). -/
def resetStuck (n : Nat) (s : State) : State :=
  if !s.fox.powered || s.get (fx (0xE0 + n)) = 2 then s
  else ((s.put (fx (0xE0 + n)) 2).inc32 (fx 0xE2)).foxSettle

/-- RESET_UNBLOCK: low for 1 s (R252). -/
def resetUnblock (n : Nat) (s : State) : State :=
  if s.fox.powered && s.get (fx (0xE0 + n)) = 2 then (s.put (fx (0xE0 + n)) 0).foxSettle else s

/-! ### Dark pulses (R253, R254) -/

/-- DARK_PULSE of group g: `ok` says that the mid-node was as expected, `counts` that no demand or request opened the
low side meanwhile. -/
def darkPulse (g : Nat) (ok counts : Bool) (s : State) : State :=
  if !s.fox.powered || s.tm.sched ≠ 25 * g + 5 then s
  else
    let c := 8 * g + Tbl.get 0 s.fox.rot g
    let s0 := s.setFox (fun x => { x with rot := Tbl.set 0 x.rot g ((Tbl.get 0 x.rot g + 1) % 8) })
    if !(bit s.fox.lines c) || !(bit (s.foxVal 0x19) c || bit (s.foxVal 0x1A) c) then s0
    else
      let cond := (s.och c).cond
      let s1 := s0.setOch c (fun x => { x with darkEnd := s.tm.mt + 20000 + 1000 * s.foxVal 0x1B + 1 })
      if !counts then s1
      else if cond then
        let n := if ok then 0 else Tbl.get 0 s.fox.unconf c + 1
        let s2 := s1.setFox (fun x => { x with unconf := Tbl.set 0 x.unconf c n })
        if 8 ≤ n then ((s2.setFox (fun x => { x with inhibit := setBit x.inhibit c true })).putBit (fx 0x1D) c true).foxSettle
        else s2
      else
        let n := if ok then 0 else Tbl.get 0 s.fox.susp c + 1
        let s2 := s1.setFox (fun x => { x with susp := Tbl.set 0 x.susp c n })
        if 2 ≤ n then (s2.putBit (fx 0x1D) c true).foxSettle else s2

/-! ### The cross-check (R17, R255 to R257) -/

/-- Demands as the processor path judges them, from what Foxglove last reported and its own requests (R257). -/
def State.procDemand (s : State) (f : Nat) : Bool × Bool :=
  let flt := bit s.fox.rep.fault f
  (bit s.fox.rep.demand f || flt || (bit (s.get (fx 0x0F)) f && bit (profVal s.profNow (0x65 + 8 * f)) 2), flt)

/-- The processor path's functions at one evaluation, with its own stop timers and the resets reported. -/
def State.procStep (s : State) (resets f : Nat) (x : FoxFn) : FoxFn :=
  let p := s.profNow
  let d := s.procDemand f
  let x1 := (fnEval p f d.1 d.2 s.tm.mt x).1
  let m := profVal p (0x63 + 8 * f)
  let x2 := if x1.st = 4 && m ≠ 0 && bit resets (m - 1) && !d.1 then { x1 with st := 1 } else x1
  if x2.st = 2 && x2.stopAt + profVal p (0x62 + 8 * f) * nsMs ≤ s.tm.mt + 1 then { x2 with st := 3 } else x2

/-- The processor path evaluates, and forms the expected mask 0x2700.0B (R257). -/
def State.procEval (s : State) (resets : Nat) : State :=
  let run := decide (s.fox.rep.state = fsACTIVE) || decide (s.fox.rep.state = fsSAFE)
  let s1 := if run then s.setFox (fun x => { x with pfns := (List.range 16).map (fun f =>
      s.procStep resets f (x.pfns.getD f FoxFn.reset)) }) else s
  s1.put (fx 0x0B) (permMask s1.profNow s1.fox.rep.state (s1.get (fx 0x1E)) s1.fox.rep.dark s1.fox.pfns)

/-- What Foxglove reports: function inputs as the processor path's profile reads them, SEAL included, findings, state. -/
def State.foxReport (s : State) : FoxRep :=
  let p := s.profNow
  let rs := (List.range 16).map (fun f => s.fnInputs p f)
  { demand := (List.range 16).foldl (fun a f => a + 2 ^ f * ofBool ((rs.getD f (false, false)).1 || s.fox.sealAll || bit s.fox.sealDiff f)) 0
    fault := (List.range 16).foldl (fun a f => a + 2 ^ f * ofBool (rs.getD f (false, false)).2) 0
    dark := s.get (fx 0x1D), inhibit := s.fox.inhibit, state := s.foxState, resets := s.fox.resets }

/-- Foxglove takes the message: requests, then the comparison of the masks (R255, R256). -/
def State.foxReceive (s : State) : State :=
  let s1 := (s.setFox (fun x => { x with withdraw := s.get (fx 0x1E), demand := s.get (fx 0x0F), miss := 0 })).foxSettle
  let run := s1.fox.powered && (decide (s1.foxState = fsACTIVE) || decide (s1.foxState = fsSAFE))
  if run && s1.get (fx 0x0B) ≠ s1.fox.lines then
    let n := s1.fox.mism + 1
    let s2 := s1.setFox (fun x => { x with mism := n, agree := 0, causeAt := if 3 ≤ n then s.tm.mt + 1 else x.causeAt })
    if n = 3 then (s2.inc32 (fx 0x0E)).foxSafe 1 else s2
  else s1.setFox (fun x => { x with mism := 0, agree := x.agree + 1 })

/-- The system die takes Foxglove's message (R17, R247, R256, R257). -/
def State.sysReceive (s : State) : State :=
  let was := s.fox.rep.state
  let r := s.foxReport
  let s1 := s.setFox (fun x => { x with rep := r, reported := x.lines, resets := 0 })
  let s2 := if r.state = fsACTIVE && was ≠ fsACTIVE then s1.setFox (fun x => { x with pfns := List.replicate 16 FoxFn.reset }) else s1
  let s3 := s2.procEval r.resets
  let bad := (List.range 16).find? (fun n => decide (2 ≤ s.inCode n))
  let s4 := s3.follow srcFOX_INPUT bad.isSome (match bad with | some n => n + 256 * s.inCode n | none => 0)
  s4.foxLevels

/-- EXCHANGE (R256): `ok` says that the messages of the frame arrived with good CRC and frame number, `sched` that
Foxglove's schedule counter and test-pulse phase agree with the capture fabric's (R67). -/
def exchange (ok sched : Bool) (s : State) : State :=
  if s.pwr.chip || s.dev = dsSTANDBY || !s.fox.alive then s
  else
    let s0 := s.procEval 0
    if !ok then s0.setFox (fun x => { x with miss := x.miss + 1, agree := 0
                                             causeAt := if 10 ≤ x.miss + 1 then s.tm.mt + 1 else x.causeAt })
    else
      let s1 := s0.foxReceive.sysReceive
      let s2 := if s1.foxStands then s1.setFox (fun x => { x with causeAt := s.tm.mt + 1 }) else s1
      let s3 := match s2.fox.xfer with
        | some (v, ver, n + 1) => s2.setFox (fun x => { x with xfer := some (v, ver, n) })
        | _ => s2
      if sched then s3 else (List.range 4).foldl (fun t i => t.setSup (4 + i) (fun x => { x with agree := 20 })) s3

/-- CROSS_CHECK_LINK_LOST: 10 messages missing (R256). -/
def crossCheckLinkLost (s : State) : State :=
  if s.fox.miss < 10 then s else (s.foxSafe 2).setFox (fun x => { x with reported := 0 })

/-- A write of 0x2700.0F (R255): it takes effect at the next Exchange phase. -/
def hDemand : Handler where
  consist := fun s v => (bitList 16 v.toNum).all (fun f => bit (s.get (fx (0x65 + 8 * f))) 2)
  cond := fun _ => true
  run := fun s _ v => (s.put (fx 0x0F) v.toNum, stOK)

/-! ### SAFE_SNS and the seal (R259, R260) -/

/-- SAFE_SNS_SAMPLE: the level on the 1 ms grid; `counts` is false within 20 µs of a change of the drive. -/
def safeSnsSample (high counts : Bool) (s : State) : State :=
  if !s.fox.alive || !counts then s
  else if s.safeAsserted then
    if high then
      let n := s.fox.snsRun + 1
      let s1 := (s.setFox (fun x => { x with snsRun := n })).putBit (fx 7) 1 false
      if 10 ≤ n then s1.follow srcFOX_PIN true 0 else s1
    else ((s.setFox (fun x => { x with snsRun := 0 })).putBit (fx 7) 1 false).follow srcFOX_PIN false 0
  else ((s.setFox (fun x => { x with snsRun := 0 })).putBit (fx 7) 1 (!high)).follow srcFOX_PIN false 0

/-- The accepted reading differs from the seal code of the active profile, in ACTIVE (R260). -/
def State.sealJudge (s : State) : State :=
  let bad := if s.foxState = fsACTIVE then s.fox.sealOk && decide (s.get (fx 6) ≠ s.foxVal 5) else s.fox.sealAll
  (s.setFox (fun x => { x with sealAll := bad })).foxSettle

/-- SEAL_READ: the switches read every 10 ms; accepted after 1 s unchanged (R260). -/
def sealRead (reading : Nat) (s : State) : State :=
  let r := reading % 65536
  if !s.fox.powered then s
  else if s.fox.sealAt = 0 || s.fox.sealRaw ≠ r then s.setFox (fun x => { x with sealRaw := r, sealAt := s.tm.mt + 1 })
  else if s.fox.sealAt + nsS ≤ s.tm.mt + 1 then ((s.put (fx 6) r).setFox (fun x => { x with sealOk := true })).sealJudge
  else s

/-- The seal reading matches a code: accepted, and unchanged within the last 1 s (R262). -/
def State.sealMatches (s : State) (code : Nat) : Bool :=
  s.fox.sealOk && decide (s.get (fx 6) = code) && decide (s.fox.sealRaw = s.get (fx 6)) &&
    decide (s.fox.sealAt + nsS ≤ s.tm.mt + 1)

/-! ### The two-party change (R261, R262) -/

def chSTAGING : Nat := 1
def chPENDING : Nat := 2
def chMISMATCH : Nat := 3
def State.chStatus (s : State) : Nat := s.get (fx 0x10)

/-- A SAFETY_CHANGE record; none stands for no CRED continuation (R300). -/
def State.chRecord (s : State) (step code flags : Nat) (w : Option Who) : State :=
  s.post 9 step (code % 65536) flags (match w with | some x => [s.credOfCont x] | none => [])

/-- The staged profile is gone, with the return or import it carried (R261, R432). -/
def State.dropStaged (s : State) (status : Nat) : State :=
  let s1 := (s.setFox (fun x => { x with staged := none, sealDiff := 0 })).put (fx 0x10) status
  let s2 := match s1.conf.waiting with
    | some _ => { s1 with conf := { s1.conf with waiting := none } }.put (ob 0x3000 8) 3
    | none => s1
  (s2.putB (fx 0x12) []).putB (fx 0x13) [] |>.foxSettle

/-- A change opens with a copy of a profile (R261 step 1, R432). -/
def State.openStaged (s : State) (w : Who) (vals : Tbl Nat) (ret : Option Nat) : State :=
  let ver := (s.get (fx 4) + 1) % 65536
  let g : StagedProf := ⟨vals, ver, w, (s.credOf w).2, 0, [], 0, ret⟩
  ((s.setFox (fun x => { x with staged := some g })).put (fx 0x10) chSTAGING).chRecord 1 ver 0 (some w)

/-- A write of 1 or 2 to 0x2700.11 (R261). -/
def hStaging : Handler := Handler.simple fun s w v =>
  match s.fox.staged with
  | some g => if v.toNum = 1 then (s, stBUSY) else ((s.dropStaged 6).chRecord 5 g.ver 0 (some w), stOK)
  | none => if v.toNum = 1 then (s.openStaged w s.profNow none, stOK) else (s, stOK)

/-- A write of an RWS object (R261 step 2). -/
def hRws (i sub : Nat) : Handler := Handler.simple fun s w v =>
  match s.fox.staged with
  | some g =>
    if s.chStatus ≠ chSTAGING || g.opener ≠ w || s.conf.waiting.isSome then (s, stBUSY)
    else
      let k := ob i sub
      let g' := { g with vals := Tbl.set (Dict.dflt k) g.vals k v.toNum }
      ((s.setFox (fun x => { x with staged := some g' })).chRecord 2 i sub (some w), stOK)
  | none => (s, stBUSY)

/-- The consistency checks at signing (R245, R249, R250): named channels are OFF channels, a named pair is in use and
named whole in modes 1 and 2. -/
def profileOk (p : Tbl Nat) : Bool :=
  (List.range 16).all (fun f =>
    let m := profVal p (0x60 + 8 * f)
    (List.range 64).all (fun n => !(bit (profVal p (0x64 + 8 * f)) n) || bit (profVal p 0x19) n) &&
    (List.range 8).all (fun q =>
      let b := bits m (2 * q) 2
      let mode := profVal p (0x20 + q)
      b = 0 || (mode ≠ 0 && (mode = 3 || b = 3))))

/-- Functions whose settings differ between two profiles, those of the inputs and pairs they name included (R262). -/
def fnDiff (a b : Tbl Nat) : Nat :=
  (List.range 16).foldl (fun acc f =>
    let own := (List.range 6).map (fun j => 0x60 + 8 * f + j)
    let ins := (bitList 16 (profVal a (0x60 + 8 * f) ||| profVal b (0x60 + 8 * f))).flatMap (fun n =>
      [0x40 + n, 0x20 + n / 2, 0x28 + n / 2, 0x30 + n / 2])
    acc + 2 ^ f * ofBool ((own ++ ins).any (fun j => decide (profVal a j ≠ profVal b j)))) 0

/-- A write to 0x2700.12: the write that completes the signature block signs (R261 step 3, R413). -/
def hSign : Handler := Handler.simple fun s w v =>
  match v, s.fox.staged with
  | .blk off data, some g =>
    if s.chStatus ≠ chSTAGING then (s, stBUSY)
    else
      let b := stageInto (s.getB (fx 0x12)) off data
      if b.length < 496 then (s.putB (fx 0x12) b, stOK)
      else
        let s1 := s.putB (fx 0x12) []
        if !(profileOk g.vals) then (s1, stRANGE)
        else
          let r := s1.signCheck w b (Config.sha384 (profBytes g.vals)) 3
          let c := bytesAt b 48 352
          let r2 := if r = 0 && g.opener ≠ .open_ && credSerial c ≠ g.serial then 13 else r
          if r2 ≠ 0 then (s1.authRefused r2 3 (s1.credOf w).2 w.sessionNo, stAUTH)
          else
            let g' := { g with signer := credSerial c, signerKey := credKey c, signedAt := s.tm.mt + 1 }
            let s2 := ((s1.setFox (fun x => { x with staged := some g' })).put (fx 0x10) chPENDING).put (fx 0x17) (credSerial c)
            (s2.chRecord 3 g.ver 0 (some w), stPENDING2)
  | _, _ => (s, stBUSY)

/-- The commit of a signed and countersigned profile (R262, R430, R432): sent to Foxglove block by block, and kept in a
new version; a return or import is loaded at the next frame. -/
def State.commitStaged (s : State) (g : StagedProf) (w : Who) : State :=
  let blocks := ((profBytes g.vals).length + 63) / 64
  let act := s.activeVer
  let s1 := s.setFox (fun x => { x with staged := none, sealDiff := 0, xfer := some (g.vals, g.ver, blocks) })
  let s2 := (s1.put (fx 0x10) 4).chRecord 7 g.ver 0 (some w)
  let s3 := match s2.conf.waiting with
    | some t =>
      let u := (s2.writeVersion t.origin t.parent t.vals t.blobs g.vals g.ver (s2.credOf w)).put (ob 0x3000 8) 2
      { u with conf := { u.conf with waiting := none, load := some u.activeVer } }
    | none => s2.writeVersion 2 act.num act.vals act.blobs g.vals g.ver (s2.credOf w)
  s3.follow srcCFG_LOAD false 0

/-- A write to 0x2700.13 (R261 step 4, R262, R413). -/
def hCounter : Handler := Handler.simple fun s w v =>
  match v, s.fox.staged with
  | .blk off data, some g =>
    if s.chStatus ≠ chPENDING && s.chStatus ≠ chMISMATCH then (s, stBUSY)
    else if g.signedAt + 600 * nsS ≤ s.tm.mt + 1 then ((s.dropStaged 5).chRecord 6 g.ver 0 none, stBUSY)
    else
      let b := stageInto (s.getB (fx 0x13)) off data
      if b.length < 496 then (s.putB (fx 0x13) b, stOK)
      else
        let s1 := s.putB (fx 0x13) []
        let c := bytesAt b 48 352
        let r := s1.signCheck w b (Config.sha384 (profBytes g.vals)) 4
        let r2 := if r = 0 && (credSerial c = g.signer || credKey c = g.signerKey) then 11 else r
        if r2 ≠ 0 then (s1.authRefused r2 4 (s1.credOf w).2 w.sessionNo, stAUTH)
        else
          let s2 := s1.chRecord 4 g.ver 0 (some w)
          if s2.sealMatches (profVal g.vals 5) then ((s2.commitStaged g w).foxSettle, stOK)
          else
            let s3 := (s2.setFox (fun x => { x with sealDiff := fnDiff x.prof g.vals })).put (fx 0x10) chMISMATCH
            ((s3.foxSettle).chRecord 8 g.ver 0 (some w), stSEAL)
  | _, _ => (s, stBUSY)

/-- CHANGE_EXPIRE: 600 s after the signature (R261). -/
def changeExpire (s : State) : State :=
  match s.fox.staged with
  | some g =>
    if (s.chStatus = chPENDING || s.chStatus = chMISMATCH) && g.signedAt + 600 * nsS ≤ s.tm.mt + 1 then
      (s.dropStaged 5).chRecord 6 g.ver 0 none
    else s
  | none => s

/-- Seconds left for a countersignature, 0x2700.16. -/
def State.chLeft (s : State) : Nat :=
  match s.fox.staged with
  | some g => if s.chStatus = chPENDING || s.chStatus = chMISMATCH then
      (g.signedAt + 600 * nsS - (s.tm.mt + 1) + nsS - 1) / nsS else 0
  | none => 0

/-- A reset, a power-down or standby discards an open change (R261): standby records it at once, the others leave the
record to START. -/
def State.loseChange (s : State) (standby : Bool) : State :=
  match s.fox.staged with
  | some g =>
    let s1 := s.dropStaged 6
    if standby then s1.chRecord 5 g.ver 0 none else s1.setFox (fun x => { x with lostChange := some g.ver })
  | none => s

/-- A profile comes into force on both paths: the objects, Foxglove's copy, changed pairs and functions (R262). -/
def State.applyProfile (s : State) (vals : Tbl Nat) (ver : Nat) : State :=
  let old := s.fox.prof
  let d := fnDiff old vals
  let s1 := rwsKeys.foldl (fun t k => t.put k (Tbl.get (Dict.dflt k) vals k)) s
  let s2 := ((s1.put (fx 4) ver).put (fx 3) (profCrc vals)).setFox (fun x => { x with
    prof := vals, profDiff := false, xfer := none
    pfns := (List.range 16).map (fun f => if bit d f then FoxFn.reset else x.pfns.getD f FoxFn.reset) })
  let s3 := (List.range 8).foldl (fun t p =>
    if [0x20, 0x28, 0x30].any (fun j => decide (profVal old (j + p) ≠ profVal vals (j + p))) then t.pairInit p else t.pairUpdate p) s2
  (s3.fnRestart d).sealJudge

/-- PROFILE_TRANSFER_DONE: the last block has been sent (R262). -/
def profileTransferDone (crcOk : Bool) (s : State) : State :=
  match s.fox.xfer with
  | some (vals, ver, 0) =>
    if crcOk then (s.follow srcFOX_PROFILE false 0).applyProfile vals ver
    else (s.setFox (fun x => { x with xfer := none })).follow srcFOX_PROFILE true 0
  | _ => s

def execExchange (ok sched : Bool) (s : State) : Host.Outcome State Fault Refusal := .next (exchange ok sched s)
def execCrossCheckLinkLost (s : State) : Host.Outcome State Fault Refusal := .next (crossCheckLinkLost s)
def execTimebaseDeviation (beyond : Bool) (s : State) : Host.Outcome State Fault Refusal := .next (timebaseDeviation beyond s)
def execRailDisagreement (s : State) : Host.Outcome State Fault Refusal := .next (railDisagreement s)
def execFoxgloveRegulatorFault (dropout : Bool) (s : State) : Host.Outcome State Fault Refusal :=
  .next (foxRegulatorFault dropout s)
def execFoxgloveRegulatorRecover (s : State) : Host.Outcome State Fault Refusal := .next (foxRegulatorRecover s)
def execSafetyInputChange (n : Fin 16) (high : Bool) (s : State) : Host.Outcome State Fault Refusal :=
  .next (safetyInputChange n.val high s)
def execInputPulseCheck (n : Fin 16) (sup : Fin 4) (fail : Bool) (s : State) : Host.Outcome State Fault Refusal :=
  .next (inputPulseCheck n.val (4 + sup.val) fail s)
def execSupplyPulseCheck (sup : Fin 4) (fail : Bool) (s : State) : Host.Outcome State Fault Refusal :=
  .next (supplyPulseCheck (4 + sup.val) fail s)
def execDiscrepancy (p : Fin 8) (s : State) : Host.Outcome State Fault Refusal := .next (discrepancy p.val s)
def execStopDelayExpire (f : Fin 16) (s : State) : Host.Outcome State Fault Refusal := .next (stopDelayExpire f.val s)
def execResetPress (n : Fin 2) (ms : Nat) (s : State) : Host.Outcome State Fault Refusal := .next (resetPress n.val ms s)
def execResetStuck (n : Fin 2) (s : State) : Host.Outcome State Fault Refusal := .next (resetStuck n.val s)
def execResetUnblock (n : Fin 2) (s : State) : Host.Outcome State Fault Refusal := .next (resetUnblock n.val s)
def execDarkPulse (g : Fin 8) (ok counts : Bool) (s : State) : Host.Outcome State Fault Refusal :=
  .next (darkPulse g.val ok counts s)
def execDemandRequestWrite (who : Who) (v : Nat) (s : State) : Host.Outcome State Fault Refusal :=
  .next (s.request who 0x2700 0x0F (.num v) hDemand)
def execSafeSnsSample (high counts : Bool) (s : State) : Host.Outcome State Fault Refusal := .next (safeSnsSample high counts s)
def execSealRead (reading : Nat) (s : State) : Host.Outcome State Fault Refusal := .next (sealRead reading s)
def execStagingOpen (who : Who) (s : State) : Host.Outcome State Fault Refusal :=
  .next (s.request who 0x2700 0x11 (.num 1) hStaging)
def execStagingDiscard (who : Who) (s : State) : Host.Outcome State Fault Refusal :=
  .next (s.request who 0x2700 0x11 (.num 2) hStaging)
def execRwsEdit (who : Who) (k v : Nat) (s : State) : Host.Outcome State Fault Refusal :=
  .next (if rwsKeys.contains k then s.request who (k / 256) (k % 256) (.num v) (hRws (k / 256) (k % 256)) else s.answer stUNKNOWN 0 [])
def execSign (who : Who) (off : Nat) (data : List Byte) (s : State) : Host.Outcome State Fault Refusal :=
  .next (s.request who 0x2700 0x12 (.blk off data) hSign)
def execCountersign (who : Who) (off : Nat) (data : List Byte) (s : State) : Host.Outcome State Fault Refusal :=
  .next (s.request who 0x2700 0x13 (.blk off data) hCounter)
def execChangeExpire (s : State) : Host.Outcome State Fault Refusal := .next (changeExpire s)
def execProfileTransferDone (crcOk : Bool) (s : State) : Host.Outcome State Fault Refusal := .next (profileTransferDone crcOk s)
def execFoxgloveSelftest (pass : Bool) (s : State) : Host.Outcome State Fault Refusal := .next (foxSelftest pass s)
def execFoxgloveProfileVerified (crcOk : Bool) (s : State) : Host.Outcome State Fault Refusal :=
  .next (foxProfileVerified crcOk s)

end Sys2Proof.Machine
end

