-- ==== Sys2Proof/Machine/Dictionary.lean ====
section
/-! DEFINITION. The process-image map, the application-defined objects and the roles of the partitions' ports
(R26, R327 to R332): what an apply checks and what it leaves. -/

namespace Sys2Proof.Machine

open Sys2Proof

/-- Objects of the module that an output entry may name: those whose chapters map them (R97, R159, R182). -/
def mapOutObj (i sub : Nat) : Bool :=
  (within 0x2500 0x255F i && (sub = 0x0E || sub = 0x0F || sub = 0x19)) || (i = 0x2200 && (sub = 2 || sub = 3)) ||
    (i = 0x2400 && (sub = 0xA1 || sub = 0xA2 || sub = 0xA9 || sub = 0xAA))

/-- MAP_IN: every readable object of a fixed size, and what the application table marks (R316, R332). -/
def State.mayMapIn (s : State) (i sub : Nat) : Bool :=
  match s.app i sub with
  | some a => a.mapIn
  | none => match s.descOf i sub with
    | some d => d.typ.isFixed && decide (d.acc ≠ .wo) && decide (d.acc ≠ .rws)
    | none => false

/-- MAP_OUT. -/
def State.mayMapOut (s : State) (i sub : Nat) : Bool :=
  match s.app i sub with
  | some a => a.mapOut
  | none => mapOutObj i sub

def State.sizeOf (s : State) (e : MapEnt) : Nat := match s.descOf e.idx e.sub with | some d => d.typ.bytes | none => 0

/-- The role that 0x1410 gives partition p. -/
def State.partRole (s : State) (p : Nat) : Role := Role.ofCode (s.get (ob 0x1410 (1 + p)))

/-- What one entry must satisfy, given the entries before it (R3, R327, R328). -/
def State.mapEntOk (s : State) (before : List MapEnt) (e : MapEnt) : Bool :=
  match s.descOf e.idx e.sub with
  | none => false
  | some d =>
    let n := d.typ.bytes
    let same := before.filter (fun b => decide (b.dir = e.dir))
    decide (e.dir ≤ 1) && decide (e.rest = 0) && decide (e.mode ≤ e.dir) &&
      d.typ.isFixed && decide (d.acc ≠ .rws) &&
      (if e.dir = 0 then s.mayMapIn e.idx e.sub && decide (e.owner = 0xFF)
        else s.mayMapOut e.idx e.sub && decide (e.owner ≤ 2) && (s.partRole e.owner).mayWrite d.wrole) &&
      decide (e.off % n = 0) && decide (0x2000 ≤ e.off) && decide (e.off + n ≤ 0x40000) &&
      same.all (fun b => decide (b.off + s.sizeOf b ≤ e.off) || decide (e.off + n ≤ b.off)) &&
      (e.dir = 0 || same.all (fun b => decide (b.idx ≠ e.idx) || decide (b.sub ≠ e.sub)))

/-- The first entry of a list that fails its check. -/
def firstBad {α : Type} (ok : List α → α → Bool) : List α → List α → Nat → Option Nat
  | _, [], _ => none
  | before, e :: rest, k => if ok before e then firstBad ok (before ++ [e]) rest (k + 1) else some k

/-- The header's COUNT, reserved bytes and CRC (R327). -/
def mapHeadOk (m : List Byte) : Bool :=
  let n := mapCount m
  decide (n ≤ 2048) && decide (m.length = 16 + 16 * n) && decide (fieldAt m 2 10 = 0) &&
    decide (fieldAt m 12 4 = crc32 (m.drop 16))

/-- MAP_APPLY (R328): the failure is 0xFFFF for the header; an accepted map is in force from tick 0 of the next frame. -/
def hMapApply : Handler := Handler.simple fun s _ _ =>
  let m := s.getB (ob 0x1300 3)
  if !(mapHeadOk m) then (s.put (ob 0x1300 6) 0xFFFF, stRANGE)
  else match firstBad s.mapEntOk [] (mapEntries m) 0 with
    | some k => (s.put (ob 0x1300 6) k, stRANGE)
    | none =>
      let s1 := (s.put (ob 0x1300 6) 0xFFFF).putB (ob 0x1300 3) []
      ({ s1 with img := { s1.img with newMap := some m } }.touched, stOK)

/-- The map takes force: the counts of its entries start at 0, and every output entry's next take is a first one. -/
def State.putMap (s : State) (m : List Byte) : State :=
  let s1 := ((s.putB (ob 0x1300 0x83) m).put (ob 0x1300 4) (mapCount m)).putB (ob 0x1300 7) []
  { s1 with img := { s1.img with newMap := none, once := [] } }

/-! ### Application-defined objects (R332) -/

/-- The 32 bytes of one entry as an object. -/
def appOf (e : List Byte) : Option AppObj :=
  match Typ.ofCode (fieldAt e 3 1) with
  | none => none
  | some t =>
    let acc := fieldAt e 4 1
    let lo := fieldAt e 8 8
    let hi := fieldAt e 0x10 8
    let fl := fieldAt e 7 1
    let rng : Rng := match t with
      | .f32 => .f32 [(lo % 2 ^ 32, hi % 2 ^ 32)]
      | _ => if t.isSigned then .ints [(signed 64 lo, signed 64 hi)] else .ints [((lo : Int), (hi : Int))]
    let dv := fieldAt e 0x18 8 % 2 ^ (8 * t.bytes)
    let role := Role.ofCode (fieldAt e 5 1)
    some { idx := fieldAt e 0 2, mapIn := bit fl 0, mapOut := bit fl 1
           desc := { sub := fieldAt e 2 1, name := "", typ := t, acc := if acc = 1 then .ro else if acc = 2 then .rw else .wo
                     dflt := dv, rng := rng, wrole := role, rrole := if acc = 3 then .none else .any
                     states := fieldAt e 6 1, kind := if bit fl 2 then .stored else .volatile, size := t.bytes } }

/-- The values MIN, MAX and DEFAULT are values of the type, DEFAULT in range. -/
def appValsOk (e : List Byte) (a : AppObj) : Bool :=
  let n := 8 * a.desc.typ.bytes
  let fits (v : Nat) : Bool :=
    if a.desc.typ.isSigned then decide (-(2 ^ (n - 1) : Int) ≤ signed 64 v) && decide (signed 64 v < 2 ^ (n - 1))
    else if a.desc.typ = .f32 then decide (v < 2 ^ 32) && fmt32.finite v
    else if a.desc.typ = .bool then decide (v ≤ 1) else decide (v < 2 ^ n)
  fits (fieldAt e 8 8) && fits (fieldAt e 0x10 8) && fits (fieldAt e 0x18 8) && inRange a.desc a.desc.dflt

/-- What one entry of the table must satisfy, given the entries before it. -/
def appEntOk (before : List (List Byte)) (e : List Byte) : Bool :=
  match appOf e with
  | none => false
  | some a =>
    decide (e.length = 32) && within 0x4000 0x7FFF a.idx && within 1 3 (fieldAt e 4 1) && [0, 1, 2, 5].contains (fieldAt e 5 1) &&
      decide (fieldAt e 6 1 < 128) && decide (fieldAt e 7 1 < 8) && appValsOk e a &&
      before.all (fun b => decide (fieldAt b 0 3 ≠ fieldAt e 0 3))

/-- The entries of a table; `n` bounds them. -/
def appChunks : Nat → List Byte → List (List Byte)
  | 0, _ => []
  | n + 1, l => if l = [] then [] else l.take 32 :: appChunks n (l.drop 32)

/-- Objects in ascending order of index and subindex. -/
def insApp (a : AppObj) : List AppObj → List AppObj
  | [] => [a]
  | b :: rest => if ob a.idx a.desc.sub ≤ ob b.idx b.desc.sub then a :: b :: rest else b :: insApp a rest

def appsOf (t : List Byte) : List AppObj := ((appChunks 2048 t).filterMap appOf).foldr insApp []

/-- APP_TABLE_APPLY: in force from tick 0 of the next frame (R321, R332). -/
def hAppApply : Handler := Handler.simple fun s _ _ =>
  let t := s.getB (ob 0x1300 9)
  match firstBad appEntOk [] (appChunks 2048 t) 0 with
  | some k => (s.put (ob 0x1300 6) k, stRANGE)
  | none =>
    let s1 := (s.put (ob 0x1300 6) 0xFFFF).putB (ob 0x1300 9) []
    ({ s1 with img := { s1.img with newApps := some t } }.touched, stOK)

/-- The table takes force, with every object at its DEFAULT. -/
def State.putApps (s : State) (t : List Byte) : State :=
  let s0 := s.apps.foldl (fun u a => u.put (ob a.idx a.desc.sub) 0) s
  let l := appsOf t
  let s1 := ({ s0 with apps := l, img := { s0.img with newApps := none } }.putB (ob 0x1300 0x89) t).put (ob 0x1300 2) l.length
  l.foldl (fun u a => u.put (ob a.idx a.desc.sub) a.desc.dflt) s1

/-- What waits for tick 0 takes force there: the application table before the map that may name its objects. -/
def State.mapSeal (s : State) : State :=
  let s1 := match s.img.newApps with | some t => s.putApps t | none => s
  match s1.img.newMap with | some m => s1.putMap m | none => s1

/-- A write of 0x1410.01 to 0x1410.03: not below the WRITE_ROLE of an output entry that the partition owns (R26, R331). -/
def hPortRole (sub : Nat) : Handler where
  consist := fun s v => (mapEntries s.mapInForce).all (fun e =>
    e.dir = 0 || decide (e.owner + 1 ≠ sub) || (match s.descOf e.idx e.sub with | some d => (Role.ofCode v.toNum).mayWrite d.wrole | none => true))
  cond := fun _ => true
  run := fun s _ v => (s.put (ob 0x1410 sub) v.toNum, stOK)

def execMapApply (who : Who) (s : State) : Host.Outcome State Fault Refusal :=
  .next (s.request who 0x1300 5 (.num 1) hMapApply)
def execAppTableApply (who : Who) (s : State) : Host.Outcome State Fault Refusal :=
  .next (s.request who 0x1300 0x0A (.num 1) hAppApply)

end Sys2Proof.Machine
end

