-- ==== Sys2Proof/Machine/Security.lean ====
section
/-! DEFINITION. Sessions and their handshake, anchors, members, revocation, attestation and the debug port
(R400 to R425). -/

namespace Sys2Proof.Machine

open Sys2Proof

/-- `n` random bytes at State's counter. -/
def State.rand (s : State) (n : Nat) : List Byte := le n s.freeVal

/-- A list cut or filled with zeros to `n` bytes. -/
def fixLen (n : Nat) (l : List Byte) : List Byte := (l ++ List.replicate (n - l.length) (0 : Byte)).take n

def sk2F (sub : Nat) : Nat := ob 0x2F00 sub

/-- The bytes of a quoted label. -/
def ascii (t : String) : List Byte := t.toList.map (fun c => BitVec.ofNat 8 c.toNat)

/-! ### The end of a session (R411) -/

/-- A session ends: its subscriptions and tests end with it, and the record carries the code (R194, R343, R424); code 0
writes none. -/
def State.endSession (s : State) (n code : Nat) : State :=
  match s.session n with
  | none => s
  | some x =>
    let s1 := { s with
      sec := { s.sec with
        sessions := s.sec.sessions.filter (fun y => decide (y.num ≠ n))
        gone := s.sec.gone.filter (fun (y : Session) => decide (y.num ≠ n) && s.ucp.outq.any (fun i => decide (i.pkt.session = y.num))) ++ [x] }
      ucp := { s.ucp with
        subs := s.ucp.subs.filter (fun u => !(decide (u.session = n)))
        spaces := s.ucp.spaces.filter (fun (t : TagSpace) => decide (t.space ≠ Space.session n)) } }
    let s2 := (s1.put (ob 0x1100 1) s1.sec.sessions.length).put (ob 0x2E00 0x0E) s1.ucp.subs.length
    let s3 := s2.abortTests (fun w => decide (w = Who.session n))
    if code = 0 then s3 else s3.secRecord 2 code x.role x.serial n []

def State.endSessions (s : State) (which : Session → Bool) (code : Nat) : State :=
  (s.sec.sessions.filter which).foldl (fun t x => t.endSession x.num code) s

/-- A chip reset or a power-down ends every session and handshake, without a record (R411). -/
def State.dropSessions (s : State) : State :=
  let s1 := s.endSessions (fun _ => true) 0
  { s1 with sec := { s1.sec with gone := [], shakes := [], fails := [], locked := [] } }

/-! ### The handshake (R409 to R412) -/

/-- The source address that R412 counts by. -/
def Route.source : Route → Route
  | .can _ n => .can 0 n
  | r => r

def State.lockedOut (s : State) (r : Route) : Bool :=
  s.sec.locked.any (fun p => decide (p.1 = r.source) && decide (s.tm.mt < p.2 + 60 * nsS))

/-- An AUTH_FAILED refusal of the handshake: counted and recorded, and the fifth within 60 s locks the source out
(R412, R424). -/
def State.shakeRefused (s : State) (r : Route) (reason role serial : Nat) : State :=
  let s1 := s.authRefused reason role serial 0
  if reason = 9 then s1
  else
    let l := (s1.sec.fails.filter (fun p => decide (s.tm.mt < p.2 + 60 * nsS))) ++ [(r.source, s.tm.mt)]
    let mine := l.filter (fun p => decide (p.1 = r.source))
    if 5 ≤ mine.length then
      let s2 := { s1 with sec := { s1.sec with
        fails := l.filter (fun p => !(decide (p.1 = r.source)))
        locked := s1.sec.locked.filter (fun (p : Route × Nat) => !(decide (p.1 = r.source))) ++ [(r.source, s.tm.mt)] } }
      let s3 := s2.inc32 (ob 0x1100 7)
      (s3.raise srcSEC_AUTH 0).secRecord 4 (s3.get (ob 0x1100 7)) role serial 0 []
    else { s1 with sec := { s1.sec with fails := l } }

/-- The requested role is the credential's or one below it on the ladder; the safety roles exactly (R409). -/
def roleFits (kind role : Nat) : Bool :=
  decide (kind ≤ 5) && decide (role ≤ 5) &&
    (if kind = 3 || kind = 4 || role = 3 || role = 4 then decide (kind = role)
      else decide ((Role.ofCode role).ladder ≤ (Role.ofCode kind).ladder))

/-- The first session number from a draw on that is not 0 and not in use; `n` bounds the search. -/
def State.freeSession (s : State) : Nat → Nat → Nat
  | 0, v => 1 + v % 0xFFFFFFFF
  | n + 1, v =>
    let c := 1 + v % 0xFFFFFFFF
    if s.sec.sessions.any (fun x => decide (x.num = c)) || s.sec.shakes.any (fun x => decide (x.num = c)) then s.freeSession n (v + 1)
    else c

/-- The security engine opens sessions and signs (R400). -/
def State.rootGood (s : State) : Bool := decide (s.get (sk2F 0x1D) = 0)

/-- The transcript hash T (R409). -/
def transcript (hello ephM nonceM : List Byte) (n : Nat) : List Byte := Config.sha384 (hello ++ ephM ++ nonceM ++ le 4 n)

/-- HELLO: the status, the AUX and the payload of its answer (R409, R411, R412). -/
def State.hello (s : State) (r : Route) (src : Nat) (data : List Byte) : State × Nat × Nat × List Byte :=
  let c := bytesAt data 132 352
  let role := fieldAt data 129 1
  if data.length ≠ 484 then (s, stTYPE, 0, [])
  else if fieldAt data 130 2 ≠ 0 then (s, stRANGE, 0, [])
  else if s.lockedOut r then (s.shakeRefused r 9 role (credSerial c), stAUTH, 9, [])
  else if !s.rootGood || 16 ≤ s.sec.sessions.length || 4 ≤ s.sec.shakes.length then (s, stBUSY, 0, [])
  else
    let why := s.credCheck c (fun k => roleFits k role) true
    if why ≠ 0 then (s.shakeRefused r why role (credSerial c), stAUTH, why, [])
    else
      let priv := s.freeVal
      let s1 := s.useFree
      let nonce := s1.rand 32
      let s2 := s1.useFree
      let n := s2.freeSession 21 s2.freeVal
      let s3 := s2.useFree
      let eph := le 97 (Config.publicPoint priv)
      let h : Handshake := ⟨n, src, data, priv, eph, nonce, credSerial c, credIssuer c, credKind c, credUntil c, role, r, s.tm.mt⟩
      let t := transcript data eph nonce n
      ({ s3 with sec := { s3.sec with shakes := s3.sec.shakes ++ [h] } }, stOK, n,
        eph ++ nonce ++ le 3 0 ++ fixLen 352 Config.deviceCred ++ le 96 (Config.identitySign t))

/-- The lowest free place in the session table. -/
def State.freeSlot (s : State) : Nat :=
  ((List.range 16).find? (fun i => !(s.sec.sessions.any (fun x => decide (x.slot = i))))).getD 0

/-- FINISH: SIG_H over SHA-384(T ‖ "FINISH"), and the session is live (R409, R410). -/
def State.finish (s : State) (n : Nat) (data : List Byte) : State × Nat × Nat × List Byte :=
  match s.sec.shakes.find? (fun h => decide (h.num = n) && decide (s.tm.mt < h.at_ + 5 * nsS)) with
  | none => (s, stSESSION, 0, [])
  | some h =>
    if data.length ≠ 96 then (s, stTYPE, 0, [])
    else if 16 ≤ s.sec.sessions.length then (s, stBUSY, 0, [])
    else
      let s1 := { s with sec := { s.sec with shakes := s.sec.shakes.filter (fun x => decide (x.num ≠ n)) } }
      let t := transcript h.hello h.ephM h.nonceM n
      if !(Config.ecdsaOk (credKey (bytesAt h.hello 132 352)) (Config.sha384 (t ++ ascii "FINISH")) data) then
        (s1.shakeRefused h.route 10 h.role h.serial, stAUTH, 10, [])
      else
        let key := le 32 (Config.hkdf (Config.ecdh h.priv (h.hello.take 97)) (bytesAt h.hello 97 32 ++ h.nonceM)
          (ascii "UCP-SESSION" ++ le 4 n ++ t))
        let x : Session := ⟨n, s1.freeSlot, h.src, key, h.serial, h.issuer, h.kind, h.notAfter, h.role, h.route, s.tm.mt, s.tm.mt, none, [], 0⟩
        let s2 := { s1 with sec := { s1.sec with sessions := s1.sec.sessions ++ [x] } }
        ((s2.put (ob 0x1100 1) s2.sec.sessions.length).secRecord 1 h.role h.role h.serial n [], stOK, 0, [])

/-- CLOSE (R411). -/
def State.close (s : State) (n : Nat) : State × Nat × Nat × List Byte :=
  match s.session n with
  | none => (s, stSESSION, 0, [])
  | some _ => (s.endSession n 1, stOK, 0, [])

/-- The attestation report without its signature (R416). -/
def State.attestBody (s : State) (nonce : List Byte) : List Byte :=
  let slot := s.get (ob 0x1020 1)
  let flags := ofBool (decide (s.get (ob 0x1000 9) ≠ 0)) + 2 * ofBool (decide (s.get (sk2F 0x18) = 1)) +
    4 * ofBool s.upd.fallback + 8 * ofBool s.pwr.bootHold
  le 4 serialNo ++ le 4 (s.get (ob 0x1000 7)) ++ le 2 (s.get (ob 0x1000 8)) ++ le 1 s.dev ++ le 1 flags ++ le 1 slot ++ le 3 0 ++
    le 4 (s.get (ob 0x1020 (5 + 2 * slot))) ++ le 4 (s.get (ob 0x1020 (6 + 2 * slot))) ++ le 4 (s.get (ob 0x1020 9)) ++
    le 4 (s.get (ob 0x1020 0x0A)) ++ le 48 (Config.slotHash slot (s.get (ob 0x1000 7))) ++ le 4 (s.get (ob 0x3000 1)) ++
    le 2 (s.get (ob 0x2700 4)) ++ le 2 0 ++ le 4 (s.get (ob 0x2700 3)) ++ le 4 0 ++
    s.verHash s.activeVer ++ le 8 s.tm.mt ++ fixLen 32 nonce

/-- ATTEST (R400, R416). -/
def State.attest (s : State) (nonce : List Byte) : State × Nat × Nat × List Byte :=
  if nonce.length ≠ 32 then (s, stTYPE, 0, [])
  else if !s.rootGood then (s, stBUSY, 0, [])
  else
    let b := s.attestBody nonce
    (s, stOK, 0, b ++ le 96 (Config.identitySign (Config.sha384 b)))

/-- An answer of the engine to a command that no packet carries; in STANDBY nothing happens (R409). -/
def State.reply (s : State) (f : State → State × Nat × Nat × List Byte) : State :=
  if s.dev = dsSTANDBY then s.answer stSilent 0 []
  else
    let r := f s
    r.1.answer r.2.1 r.2.2.1 r.2.2.2

/-- HANDSHAKE_TIMEOUT (R411). -/
def handshakeTimeout (n : Nat) (s : State) : State :=
  { s with sec := { s.sec with shakes := s.sec.shakes.filter (fun h => !(decide (h.num = n) && decide (h.at_ + 5 * nsS ≤ s.tm.mt))) } }

/-- SESSION_IDLE_TIMEOUT and SESSION_LIFETIME_END (R411). -/
def sessionIdle (n : Nat) (s : State) : State :=
  match s.session n with
  | some x => if x.lastUse + s.cfg (ob 0x1100 3) * nsS ≤ s.tm.mt then s.endSession n 2 else s
  | none => s
def sessionLifetime (n : Nat) (s : State) : State :=
  match s.session n with
  | some x => if x.opened + s.cfg (ob 0x1100 4) * 60 * nsS ≤ s.tm.mt then s.endSession n 3 else s
  | none => s

/-- The time floor rises to the highest GNSS time seen in LOCKED or NETWORK (R406). -/
def State.raiseFloor (s : State) : State :=
  if s.timeState = 1 || s.timeState = 4 then
    let g := s.gnssNow.toNat
    if s.get (ob 0x1100 8) < g then s.put (ob 0x1100 8) g else s
  else s

/-- The credential of a session has expired: its own NOT_AFTER or its anchor's (R405, R406). -/
def State.sessionExpired (s : State) (x : Session) : Bool :=
  s.pastEnd x.notAfter || (match s.anchorCred x.issuer with | some a => s.pastEnd (credUntil a) | none => false)

def timerMinute : Nat := 0x300

/-- CREDENTIAL_EXPIRY_CHECK, once a minute (R406, R411). -/
def expiryCheck (s : State) : State :=
  if !(s.timerOn timerMinute) || s.timerPast timerMinute (60 * nsS) then
    let s1 := (s.startTimer timerMinute).raiseFloor
    s1.endSessions s1.sessionExpired 7
  else s

/-- END_SESSION (R411). -/
def hEndSession : Handler where
  consist := fun s v => (s.session v.toNum).isSome
  cond := fun _ => true
  run := fun s _ v => (s.endSession v.toNum 5, stOK)

/-- LOCKOUT_END (R412). -/
def lockoutEnd (r : Route) (s : State) : State :=
  { s with sec := { s.sec with locked := s.sec.locked.filter (fun p => !(decide (p.1 = r.source) && decide (p.2 + 60 * nsS ≤ s.tm.mt))) } }

/-! ### Lists (R407, R408, R417) -/

/-- An apply is refused for a reason of R405. -/
def State.applyRefused (s : State) (w : Who) (reason entry : Nat) : State × Nat :=
  ((s.put (sk2F 0x0B) entry).authRefused reason (s.credOf w).1 (s.credOf w).2 w.sessionNo, stAUTH)

def serialsOf : Nat → List Byte → List Nat
  | 0, _ => []
  | n + 1, l => fieldAt l 0 4 :: serialsOf n (l.drop 4)

/-- REVOCATION_APPLY (R407). -/
def hRevocation : Handler := Handler.simple fun s w _ =>
  let l := s.getB (sk2F 9)
  let n := fieldAt l 8 2
  let iss := fieldAt l 0 4
  let ver := fieldAt l 4 4
  let len := 16 + 4 * n
  let held := s.sec.revoked.find? (fun r => decide (r.1 = iss))
  if 256 < n || l.length ≠ len + 96 || fieldAt l 10 6 ≠ 0 then s.applyRefused w 1 0xFFFF
  else match s.issuerKey iss with
    | none => s.applyRefused w 2 0xFFFF
    | some key =>
      if !(Config.ecdsaOk key (Config.sha384 (l.take len)) (bytesAt l len 96)) then s.applyRefused w 3 0xFFFF
      else if (match held with | some r => decide (ver ≤ r.2.1) | none => false) then s.applyRefused w 1 0xFFFF
      else
        let serials := serialsOf n (l.drop 16)
        let s1 := { s with sec := { s.sec with revoked := s.sec.revoked.filter (fun (r : Nat × Nat × List Nat) => decide (r.1 ≠ iss)) ++ [(iss, ver, serials)] } }
        let s2 := (s1.putB (sk2F 9) []).put (sk2F 0x0B) 0xFFFF
        let s3 := s2.secRecord 6 2 (s.credOf w).1 (s.credOf w).2 w.sessionNo []
        let s4 := s3.endSessions (fun x => decide (x.issuer = iss) && serials.contains x.serial) 6
        (match s4.fox.staged with
          | some g => if g.signer ≠ 0 && serials.contains g.signer then
              (s4.dropStaged 6).chRecord 5 g.ver 0 (some w) else s4
          | none => s4, stOK)

/-- ANCHOR_APPLY (R405, R408). -/
def hAnchors : Handler := Handler.simple fun s w _ =>
  let l := fixLen 1408 (s.getB (sk2F 3))
  let es := (List.range 4).map (fun i => bytesAt l (352 * i) 352)
  let full := (List.range 4).filter (fun i => decide ((es.getD i []).any (fun b => decide (b ≠ 0))))
  let why (i : Nat) : Nat := s.credCheck (es.getD i []) (fun k => decide (k = 0x10)) true
  match full.find? (fun i => decide (why i ≠ 0)) with
  | some i => s.applyRefused w (why i) i
  | none =>
    let serials := full.map (fun i => credSerial (es.getD i []))
    let own := match w with
      | .session n => (match s.session n with | some x => decide (x.issuer = 0) || serials.contains x.issuer | none => true)
      | _ => true
    if !own then (s, stRANGE)
    else
      let s1 := ((s.putB (sk2F 0x83) l).putB (sk2F 3) []).put (sk2F 0x0B) 0xFFFF
      let s2 := { s1 with sec := { s1.sec with anchors := serials } }
      let s3 := s2.secRecord 5 serials.length (s.credOf w).1 (s.credOf w).2 w.sessionNo []
      (s3.endSessions (fun x => decide (x.issuer ≠ 0) && !(serials.contains x.issuer)) 6, stOK)

/-- MEMBER_LIST_APPLY (R417). -/
def hMembers : Handler := Handler.simple fun s w _ =>
  let l := s.getB (sk2F 5)
  let n := (l.length + 351) / 352
  let e (i : Nat) : List Byte := bytesAt l (352 * i) 352
  let why (i : Nat) : Nat := s.credCheck (e i) (fun k => decide (k = 0x11)) true
  match (List.range n).find? (fun i => decide (why i ≠ 0)) with
  | some i => s.applyRefused w (why i) i
  | none =>
    let s1 := ((s.putB (sk2F 0x85) l).putB (sk2F 5) []).put (sk2F 0x0B) 0xFFFF
    let s2 := { s1 with sec := { s1.sec with members := (List.range n).map (fun i => credSerial (e i)) } }
    (s2.secRecord 6 1 (s.credOf w).1 (s.credOf w).2 w.sessionNo [], stOK)

/-- The member credential of a serial. -/
def State.member (s : State) (n : Nat) : Option (List Byte) :=
  ((List.range s.sec.members.length).map (fun i => bytesAt (s.getB (sk2F 0x85)) (352 * i) 352)).find? (fun c => decide (credSerial c = n))

/-! ### Challenges and the debug port (R414, R418, R419) -/

/-- A new challenge is drawn. -/
def State.drawChallenge (s : State) : State :=
  { s with sec := { s.sec with challenge := s.free, challengeAt := s.tm.mt + 1 } }.useFree

def State.challengeNow (s : State) : List Byte := le 32 (Config.freeWord s.sec.challenge)

/-- CHALLENGE_RENEW, every 600 s. -/
def challengeRenew (s : State) : State := if s.sec.challengeAt + 600 * nsS ≤ s.tm.mt + 1 then s.drawChallenge else s

def State.drawDebug (s : State) : State := { s with sec := { s.sec with debugRnd := s.free } }.useFree
def State.debugChallenge (s : State) : List Byte := le 4 serialNo ++ le 12 0 ++ le 32 (Config.freeWord s.sec.debugRnd)

/-- The port closes: SEC_DEBUG ends and the record is written. -/
def State.debugClose (s : State) (role serial sess : Nat) : State :=
  if s.get (sk2F 0x18) = 1 then
    let s1 := (s.put (sk2F 0x18) 0).follow srcSEC_DEBUG false 0
    { s1 with sec := { s1.sec with debugAt := 0 } }.secRecord 8 0 role serial sess []
  else s

/-- DEBUG_OPEN: a vendor credential of KIND 5 and its signature over the challenge (R418). -/
def hDebugOpen : Handler := Handler.simple fun s w v =>
  match v with
  | .num _ => (s, stTYPE)
  | .blk _ data =>
    let c := data.take 352
    let cr := s.credOf w
    if data.length ≠ 448 then (s, stTYPE)
    else
      let why := s.credCheck c (fun k => decide (k = 5)) true
      let s1 := s.drawDebug
      if why ≠ 0 then (s1.authRefused why cr.1 cr.2 w.sessionNo, stAUTH)
      else if !(Config.ecdsaOk (credKey c) (Config.sha384 s.debugChallenge) (bytesAt data 352 96)) then
        (s1.authRefused 3 cr.1 cr.2 w.sessionNo, stAUTH)
      else if s1.get (sk2F 0x18) = 1 then (s1, stOK)
      else
        let s2 := (s1.put (sk2F 0x18) 1).follow srcSEC_DEBUG true 0
        ({ s2 with sec := { s2.sec with debugAt := s2.tm.mt + 1 } }.secRecord 8 1 cr.1 cr.2 w.sessionNo [], stOK)

/-- A write of 0 to 0x2F00.18. -/
def hDebugClose : Handler := Handler.simple fun s w _ => (s.debugClose (s.credOf w).1 (s.credOf w).2 w.sessionNo, stOK)

/-- DEBUG_TIMEOUT. -/
def debugTimeout (s : State) : State :=
  if s.sec.debugAt ≠ 0 && s.sec.debugAt + 3600 * nsS ≤ s.tm.mt + 1 then s.debugClose 0 0 0 else s

/-- DEBUG_LOCK: with the port closed, for good (R419). -/
def hDebugLock : Handler where
  consist := fun _ _ => true
  cond := fun s => decide (s.get (sk2F 0x18) ≠ 1)
  run := fun s w _ =>
    (((s.put (ob 0x1000 9) 1).put (sk2F 0x18) 2).secRecord 9 0 (s.credOf w).1 (s.credOf w).2 w.sessionNo [], stOK)

/-- RANDOM_SOURCE_HEALTH_FAIL (R400). -/
def randomFail (s : State) : State := (s.put (sk2F 0x1D) 2).follow srcSEC_ROOT true 0

/-- The session table (R422). -/
def State.sessionTable (s : State) : List Byte :=
  (List.range 16).flatMap fun i =>
    match s.sec.sessions.find? (fun x => decide (x.slot = i)) with
    | some x => le 4 x.num ++ le 4 x.serial ++ le 1 x.role ++ le 1 (match x.route with | .can _ _ => 1 | _ => 0) ++ le 1 x.src ++
        le 5 0 ++ le 8 x.opened ++ le 8 x.lastUse
    | none => le 32 0

def execHello (r : Route) (src : Nat) (data : List Byte) (s : State) : Host.Outcome State Fault Refusal :=
  .next (s.reply (fun t => t.hello r src data))
def execFinish (n : Nat) (data : List Byte) (s : State) : Host.Outcome State Fault Refusal :=
  .next (s.reply (fun t => t.finish n data))
def execClose (n : Nat) (s : State) : Host.Outcome State Fault Refusal := .next (s.reply (fun t => t.close n))
def execAttest (nonce : List Byte) (s : State) : Host.Outcome State Fault Refusal := .next (s.reply (fun t => t.attest nonce))
def execHandshakeTimeout (n : Nat) (s : State) : Host.Outcome State Fault Refusal := .next (handshakeTimeout n s)
def execSessionIdleTimeout (n : Nat) (s : State) : Host.Outcome State Fault Refusal := .next (sessionIdle n s)
def execSessionLifetimeEnd (n : Nat) (s : State) : Host.Outcome State Fault Refusal := .next (sessionLifetime n s)
def execCredentialExpiryCheck (s : State) : Host.Outcome State Fault Refusal := .next (expiryCheck s)
def execEndSession (who : Who) (n : Nat) (s : State) : Host.Outcome State Fault Refusal :=
  .next (s.request who 0x1100 5 (.num n) hEndSession)
def execLockoutEnd (r : Route) (s : State) : Host.Outcome State Fault Refusal := .next (lockoutEnd r s)
def execRevocationApply (who : Who) (s : State) : Host.Outcome State Fault Refusal :=
  .next (s.request who 0x2F00 0x0A (.num 1) hRevocation)
def execAnchorApply (who : Who) (s : State) : Host.Outcome State Fault Refusal :=
  .next (s.request who 0x2F00 4 (.num 1) hAnchors)
def execMemberListApply (who : Who) (s : State) : Host.Outcome State Fault Refusal :=
  .next (s.request who 0x2F00 6 (.num 1) hMembers)
def execChallengeRenew (s : State) : Host.Outcome State Fault Refusal := .next (challengeRenew s)
def execDebugOpen (who : Who) (data : List Byte) (s : State) : Host.Outcome State Fault Refusal :=
  .next (s.request who 0x2F00 0x1A (.blk 0 data) hDebugOpen)
def execDebugClose (who : Who) (s : State) : Host.Outcome State Fault Refusal :=
  .next (s.request who 0x2F00 0x18 (.num 0) hDebugClose)
def execDebugTimeout (s : State) : Host.Outcome State Fault Refusal := .next (debugTimeout s)
def execDebugLock (who : Who) (value : Nat) (s : State) : Host.Outcome State Fault Refusal :=
  .next (s.request who 0x2F00 0x1B (.num value) hDebugLock)
def execRandomSourceHealthFail (s : State) : Host.Outcome State Fault Refusal := .next (randomFail s)

end Sys2Proof.Machine
end

