-- ==== Sys2Proof/Machine/Update.lean ====
section
/-! DEFINITION. Configuration commits and returns, deliveries, verification, arming, activation, trials and the
choice of a firmware slot at START (R426 to R447). -/

namespace Sys2Proof.Machine

open Sys2Proof

def uk (sub : Nat) : Nat := ob 0x3100 sub

/-- A CONFIG_UPDATE record (R446). -/
def State.updRecord (s : State) (subject code : Nat) (w : Option Who) (more : List Cont) : State :=
  s.post 10 subject (code % 65536) 0 ((match w with | some x => [s.credOfCont x] | none => []) ++ more)

/-! ### Commit and return (R428, R431, R432) -/

/-- CONFIG_COMMIT. -/
def hCommit : Handler := Handler.simple fun s w _ =>
  let clean (t : State) : State := (t.put (ob 0x3000 3) 0).put (ob 0x3000 4) 0
  if s.workSame then (clean s, stOK)
  else
    let a := s.activeVer
    (clean (s.writeVersion 1 a.num s.workVals s.workBlobs a.prof a.profVer (s.credOf w)), stOK)

/-- The layout that an armed class N change brings. -/
def State.armedLayout (s : State) : Option Nat :=
  if s.get (uk 4) = 5 then some (fieldAt (s.getB (uk 0x0E)) 0x10 2) else none

/-- The version that a value of 0x3000.06 names, if a return to it is possible (R431). -/
def State.returnTarget (s : State) (n : Nat) : Option Ver :=
  let a := s.get (ob 0x3000 1)
  let t := if n = 0 then a - 1 else n
  if t < a && a ≤ t + 7 then
    match s.verOf t with
    | some v =>
      if v.layout ≠ s.get (ob 0x1000 8) then none
      else match s.armedLayout with
        | some l => if Config.validUnder l (s.verBytes v) then some v else none
        | none => some v
    | none => none
  else none

/-- Who may bring a profile: a Maintainer the one in force, the Safety Authority another (R431, R432). -/
def State.profileRole (s : State) (w : Who) (crc : Nat) : Bool :=
  match s.roleOf w with
  | some r => if crc = s.get (ob 0x2700 3) then r.mayWrite .maint else decide (r = .auth)
  | none => false

/-- A target takes force at once, or waits for its second party (R431, R432). -/
def State.bring (s : State) (w : Who) (origin parent : Nat) (vals : Tbl Nat) (blobs : Tbl (List Byte)) (prof : Tbl Nat)
    (profVer target : Nat) : State × Nat :=
  if profCrc prof = s.get (ob 0x2700 3) then
    let s1 := (s.writeVersion origin parent vals blobs prof profVer (s.credOf w)).put (ob 0x3000 8) 2
    ({ s1 with conf := { s1.conf with load := some s1.activeVer } }, stOK)
  else if s.fox.staged.isSome then (s, stBUSY)
  else
    let t : Ver := ⟨0, parent, s.get (ob 0x1000 8), origin, s.tm.mt, (s.credOf w).2, vals, blobs, prof, profVer⟩
    let s1 := { s with conf := { s.conf with waiting := some t } }
    let s2 := (s1.openStaged w prof (some target)).put (ob 0x3000 8) 1
    (s2.updRecord 2 target (some w) [], stOK)

/-- CONFIG_RETURN. -/
def hReturn : Handler where
  consist := fun s v => (s.returnTarget v.toNum).isSome
  cond := fun _ => true
  role := fun s w v =>
    match s.returnTarget v.toNum with
    | some t => s.profileRole w (profCrc t.prof)
    | none => (match s.roleOf w with | some r => r.mayWrite .maint || decide (r = .auth) | none => false)
  run := fun s w v =>
    match s.returnTarget v.toNum with
    | some t => s.bring w 3 t.num t.vals t.blobs t.prof t.profVer t.num
    | none => (s, stRANGE)

/-! ### Delivery (R435, R437) -/

def State.imgByte (s : State) (k : Nat) : Byte := (Tbl.get [] s.upd.blocks (k / 4096)).getD (k % 4096) 0
def State.imgBytes (s : State) (off n : Nat) : List Byte := (List.range n).map (fun j => s.imgByte (off + j))

/-- The delivered header, and its fields. -/
def State.imgHead (s : State) : List Byte := s.getB (uk 0x0E)
def hdClass (h : List Byte) : Nat := fieldAt h 5 1
def hdOrigin (h : List Byte) : Nat := fieldAt h 6 1
def hdParts (h : List Byte) : Nat := fieldAt h 7 1
def hdVersion (h : List Byte) : Nat := fieldAt h 8 4
def hdSecver (h : List Byte) : Nat := fieldAt h 0x0C 4
def hdTotal (h : List Byte) : Nat := fieldAt h 0x14 4

def State.otherSlot (s : State) : Nat := 1 - s.get (ob 0x1020 1)
def State.fwSlot (s : State) (i : Nat) : FwSlot := s.upd.slots.getD i FwSlot.reset

/-- What an image's SECVER is held against (R436). -/
def State.secMin (s : State) (h : List Byte) : Nat :=
  if hdOrigin h = 0 then (if hdClass h = 0 then s.get (ob 0x1020 9) else s.get (ob 0x1020 0x0A)) else s.get (ob 0x1020 0x0B)

/-- A signature block of an image (R413, R415, R436): HASH, the signer, SIG. -/
def State.imgSigned (s : State) (origin : Nat) (digest blk : List Byte) : Nat :=
  let c := bytesAt blk 48 352
  if blk.take 48 ≠ digest then stINTEGRITY
  else if s.credCheck c (fun k => decide (k = 0x12)) true ≠ 0 || (credIssuer c = 0) ≠ (origin = 0) then stAUTH
  else if !(Config.ecdsaOk (credKey c) digest (bytesAt blk 400 96)) then stAUTH else stOK

/-- The first missing offset and the number of blocks (R437). -/
def State.countBlocks (s : State) : State :=
  let n := hdTotal s.imgHead / 4096
  let miss := (List.range n).find? (fun i => decide (Tbl.get [] s.upd.blocks i = []))
  (s.put (uk 2) s.upd.blocks.length).put (uk 0x0B) (4096 * miss.getD n)

/-- The delivery and its header are gone. -/
def State.dropDelivery (s : State) : State :=
  let s1 := { s with upd := { s.upd with blocks := [], health := 0, starts := 0, failed := false, now := false } }
  ((((s1.putB (uk 0x0E) []).put (uk 2) 0).put (uk 0x0B) 0).put (uk 0x0A) 0).put (uk 4) 0

/-- Status of block 0 (R437). -/
def State.headStatus (s : State) (b : List Byte) : Nat :=
  let h := b.take 256
  let t := hdTotal h
  if fieldAt h 0 4 ≠ 0x474D4946 || fieldAt h 4 1 ≠ 1 || 1 < hdClass h || 1 < hdOrigin h || t % 4096 ≠ 0 || t = 0 || 134217728 < t then stRANGE
  else
    let r := s.imgSigned (hdOrigin h) (Config.sha384 h) (bytesAt b 0x100 496)
    if r ≠ 0 then stAUTH
    else if hdSecver h < s.secMin h then stVERSION else stOK

/-- In START only a module that no slot lets go on takes a delivery (R415). -/
def State.deliveryOpen (s : State) : Bool := decide (s.dev ≠ dsSTART) || s.pwr.bootHold

/-- IMAGE_BLOCK. -/
def imageBlock (s : State) (w : Who) (v : Val) : State × Nat :=
  match v with
  | .num _ => (s, stTYPE)
  | .blk off data =>
    let st := s.get (uk 4)
    if 1 < st then (s, stBUSY)
    else if off = 0 then
      let r := s.headStatus data
      let s1 := s.put (uk 0x0C) r
      if r ≠ stOK then (s1, r)
      else if st = 1 && s.imgHead = data.take 256 then
        ({ s1 with upd := { s1.upd with blocks := Tbl.set [] s1.upd.blocks 0 data } }, stOK)
      else
        let o := s.otherSlot
        let s2 := { s1.dropDelivery with upd := { s1.dropDelivery.upd with
          blocks := [(0, data)], slots := oneOf FwSlot.reset 2 s1.upd.slots o (fun _ => ⟨false, []⟩) } }
        let s3 := (((s2.putB (uk 0x0E) (data.take 256)).put (uk 4) 1).put (ob 0x1020 2) 0xFF).countBlocks
        (s3.updRecord 4 (hdClass data) (some w) [⟨6, 0, hdVersion data⟩], stOK)
    else if st = 0 then (s, stOFFSET)
    else ({ s with upd := { s.upd with blocks := Tbl.set [] s.upd.blocks (off / 4096) data } }.countBlocks, stOK)

def hImageBlock : Handler := { Handler.simple imageBlock with cond := State.deliveryOpen }

/-! ### Verification (R436, R438) -/

def State.imgPart (s : State) (i : Nat) : Nat × Nat × Nat × Nat :=
  let h := s.imgHead
  (fieldAt h (0x20 + 16 * i) 1, fieldAt h (0x24 + 16 * i) 4, fieldAt h (0x28 + 16 * i) 4, fieldAt h (0x2C + 16 * i) 4)

def partClass (t : Nat) : Nat := if 5 ≤ t then 1 else 0
def partOrigin (t : Nat) : Nat := if within 2 4 t then 1 else 0

/-- The part as the slot holds it. -/
def State.newPart (s : State) (i : Nat) : ImgPart :=
  let h := s.imgHead
  ⟨(s.imgPart i).1, (s.imgPart i).2.2.2, hdClass h, hdOrigin h, hdSecver h, fieldAt h 0x10 2, fieldAt h 0x12 2, hdVersion h⟩

/-- The set that the image builds out of the active slot (R438 step 5). -/
def State.builtSet (s : State) : List ImgPart :=
  let new := (List.range (hdParts s.imgHead)).map s.newPart
  let old := (s.fwSlot (s.get (ob 0x1020 1))).parts
  old.filter (fun p => !(new.any (fun q => decide (q.typ = p.typ)))) ++ new

/-- The layout of a set: its class N image's, else the one in force. -/
def State.setLayout (s : State) (l : List ImgPart) : Nat :=
  match l.find? (fun p => decide (p.cls = 1)) with | some p => p.lmin | none => s.get (ob 0x1000 8)

def admits (l : List ImgPart) (layout : Nat) : Bool :=
  l.all (fun p => decide (p.origin ≠ 1) || (decide (p.lmin ≤ layout) && decide (layout ≤ p.lmax)))

/-- The working configuration as a version would hold it. -/
def State.workVer (s : State) : Ver := { s.activeVer with vals := s.workVals, blobs := s.workBlobs }

/-- Step 4 of R438. -/
def State.layoutOk (s : State) : Bool :=
  let h := s.imgHead
  if hdClass h = 0 then admits s.builtSet (s.setLayout s.builtSet)
  else
    let l := fieldAt h 0x10 2
    admits (s.fwSlot (s.get (ob 0x1020 1))).parts l && Config.validUnder l (s.verBytes s.activeVer) && Config.validUnder l (s.verBytes s.workVer)

/-- The status of one part (R436, R438 step 2). -/
def State.partStatus (s : State) (i : Nat) : Nat :=
  match s.imgPart i with
  | (t, off, len, _) =>
    let h := s.imgHead
    if 6 < t || partClass t ≠ hdClass h || partOrigin t ≠ hdOrigin h || off % 4096 ≠ 0 || hdTotal h < off + len + 496 then stRANGE
    else s.imgSigned (hdOrigin h) (Config.sha384 (s.imgBytes off len)) (s.imgBytes (off + len) 496)

/-- The status of the whole verification; `built` is whether the slot read back as its hashes say. -/
def State.verifyStatus (s : State) (built : Bool) : Nat :=
  let h := s.imgHead
  let n := hdTotal h / 4096
  let bad := (List.range (hdParts h)).find? (fun i => decide (s.partStatus i ≠ stOK))
  if (List.range n).any (fun i => decide (Tbl.get [] s.upd.blocks i = [])) then stOFFSET
  else if hdParts h = 0 || 8 < hdParts h then stRANGE
  else match bad with
    | some i => s.partStatus i
    | none =>
      if hdSecver h < s.secMin h then stVERSION
      else if !s.layoutOk then stRANGE
      else if !built then stINTEGRITY else stOK

/-- The summary objects of a slot (R436, R449). -/
def State.showSlot (s : State) (i : Nat) : State :=
  let l := (s.fwSlot i).parts
  let sec (c : Nat) : Nat := match l.find? (fun p => decide (p.cls = c) && decide (p.origin = 0)) with | some p => p.secver | none => s.get (ob 0x1020 (5 + c + 2 * i))
  let ver := match l.find? (fun p => decide (p.typ = 0)) with | some p => p.img | none => s.get (ob 0x1020 (3 + i))
  ((s.put (ob 0x1020 (3 + i)) ver).put (ob 0x1020 (5 + 2 * i)) (sec 0)).put (ob 0x1020 (6 + 2 * i)) (sec 1)

/-- IMAGE_VERIFY. -/
def verifyImage (built : Bool) (s : State) (w : Who) : State × Nat :=
  if s.get (uk 4) ≠ 1 then (s, stBUSY)
  else
    let r := s.verifyStatus built
    let s1 := (s.put (uk 0x0C) r).updRecord 5 r (some w) [⟨6, 0, hdVersion s.imgHead⟩]
    if r ≠ stOK then (s1, r)
    else
      let o := s.otherSlot
      let a := s.get (ob 0x1020 1)
      let base := ((s1.put (ob 0x1020 (3 + o)) (s1.get (ob 0x1020 (3 + a)))).put (ob 0x1020 (5 + 2 * o)) (s1.get (ob 0x1020 (5 + 2 * a)))).put
        (ob 0x1020 (6 + 2 * o)) (s1.get (ob 0x1020 (6 + 2 * a)))
      let s2 := { base with upd := { base.upd with slots := oneOf FwSlot.reset 2 base.upd.slots o (fun _ => ⟨true, s.builtSet⟩) } }
      (((s2.showSlot o).put (ob 0x1020 2) o).put (uk 4) 3, stOK)

def hVerify (built : Bool) : Handler := { Handler.simple (fun s w _ => verifyImage built s w) with cond := State.deliveryOpen }

/-! ### Arming, activation and trials (R439 to R445) -/

/-- T_act lies at least 10 s and at most 7 days ahead (R443). -/
def State.tactOk (s : State) : Bool :=
  let t : Int := s.get (uk 6)
  decide (s.gnssNow + 10000000000 ≤ t) && decide (t ≤ s.gnssNow + 604800000000000)

/-- The commit of a trial: fuses, floor, record (R441, R444). -/
def State.commitTrial (s : State) (w : Option Who) : State :=
  let slot := s.get (ob 0x1020 1)
  let cls := if s.get (uk 4) = 7 then 1 else 0
  let fuse (c : Nat) (t : State) : State := t.put (ob 0x1020 (9 + c)) (max (t.get (ob 0x1020 (9 + c))) (t.get (ob 0x1020 (5 + c + 2 * slot))))
  let s1 := if cls = 1 then fuse 1 s else fuse 1 (fuse 0 s)
  let floor := ((s.fwSlot slot).parts.filter (fun p => decide (p.origin = 1))).foldl (fun m p => max m p.secver) (s.get (ob 0x1020 0x0B))
  let s2 := if cls = 1 then s1 else s1.put (ob 0x1020 0x0B) floor
  (s2.updRecord 9 slot w [⟨6, cls, s2.get (ob 0x1020 (9 + cls))⟩]).dropDelivery

def State.inTrial (s : State) : Bool := decide (s.get (uk 4) = 6) || decide (s.get (uk 4) = 7)
def State.healthDue (s : State) : Bool := decide (s.get (uk 8) * nsS ≤ s.upd.health)

/-- Writes of 0x3100.05 (R439, R440, R443, R445). -/
def hArm : Handler := Handler.simple fun s w v =>
  let st := s.get (uk 4)
  let c := v.toNum
  let rec_ (t : State) : State := t.updRecord 6 c (some w) (if c = 2 then [⟨6, 0, s.get (uk 6)⟩] else [])
  let res (t : State) (r : Nat) : State × Nat := (if c = 1 || c = 2 then t.put (uk 0x0C) r else t, r)
  if c = 1 then
    if st = 3 && hdClass s.imgHead = 0 then res (rec_ (s.put (uk 4) 4)) stOK else res s stBUSY
  else if c = 2 then
    if st ≠ 3 || hdClass s.imgHead ≠ 1 || s.timeState = 0 then res s stBUSY
    else if !s.tactOk then res s stRANGE
    else res (rec_ (s.put (uk 4) 5)) stOK
  else if c = 3 then
    if st = 5 then ({ rec_ s with upd := { (rec_ s).upd with now := true } }, stOK) else (s, stBUSY)
  else if c = 4 then
    if st = 4 then (rec_ (s.put (uk 4) 3), stOK)
    else if st = 5 then
      let s1 := rec_ ((s.put (uk 4) 3).put (uk 6) 0)
      ({ s1 with upd := { s1.upd with now := false } }.follow srcUPD_LATE false 0, stOK)
    else if st = 6 || st = 7 then ({ rec_ s with upd := { (rec_ s).upd with failed := true } }, stOK)
    else (s, stBUSY)
  else if st = 1 || st = 3 then (rec_ s.dropDelivery, stOK)
  else (s, stBUSY)

/-- UPDATE_CONFIRM (R441). -/
def hConfirm : Handler := Handler.simple fun s w _ =>
  if s.inTrial && !s.upd.failed && s.healthDue then (s.commitTrial (some w), stOK) else (s, stBUSY)

/-- TRIAL_HEALTHY: the health time has passed; in commit mode 0 the change commits (R441). -/
def trialHealthy (s : State) : State :=
  if s.inTrial && !s.upd.failed && s.healthDue && s.get (uk 7) = 0 then s.commitTrial none else s

/-- The frame adds to the health time (R441). -/
def State.healthTick (s : State) (ns : Nat) : State :=
  if s.inTrial && !s.upd.failed && (s.dev = dsRUN || s.dev = dsLIMP) then
    let h := s.upd.health + ns
    { s with upd := { s.upd with health := h } }.put (uk 0x0A) (clampN 0xFFFFFFFF (h / nsS))
  else s

/-- The slot becomes the active one; the other is the fallback while it holds a verified set. -/
def State.takeSlot (s : State) (i : Nat) : State :=
  let o := 1 - i
  let s1 := (s.put (ob 0x1020 1) i).put (ob 0x1020 2) (if (s.fwSlot o).valid then o else 0xFF)
  (s1.put (ob 0x1000 7) (s1.get (ob 0x1020 (3 + i)))).put (ob 0x1000 8) (s.setLayout (s.fwSlot i).parts)

/-- CLASS_N_ACTIVATE (R444, R445). -/
def classNActivate (s : State) : State :=
  let due := s.upd.now || (s.timeState ≠ 0 && decide ((s.get (uk 6) : Int) ≤ (s.get (ob 0x2000 1) : Int) + s.goff))
  if s.get (uk 4) = 5 && due then
    let o := s.otherSlot
    let s1 := (s.takeSlot o).put (uk 4) 7
    let s2 := { s1 with upd := { s1.upd with now := false, health := 0, starts := 0, failed := false } }
    let s3 := (s2.put (uk 0x0A) 0).updRecord 8 o none [⟨6, 0, s.tm.mt⟩]
    s3.follow srcUPD_LATE false 0
  else s

/-- ACTIVATION_TIME_MISSED (R445). -/
def activationMissed (s : State) : State :=
  if s.get (uk 4) = 5 && s.timeState = 0 && decide ((s.get (uk 6) : Int) ≤ s.gnssNow) then s.follow srcUPD_LATE true 0 else s

/-! ### The slot at START (R440 to R442) -/

/-- A slot verifies, and none of its security versions lies below its minimum; 0 for both, else the cause of R446. -/
def State.slotCause (s : State) (i pass : Nat) : Nat :=
  if !(bit pass i) || !(s.fwSlot i).valid then 1
  else if s.get (ob 0x1020 (5 + 2 * i)) < s.get (ob 0x1020 9) || s.get (ob 0x1020 (6 + 2 * i)) < s.get (ob 0x1020 0x0A) ||
      (s.fwSlot i).parts.any (fun p => decide (p.origin = 1) && decide (p.secver < s.get (ob 0x1020 0x0B))) then 2
  else 0

/-- A slot that did not verify holds no verified set any more. -/
def State.spoil (s : State) (i pass : Nat) : State :=
  if bit pass i then s else { s with upd := { s.upd with slots := oneOf FwSlot.reset 2 s.upd.slots i (fun x => { x with valid := false }) } }

/-- The fallback slot is booted: UPD_FALLBACK, the count, the record and bit 2 of the attestation FLAGS. -/
def State.fallBack (s : State) (i cause : Nat) : State :=
  let s1 := (s.takeSlot i).inc32 (uk 0x0D)
  let s2 := { s1 with upd := { s1.upd with fallback := true } }
  ((s2.updRecord 10 i none [⟨6, cause, 0⟩]).raise srcUPD_FALLBACK 0).secRecord 10 1 0 0 0 []

/-- The boot ROM chooses the slot; `pass` has the bits of the slots that verify. SEC_BOOT and the boot hold where neither
qualifies (R415). -/
def State.bootSlot (s : State) (pass : Nat) : State :=
  let a := s.get (ob 0x1020 1)
  let o := 1 - a
  let s0 := { s with upd := { s.upd with fallback := false }, pwr := { s.pwr with bootHold := false } }
  let good (t : State) : State := (t.follow srcSEC_BOOT false 0).secRecord 10 0 0 0 0 []
  let hold (t : State) : State :=
    ({ t with pwr := { t.pwr with bootHold := true } }.follow srcSEC_BOOT true 0).secRecord 10 2 0 0 0 []
  let st := s.get (uk 4)
  if st = 4 then
    if s.slotCause o pass = 0 then
      let s1 := ((s0.takeSlot o).put (uk 4) 6).put (uk 0x0A) 0
      good ({ s1 with upd := { s1.upd with starts := 1, health := 0, failed := false } }.updRecord 7 o none [])
    else
      let s1 := (s0.spoil o pass).dropDelivery
      if s.slotCause a pass = 0 then s1.fallBack a (s.slotCause o pass) else hold s1
  else if s.inTrial && s.upd.failed then
    let s1 := s0.dropDelivery
    if s.slotCause o pass = 0 then s1.fallBack o 3
    else if s.slotCause a pass = 0 then good s1 else hold s1
  else if s.slotCause a pass = 0 then
    let n := s.upd.starts + 1
    good (if st = 6 then { s0 with upd := { s0.upd with starts := n, failed := s0.upd.failed || decide (3 ≤ n) } } else s0)
  else
    let s1 := (s0.spoil a pass)
    let s2 := if s.inTrial then s1.dropDelivery else s1
    if s.slotCause o pass = 0 then s2.fallBack o (s.slotCause a pass) else hold s2

def execConfigCommit (who : Who) (s : State) : Host.Outcome State Fault Refusal :=
  .next (s.request who 0x3000 5 (.num 1) hCommit)
def execConfigReturn (who : Who) (v : Nat) (s : State) : Host.Outcome State Fault Refusal :=
  .next (s.request who 0x3000 6 (.num v) hReturn)
def execImageBlock (who : Who) (off : Nat) (data : List Byte) (s : State) : Host.Outcome State Fault Refusal :=
  .next (s.request who 0x3100 1 (.blk off data) hImageBlock)
def execImageVerify (who : Who) (built : Bool) (s : State) : Host.Outcome State Fault Refusal :=
  .next (s.request who 0x3100 3 (.num 1) (hVerify built))
def execArmA (who : Who) (s : State) : Host.Outcome State Fault Refusal := .next (s.request who 0x3100 5 (.num 1) hArm)
def execArmN (who : Who) (s : State) : Host.Outcome State Fault Refusal := .next (s.request who 0x3100 5 (.num 2) hArm)
def execActivateNow (who : Who) (s : State) : Host.Outcome State Fault Refusal := .next (s.request who 0x3100 5 (.num 3) hArm)
def execDisarmReject (who : Who) (s : State) : Host.Outcome State Fault Refusal := .next (s.request who 0x3100 5 (.num 4) hArm)
def execUpdateDiscard (who : Who) (s : State) : Host.Outcome State Fault Refusal := .next (s.request who 0x3100 5 (.num 5) hArm)
def execUpdateConfirm (who : Who) (s : State) : Host.Outcome State Fault Refusal := .next (s.request who 0x3100 9 (.num 1) hConfirm)
def execTrialHealthy (s : State) : Host.Outcome State Fault Refusal := .next (trialHealthy s)
def execClassNActivate (s : State) : Host.Outcome State Fault Refusal := .next (classNActivate s)
def execActivationTimeMissed (s : State) : Host.Outcome State Fault Refusal := .next (activationMissed s)

end Sys2Proof.Machine
end

