-- ==== Sys2Proof/Machine/Ucp.lean ====
section
/-! DEFINITION. UCP (R334 to R351, R356 to R358): the packet and its ordered checks, tags and epochs, the queues,
subscriptions, segments on CAN, the announcement and the fleet envelope. What a request does stands in Router. -/

namespace Sys2Proof.Machine

open Sys2Proof

def uc (sub : Nat) : Nat := ob 0x2E00 sub

/-! ### The packet (R335, R337) -/

/-- The 32 bytes of the header. -/
def Packet.head (p : Packet) : List Byte :=
  le 1 p.ver ++ le 1 p.typ ++ le 1 p.flags ++ le 1 p.prio ++ le 1 p.dst ++ le 1 p.src ++ le 2 (p.tag + 4096 * p.epoch) ++
    le 4 p.session ++ le 4 p.counter ++ le 1 p.opcode ++ le 1 p.status ++ le 1 p.devState ++ le 1 p.sub ++ le 2 p.index ++
    le 2 p.payload.length ++ le 4 p.offset ++ le 4 p.aux

/-- The packet that bytes spell, its payload as received. -/
def packetOf (b : List Byte) : Packet :=
  { ver := fieldAt b 0 1, typ := fieldAt b 1 1, flags := fieldAt b 2 1, prio := fieldAt b 3 1, dst := fieldAt b 4 1
    src := fieldAt b 5 1, tag := fieldAt b 6 2 % 4096, epoch := fieldAt b 6 2 / 4096, session := fieldAt b 8 4
    counter := fieldAt b 0x0C 4, opcode := fieldAt b 0x10 1, status := fieldAt b 0x11 1, devState := fieldAt b 0x12 1
    sub := fieldAt b 0x13 1, index := fieldAt b 0x14 2, offset := fieldAt b 0x18 4, aux := fieldAt b 0x1C 4
    payload := bytesAt b 32 (fieldAt b 0x16 2) }

/-- The GCM nonce of a session, a direction and a counter. -/
def gcmNonce (n dir ctr : Nat) : List Byte := le 4 n ++ le 4 dir ++ le 4 ctr

/-- Step 1 of R338: version, size, reserved bits; packets of the local port carry SESSION 0 and no ICV. -/
def packetSound (r : Route) (b : List Byte) : Bool :=
  let p := packetOf b
  let len := fieldAt b 0x16 2
  decide (32 ≤ b.length) && decide (p.ver = 1) && decide (len ≤ 4096) &&
    decide (b.length = 32 + len + (if bit p.flags 0 then 16 else 0)) && decide (p.flags < 4) && decide (p.prio < 8) &&
    (decide (r.odd = 0) || (decide (p.session = 0) && !(bit p.flags 0)))

/-- Step 5: the payload in the clear; none where the ICV does not verify, or PROTECTED does not go with SESSION. -/
def State.openPacket (s : State) (b : List Byte) : Option Packet :=
  let p := packetOf b
  if p.session = 0 then (if bit p.flags 0 then none else some p)
  else match s.session p.session with
    | none => none
    | some x =>
      if !(bit p.flags 0) then none
      else (Config.gcmOpen (ofLe x.key) (gcmNonce p.session 0 p.counter) (b.take 32) p.payload (b.drop (32 + p.payload.length))).map
        (fun t => { p with payload := fixLen p.payload.length t })

def State.node (s : State) : Nat := s.get (ob 0x1010 1)

/-- READ of an open object (R319). -/
def State.isOpenRead (s : State) (p : Packet) : Bool :=
  decide (p.typ = 1) && decide (p.opcode = 1) &&
    (match s.descOf p.index p.sub with | some d => decide (d.rrole = .opn) | none => false)

/-- UCP is confined: no valid node address, or another module has it (R338, R351, R480). -/
def State.confined (s : State) : Bool := decide (s.get (ob 0x1010 2) ≠ 0) || s.raw srcUCP_DUPADDR

/-! ### Tag spaces (R339, R340) -/

def Packet.space (p : Packet) : Route → Space
  | .port k => .port k
  | _ => if p.session ≠ 0 then .session p.session else .addr p.src

def State.tagSpace (s : State) (sp : Space) : Option TagSpace := s.ucp.spaces.find? (fun t => decide (t.space = sp))

def State.setSpace (s : State) (t : TagSpace) : State :=
  { s with ucp := { s.ucp with spaces := s.ucp.spaces.filter (fun u => decide (u.space ≠ t.space)) ++ [t] } }

def State.modSpace (s : State) (sp : Space) (f : TagSpace → TagSpace) : State :=
  { s with ucp := { s.ucp with spaces := s.ucp.spaces.map (fun t => if t.space = sp then f t else t) } }

/-- A tag is in use from now on. -/
def State.useTag (s : State) (sp : Space) (p : Packet) : State :=
  s.modSpace sp (fun t => { t with
    tags := t.tags.filter (fun u => !(decide (u.tag = p.tag) && decide (u.epoch = p.epoch))) ++ [⟨p.epoch, p.tag, false, 0, false⟩] })

/-- A tag enters quarantine for 500 ms; `lost` where a block reset discarded its request (R340). -/
def State.quarantine (s : State) (sp : Space) (p : Packet) (lost : Bool) : State :=
  s.modSpace sp (fun t => { t with tags := t.tags.map (fun u =>
    if u.tag = p.tag && u.epoch = p.epoch && !u.quarantined then (⟨u.epoch, u.tag, true, s.tm.mt + 500 * nsMs, lost⟩ : TagUse) else u) })

/-- E advances: what waits of the old epoch is dropped and counted (R339). -/
def State.advanceEpoch (s : State) (t : TagSpace) (e : Nat) : State :=
  let inOld (i : InItem) : Bool := decide (i.pkt.space i.route = t.space) && decide (i.pkt.epoch ≠ e)
  let outOld (i : OutItem) : Bool := decide (i.space = some t.space) && decide (i.pkt.epoch ≠ e)
  let n := (s.ucp.inq.filter inOld).length + (s.ucp.outq.filter outOld).length
  let s1 := { s with ucp := { s.ucp with
    inq := s.ucp.inq.filter (fun i => !(inOld i))
    outq := s.ucp.outq.filter (fun i => !(outOld i)) } }
  (s1.setSpace { t with
    epoch := e
    lastAdv := some s.tm.mt
    tags := t.tags.filter (fun u => u.quarantined || decide (u.epoch = e)) }).add32 (uc 5) n

/-! ### Answers (R336, R341) -/

/-- Put a packet of the module into the outbound queue of a level. -/
def State.enqueue (s : State) (r : Route) (p : Packet) (sp : Option Space) : State :=
  { s with ucp := { s.ucp with outq := s.ucp.outq ++ [⟨2 * p.prio + r.odd, s.tm.mt, p, r, sp⟩] } }

/-- The RESPONSE to a request; `prot` where its session protects it. -/
def State.respond (s : State) (r : Route) (p : Packet) (prot : Bool) (sp : Option Space) (st aux : Nat) (data : List Byte) : State :=
  s.enqueue r { p with typ := 2, flags := ofBool prot, dst := p.src, src := s.node, counter := 0, status := st, devState := s.dev
                       aux := aux, payload := data } sp

/-- A NOTICE (R341). -/
def State.notice (s : State) (r : Route) (p : Packet) (st aux : Nat) : State :=
  s.enqueue r { p with typ := 4, flags := ofBool (decide (p.session ≠ 0)), dst := p.src, src := s.node, counter := 0, status := st
                       devState := 0xFF, sub := 0, index := 0, offset := 0, aux := aux, payload := [] } none

/-! ### The packet checks (R338) -/

/-- The counter has not been seen, and lies above the lower end of the window (R337). -/
def Session.freshCtr (x : Session) (c : Nat) : Bool :=
  match x.inHigh with
  | none => true
  | some h => decide (h < c) || (decide (h < c + 64) && !(x.inSeen.contains c))

def Session.seeCtr (x : Session) (c : Nat) : Session :=
  let h := match x.inHigh with | none => c | some h => if h < c then c else h
  { x with inHigh := some h, inSeen := (c :: x.inSeen).filter (fun v => decide (h < v + 64)) }

def State.setSession (s : State) (x : Session) : State :=
  { s with sec := { s.sec with sessions := s.sec.sessions.map (fun y => if y.num = x.num then x else y) } }

/-- Steps 8 and 9: the tag, the requests that wait, the room in the queue (R340, R344). -/
def State.intake (s : State) (r : Route) (p : Packet) (t : TagSpace) : State :=
  let sp := t.space
  match t.tags.find? (fun u => decide (u.tag = p.tag) && decide (u.epoch = p.epoch) && (!u.quarantined || decide (s.tm.mt < u.until_))) with
  | some u => if u.quarantined then (s.inc32 (uc 6)).notice r p stTAG_BUSY (ofBool u.lost) else s.inc32 (uc 7)
  | none =>
    let s1 := s.useTag sp p
    let q := 2 * p.prio + r.odd
    if 32 ≤ (s.ucp.inq.filter (fun i => decide (i.pkt.space i.route = sp))).length || 32 ≤ iqDepth q s.ucp.inq then
      s1.respond r p (decide (p.session ≠ 0)) (some sp) stBUSY 0 []
    else { s1 with ucp := { s1.ucp with inq := s1.ucp.inq ++ [⟨q, s.tm.mt, p, r⟩] } }

/-- Step 7: the epoch (R339). -/
def State.epochCheck (s : State) (r : Route) (p : Packet) : State :=
  let sp := p.space r
  match s.tagSpace sp with
  | none =>
    let t : TagSpace := ⟨sp, p.epoch, none, []⟩
    (s.setSpace t).intake r p t
  | some t =>
    if p.epoch = t.epoch then s.intake r p t
    else if p.epoch = (t.epoch + 1) % 16 && (match t.lastAdv with | some m => decide (m + 500 * nsMs ≤ s.tm.mt) | none => true) then
      let s1 := s.advanceEpoch t p.epoch
      s1.intake r p ((s1.tagSpace sp).getD t)
    else s.notice r p stSTALE t.epoch

/-- An ANNOUNCE from elsewhere: the module's own address with another serial raises UCP_DUPADDR (R351). -/
def State.peerAnnounce (s : State) (p : Packet) : State :=
  if fieldAt p.payload 0 1 = s.node && s.node ≠ 0xFF && fieldAt p.payload 4 4 ≠ serialNo && p.payload.length = 64 then
    { s with eth := { s.eth with dupAt := s.tm.mt + 1 } }.follow srcUCP_DUPADDR true 0
  else s

/-- A failure of step 5: counted, and more than 10 in 1 s raise UCP_AUTH (R361). -/
def State.badIcv (s : State) : State :=
  let l := (s.ucp.icvMt ++ [s.tm.mt]).filter (fun m => decide (s.tm.mt < m + nsS))
  let s1 := { s.inc32 (uc 8) with ucp := { s.ucp with icvMt := l } }
  if 10 < l.length then s1.raise srcUCP_AUTH 0 else s1

/-- PACKET_RECEIVE (R338). -/
def packetReceive (r : Route) (b : List Byte) (s : State) : State :=
  let own := decide (r.odd = 1)
  if s.dev = dsSTANDBY || s.inReset blkUCP || (own && s.dev = dsSTART) then s
  else if !(packetSound r b) then s.inc32 (uc 0x0F)
  else
    let p := packetOf b
    let openRead := s.isOpenRead p
    let announce := decide (p.typ = 5)
    if !own && s.confined && !openRead && !announce then s
    else if !own && p.dst ≠ s.node && p.dst ≠ 127 then s
    else if !own && p.dst = 127 && !openRead && !announce && !(decide (p.typ = 1) && decide (p.opcode = 5)) then s.inc32 (uc 0x0F)
    else if p.session ≠ 0 && (s.session p.session).isNone then s.respond r p false none stSESSION 0 []
    else match s.openPacket b with
      | none => s.badIcv
      | some q =>
        let s1 := match s.session q.session with | some x => s.setSession { x with lastUse := s.tm.mt } | none => s
        if announce then s1.peerAnnounce q
        else if q.typ ≠ 1 then s1
        else match s1.session q.session with
          | none => s1.epochCheck r q
          | some x => if x.freshCtr q.counter then (s1.setSession (x.seeCtr q.counter)).epochCheck r q else s1.inc32 (uc 9)

/-- TAG_QUARANTINE_END (R340). -/
def quarantineEnd (sp : Space) (epoch tag : Nat) (s : State) : State :=
  s.modSpace sp (fun t => { t with tags := t.tags.filter (fun u =>
    !(decide (u.tag = tag) && decide (u.epoch = epoch) && u.quarantined && decide (u.until_ ≤ s.tm.mt))) })

/-- The UCP engine's block reset begins: queued packets are discarded; the tags of requests and responses enter quarantine,
AUX 1 for a request that was not executed (R271, R340). -/
def State.ucpBlock (s : State) : State :=
  let s1 := s.ucp.inq.foldl (fun t i => t.quarantine (i.pkt.space i.route) i.pkt true) s
  let s2 := s1.ucp.outq.foldl (fun t i => match i.space with | some sp => t.quarantine sp i.pkt false | none => t) s1
  { s2 with ucp := { s2.ucp with inq := [], outq := [], streams := [] } }

/-- A chip reset or a power-down ends everything the engine holds; what has been handed to a port stays outside (R411). -/
def State.ucpDrop (s : State) : State :=
  { s with ucp := { s.ucp with spaces := [], subs := [], inq := [], outq := [], streams := [], icvMt := [] } }

/-! ### Subscriptions and NOP (R336, R343) -/

/-- The subscriber a requester is: its session number and, on the local port, its partition. -/
def Sub.heldBy (u : Sub) (n : Nat) (r : Route) : Bool :=
  decide (u.session = n) && (n ≠ 0 || decide (u.route = r))

/-- SUBSCRIBE: the status and the subscription number. -/
def State.subscribe (s : State) (w : Who) (r : Route) (cls aux : Nat) : State × Nat × Nat × List Byte :=
  let n := w.sessionNo
  if (s.roleOf w).isNone then (s, stSESSION, 0, [])
  else if cls = 0 || 6 < cls || aux = 0 || 1000 < aux then (s, stRANGE, 0, [])
  else if 8 ≤ (s.ucp.subs.filter (fun u => u.heldBy n r)).length || 64 ≤ s.ucp.subs.length then (s, stBUSY, 0, [])
  else
    let u : Sub := ⟨s.ucp.nextSub, n, cls, aux, 0, 0, r⟩
    let s1 := { s with ucp := { s.ucp with subs := s.ucp.subs ++ [u], nextSub := s.ucp.nextSub + 1 } }
    (s1.put (uc 0x0E) s1.ucp.subs.length, stOK, u.num, [])

/-- UNSUBSCRIBE: every subscription of the requester to the class ends. -/
def State.unsubscribe (s : State) (w : Who) (r : Route) (cls : Nat) : State × Nat × Nat × List Byte :=
  let n := w.sessionNo
  if (s.roleOf w).isNone then (s, stSESSION, 0, [])
  else if cls = 0 || 6 < cls then (s, stRANGE, 0, [])
  else
    let s1 := { s with ucp := { s.ucp with subs := s.ucp.subs.filter (fun u => !(u.heldBy n r && decide (u.cls = cls))) } }
    (s1.put (uc 0x0E) s1.ucp.subs.length, stOK, 0, [])

/-- NOP. -/
def State.nop (s : State) (data : List Byte) : State × Nat × Nat × List Byte :=
  if 64 < data.length then (s, stTYPE, 0, []) else (s, stOK, 0, data)

/-! ### The outbound side (R345, R337, R349) -/

/-- The port an item leaves by: 0 Ethernet, 1 to 8 CAN0 to CAN7, 9 to 11 the local ports. -/
def Route.outPort : Route → Nat
  | .eth _ => 0
  | .can p _ => 1 + p
  | .port p => 9 + p

/-- The effective level of an item (R345). -/
def State.queueLevel (s : State) (prio since : Nat) : Nat := clampN 7 (prio + (s.tm.mt - since) / (s.cfg (uc 1) * nsMs))

/-- The first item of the highest level. -/
def bestOf {α : Type} (lvl : α → Nat) : List α → Option α
  | [] => none
  | a :: rest => match bestOf lvl rest with
    | some b => if lvl a < lvl b then some b else some a
    | none => some a

/-- The packet as it leaves: the node addresses, the session's counter and encryption; none where the counter has passed
its limit. -/
def State.sealPacket (s : State) (i : OutItem) : State × Option Packet :=
  if !(bit i.pkt.flags 0) then (s, some i.pkt)
  else
    let live := s.session i.pkt.session
    match (match live with | some x => some x | none => s.sec.gone.find? (fun y => decide (y.num = i.pkt.session))) with
    | none => (s, none)
    | some x =>
      if 2 ^ 32 ≤ x.outCtr then ((if live.isSome then s.endSession x.num 4 else s), none)
      else
        let p := { i.pkt with counter := x.outCtr, dst := if i.pkt.typ = 3 then x.src else i.pkt.dst, src := s.node }
        let nonce := gcmNonce p.session 1 p.counter
        let text := le p.payload.length (Config.gcmText (ofLe x.key) nonce p.head p.payload)
        let tag := le 16 (Config.gcmTag (ofLe x.key) nonce p.head p.payload)
        let up (y : Session) : Session := if y.num = x.num then { y with outCtr := y.outCtr + 1 } else y
        ({ s with sec := { s.sec with sessions := s.sec.sessions.map up, gone := s.sec.gone.map up } },
          some { p with payload := text ++ tag })

/-- The bytes of a packet as it travels; a protected one carries its ICV behind the payload. -/
def Packet.wire (p : Packet) : List Byte :=
  if bit p.flags 0 then
    let n := p.payload.length - 16
    { p with payload := p.payload.take n }.head ++ p.payload
  else p.head ++ p.payload

/-- The smallest CAN FD data length of at least `n` bytes (R370). -/
def canLen (n : Nat) : Nat := ([12, 16, 20, 24, 32, 48, 64].find? (fun l => decide (n ≤ l))).getD 64
def canLenOf (n : Nat) : Nat := if n ≤ 8 then n else canLen n

/-- The segments of a packet (R349); `n` bounds them. -/
def segments (dst stream : Nat) : Nat → Nat → List Byte → List (List Byte)
  | 0, _, _ => []
  | n + 1, seg, b =>
    let last := decide (b.length ≤ 60)
    let data := le 1 (dst % 128 + (if last then 128 else 0)) ++ le 1 (stream * 16) ++ le 2 seg ++ b.take 60
    fixLen (canLenOf data.length) data :: (if last then [] else segments dst stream n (seg + 1) (b.drop 60))

/-- The CAN port of an outbound port runs: UCP is enabled on it, and it has a controller (R348, R393). -/
def State.ucpCan (s : State) (p : Nat) : Bool := bit (s.cfg (uc 3)) p && decide (s.get (ob (0x2B00 + p) 0x14) ≠ 6)

def State.canPort (s : State) (p : Nat) : PortSt := Tbl.get PortSt.reset s.can.ports p
def State.setCanPort (s : State) (p : Nat) (f : PortSt → PortSt) : State :=
  { s with can := { s.can with ports := Tbl.set PortSt.reset s.can.ports p (f (s.canPort p)) } }

/-- The port can take a packet: the ring has room, the last packet's segments have gone (R25, R349). -/
def State.portReady (s : State) (port : Nat) : Bool :=
  if port = 0 then true
  else if port ≤ 8 then s.ucpCan (port - 1) && !((s.canPort (port - 1)).queue.any (fun t => decide (t.kind = 3)))
  else
    let q := s.part (port - 9)
    decide ((q.rspHead + 1) % q.rspSize ≠ q.rspTail)

/-- Hand a packet to its port. -/
def State.handOver (s : State) (port : Nat) (i : OutItem) (p : Packet) : State :=
  let s1 := { s with ucp := { s.ucp with sent := [{ i with pkt := p }] } }
  if port = 0 then s1
  else if port ≤ 8 then
    let c := port - 1
    let st := Tbl.get 0 s1.ucp.outStream c
    let b := p.wire
    let segs := segments p.dst st (b.length / 60 + 1) 0 b
    let id := s1.cfg (uc 4) + s1.node % 128
    let s2 := s1.setCanPort c (fun q => { q with queue := q.queue ++ segs.map (fun d => (⟨15, none, 3, id, true, true, d⟩ : TxInst)) })
    { s2 with ucp := { s2.ucp with outStream := Tbl.set 0 s2.ucp.outStream c ((st + 1) % 16) } }
  else
    let q := s1.part (port - 9)
    s1.setPart (port - 9) (fun x => { x with rspHead := (q.rspHead + 1) % q.rspSize, irqStatus := setBit x.irqStatus 1 true })

/-- OUTBOUND_TRANSMIT (R345): the port takes the item of the highest effective level; a response that is handed over sends
its tag into quarantine (R340). -/
def outbound (port : Nat) (s : State) : State :=
  if s.inReset blkUCP || s.dev = dsSTANDBY || !(s.portReady port) then s
  else match bestOf (fun i => s.queueLevel i.pkt.prio i.since) (s.ucp.outq.filter (fun i => decide (i.route.outPort = port))) with
    | none => s
    | some i =>
      let s1 := { s with ucp := { s.ucp with outq := s.ucp.outq.erase i } }
      let r := s1.sealPacket i
      match r.2 with
      | none => r.1
      | some p =>
        let s2 := r.1.handOver port i p
        match i.space with
        | some sp => s2.quarantine sp i.pkt false
        | none => s2

/-! ### Segments from CAN (R348 to R350) -/

def State.dropStream (s : State) (p node st : Nat) : State :=
  { s with ucp := { s.ucp with streams := s.ucp.streams.filter (fun x =>
    !(decide (x.port = p) && decide (x.node = node) && decide (x.stream = st))) } }

/-- The packet in the bytes that a stream's segments have brought, where their number and the padding agree with its
header. -/
def assembled (segs : Nat) (b : List Byte) : Option (List Byte) :=
  let n := 32 + fieldAt b 0x16 2 + (if bit (fieldAt b 2 1) 0 then 16 else 0)
  if 32 ≤ b.length && segs = (n + 59) / 60 && b.length + 4 = 60 * (segs - 1) + canLenOf (4 + (n - 60 * (segs - 1))) then some (b.take n)
  else none

/-- A UCP segment from a node on a port. -/
def segmentReceive (p node : Nat) (d : List Byte) (s : State) : State :=
  let st := fieldAt d 1 1 / 16
  let seg := fieldAt d 2 2
  let last := decide (128 ≤ fieldAt d 0 1)
  if s.dev = dsSTANDBY || s.inReset blkUCP || !(s.ucpCan p) || d.length < 4 then s
  else
    let old := s.ucp.streams.find? (fun x => decide (x.port = p) && decide (x.node = node) && decide (x.stream = st))
    let s1 := s.dropStream p node st
    let base : Option (List Byte) := if seg = 0 then some [] else
      match old with | some x => if x.nextSeg = seg then some x.data else none | none => none
    match base with
    | none => if old.isSome then s1.inc32 (uc 0x0B) else s
    | some b =>
      let all := b ++ d.drop 4
      if last then match assembled (seg + 1) all with
        | some pkt => packetReceive (.can p node) pkt s1
        | none => s1.inc32 (uc 0x0B)
      else if d.length ≠ 64 || 4144 < all.length then s1.inc32 (uc 0x0B)
      else { s1 with ucp := { s1.ucp with streams := s1.ucp.streams ++ [⟨p, node, st, seg + 1, all, s.tm.mt⟩] } }

/-- UCP_STREAM_TIMEOUT (R350). -/
def streamTimeout (p node st : Nat) (s : State) : State :=
  if s.ucp.streams.any (fun x => decide (x.port = p) && decide (x.node = node) && decide (x.stream = st) &&
      decide (x.lastMt + 50 * nsMs ≤ s.tm.mt)) then (s.dropStream p node st).inc32 (uc 0x0B)
  else s

/-! ### The announcement (R351) -/

/-- The MAC address as six bytes (R334). -/
def macBytes : List Byte := [0x02, 0x47] ++ (le 4 serialNo).reverse

/-- IPv6 multicast group ff02::4753. -/
def announceGroup : Nat := 0xFF02 * 2 ^ 112 + 0x4753

def State.announceBody (s : State) : List Byte :=
  let guarding := s.cfgBool (uc 0x10)
  le 1 s.node ++ le 1 (s.get (ob 0x1010 2)) ++ le 1 s.dev ++
    le 1 (ofBool guarding + 2 * ofBool (guarding && decide (s.get (uc 0x12) = s.node))) ++ le 4 serialNo ++
    le 4 (s.get (ob 0x1000 7)) ++ le 2 (s.get (ob 0x1000 8)) ++ le 2 0 ++ macBytes ++ le 2 0 ++ fixLen 40 (s.getB (ob 0x1010 6))

def State.announcePacket (s : State) : Packet :=
  { ver := 1, typ := 5, flags := 0, prio := 5, dst := 127, src := s.node, tag := 0, epoch := 0, session := 0, counter := 0
    opcode := 0, status := 0, devState := 0xFF, sub := 0, index := 0, offset := 0, aux := 0, payload := s.announceBody }

/-- ANNOUNCE: one is due after power-up or PRESENT, at every change of the device state and every 0x2E00.02. -/
def announce (s : State) : State :=
  if s.dev = dsSTANDBY || s.inReset blkUCP then s
  else if s.eth.annAt ≠ 0 && s.eth.annDev = s.dev && s.tm.mt + 1 < s.eth.annAt + s.cfg (uc 2) * nsMs then s
  else
    let p := s.announcePacket
    let s1 := (bitList 8 (s.cfg (uc 3))).foldl (fun t c => t.enqueue (.can c 127) p none) (s.enqueue (.eth announceGroup) p none)
    { s1 with eth := { s1.eth with annAt := s.tm.mt + 1, annDev := s.dev } }

/-- DUPADDR_CLEAR (R351). -/
def dupaddrClear (s : State) : State :=
  if s.eth.dupAt ≠ 0 && s.eth.dupAt + 5 * nsS ≤ s.tm.mt + 1 then
    { s with eth := { s.eth with dupAt := 0 } }.follow srcUCP_DUPADDR false 0
  else s

/-! ### Fleet messages (R356 to R358) -/

def agreeInfo : List Byte := ascii "UCP-FLEET"

/-- The entry of one recipient. -/
def fleetWrap (member : List Byte) (priv fseq key : Nat) : List Byte :=
  le 4 (credSerial member) ++ le 4 0 ++
    le 40 (Config.keyWrap (Config.hkdf (Config.ecdh priv (credKey2 member)) (le 8 fseq) agreeInfo) key)

/-- The envelope of a submission; the three draws are the ephemeral key, the content key and the nonce. -/
def State.fleetEnvelope (s : State) (b : List Byte) (rc : List (List Byte)) (priv key nonce : Nat) : List Byte :=
  let fseq := s.get (uc 0x82)
  let plain := b.drop 40
  let head := le 2 0x4643 ++ le 1 1 ++ le 1 0 ++ le 4 serialNo ++ le 8 fseq ++
    le 8 (if s.timeState = 0 then 0 else s.gnssNow.toNat) ++ b.take 2 ++ le 1 rc.length ++ le 1 0 ++ le 2 plain.length ++ le 2 0 ++
    le 97 (Config.publicPoint priv) ++ le 7 0 ++ (rc.flatMap (fun m => fleetWrap m priv fseq key))
  let n := le 12 nonce
  let body := head ++ n ++ le plain.length (Config.gcmText key n head plain) ++ le 16 (Config.gcmTag key n head plain)
  body ++ le 96 (Config.fleetSign (Config.sha384 body))

/-- FLEET_SEND (R357). -/
def hFleetSend : Handler := Handler.simple fun s _ _ =>
  let b := s.getB (uc 0x80)
  let k := fieldAt b 2 1
  let len := fieldAt b 36 2
  let rc := (List.range k).filterMap (fun i => s.member (fieldAt b (4 + 4 * i) 4))
  if b.length ≠ 40 + len || k = 0 || 8 < k || 3072 < len || fieldAt b 3 1 ≠ 0 || fieldAt b 38 2 ≠ 0 ||
      fieldAt b (4 + 4 * k) (32 - 4 * k) ≠ 0 || rc.length ≠ k then (s, stRANGE)
  else if !s.rootGood then (s, stBUSY)
  else
    let s1 := s.useFree
    let s2 := s1.useFree
    let env := s.fleetEnvelope b rc s.freeVal s1.freeVal s2.freeVal
    let s3 := s2.useFree
    let n := s3.get (uc 0x84)
    let s4 := { s3 with ucp := { s3.ucp with fleetOut := Tbl.set [] s3.ucp.fleetOut (n % 64) env } }
    let s5 := ((s4.addWrap (uc 0x84) 1).put (uc 0x82) ((s4.get (uc 0x82) + 1) % 2 ^ 64)).putB (uc 0x80) []
    (s5.event 6 env 0, stOK)

/-- Step 1 of R358. -/
def fleetForm (b : List Byte) : Bool :=
  let k := fieldAt b 0x1A 1
  let c := fieldAt b 0x1C 2
  decide (fieldAt b 0 2 = 0x4643) && decide (fieldAt b 2 1 = 1) && decide (fieldAt b 3 1 = 0) && within 1 8 k && decide (fieldAt b 0x1B 1 = 0) &&
    decide (c ≤ 3072) && decide (fieldAt b 0x1E 2 = 0) && decide (fieldAt b 0x81 7 = 0) &&
    (List.range k).all (fun i => decide (fieldAt b (0x88 + 48 * i + 4) 4 = 0)) && decide (b.length = 0x104 + 48 * k + c) &&
    (List.range k).any (fun i => decide (fieldAt b (0x88 + 48 * i) 4 = serialNo))

/-- Step 3 of R358: the sequence and the age. -/
def State.fleetFresh (s : State) (b : List Byte) : Bool :=
  let from_ := fieldAt b 4 4
  let t := fieldAt b 0x10 8
  (match s.sec.lastFseq.find? (fun p => decide (p.1 = from_)) with
    | some p => decide (p.2 < fieldAt b 8 8)
    | none => true) &&
    (t = 0 || decide (s.gnssNow ≤ (t : Int) + ((s.cfg (uc 0x89) * nsS : Nat) : Int)))

/-- A refused delivery: counted, FLEET_REJ (R358, R361). -/
def State.fleetReject (s : State) (st : Nat) : State × Nat := ((s.inc32 (uc 0x8A)).raise srcFLEET_REJ 0, st)

/-- FLEET_DELIVER (R358). -/
def hFleetDeliver : Handler := Handler.simple fun s _ _ =>
  let b := s.getB (uc 0x85)
  let k := fieldAt b 0x1A 1
  let c := fieldAt b 0x1C 2
  let from_ := fieldAt b 4 4
  let body := 0xA4 + 48 * k + c
  if !(fleetForm b) then s.fleetReject stRANGE
  else if !(match s.member from_ with
      | some m => Config.ecdsaOk (credKey m) (Config.sha384 (b.take body)) (bytesAt b body 96)
      | none => false) then s.fleetReject stAUTH
  else if !(s.fleetFresh b) then s.fleetReject stAUTH
  else match Config.fleetOpen b with
    | none => s.fleetReject stINTEGRITY
    | some plain =>
      let n := s.get (uc 0x88)
      let e := le 4 from_ ++ bytesAt b 0x18 2 ++ le 2 c ++ bytesAt b 8 8 ++ bytesAt b 0x10 8 ++ le 4 0 ++ fixLen c plain
      let s1 := { s with ucp := { s.ucp with fleetIn := Tbl.set [] s.ucp.fleetIn (n % 64) e } }
      let others := s1.sec.lastFseq.filter (fun (p : Nat × Nat) => decide (p.1 ≠ from_))
      let l := others.drop (others.length - 63) ++ [(from_, fieldAt b 8 8)]
      (({ s1 with sec := { s1.sec with lastFseq := l } }.addWrap (uc 0x88) 1).putB (uc 0x85) [], stOK)

/-- A request of a partition's local port comes by that port. -/
def Who.route (w : Who) (r : Route) : Route := match w with | .port p => .port p | _ => r

def execPacketReceive (r : Route) (bytes : List Byte) (s : State) : Host.Outcome State Fault Refusal :=
  .next (packetReceive r bytes s)
def execSubscribe (who : Who) (r : Route) (cls divider : Nat) (s : State) : Host.Outcome State Fault Refusal :=
  .next (s.reply (fun t => t.subscribe who (who.route r) cls divider))
def execUnsubscribe (who : Who) (r : Route) (cls : Nat) (s : State) : Host.Outcome State Fault Refusal :=
  .next (s.reply (fun t => t.unsubscribe who (who.route r) cls))
def execNop (data : List Byte) (s : State) : Host.Outcome State Fault Refusal := .next (s.reply (fun t => t.nop data))
def execOutboundTransmit (port : Fin 12) (s : State) : Host.Outcome State Fault Refusal := .next (outbound port.val s)
def execTagQuarantineEnd (sp : Space) (epoch tag : Nat) (s : State) : Host.Outcome State Fault Refusal :=
  .next (quarantineEnd sp epoch tag s)
def execUcpSegmentReceive (p : Fin 8) (node : Fin 128) (data : List Byte) (s : State) : Host.Outcome State Fault Refusal :=
  .next (segmentReceive p.val node.val data s)
def execUcpStreamTimeout (p : Fin 8) (node : Fin 128) (stream : Fin 16) (s : State) : Host.Outcome State Fault Refusal :=
  .next (streamTimeout p.val node.val stream.val s)
def execAnnounce (s : State) : Host.Outcome State Fault Refusal := .next (announce s)
def execDupaddrClear (s : State) : Host.Outcome State Fault Refusal := .next (dupaddrClear s)
def execFleetSend (who : Who) (s : State) : Host.Outcome State Fault Refusal :=
  .next (s.request who 0x2E00 0x81 (.num 1) hFleetSend)
def execFleetDeliver (who : Who) (s : State) : Host.Outcome State Fault Refusal :=
  let r := s.write who 0x2E00 0x86 (.num 1) hFleetDeliver
  .next (r.1.answer r.2 0 [])

end Sys2Proof.Machine
end

