-- ==== Sys2Proof/Machine/Ethernet.lean ====
section
/-! DEFINITION. The Ethernet ports and the switch, ring guarding, the answers to ICMPv6, and gPTP (R45, R46, R334,
R352 to R355). -/

namespace Sys2Proof.Machine

open Sys2Proof

/-- An object of port p (R360). -/
def ethk (p sub : Nat) : Nat := uc (0x20 + 16 * p + sub)

/-- Link states (R360): 0 disabled, 1 down, 2 up, 3 blocked by the ring guard. -/
def State.link (s : State) (p : Nat) : Nat := s.get (ethk p 2)
def State.linked (s : State) (p : Nat) : Bool := decide (2 ≤ s.link p)
def State.ethRuns (s : State) : Bool := decide (s.dev ≠ dsSTANDBY) && !s.inReset blkETH && !s.pwr.chip

/-- The module's MAC address as a number, first byte most significant. -/
def macNumber : Nat := 0x0247 * 2 ^ 32 + serialNo

/-! ### Forwarding (R353) -/

/-- A group address, broadcast included. -/
def isGroup (a : Nat) : Bool := bit a 40

def ageOut : Nat := 300 * nsS

/-- The port that an address was learned on and has not aged out from. -/
def State.learned (s : State) (a : Nat) : Option Nat :=
  (s.eth.learn.find? (fun e => decide (e.1 = a) && decide (s.tm.mt < e.2.2 + ageOut))).map (fun e => e.2.1)

/-- Learn a source address; of 1,024 entries the oldest gives way. -/
def State.learnAddr (s : State) (a p : Nat) : State :=
  let l := s.eth.learn.filter (fun (e : Nat × Nat × Nat) => decide (e.1 ≠ a) && decide (s.tm.mt < e.2.2 + ageOut))
  { s with eth := { s.eth with learn := l.drop (l.length - 1023) ++ [(a, p, s.tm.mt)] } }

/-- One more broadcast or multicast frame on a port in the present second; whether it lies within the limit. -/
def State.bcastPass (s : State) (p : Nat) : State × Bool :=
  let sec := s.tm.mt / nsS
  let t := if sec = s.eth.bcastSec then s.eth.bcast else []
  let n := Tbl.get 0 t p
  if s.cfg (uc 0x15) ≤ n then ({ s with eth := { s.eth with bcast := t, bcastSec := sec } }.inc32 (ethk p 7), false)
  else ({ s with eth := { s.eth with bcast := Tbl.set 0 t p (n + 1), bcastSec := sec } }, true)

/-- ETH_FRAME_FORWARD: a data frame arrives on a port. -/
def frameForward (p : Nat) (f : EthFrame) (s : State) : State :=
  if !s.ethRuns || !(s.linked p) then s
  else if !f.fcsOk then s.inc32 (ethk p 6)
  else
    let s1 := s.inc32 (ethk p 4)
    if s1.link p = 3 then s1
    else
      let r := if isGroup f.dst then s1.bcastPass p else (s1, true)
      if !r.2 then r.1
      else
        let s2 := r.1.learnAddr f.src p
        let others := (List.range 6).filter (fun q => decide (q ≠ p) && decide (s2.link q = 2))
        let out := if isGroup f.dst then others else if f.dst = macNumber then []
          else match s2.learned f.dst with
            | some q => others.filter (fun x => decide (x = q))
            | none => others
        let s3 := out.foldl (fun t q => t.inc32 (ethk q 5)) s2
        { s3 with eth := { s3.eth with fwd := out.map (fun q => (q, f.pcp % 8)) } }

/-! ### Ring guarding (R354) -/

def rkTEST : Nat := 0
def rkLINK_DOWN : Nat := 1
def rkFLUSH : Nat := 2
def rkCLOSED : Nat := 3

def timerRing : Nat := 0x301

def State.ringOn (s : State) : Bool := s.cfgBool (uc 0x10)
def State.ringT (s : State) : Nat := s.cfg (uc 0x14) * nsMs
def State.ringState (s : State) : Nat := s.get (uc 0x11)

/-- Own ring frames go out on the linked ones of the given ring ports. -/
def State.ringSend (s : State) (ports : List Nat) (kind : Nat) : State :=
  let out := ports.filter s.linked
  let s1 := out.foldl (fun t q => t.inc32 (ethk q 5)) s
  { s1 with eth := { s1.eth with ringTx := out.map (fun q => (q, kind, s.eth.seq)) } }

/-- The addresses heard in TEST frames within 3 × T_r, the own one, and the lowest of them. -/
def State.ringHeard (s : State) : List (Nat × Nat) := s.eth.heard.filter (fun p => decide (s.tm.mt < p.2 + 3 * s.ringT))
def State.ringLowest (s : State) : Nat := (s.ringHeard.map (fun p => p.1)).foldl (fun a b => if b < a then b else a) s.node
def State.isManager (s : State) : Bool := decide (s.get (uc 0x12) = s.node) && decide (s.node ≠ 0xFF)

/-- The manager of now. A module that becomes manager looks for its own TEST frames; one that was keeps its ETH_B blocked
until CLOSED. -/
def State.ringElect (s : State) : State :=
  let m := s.ringLowest
  let s1 := { s with eth := { s.eth with heard := s.ringHeard } }
  if s1.get (uc 0x12) = m then s1
  else
    let was := s1.isManager
    let s2 := s1.put (uc 0x12) m
    if m = s2.node && m ≠ 0xFF then { s2.put (uc 0x11) 1 with eth := { s2.eth with ownAt := s2.tm.mt + 1 } }
    else if was then
      { s2.follow srcETH_RING false 0 with
        eth := { s2.eth with blockB := false, wait := if s2.eth.blockB then setBit s2.eth.wait 1 true else s2.eth.wait } }
    else s2

/-- The link state of the ring ports follows what blocks them. -/
def State.ringBlock (s : State) : State :=
  [0, 1].foldl (fun t p =>
    if 2 ≤ t.link p then
      t.put (ethk p 2) (if bit t.eth.wait p || (p = 1 && t.eth.blockB) then 3 else 2)
    else t) s

/-- The manager closes the ring. -/
def State.ringClose (s : State) : State :=
  let s1 := { s.put (uc 0x11) 2 with eth := { s.eth with blockB := true, wait := 0 } }
  (s1.ringBlock.ringSend [0, 1] rkCLOSED).follow srcETH_RING false 0

/-- The manager opens the ring. -/
def State.ringOpen (s : State) : State :=
  if s.ringState = 3 then s
  else
    let s1 := { (s.put (uc 0x11) 3).inc32 (uc 0x13) with eth := { s.eth with blockB := false } }
    (s1.ringBlock.ringSend [0, 1] rkFLUSH).follow srcETH_RING true 0

/-- RING_TEST_SEND, every T_r while guarding is enabled. -/
def ringTest (s : State) : State :=
  if !s.ethRuns || !s.ringOn || s.node = 0xFF || (s.timerOn timerRing && !(s.timerPast timerRing s.ringT)) then s
  else
    let s1 := s.startTimer timerRing
    let s2 := { s1 with eth := { s1.eth with seq := (s1.eth.seq + 1) % 2 ^ 32 } }
    let s3 := if s2.ringState = 0 then { s2.put (uc 0x11) 1 with eth := { s2.eth with ownAt := s2.tm.mt + 1 } } else s2
    (s3.ringElect).ringSend [0, 1] rkTEST

/-- RING_FRAME_RECEIVE on ETH_A or ETH_B: frames of others pass on to the other ring port; the module's own are removed. -/
def ringFrame (p kind node : Nat) (s : State) : State :=
  if !s.ethRuns || !(s.linked p) then s
  else
    let s1 := s.inc32 (ethk p 4)
    let other := 1 - p
    let own := decide (node = s.node)
    let s2 := if !own && s1.linked other then s1.inc32 (ek other 5) else s1
    if !s2.ringOn then s2
    else if kind = rkTEST then
      if own then
        let s3 := { s2 with eth := { s2.eth with ownAt := s2.tm.mt + 1 } }
        if s3.isManager && s3.ringState ≠ 2 then s3.ringClose else s3
      else
        { s2 with eth := { s2.eth with
          heard := s2.eth.heard.filter (fun (e : Nat × Nat) => decide (e.1 ≠ node)) ++ [(node, s2.tm.mt)] } }.ringElect
    else if own then s2
    else if kind = rkLINK_DOWN then (if s2.isManager then s2.ringOpen else s2)
    else if kind = rkFLUSH then
      let s3 := { s2 with eth := { s2.eth with learn := [] } }
      if s3.isManager then s3 else s3.put (uc 0x11) 3
    else if kind = rkCLOSED then
      let s3 := { s2 with eth := { s2.eth with wait := 0 } }
      (if s3.isManager then s3 else s3.put (uc 0x11) 2).ringBlock
    else s2

/-- RING_TEST_TIMEOUT: the manager has missed its own TEST frames for 3 × T_r. -/
def ringTestTimeout (s : State) : State :=
  if s.ethRuns && s.ringOn && s.isManager && s.eth.ownAt ≠ 0 && s.eth.ownAt + 3 * s.ringT ≤ s.tm.mt + 1 then s.ringOpen else s

/-- RING_MANAGER_TIMEOUT. -/
def ringManagerTimeout (s : State) : State := if s.ethRuns && s.ringOn then s.ringElect else s

/-! ### Links (R353, R354) -/

/-- ETH_LINK_DOWN. -/
def linkDown (p : Nat) (s : State) : State :=
  if !(s.cfgBool (ethk p 0)) || !(s.linked p) then s
  else
    let s1 := ((s.put (ethk p 2) 1).inc32 (ethk p 8)).follow (srcETH_LINK p) true 0
    let s2 := { s1 with eth := { s1.eth with wait := setBit s1.eth.wait p false } }
    if p < 2 && s2.ringOn then s2.ringSend [1 - p] rkLINK_DOWN else s2

/-- ETH_LINK_UP, with the PHY's signal quality. -/
def linkUp (p quality : Nat) (s : State) : State :=
  if !(s.cfgBool (ethk p 0)) || s.dev = dsSTANDBY || s.linked p then s
  else
    let s1 := ((s.put (ethk p 2) 2).put (ethk p 3) (clampN 7 quality)).follow (srcETH_LINK p) false 0
    if p < 2 && s1.ringOn then { s1 with eth := { s1.eth with wait := setBit s1.eth.wait p true } }.ringBlock else s1

/-- At tick 0: ports and ring guarding that have been enabled or disabled (R354, R359, R360). -/
def State.ethSeal (s : State) : State :=
  let s1 := (List.range 6).foldl (fun t p =>
    if !(t.cfgBool (ethk p 0)) then (t.put (ethk p 2) 0).follow (srcETH_LINK p) false 0
    else if t.link p = 0 && t.dev ≠ dsSTANDBY then t.put (ethk p 2) 1 else t) s
  if s1.ringOn || s1.ringState = 0 then s1
  else
    let s2 := ((s1.put (uc 0x11) 0).put (uc 0x12) 0xFF).follow srcETH_RING false 0
    { s2.stopTimer timerRing with eth := { s2.eth with blockB := false, wait := 0, heard := [], ownAt := 0 } }.ringBlock

/-! ### ICMPv6 (R334) -/

/-- The link-local address: the interface identifier of modified EUI-64. -/
def linkLocal : Nat :=
  let n := serialNo
  0xFE80 * 2 ^ 112 + 0x0047 * 2 ^ 48 + (n / 2 ^ 24) * 2 ^ 40 + 0xFFFE * 2 ^ 24 + n % 2 ^ 24

/-- ICMPV6_MESSAGE_RECEIVE: a Neighbor Solicitation (135) for the module's address is answered with an Advertisement (136)
that carries the MAC address, an echo request (128) with an echo reply (129) of the same data. -/
def icmpReceive (p typ src target : Nat) (data : List Byte) (s : State) : State :=
  if !s.ethRuns || s.link p ≠ 2 then s
  else
    let s1 := s.inc32 (ethk p 4)
    let ans := if typ = 135 && target = linkLocal then some (p, src, 136, macBytes)
      else if typ = 128 then some (p, src, 129, data) else none
    match ans with
    | none => s1
    | some a => { s1.inc32 (ethk p 5) with eth := { s1.eth with icmp := some a } }

/-! ### gPTP (R45, R46, R355) -/

/-- The advertised clockClass. -/
def State.clockClass (s : State) : Nat := if s.timeState = 1 then 6 else if s.timeState = 2 then 7 else 248
/-- The clock identity: the MAC address with FFFE inserted. -/
def clockIdent : Nat := 0x0247 * 2 ^ 48 + (serialNo / 2 ^ 24) * 2 ^ 40 + 0xFFFE * 2 ^ 24 + serialNo % 2 ^ 24

/-- One clock is better than another: the lower priority1, class, remaining quality, identity in this order. -/
def betterClock (a b : Nat × Nat × Nat × Nat) : Bool :=
  decide (a.1 < b.1) || (decide (a.1 = b.1) && (decide (a.2.1 < b.2.1) || (decide (a.2.1 = b.2.1) &&
    (decide (a.2.2.1 < b.2.2.1) || (decide (a.2.2.1 = b.2.2.1) && decide (a.2.2.2 < b.2.2.2))))))

def State.ownClock (s : State) : Nat × Nat × Nat × Nat := (s.tcfg 0x16, s.clockClass, Config.clockQuality, clockIdent)
def State.gmCapable (s : State) : Bool := decide (s.tcfg 0x17 ≠ 0)

/-- The master that stands: one whose Announce has come within 3 s. -/
def State.master (s : State) : Option Nat := if s.tm.mt < s.eth.gp.gmAt + 3 * nsS then s.eth.gp.slave else none

/-- gPTP time of now in ns. -/
def State.gptpTime (s : State) : Int := s.gnssNow + 315964819 * 1000000000

def timerSync (p : Nat) : Nat := 0x320 + p

/-- GPTP_SYNC_SEND: the grandmaster sends every 125 ms on each enabled port, a relay on each port but the one toward its
master. The first Sync of a port after a step carries it (R46). -/
def syncSend (p : Nat) (s : State) : State :=
  let ready := match s.master with
    | none => s.gmCapable && (!(s.timerOn (timerSync p)) || s.timerPast (timerSync p) (125 * nsMs))
    | some q => decide (q ≠ p) && decide (s.eth.gp.sync.isSome || s.tm.netAt ≠ 0)
  if !s.ethRuns || !(s.linked p) || !ready then s
  else
    let g := s.eth.gp
    let m := bit g.mark p
    let s1 := (s.startTimer (timerSync p)).inc32 (ethk p 5)
    { s1 with eth := { s1.eth with gp := { g with
      sync := some ⟨p, s.gptpTime, s.get (ob 0x2000 7) + 19, g.timeBase, if m then some g.change else none⟩
      mark := setBit g.mark p false } } }

/-- The best-master selection on an Announce. -/
def State.gptpAnnounce (s : State) (p : Nat) (m : GptpMsg) : State :=
  let c := (m.prio1, m.cls, m.rest, m.ident)
  let g := s.eth.gp
  let same := decide (g.slave = some p) && decide (g.gm.2.2.2 = m.ident)
  let ownBetter := s.gmCapable && betterClock s.ownClock c
  let stands := s.master.isSome && betterClock g.gm c && !same
  if m.ident = clockIdent then s
  else if ownBetter then (if same then { s with eth := { s.eth with gp := { g with slave := none } } } else s)
  else if stands then s
  else { s with eth := { s.eth with gp := { g with slave := some p, gm := c, gmAt := s.tm.mt } } }

/-- GPTP_MESSAGE_RECEIVE: domain 0 only. -/
def gptpReceive (p : Nat) (m : GptpMsg) (s : State) : State :=
  if !s.ethRuns || !(s.linked p) || m.domain ≠ 0 then s
  else
    let s1 := s.inc32 (ethk p 4)
    let g := s1.eth.gp
    if m.typ = 11 then s1.gptpAnnounce p m
    else if m.typ = 2 then { s1.inc32 (ethk p 5) with eth := { s1.eth with gp := { g with answer := some (p, s1.tm.mt) } } }
    else if m.typ = 10 then { s1 with eth := { s1.eth with gp := { g with delay := Tbl.set 0 g.delay p m.delay } } }
    else if (m.typ = 0 || m.typ = 8) && s1.master = some p then
      let good := decide (g.gm.2.1 = 6) || decide (g.gm.2.1 = 7)
      let s2 := { s1 with tm := { s1.tm with netOk := good, netB := m.phase, netD := m.freq, netUnc := m.unc, netAt := s1.tm.mt } }
      if g.timeBase = m.timeBase then s2
      else { s2 with eth := { s2.eth with gp := { g with timeBase := m.timeBase, change := m.change, mark := 0x3F } } }
    else s1

/-- The switch's block reset or a chip reset: learned addresses go; ports hold their link in a block reset (R271). -/
def State.ethBlock (s : State) : State := { s with eth := { s.eth with learn := [], fwd := [] } }
def State.ethDrop (s : State) : State :=
  let s1 := (List.range 6).foldl (fun t p => t.put (ethk p 2) 0) s
  { ((s1.put (uc 0x11) 0).put (uc 0x12) 0xFF).stopTimer timerRing with eth := { EthSt.reset with seq := s.eth.seq } }

def execGptpSyncSend (p : Fin 6) (s : State) : Host.Outcome State Fault Refusal := .next (syncSend p.val s)
def execGptpMessageReceive (p : Fin 6) (m : GptpMsg) (s : State) : Host.Outcome State Fault Refusal := .next (gptpReceive p.val m s)
def execEthFrameForward (p : Fin 6) (f : EthFrame) (s : State) : Host.Outcome State Fault Refusal := .next (frameForward p.val f s)
def execEthLinkDown (p : Fin 6) (s : State) : Host.Outcome State Fault Refusal := .next (linkDown p.val s)
def execEthLinkUp (p : Fin 6) (quality : Nat) (s : State) : Host.Outcome State Fault Refusal := .next (linkUp p.val quality s)
def execRingTestSend (s : State) : Host.Outcome State Fault Refusal := .next (ringTest s)
def execRingFrameReceive (p : Fin 2) (kind : Fin 4) (node : Nat) (s : State) : Host.Outcome State Fault Refusal :=
  .next (ringFrame p.val kind.val node s)
def execRingTestTimeout (s : State) : Host.Outcome State Fault Refusal := .next (ringTestTimeout s)
def execRingManagerTimeout (s : State) : Host.Outcome State Fault Refusal := .next (ringManagerTimeout s)
def execIcmpv6MessageReceive (p : Fin 6) (typ src target : Nat) (data : List Byte) (s : State) : Host.Outcome State Fault Refusal :=
  .next (icmpReceive p.val typ src target data s)

end Sys2Proof.Machine
end

