-- ==== Sys2Proof/Machine/Can.lean ====
section
/-! DEFINITION. The CAN controllers (R362 to R398): ports and error states, message objects, the queues, the receive log,
bus-off, join check, timing, and the controllers' spares. -/

namespace Sys2Proof.Machine

open Sys2Proof

/-- An object of port p (R397). -/
def cank (p sub : Nat) : Nat := ob (0x2B00 + p % 8) sub

/-- Error states (R397). -/
def ceACTIVE : Nat := 0
def cePASSIVE : Nat := 1
def ceBUSOFF : Nat := 2
def ceRECOVER : Nat := 3
def ceINTEGRATE : Nat := 4
def ceOFF : Nat := 5
def ceFAILED : Nat := 6
def ceJOIN : Nat := 7

def State.canState (s : State) (p : Nat) : Nat := s.get (cank p 0x14)
def PortSt.classical (q : PortSt) : Bool := decide (q.timing.headD 1 = 0)

/-- A source that the ports share is raw while any port has its condition; the code names the port that brings it. -/
def State.followAny (s : State) (src : Nat) (cond : Nat → Bool) (p : Nat) : State :=
  s.follow src ((List.range 8).any cond) (p * 4096)

/-- CAN_BUSp follows the port's state (R381). -/
def State.busFollow (s : State) (p : Nat) : State :=
  let st := s.canState p
  s.follow (srcCAN_BUS p) ([1, 2, 3, 6].contains st || (st = 7 && (s.canPort p).joinErr)) (p * 4096 + st)

def State.setCanState (s : State) (p st : Nat) : State := (s.put (cank p 0x14) st).busFollow p

/-- The port runs: not off, bus-off, failed or in reset (R364, R382, R393, R394). -/
def State.portRuns (s : State) (p : Nat) : Bool :=
  decide (s.dev ≠ dsSTANDBY) && !s.inReset (blkCAN p) && !s.pwr.chip &&
    decide ((s.canPort p).mode ≠ 0) && !([2, 3, 5, 6].contains (s.canState p))

/-- The error state that the counters give (R381). -/
def State.stateOfCounters (s : State) (p : Nat) : Nat :=
  if (s.canPort p).mode = 1 && (127 < s.get (cank p 0x15) || 127 < s.get (cank p 0x16)) then cePASSIVE else ceACTIVE

/-! ### The address claim's start (R388) -/

def State.addrFollow (s : State) (p : Nat) : State := s.followAny srcCAN_ADDR (fun c => decide (s.get (cank c 0x36) = 3)) p

/-- The claim begins with the preferred address. -/
def State.startClaim (s : State) (p : Nat) : State :=
  let s1 := (s.put (cank p 0x36) 1).put (cank p 0x35) 0xFE
  (s1.setCanPort p (fun q => { q with claimSa := s.get (cank p 0x32), claimAt := 0, cannot := false, reclaim := false })).addrFollow p

/-- The port enters normal mode: the error state of its counters, and the first claim (R383, R388). -/
def State.enterNormal (s : State) (p : Nat) : State :=
  let s1 := s.setCanState p (s.stateOfCounters p)
  if (s1.canPort p).iso && s1.get (cank p 0x36) = 0 && (s1.canPort p).mode = 1 then s1.startClaim p else s1

/-- The port integrates on 11 recessive bits from now (R366, R368, R394). -/
def State.integrate (s : State) (p : Nat) : State :=
  if [2, 3, 6].contains (s.canState p) then s
  else
    let q := s.canPort p
    (s.setCanPort p (fun x => { x with joinAt := s.tm.mt + 1, joinErr := false })).setCanState p
      (if q.mode = 0 then ceOFF else ceINTEGRATE)

/-- What follows integration: the join check, or normal mode (R383). -/
def State.settlePort (s : State) (p : Nat) : State :=
  if s.canState p ≠ ceINTEGRATE then s
  else if (s.canPort p).mode = 1 && s.cfgBool (cank p 0x12) then s.setCanState p ceJOIN
  else s.enterNormal p

/-! ### Errors (R381, R383) -/

/-- The error counters move only in normal mode outside the join check. -/
def State.counts (s : State) (p : Nat) : Bool := (s.canPort p).mode = 1 && s.canState p ≠ ceJOIN

def State.noteError (s : State) (p err : Nat) : State :=
  let s1 := ((s.inc32 (cank p 0x18)).put (cank p 0x19) err)
  if s1.canState p = ceJOIN then (s1.setCanPort p (fun q => { q with joinErr := true })).busFollow p else s1

/-- A frame received in error. -/
def State.rxError (s : State) (p err : Nat) : State :=
  let s1 := s.noteError p err
  if s1.counts p then
    let s2 := s1.put (cank p 0x16) (clampN 255 (s1.get (cank p 0x16) + 1))
    s2.setCanState p (s2.stateOfCounters p)
  else s1

/-- REC after a valid frame: one less, and from error passive a value of 119 to 127 that ISO 11898-1 leaves open. -/
def State.recGood (s : State) (p : Nat) : State :=
  let r := s.get (cank p 0x16)
  if !(s.counts p) then s
  else if 127 < r then
    let s1 := s.put (cank p 0x16) (119 + s.freeVal % 9)
    (s1.useFree).setCanState p (s1.stateOfCounters p)
  else s.put (cank p 0x16) (r - 1)

/-! ### Message objects (R370 to R375) -/

def canObjOf (e : List Byte) : CanObj :=
  ⟨fieldAt e 0 4, fieldAt e 4 4, fieldAt e 8 1, fieldAt e 9 1, fieldAt e 0x0A 1, fieldAt e 0x0B 1, fieldAt e 0x0C 2, fieldAt e 0x0E 1,
    fieldAt e 0x0F 1, fieldAt e 0x10 2, fieldAt e 0x12 2, fieldAt e 0x14 2⟩

/-- Entry n of a staged table. -/
def tblEntry (b : List Byte) (n : Nat) : CanObj := canObjOf (bytesAt b (16 + 32 * n) 32)
def tblOf (b : List Byte) : Tbl CanObj :=
  ((List.range 256).map (fun n => (n, tblEntry b n))).filter (fun p => p.2.kind ≠ 0)

def CanObj.ide (o : CanObj) : Bool := bit o.id 29
def CanObj.fdf (o : CanObj) : Bool := bit o.format 0
/-- Bytes of the object's entry in its map. -/
def CanObj.span (o : CanObj) : Nat := 4 + (o.len + 3) / 4 * 4
def CanObj.mapped (o : CanObj) : Bool := decide (o.mapOff ≠ 0xFFFF)

/-- The field ranges of an entry, and the rules of R371 that it can break alone. -/
def canObjOk (classical : Bool) (e : List Byte) : Bool :=
  let o := canObjOf e
  decide (o.kind = 0) ||
    (decide (o.kind ≤ 2) && decide (o.id < 2 ^ 30) && decide (o.mask < 2 ^ 30) && (o.ide || decide (o.id < 2048)) && decide (o.format < 16) &&
      (decide (o.len ≤ 8) || (o.fdf && [12, 16, 20, 24, 32, 48, 64].contains o.len)) && !(o.fdf && classical) &&
      decide (o.queue ≤ 13) && (!o.mapped || (decide (o.mapOff % 4 = 0) && decide (o.mapOff + o.span ≤ 4096))) &&
      decide (o.trigger < 8) && (decide (o.owner ≤ 2) || decide (o.owner = 0xFF)) &&
      (decide (o.kind = 1) || (o.mapped && (!(bit o.trigger 0) || decide (o.period ≠ 0)) && (decide (o.phase < o.period) || decide (o.phase = 0)))) &&
      (!(bit o.format 2) || o.ide) && decide (fieldAt e 0x16 10 = 0))

def tblHeadOk (b : List Byte) : Bool :=
  decide (b.length = 8208) && decide (fieldAt b 0 12 = 0) && decide (fieldAt b 12 4 = crc32 (b.drop 16))

/-- Two entries of one direction keep apart in the map. -/
def CanObj.apart (a b : CanObj) : Bool :=
  decide (a.kind ≠ b.kind) || !a.mapped || !b.mapped || decide (a.mapOff + a.span ≤ b.mapOff) || decide (b.mapOff + b.span ≤ a.mapOff)

/-- The byte ranges of the transmit map that enabled slots fill (R170). -/
def State.slotBytes (s : State) : List (Nat × Nat) :=
  ((List.range 96).filter (fun n => decide (s.get (sk n 1) = 1) && decide (s.get (sk n 0x13) = 4))).map (fun n =>
    let sel := s.get (sk n 0x14)
    (sel % 4096, canTypeSize (sel / 4096)))

def inData (o : CanObj) (r : Nat × Nat) : Bool :=
  decide (o.kind = 2) && decide (o.mapOff + 4 ≤ r.1) && decide (r.1 + r.2 ≤ o.mapOff + 4 + o.len)

/-- Every data byte of an entry is filled by slots. -/
def allFilled (sl : List (Nat × Nat)) (o : CanObj) : Bool :=
  decide (o.len ≠ 0) && (List.range o.len).all (fun i => sl.any (fun r => decide (r.1 ≤ o.mapOff + 4 + i) && decide (o.mapOff + 4 + i < r.1 + r.2)))

/-- The staged tables of the ports of a mask pass R371; otherwise what 0x2C00.0A shows. -/
def State.tableFault (s : State) (mask : Nat) : Option Nat :=
  let ports := bitList 8 mask
  let staged (p : Nat) : List Byte := s.getB (ob 0x2C00 (1 + p))
  match ports.find? (fun p => !(tblHeadOk (staged p))) with
  | some p => some (p * 256 + 0xFF)
  | none =>
    let kept := ((List.range 8).filter (fun p => !(ports.contains p))).flatMap (fun p =>
      let q := s.canPort p
      match q.newTbl with | some b => tblOf b | none => q.tbl)
    let es := ports.flatMap (fun p => (List.range 256).map (fun n => (p, n)))
    let ok (before : List (Nat × Nat)) (e : Nat × Nat) : Bool :=
      let b := bytesAt (staged e.1) (16 + 32 * e.2) 32
      let o := canObjOf b
      canObjOk (s.canPort e.1).classical b &&
        (decide (o.kind = 0) || (kept.all (fun k => o.apart k.2) && before.all (fun x => decide ((tblEntry (staged x.1) x.2).kind = 0) || o.apart (tblEntry (staged x.1) x.2)) &&
          !(decide (o.kind = 2) && decide (o.owner ≠ 0xFF) && allFilled s.slotBytes o)))
    match firstBad ok [] es 0 with
    | some k => some ((es.getD k (0, 0)).1 * 256 + (es.getD k (0, 0)).2)
    | none =>
      let all := kept.map (fun k => k.2) ++ es.map (fun e => tblEntry (staged e.1) e.2)
      if s.slotBytes.all (fun r => all.any (fun o => inData o r)) then none else some (ports.headD 0 * 256 + 0xFF)

/-- CAN_TABLE_APPLY: a write of a mask to 0x2C00.09 (R371). -/
def hTableApply : Handler := Handler.simple fun s _ v =>
  let mask := v.toNum
  match s.tableFault mask with
  | some k => (s.put (ob 0x2C00 0x0A) k, stRANGE)
  | none =>
    let s1 := (bitList 8 mask).foldl (fun t p =>
      (t.setCanPort p (fun q => { q with newTbl := some (s.getB (ob 0x2C00 (1 + p))) })).putB (ob 0x2C00 (1 + p)) []) s
    ((s1.put (ob 0x2C00 0x0A) 0xFFFF).touched, stOK)

/-- An object's state, and the state with it changed. -/
def PortSt.obj (q : PortSt) (n : Nat) : CanObj := Tbl.get CanObj.reset q.tbl n
def PortSt.ost (q : PortSt) (n : Nat) : CanObjSt := Tbl.get CanObjSt.reset q.objs n
def PortSt.setOst (q : PortSt) (n : Nat) (f : CanObjSt → CanObjSt) : PortSt :=
  { q with objs := Tbl.set CanObjSt.reset q.objs n (f (q.ost n)) }

/-- The bytes an object's data has in the receive map. -/
def CanObjSt.bytes (x : CanObjSt) (n : Nat) : List Byte := fixLen n x.data

/-- The live bytes of the receive map, and the fresh ones, of one object (R373, R374). -/
def State.showObj (s : State) (o : CanObj) (x : CanObjSt) : State :=
  if !o.mapped || o.kind ≠ 1 then s
  else
    let bs := x.bytes o.len
    let put (t : Tbl Nat) (f : Nat → Nat) : Tbl Nat := (List.range o.len).foldl (fun m i => Tbl.set 0 m (o.mapOff + 4 + i) (f i)) t
    { s with can := { s.can with
      rxMap := put s.can.rxMap (fun i => (bs.getD i 0).toNat)
      rxFresh := put s.can.rxFresh (fun _ => ofBool x.fresh) } }

/-- The receive map of every port afresh. -/
def State.showAll (s : State) : State :=
  let s0 := { s with can := { s.can with rxMap := [], rxFresh := [] } }
  (List.range 8).foldl (fun t p => (t.canPort p).tbl.foldl (fun u e => u.showObj e.2 ((u.canPort p).ost e.1)) t) s0

/-- A table takes effect: objects whose entry did not change keep their state and instance (R371). -/
def State.putTable (s : State) (p : Nat) (b : List Byte) : State :=
  let q := s.canPort p
  let t := tblOf b
  let same (n : Nat) : Bool := decide (q.obj n = Tbl.get CanObj.reset t n)
  ((s.setCanPort p (fun x => { x with
    tbl := t
    newTbl := none
    objs := x.objs.filter (fun e => same e.1)
    queue := x.queue.filter (fun i => match i.obj with | some n => same n | none => true) })).putB (ob 0x2C00 (0x81 + p)) b).showAll

/-! ### The receive log (R375) -/

def State.logEntry (s : State) (p kind obj len mt idw w14 : Nat) (data : List Byte) : State :=
  let seq := s.get (cank p 0x41)
  let e := le 4 seq ++ le 1 kind ++ le 1 obj ++ le 2 len ++ le 8 mt ++ le 4 idw ++ le 4 w14 ++ fixLen 64 data ++ le 8 0
  (s.setCanPort p (fun q => { q with log := Tbl.set [] q.log (seq % 2048) e })).addWrap (cank p 0x41) 1

/-- ID of a frame as the log and the status records lay it out. -/
def CanFrame.word (f : CanFrame) : Nat := f.id % 2 ^ 30 + (if f.fdf then 2 ^ 30 else 0) + (if f.brs then 2 ^ 31 else 0)

def State.logFrame (s : State) (p obj : Nat) (f : CanFrame) : State :=
  s.logEntry p 1 obj f.data.length f.sof f.word (ofBool f.esi) f.data

/-- A completed message: a principal and its continuations; `n` bounds them. -/
def State.logMore (s : State) (p mt idw w14 : Nat) : Nat → List Byte → State
  | 0, _ => s
  | n + 1, d => if d = [] then s else (s.logEntry p 3 0xFF (d.take 64).length mt idw w14 (d.take 64)).logMore p mt idw w14 n (d.drop 64)

def State.logMessage (s : State) (p mt pgn sa da prio : Nat) (d : List Byte) : State :=
  let w := sa + 256 * da + 65536 * prio
  (s.logEntry p 2 0xFF d.length mt pgn w (d.take 64)).logMore p mt pgn w (d.length / 64 + 1) (d.drop 64)

/-! ### Own frames (R378) -/

def State.txPush (s : State) (p : Nat) (i : TxInst) : State := s.setCanPort p (fun q => { q with queue := q.queue ++ [i] })

/-- An ISO 11783 frame from the module's address: priority, PDU format and its low byte. -/
def isoId (prio pf ps sa : Nat) : Nat := 2 ^ 29 + prio % 8 * 2 ^ 26 + pf * 65536 + ps * 256 + sa
def State.isoPush (s : State) (p kind prio pf ps : Nat) (d : List Byte) : State :=
  s.txPush p ⟨14, none, kind, isoId prio pf ps (s.canPort p).claimSa, false, false, d⟩

/-- Address Claimed, or Cannot Claim from address 254. -/
def State.claimFrame (s : State) (p sa : Nat) : State :=
  s.txPush p ⟨14, none, 2, isoId 6 0xEE 0xFF sa, false, false, le 8 (s.get (cank p 0x31))⟩

/-! ### The address claim (R388) -/

/-- The lowest address of the range that no other node heard has claimed. -/
def State.freeAddr (s : State) (p : Nat) : Option Nat :=
  let lo := s.cfg (cank p 0x33)
  let hi := s.cfg (cank p 0x34)
  (List.range 254).find? (fun a => within lo hi a && !((s.canPort p).heard.any (fun h => decide (h.1 = a))))

/-- A claim of another node: the lower NAME wins. -/
def State.contend (s : State) (p sa name : Nat) : State :=
  let s1 := s.setCanPort p (fun q => { q with
    heard := q.heard.filter (fun (h : Nat × Nat) => decide (h.2 ≠ name) && decide (h.1 ≠ sa)) ++ (if sa < 254 then [(sa, name)] else []) })
  let st := s1.get (cank p 0x36)
  let q := s1.canPort p
  let own := s1.cfg (cank p 0x31)
  if (st ≠ 1 && st ≠ 2) || q.claimSa ≠ sa then s1
  else if own ≤ name then
    (s1.claimFrame p sa).setCanPort p (fun x => { x with claimAt := if st = 1 then s.tm.mt + 1 else x.claimAt })
  else
    let s2 := (s1.put (cank p 0x36) 1).put (cank p 0x35) 0xFE
    match (if bit own 63 then s2.freeAddr p else none) with
    | some a => s2.setCanPort p (fun x => { x with claimSa := a, claimAt := 0 })
    | none => s2.setCanPort p (fun x => { x with claimSa := 0xFE, claimAt := 0, cannot := true })

/-- ADDRESS_CLAIM_SEND. -/
def claimSend (p : Nat) (s : State) : State :=
  let q := s.canPort p
  if s.portRuns p && q.iso && s.get (cank p 0x36) = 1 && !q.cannot && q.claimAt = 0 then
    (s.claimFrame p q.claimSa).setCanPort p (fun x => { x with claimAt := s.tm.mt + 1 })
  else s

/-- ADDRESS_HELD: 250 ms without a contending claim. -/
def addressHeld (p : Nat) (s : State) : State :=
  let q := s.canPort p
  if s.get (cank p 0x36) = 1 && !q.cannot && q.claimAt ≠ 0 && q.claimAt + 250 * nsMs ≤ s.tm.mt + 1 then
    (s.put (cank p 0x36) 2).put (cank p 0x35) q.claimSa
  else s

/-- CANNOT_CLAIM_SEND. -/
def cannotClaim (p : Nat) (s : State) : State :=
  if (s.canPort p).cannot then
    (((s.claimFrame p 254).setCanPort p (fun x => { x with cannot := false })).put (cank p 0x36) 3).addrFollow p
  else s

/-- A Request for PGN 60928 is answered. -/
def State.answerClaim (s : State) (p : Nat) : State :=
  let st := s.get (cank p 0x36)
  if st = 3 then s.claimFrame p 254 else if st = 0 || (s.canPort p).cannot then s else s.claimFrame p (s.canPort p).claimSa

/-! ### Transport sessions (R389; control bytes and times of ISO 11783-3) -/

def tpT1 : Nat := 750 * nsMs
def tpT2 : Nat := 1250 * nsMs
def tpT4 : Nat := 1050 * nsMs

def State.setSess (s : State) (p : Nat) (l : List TpSess) : State :=
  (s.setCanPort p (fun q => { q with sess := l })).put (cank p 0x3D) l.length

def TpSess.is (x : TpSess) (tx bam : Bool) (peer : Nat) : Bool := decide (x.tx = tx) && decide (x.bam = bam) && decide (x.peer = peer)
def State.sessOf (s : State) (p : Nat) (tx bam : Bool) (peer : Nat) : Option TpSess :=
  (s.canPort p).sess.find? (fun x => x.is tx bam peer)
def State.dropSess (s : State) (p : Nat) (tx bam : Bool) (peer : Nat) : State :=
  s.setSess p ((s.canPort p).sess.filter (fun x => !(x.is tx bam peer)))
def State.putSess (s : State) (p : Nat) (x : TpSess) : State :=
  s.setSess p ((s.canPort p).sess.filter (fun y => !(y.is x.tx x.bam x.peer)) ++ [x])

/-- PDU format of the connection management and of the data of TP and ETP. -/
def cmPf (etp : Bool) : Nat := if etp then 0xC8 else 0xEC
def dtPf (etp : Bool) : Nat := if etp then 0xC7 else 0xEB

/-- A connection abort with its reason. -/
def State.tpAbort (s : State) (p : Nat) (etp : Bool) (peer pgn reason : Nat) : State :=
  s.isoPush p 2 7 (cmPf etp) peer (le 1 255 ++ le 1 reason ++ le 3 0xFFFFFF ++ le 3 pgn)

def TpSess.packets (x : TpSess) : Nat := (x.total + 6) / 7

/-- The receiver clears the sender to send its next packets. -/
def State.tpGrant (s : State) (p : Nat) (x : TpSess) : State :=
  let left := x.packets - x.next
  let n := clampN (s.cfg (cank p 0x37)) left
  let d := if x.etp then le 1 21 ++ le 1 n ++ le 3 (x.next + 1) ++ le 3 x.pgn
    else le 1 17 ++ le 1 n ++ le 1 (x.next + 1) ++ le 2 0xFFFF ++ le 3 x.pgn
  (s.isoPush p 2 7 (cmPf x.etp) x.peer d).putSess p { x with grant := x.next + n, at_ := s.tm.mt, lim := tpT2 }

/-- A session asked for by RTS: refused for lack of resources beyond 8 sessions or 16,384 bytes. -/
def State.tpRts (s : State) (p : Nat) (etp : Bool) (peer pgn prio total : Nat) : State :=
  let others := (s.canPort p).sess.filter (fun y => !y.tx && !(y.is false false peer))
  if 8 ≤ others.length || 16384 < total || (!etp && 1785 < total) then s.tpAbort p etp peer pgn 2
  else s.tpGrant p ⟨false, etp, false, peer, pgn, prio, total, [], 0, 0, 0, s.tm.mt, tpT2⟩

/-- A message has arrived whole. -/
def State.tpDone (s : State) (p sof : Nat) (x : TpSess) : State :=
  let da := if x.bam then 255 else s.get (cank p 0x35)
  let s1 := (s.dropSess p false x.bam x.peer).logMessage p sof x.pgn x.peer da x.prio (x.data.take x.total)
  if x.bam then s1
  else s1.isoPush p 2 7 (cmPf x.etp) x.peer
    (if x.etp then le 1 23 ++ le 4 x.total ++ le 3 x.pgn else le 1 19 ++ le 2 x.total ++ le 1 x.packets ++ le 1 0xFF ++ le 3 x.pgn)

/-- A data packet. -/
def State.tpData (s : State) (p sof : Nat) (x : TpSess) (d : List Byte) : State :=
  if fieldAt d 0 1 ≠ x.next - x.off + 1 || (!x.bam && x.grant ≤ x.next) then
    let s1 := s.dropSess p false x.bam x.peer
    if x.bam then s1 else s1.tpAbort p x.etp x.peer x.pgn 7
  else
    let y := { x with data := x.data ++ fixLen 7 (d.drop 1), next := x.next + 1, at_ := s.tm.mt, lim := tpT1 }
    if y.packets ≤ y.next then s.tpDone p sof y
    else if !y.bam && y.next = y.grant then s.tpGrant p y
    else s.putSess p y

/-- The transmission of R390 ends with an abort reason, 0 for done. -/
def State.isoEnds (s : State) (p reason : Nat) : State := s.setCanPort p (fun q => { q with isoEnd := some reason })

/-- The packets of a transmission from one number on; `seq` is the number the first carries. -/
def State.tpSend (s : State) (p : Nat) (x : TpSess) (seq : Nat) : Nat → Nat → State
  | 0, _ => s
  | n + 1, k =>
    (s.isoPush p 2 7 (dtPf x.etp) x.peer (le 1 seq ++ (bytesAt x.data (7 * k) 7 ++ List.replicate 7 (0xFF : Byte)).take 7)).tpSend p x (seq + 1) n (k + 1)

/-- A clear-to-send for `n` packets from `next` on; none holds the sender. -/
def State.tpCleared (s : State) (p : Nat) (x : TpSess) (n next : Nat) : State :=
  if n = 0 then s.putSess p { x with at_ := s.tm.mt, lim := tpT4 }
  else
    let k := clampN (x.packets - (next - 1)) n
    let s1 := if x.etp then s.isoPush p 2 7 0xC8 x.peer (le 1 22 ++ le 1 k ++ le 3 (next - 1) ++ le 3 x.pgn) else s
    (s1.tpSend p x (if x.etp then 1 else next) k (next - 1)).putSess p { x with next := next - 1 + k, at_ := s.tm.mt, lim := tpT2 }

/-- A connection-management frame. -/
def State.tpControl (s : State) (p : Nat) (etp : Bool) (sa da prio : Nat) (d : List Byte) : State :=
  let c := fieldAt d 0 1
  let pgn := fieldAt d 5 3
  let rx := s.sessOf p false false sa
  let tx := s.sessOf p true false sa
  if da = 255 then
    if c = 32 && !etp && ((s.sessOf p false true sa).isSome || decide (((s.canPort p).sess.filter (fun y => !y.tx)).length < 8)) then
      s.putSess p ⟨false, false, true, sa, pgn, prio, fieldAt d 1 2, [], 0, 0, 0, s.tm.mt, tpT1⟩
    else s
  else if c = (if etp then 20 else 16) then s.tpRts p etp sa pgn prio (if etp then fieldAt d 1 4 else fieldAt d 1 2)
  else if c = 255 then
    let s1 := if rx.isSome then s.dropSess p false false sa else s
    if tx.isSome then (s1.dropSess p true false sa).isoEnds p (fieldAt d 1 1) else s1
  else match tx with
    | some x =>
      if c = (if etp then 21 else 17) then s.tpCleared p x (fieldAt d 1 1) (if etp then fieldAt d 2 3 else fieldAt d 2 1)
      else if c = (if etp then 23 else 19) then (s.dropSess p true false sa).isoEnds p 0
      else s
    | none => match rx with
      | some x => if etp && c = 22 then s.putSess p { x with off := fieldAt d 2 3, at_ := s.tm.mt, lim := tpT1 } else s
      | none => s

/-- TRANSPORT_SESSION_TIMEOUT. -/
def transportTimeout (p : Nat) (tx bam : Bool) (peer : Nat) (s : State) : State :=
  match s.sessOf p tx bam peer with
  | none => s
  | some x =>
    if (tx && bam) || s.tm.mt < x.at_ + x.lim then s
    else
      let s1 := s.dropSess p tx bam peer
      let s2 := if bam then s1 else s1.tpAbort p x.etp peer x.pgn 3
      if tx then s2.isoEnds p 3 else s2

/-- The ISO 11783 engine sees an extended frame; whether it consumed it (R388, R389). -/
def State.isoTake (s : State) (p : Nat) (f : CanFrame) : State × Bool :=
  let prio := f.id / 2 ^ 26 % 8
  let pg := f.id / 65536 % 1024
  let ps := f.id / 256 % 256
  let sa := f.id % 256
  let own := s.get (cank p 0x35)
  let mine := decide (own ≠ 0xFE) && decide (ps = own)
  if !(s.canPort p).iso || !(bit f.id 29) then (s, false)
  else if pg = 0xEE && ps = 255 && f.data.length = 8 then (s.contend p sa (ofLe f.data), false)
  else if pg = 0xEA && (mine || ps = 255) && ofLe (f.data.take 3) = 60928 && 3 ≤ f.data.length then (s.answerClaim p, true)
  else if (pg = 0xEC && (mine || ps = 255)) || (pg = 0xC8 && mine) then
    (if f.data.length = 8 then s.tpControl p (decide (pg = 0xC8)) sa ps prio f.data else s, true)
  else if (pg = 0xEB && (mine || ps = 255)) || (pg = 0xC7 && mine) then
    (match s.sessOf p false (decide (ps = 255)) sa with
      | some x => if f.data.length = 8 && x.etp = decide (pg = 0xC7) then s.tpData p f.sof x f.data else s
      | none => s, true)
  else (s, false)

/-! ### Time slave (R386) -/

def State.timeFollow (s : State) (p : Nat) : State := s.followAny srcCAN_TIME (fun c => decide (s.get (cank c 0x2D) = 2)) p

def State.refReceive (s : State) (p : Nat) (f : CanFrame) : State :=
  let n := fieldAt f.data 13 1
  let prev := fieldAt f.data 0 8
  let s1 := match (s.canPort p).stamp with
    | some (k, sof) =>
      if prev ≠ 0xFFFFFFFFFFFFFFFF && (k + 1) % 256 = n then
        let o : Int := (prev : Int) - ((sof : Int) - s.cfg (cank p 0x2B))
        let t := (((s.putI64 (cank p 0x2C) o).put (cank p 0x2E) (fieldAt f.data 8 1)).put (cank p 0x2F) (fieldAt f.data 9 4)).put (cank p 0x2D) 1
        (t.setCanPort p (fun q => { q with pairAt := s.tm.mt + 1 })).timeFollow p
      else s
    | none => s
  s1.setCanPort p (fun q => { q with stamp := some (n, f.sof) })

/-- CAN_TIME_LOST. -/
def canTimeLost (p : Nat) (s : State) : State :=
  let q := s.canPort p
  if q.role = 2 && s.get (cank p 0x2D) ≠ 2 && q.pairAt + 3 * s.cfg (cank p 0x2A) * nsMs ≤ s.tm.mt + 1 then
    (s.put (cank p 0x2D) 2).timeFollow p
  else s

/-! ### Reception (R368, R372, R373) -/

/-- CAN_PROTOCOL_EXCEPTION: a classical port meets a frame with FDF recessive. -/
def protocolException (p : Nat) (s : State) : State :=
  if s.portRuns p && (s.canPort p).classical then (s.inc32 (cank p 0x1C)).integrate p else s

/-- Receive objects by number. -/
def PortSt.matching (q : PortSt) (f : CanFrame) : Option (Nat × CanObj) :=
  q.tbl.find? (fun e => decide (e.2.kind = 1) && decide (((f.id % 2 ^ 30) ^^^ e.2.id) &&& e.2.mask = 0))

/-- The frame becomes the object's latest. -/
def State.objReceive (s : State) (p n : Nat) (o : CanObj) (f : CanFrame) : State :=
  let x := (s.canPort p).ost n
  let missed := !x.consumed && !x.never
  let y := { x with
    frames := (x.frames + 1) % 2 ^ 32
    fresh := true
    timeout := false
    never := false
    lost := x.lost || missed
    lostAsm := x.lostAsm || missed
    lostCount := if missed then clampN 65535 (x.lostCount + 1) else x.lostCount
    lastId := f.word
    data := f.data
    lastAt := s.tm.mt
    consumed := bit o.format 3 }
  let s1 := (s.setCanPort p (fun q => q.setOst n (fun _ => y))).showObj o y
  if bit o.format 3 then s1.logFrame p n f else s1

/-- A frame whose identifier belongs to a transmit object of the port (R372). -/
def State.foreign (s : State) (p : Nat) (f : CanFrame) : State :=
  let hit := (s.canPort p).tbl.filter (fun e => decide (e.2.kind = 2) && decide (e.2.id = f.id % 2 ^ 30))
  if hit = [] then s
  else (hit.foldl (fun t e => t.setCanPort p (fun q => q.setOst e.1 (fun x => { x with foreign := true }))) s).inc32 (cank p 0x1E)

/-- The consumers in their order (R372). -/
def State.offer (s : State) (p : Nat) (f : CanFrame) : State :=
  let b := s.cfg (uc 4)
  let id := f.id % 2 ^ 30
  let q := s.canPort p
  if f.rtr then s.inc32 (cank p 0x1F)
  else if bit (s.cfg (uc 3)) p && f.fdf && within b (b + 127) id then segmentReceive p (id - b) f.data s
  else if q.role = 2 && id = s.cfg (cank p 0x29) && f.fdf && f.data.length = 16 then s.refReceive p f
  else
    let r := s.isoTake p f
    if r.2 then r.1
    else
      let s1 := r.1
      match (s1.canPort p).matching f with
      | some (n, o) =>
        if f.data.length ≤ o.len then s1.objReceive p n o f
        else if s1.cfgBool (cank p 0x42) then s1.logFrame p 0xFF f else s1.inc32 (cank p 0x1F)
      | none => if s1.cfgBool (cank p 0x42) then s1.logFrame p 0xFF f else s1.inc32 (cank p 0x1F)

/-- The port has seen a valid frame: it leaves the join check (R383). -/
def State.leaveJoin (s : State) (p : Nat) : State :=
  if s.canState p = ceJOIN then
    let s1 := (s.setCanPort p (fun q => { q with joinErr := false, rate := false })).enterNormal p
    s1.followAny srcCAN_RATE (fun c => (s1.canPort c).rate) p
  else s

/-- CAN_FRAME_RECEIVE: `err` is 0 for a valid frame, else the error type of 0x2Bpp.19. -/
def frameReceive (p : Nat) (f : CanFrame) (err : Nat) (s : State) : State :=
  if !(s.portRuns p) then s
  else if f.fdf && (s.canPort p).classical then protocolException p s
  else
    let s0 := s.settlePort p
    if err ≠ 0 then s0.rxError p (clampN 6 err)
    else (((s0.recGood p).leaveJoin p).inc32 (cank p 0x1A) |>.foreign p f).offer p f

/-- CAN_RX_TIMEOUT (R373). -/
def rxTimeout (p n : Nat) (s : State) : State :=
  let q := s.canPort p
  let o := q.obj n
  let x := q.ost n
  if o.kind = 1 && o.period ≠ 0 && !x.never && x.lastAt + o.period * nsMs ≤ s.tm.mt then
    let y := { x with fresh := false, timeout := true }
    (s.setCanPort p (fun r => r.setOst n (fun _ => y))).showObj o y
  else s

/-- The 4-byte header and the data of a receive entry (R374). -/
def rxEntry (o : CanObj) (x : CanObjSt) : List Byte :=
  le 1 x.frames ++ le 1 (ofBool x.fresh + 2 * ofBool x.lostAsm + 4 * ofBool x.timeout + 8 * ofBool x.never) ++
    le 1 x.data.length ++ le 1 0 ++ fixLen (o.span - 4) (x.bytes o.len)

/-- The receive map as Assemble writes it, byte by offset, and the objects that it consumes (R373, R374). -/
def State.rxAssemble (s : State) : State × List (Nat × List Byte) :=
  (List.range 8).foldl (fun a p => ((a.1.canPort p).tbl.filter (fun e => decide (e.2.kind = 1) && e.2.mapped)).foldl (fun b e =>
    let x := (b.1.canPort p).ost e.1
    (b.1.setCanPort p (fun q => q.setOst e.1 (fun y => { y with consumed := true, lostAsm := false })),
      b.2 ++ [(0x1000 + e.2.mapOff, rxEntry e.2 x)])) a) (s, [])

/-! ### Transmission (R376 to R380) -/

/-- Bytes of the taken view. -/
def State.takenBytes (s : State) (off n : Nat) : List Byte :=
  (List.range n).map (fun i => BitVec.ofNat 8 (Tbl.get 0 s.img.taken (off + i)))

/-- Objects may fall due (R365). -/
def dueState (d : Nat) : Bool := decide (3 ≤ d) && decide (d ≤ 6)

/-- Queue an object's instance with the data of its entry (R377, R378). -/
def State.queueObj (s : State) (p n : Nat) (o : CanObj) : State :=
  let b := s.takenBytes (0x1000 + o.mapOff) (4 + o.len)
  let want := fieldAt b 1 1
  let n0 := if want = 0 || o.len < want then o.len else want
  let raw := bytesAt b 4 o.len
  let d := fixLen (canLenOf n0) (raw.take n0)
  let q := s.canPort p
  let waits := q.queue.any (fun i => decide (i.obj = some n))
  let inst : TxInst := ⟨o.queue, some n, 0, o.id, o.fdf, bit o.format 1, d⟩
  let queue := if waits then q.queue.map (fun i => if i.obj = some n then { inst with queue := i.queue } else i) else q.queue ++ [inst]
  let first := match q.first with | some i => if i.obj = some n then some { inst with queue := i.queue } else some i | none => none
  s.setCanPort p (fun x => { x with queue := queue, first := first }.setOst n (fun y => { y with
    qData := raw, qReq := fieldAt b 0 1, qAt := s.tm.mt + 1, want := false, data := d
    lostCount := if waits then clampN 65535 (y.lostCount + 1) else y.lostCount }))

/-- One object at tick 4,000. -/
def State.objDue (s : State) (p n : Nat) (o : CanObj) : State :=
  let x := (s.canPort p).ost n
  let b := s.takenBytes (0x1000 + o.mapOff) (4 + o.len)
  let c := x.cd.getD (o.phase * 20)
  let cyc := bit o.trigger 0
  let hit := cyc && decide (c = 0)
  let chg := bit o.trigger 1 && (decide (x.qAt = 0) || decide (bytesAt b 4 o.len ≠ x.qData))
  let req := bit o.trigger 2 && decide (fieldAt b 0 1 ≠ x.qReq)
  let s1 := s.setCanPort p (fun q => q.setOst n (fun y => { y with
    cd := if cyc then some (if c = 0 then o.period * 20 - 1 else c - 1) else none, want := y.want || hit || chg || req }))
  if ((s1.canPort p).ost n).want && (x.qAt = 0 || x.qAt + o.inhibit * nsMs ≤ s.tm.mt + 1) then s1.queueObj p n o else s1

/-- The next packet of a broadcast that is due (R389). -/
def State.bamStep (s : State) (p : Nat) : State :=
  match (s.canPort p).sess.find? (fun x => x.tx && x.bam) with
  | none => s
  | some x =>
    if x.packets ≤ x.next || s.tm.mt < x.at_ + s.cfg (cank p 0x38) * nsMs then s
    else
      let last := decide (x.next + 1 = x.packets)
      (s.isoPush p (if last then 5 else 2) 7 0xEB 255 (le 1 (x.next + 1) ++
        (bytesAt x.data (7 * x.next) 7 ++ List.replicate 7 (0xFF : Byte)).take 7)).putSess p { x with next := x.next + 1, at_ := s.tm.mt }

/-- Entry to and exit from the states in which objects fall due (R365, R376). -/
def State.dueSync (s : State) (p : Nat) : State :=
  let q := s.canPort p
  if dueState s.dev = q.dueOn then s
  else if dueState s.dev then
    s.setCanPort p (fun x => { x with dueOn := true, objs := (x.objs.map (fun e => (e.1, { e.2 with cd := none }))).filter (fun e => decide (e.2 ≠ CanObjSt.reset)) })
  else
    let gone := q.queue.filterMap (fun i => i.obj)
    gone.foldl (fun t n => t.setCanPort p (fun x => x.setOst n (fun y => { y with lostCount := clampN 65535 (y.lostCount + 1) })))
      (s.setCanPort p (fun x => { x with
        dueOn := false, queue := x.queue.filter (fun i => i.obj.isNone), first := x.first.filter (fun i => i.obj.isNone) }))

/-- CAN_TX_DUE: tick 4,000 of a frame, for every port. -/
def txDue (s : State) : State :=
  if s.dev = dsSTANDBY then s
  else (List.range 8).foldl (fun t p =>
    let t1 := (t.dueSync p).bamStep p
    if dueState t1.dev && t1.canState p ≠ ceFAILED && !t1.inReset (blkCAN p) then
      ((t1.canPort p).tbl.filter (fun e => decide (e.2.kind = 2))).foldl (fun u e => u.objDue p e.1 e.2) t1
    else t1) s

/-- The place of an identifier in arbitration: the lower wins, a base frame before an extended one of its base. -/
def arbKey (id : Nat) : Nat :=
  if bit id 29 then id / 2 ^ 18 % 2048 * 2 ^ 19 + 2 ^ 18 + id % 2 ^ 18 else id % 2048 * 2 ^ 19

/-- The instance takes part now: one of an SA_CLAIM object only with an address held (R378). -/
def State.offerable (s : State) (p : Nat) (i : TxInst) : Bool :=
  match i.obj with
  | some n => !(bit ((s.canPort p).obj n).format 2) || decide (s.get (cank p 0x36) = 2)
  | none => true

/-- The identifier as it goes out. -/
def State.outId (s : State) (p : Nat) (i : TxInst) : Nat :=
  match i.obj with
  | some n => if bit ((s.canPort p).obj n).format 2 then i.id / 256 * 256 + s.get (cank p 0x35) else i.id
  | none => i.id

/-- The instance that the controller offers: the one of a bus-off first, else the winning queue head (R378, R382). -/
def State.winner (s : State) (p : Nat) : Option TxInst :=
  let q := s.canPort p
  match q.first with
  | some i => if q.queue.contains i && s.offerable p i then some i else none
  | none =>
    let heads := ((List.range 16).filterMap (fun k => q.queue.find? (fun i => decide (i.queue = k)))).filter (s.offerable p)
    bestOf (fun i => 2 ^ 31 - arbKey (s.outId p i)) heads

/-- CAN_IDCOLL is raw while some object has collided 16 times (R380). -/
def State.collFollow (s : State) (p n : Nat) : State :=
  s.follow srcCAN_IDCOLL ((List.range 8).any (fun c => (s.canPort c).objs.any (fun e => decide (16 ≤ e.2.coll)))) (p * 4096 + n)

/-- A frame sent without error. -/
def State.txSent (s : State) (p : Nat) (i : TxInst) (sof delay : Nat) : State :=
  let tec := s.get (cank p 0x15)
  let s1 := (((s.put (cank p 0x15) (tec - 1)).inc32 (cank p 0x1B)).setCanPort p (fun q => { q with queue := q.queue.erase i, first := none }))
  let s2 := if i.fdf then s1.put (cank p 0x21) (clampN 65535 delay) else s1
  let s3 := s2.setCanState p (s2.stateOfCounters p)
  let word := s.outId p i % 2 ^ 30 + (if i.fdf then 2 ^ 30 else 0) + (if i.brs then 2 ^ 31 else 0)
  match i.obj with
  | some n => (s3.setCanPort p (fun q => q.setOst n (fun x => { x with
      frames := (x.frames + 1) % 2 ^ 32, never := false, coll := 0, lastId := word, data := i.data }))).collFollow p n
  | none =>
    if i.kind = 1 then
      let t : Int := (sof : Int) + (if s.timeState = 0 then 0 else s.goff)
      s3.setCanPort p (fun q => { q with refPrev := some (i64bits t), refSeq := (q.refSeq + 1) % 256 })
    else if i.kind = 4 then s3.isoEnds p 0
    else if i.kind = 5 then (s3.dropSess p true true 255).isoEnds p 0
    else s3

/-- The transmit error counter after an error, left as it stands where `keep` says so. -/
def State.countTx (s : State) (p : Nat) (keep : Bool) : State :=
  if keep then s else s.put (cank p 0x15) (clampN 256 (s.get (cank p 0x15) + 8))

/-- A bit error after arbitration is a collision of the object's identifier (R380). -/
def State.collide (s : State) (p : Nat) (i : TxInst) (err : Nat) (afterArb : Bool) : State :=
  match i.obj with
  | some n => if err = 1 && afterArb then
      ((s.inc32 (cank p 0x1D)).setCanPort p (fun q => q.setOst n (fun x => { x with coll := clampN 255 (x.coll + 1) }))).collFollow p n
    else s
  | none => s

/-- An error in a frame the controller sends; one after arbitration on the identifier of an own object, with a bit sent
recessive read dominant, is a collision (R380, R381). An acknowledgement error of an error-passive sender leaves TEC. -/
def State.txError (s : State) (p : Nat) (i : TxInst) (err : Nat) (afterArb : Bool) : State :=
  let passive := decide (s.canState p = cePASSIVE)
  let keep := (err = 5 && passive) || (err = 3 && !afterArb)
  let s1 := ((s.noteError p err).countTx p keep).collide p i err afterArb
  if 256 ≤ s1.get (cank p 0x15) then s1.setCanPort p (fun q => { q with first := some i }) else s1.setCanState p (s1.stateOfCounters p)

/-- CAN_FRAME_TRANSMIT: `err` is 0 for sent, 1 to 6 for an error type of 0x2Bpp.19, 7 for lost arbitration; `sof` is the
stamp of the start of frame, `delay` the measured transmitter delay in ns. -/
def frameTransmit (p err : Nat) (afterArb : Bool) (sof delay : Nat) (s : State) : State :=
  if !(s.portRuns p) || (s.canPort p).mode ≠ 1 || 256 ≤ s.get (cank p 0x15) then s
  else
    let s0 := s.settlePort p
    if s0.canState p = ceJOIN then s0
    else match s0.winner p with
      | none => s0
      | some i => if err = 0 then s0.txSent p i sof delay else if err = 7 then s0 else s0.txError p i (clampN 6 err) afterArb

/-! ### Bus-off (R382) -/

/-- CAN_BUS_OFF: TEC has passed 255. -/
def busOff (p : Nat) (s : State) : State :=
  if s.portRuns p && 256 ≤ s.get (cank p 0x15) then
    (s.inc32 (cank p 0x17)).setCanState p (if s.cfg (cank p 0x10) = 1 then ceRECOVER else ceBUSOFF)
  else s

/-- CAN_RECOVERY_REQUEST. -/
def hRecovery (p : Nat) : Handler := Handler.simple fun s _ _ =>
  let st := s.canState p
  if st = ceRECOVER then (s, stBUSY) else if st = ceBUSOFF then (s.setCanState p ceRECOVER, stOK) else (s, stOK)

/-- CAN_RECOVERY_DONE: 128 times 11 recessive bits. -/
def recoveryDone (p : Nat) (s : State) : State :=
  if s.canState p = ceRECOVER && !s.inReset (blkCAN p) then ((s.put (cank p 0x15) 0).put (cank p 0x16) 0).setCanState p ceACTIVE else s

/-! ### Timing and join check (R363, R366, R383) -/

def State.newTiming (s : State) (p : Nat) : List Nat := (List.range 11).map (fun i => s.get (cank p (2 + i)))

/-- The combination of R366. -/
def timingOk (l : List Nat) (ucp : Bool) : Bool :=
  let g (i : Nat) : Nat := l.getD i 0
  let n := 1 + g 2 + g 3
  let d := 1 + g 6 + g 7
  decide (g 4 ≤ g 3) && decide (g 8 ≤ g 7) && within 8 385 n && within 5 49 d && decide (80 ≤ g 1 * n) &&
    decide (10 ≤ g 5 * d) && decide (g 5 * d ≤ g 1 * n) && !(ucp && decide (g 0 = 0))

/-- The timing in force, with the rates it gives. -/
def State.loadTiming (s : State) (p : Nat) : State :=
  let l := s.newTiming p
  let g (i : Nat) : Nat := l.getD i 0
  ((s.setCanPort p (fun q => { q with timing := l })).put (cank p 0x0D) (80000000 / (g 1 * (1 + g 2 + g 3)))).put (cank p 0x0E)
    (80000000 / (g 5 * (1 + g 6 + g 7)))

/-- CAN_TIMING_APPLY. -/
def hTiming (p : Nat) : Handler where
  consist := fun s _ => timingOk (s.newTiming p) (bit (s.get (uc 3)) p)
  cond := fun _ => true
  run := fun s _ _ => ((s.loadTiming p).integrate p, stOK)

/-- CAN_JOIN_CHECK_END: 500 ms of restricted operation, or the end of integration. -/
def joinEnd (p : Nat) (s : State) : State :=
  if !(s.portRuns p) then s
  else
    let s0 := s.settlePort p
    let q := s0.canPort p
    if s0.canState p ≠ ceJOIN || s0.tm.mt + 1 < q.joinAt + 500 * nsMs then s0
    else if !q.joinErr then s0.enterNormal p
    else
      let s1 := s0.setCanPort p (fun x => { x with rate := true })
      s1.followAny srcCAN_RATE (fun c => (s1.canPort c).rate) p

/-- CAN_TXD_TIMEOUT (R363). -/
def txdTimeout (p : Nat) (s : State) : State :=
  if s.dev = dsSTANDBY then s else (s.inc32 (cank p 0x20)).raise srcCAN_XCVR (p * 4096)

/-! ### Time master (R385) -/

/-- REFERENCE_MESSAGE_SEND: a master's message falls due; one that waits is replaced. -/
def referenceSend (p : Nat) (s : State) : State :=
  let q := s.canPort p
  if q.role ≠ 1 || q.refLeft ≠ 0 || s.dev = dsSTANDBY || s.canState p = ceFAILED || q.mode = 0 then s
  else
    let d := le 8 (q.refPrev.getD 0xFFFFFFFFFFFFFFFF) ++ le 1 s.timeState ++ le 4 (s.get (ob 0x2000 8)) ++ le 1 q.refSeq ++ le 2 0
    let i : TxInst := ⟨14, none, 1, s.cfg (cank p 0x29), true, false, d⟩
    s.setCanPort p (fun x => { x with
      refLeft := s.cfg (cank p 0x2A) * 20
      first := x.first.map (fun t => if t.kind = 1 then i else t)
      queue := if x.queue.any (fun t => decide (t.kind = 1)) then x.queue.map (fun t => if t.kind = 1 then i else t) else x.queue ++ [i] })

/-! ### ISO_SEND (R390) -/

def isoSubmission (b : List Byte) : Bool :=
  let len := fieldAt b 6 2
  decide (b.length = 16 + len) && decide (fieldAt b 0 4 < 2 ^ 18) && decide (fieldAt b 5 1 ≤ 7) && decide (fieldAt b 8 8 = 0) &&
    decide (len ≤ 16384) && !(decide (1785 < len) && decide (fieldAt b 4 1 = 255))

/-- ISO_SEND: a single frame, TP, BAM or ETP. -/
def hIsoSend (p : Nat) : Handler where
  consist := fun s _ => isoSubmission (s.getB (cank p 0x39))
  cond := fun _ => true
  run := fun s _ _ =>
    let b := s.getB (cank p 0x39)
    let pgn := fieldAt b 0 4
    let da := fieldAt b 4 1
    let prio := fieldAt b 5 1
    let len := fieldAt b 6 2
    let d := b.drop 16
    if s.get (cank p 0x3B) = 1 || s.get (cank p 0x36) ≠ 2 then (s, stBUSY)
    else
      let s1 := (s.putB (cank p 0x39) []).put (cank p 0x3B) 1
      let n := (len + 6) / 7
      let bam := decide (da = 255)
      let etp := decide (1785 < len)
      let x : TpSess := ⟨true, etp, bam, da, pgn, prio, len, d, 0, 0, 0, s.tm.mt, tpT2⟩
      if len ≤ 8 then
        (s1.isoPush p 4 prio (pgn / 256) (if pgn / 256 % 256 < 240 then da else pgn % 256) d, stOK)
      else if bam then ((s1.isoPush p 2 7 0xEC 255 (le 1 32 ++ le 2 len ++ le 1 n ++ le 1 0xFF ++ le 3 pgn)).putSess p x, stOK)
      else if etp then ((s1.isoPush p 2 7 0xC8 da (le 1 20 ++ le 4 len ++ le 3 pgn)).putSess p x, stOK)
      else ((s1.isoPush p 2 7 0xEC da (le 1 16 ++ le 2 len ++ le 1 n ++ le 1 0xFF ++ le 3 pgn)).putSess p x, stOK)

/-- ISO_SEND_DONE. -/
def isoDone (p : Nat) (s : State) : State :=
  match (s.canPort p).isoEnd with
  | none => s
  | some r =>
    let s1 := (s.setCanPort p (fun q => { q with isoEnd := none })).put (cank p 0x3B) (if r = 0 then 2 else 3)
    if r = 0 then s1 else s1.put (cank p 0x3C) r

/-! ### Settings (R385, R387, R388, R396) -/

/-- A write of a port setting. -/
def hCanSet (p sub : Nat) : Handler where
  consist := fun s v =>
    if sub = 0x28 then !(decide (v.toNum = 1) && (s.canPort p).classical)
    else if sub = 0x30 then decide (v.toNum = 0) || decide (s.get (cank p 0x31) ≠ 0) else true
  cond := fun _ => true
  run := fun s _ v =>
    let s1 := s.put (cank p sub) v.toNum
    (if within 0x31 0x34 sub then s1.setCanPort p (fun q => { q with reclaim := true }) else s1, stOK)

/-- A new mode of a port (R364). -/
def State.sealMode (s : State) (p : Nat) : State :=
  let m := s.cfg (cank p 1)
  if m = (s.canPort p).mode then s
  else
    let t := s.setCanPort p (fun x => { x with mode := m })
    if m = 0 then (if s.canState p = ceFAILED then t else t.setCanState p ceOFF)
    else if s.canState p = ceFAILED then t else (t.put (cank p 0x14) ceINTEGRATE).integrate p

/-- A new time role of a port (R385). -/
def State.sealRole (s : State) (p : Nat) : State :=
  let r := s.cfg (cank p 0x28)
  if r = (s.canPort p).role then s
  else ((s.put (cank p 0x2D) 0).setCanPort p (fun x => { x with
    role := r, refLeft := 0, stamp := none, pairAt := s.tm.mt + 1
    queue := x.queue.filter (fun (i : TxInst) => decide (i.kind ≠ 1) || decide (r = 1)) })).timeFollow p

/-- ISO 11783 switched on or off on a port (R387). -/
def State.sealIso (s : State) (p : Nat) : State :=
  let e := s.cfgBool (cank p 0x30)
  if e = (s.canPort p).iso then s
  else
    let t := s.setCanPort p (fun x => { x with iso := e })
    if e then (if [0, 1].contains (t.canState p) && s.cfg (cank p 1) = 1 then t.startClaim p else t)
    else ((((t.put (cank p 0x36) 0).put (cank p 0x35) 0xFE).setCanPort p (fun x => { x with
      claimAt := 0, cannot := false, claimSa := 0xFE, isoEnd := if x.sess.any (fun y => y.tx) then some 250 else x.isoEnd })).setSess p []).addrFollow p

/-- A claim that changed settings call for starts again (R388). -/
def State.sealClaim (s : State) (p : Nat) : State :=
  if (s.canPort p).reclaim then
    (if s.cfgBool (cank p 0x30) && s.get (cank p 0x36) ≠ 0 then s.startClaim p else s.setCanPort p (fun x => { x with reclaim := false }))
  else s

/-- Tick 0 on one port: tables, settings, the claim and the countdown to the next reference message (R371, R396). -/
def State.canSealPort (s : State) (p : Nat) : State :=
  let s1 := match (s.canPort p).newTbl with | some b => s.putTable p b | none => s
  (((((s1.dueSync p).sealMode p).sealRole p).sealIso p).sealClaim p).setCanPort p (fun x => { x with refLeft := x.refLeft - 1 })

def State.canSeal (s : State) : State := (List.range 8).foldl (fun t p => t.canSealPort p) s

/-! ### Spares and resets (R391 to R394) -/

/-- The controller that serves port p. -/
def State.ctrl (s : State) (p : Nat) : Nat := s.get (cank p 0x13)

/-- CAN_SHADOW_COMPARE: a free spare compares a frame with the controller that serves the port it shadows. -/
def shadowCompare (c : Nat) (differs hard : Bool) (s : State) : State :=
  if (s.elem 4 (8 + c)).state ≠ 1 || s.dev = dsSTANDBY then s
  else
    let p := (s.can.shadow.getD c (0, 0)).1
    let e := s.ctrl p
    let last := Tbl.get 0 s.can.diffs e
    let s1 := if differs then
        { s.selfCheck 4 e with can := { s.can with diffs := Tbl.set 0 s.can.diffs e (s.tm.mt + 1) } }
      else s
    if hard || (differs && last ≠ 0 && s.tm.mt + 1 ≤ last + 10 * nsS) then s1.askSwap 4 e (srcCAN_CTRL) false else s1

/-- CAN_SHADOW_ROTATE: after 1 s a spare moves on within CAN0 to CAN3 or CAN4 to CAN7. -/
def shadowRotate (c : Nat) (s : State) : State :=
  let x := s.can.shadow.getD c (4 * c, 0)
  if (s.elem 4 (8 + c)).state = 1 && x.2 + nsS ≤ s.tm.mt then
    { s with can := { s.can with shadow := oneOf (0, 0) 2 s.can.shadow c (fun _ => (4 * c + (x.1 + 1 - 4 * c) % 4, s.tm.mt)) } }
  else s

/-- CAN_CONTROLLER_SWAP: at the next intermission the spare takes over everything; an instance in transmission is offered
again first. -/
def controllerSwap (p : Nat) (verify : List Bool) (dur : Nat) (transmitting : Bool) (s : State) : State :=
  if s.inReset (blkCAN p) || s.dev = dsSTANDBY then s
  else
    let offered := if transmitting then s.winner p else none
    match s.doRequested 4 (s.ctrl p) verify dur with
    | (s1, some x) => (s1.put (cank p 0x13) x).setCanPort p (fun q => match offered with | some i => { q with first := some i } | none => q)
    | (s1, none) => s1

/-- CAN_PORT_FAILED: the controller is decided failed and no spare is ready (R393). -/
def portFailed (p : Nat) (s : State) : State :=
  let e := s.ctrl p
  match s.reqOf 4 e with
  | none => s
  | some r =>
    if s.readySpares 4 e ≠ [] || s.canState p = ceFAILED then s
    else
      let s1 := ((s.dropReq 4 e).swap 4 e r.cause r.mt [] 0).1
      let s2 := (s1.put (cank p 0x13) 0xFF).setCanState p ceFAILED
      s2.followAny srcCAN_CTRL (fun c => decide (s2.canState c = ceFAILED)) p

/-- The block reset of a port's controller ends: it integrates and joins again (R394). -/
def State.canBlockEnd (s : State) (p : Nat) : State := s.integrate p

/-- A chip reset or a power-down clears queues, sessions and receive data (R394). -/
def State.canDrop (s : State) : State := { s with can := { CanSt.reset with shadow := [(0, s.tm.mt), (4, s.tm.mt)] } }

/-- START sets the ports up from the loaded configuration. -/
def State.canStart (s : State) : State :=
  (List.range 8).foldl (fun t p =>
    let b := t.getB (ob 0x2C00 (0x81 + p))
    let t1 := if b = [] then t else t.putTable p b
    let t2 := (t1.loadTiming p).setCanPort p (fun q => { q with mode := t1.get (cank p 1), joinAt := t1.tm.mt + 1 })
    t2.setCanState p (if t1.get (cank p 1) = 0 then ceOFF else ceINTEGRATE)) s

/-- One status record (R398). -/
def State.objStatus (s : State) (p n : Nat) : List Byte :=
  let q := s.canPort p
  let o := q.obj n
  let x := q.ost n
  let pend := q.queue.any (fun i => decide (i.obj = some n))
  le 4 x.frames ++ le 2 (ofBool x.fresh + 2 * ofBool x.lost + 4 * ofBool x.timeout + 8 * ofBool x.never + 16 * ofBool pend +
    32 * ofBool (decide (x.coll ≠ 0)) + 64 * ofBool x.foreign +
    128 * ofBool (pend && bit o.format 2 && decide (s.get (cank p 0x36) ≠ 2))) ++
    le 2 x.lostCount ++ le 4 x.lastId ++ le 1 x.data.length ++ le 1 x.coll ++ le 2 0 ++ fixLen 64 x.data

def execCanFrameReceive (p : Fin 8) (f : CanFrame) (err : Nat) (s : State) : Host.Outcome State Fault Refusal :=
  .next (frameReceive p.val f err s)
def execCanProtocolException (p : Fin 8) (s : State) : Host.Outcome State Fault Refusal := .next (protocolException p.val s)
def execCanRxTimeout (p : Fin 8) (n : Fin 256) (s : State) : Host.Outcome State Fault Refusal := .next (rxTimeout p.val n.val s)
def execCanTxDue (s : State) : Host.Outcome State Fault Refusal := .next (txDue s)
def execCanFrameTransmit (p err : Fin 8) (afterArb : Bool) (sof delay : Nat) (s : State) : Host.Outcome State Fault Refusal :=
  .next (frameTransmit p.val err.val afterArb sof delay s)
def execCanBusOff (p : Fin 8) (s : State) : Host.Outcome State Fault Refusal := .next (busOff p.val s)
def execCanRecoveryRequest (who : Who) (p : Fin 8) (s : State) : Host.Outcome State Fault Refusal :=
  .next (s.request who (0x2B00 + p.val) 0x11 (.num 1) (hRecovery p.val))
def execCanRecoveryDone (p : Fin 8) (s : State) : Host.Outcome State Fault Refusal := .next (recoveryDone p.val s)
def execCanTimingApply (who : Who) (p : Fin 8) (s : State) : Host.Outcome State Fault Refusal :=
  .next (s.request who (0x2B00 + p.val) 0x22 (.num 1) (hTiming p.val))
def execCanJoinCheckEnd (p : Fin 8) (s : State) : Host.Outcome State Fault Refusal := .next (joinEnd p.val s)
def execCanTxdTimeout (p : Fin 8) (s : State) : Host.Outcome State Fault Refusal := .next (txdTimeout p.val s)
def execCanTableApply (who : Who) (mask : Nat) (s : State) : Host.Outcome State Fault Refusal :=
  .next (s.request who 0x2C00 9 (.num mask) hTableApply)
def execReferenceMessageSend (p : Fin 8) (s : State) : Host.Outcome State Fault Refusal := .next (referenceSend p.val s)
def execCanTimeLost (p : Fin 8) (s : State) : Host.Outcome State Fault Refusal := .next (canTimeLost p.val s)
def execAddressClaimSend (p : Fin 8) (s : State) : Host.Outcome State Fault Refusal := .next (claimSend p.val s)
def execAddressHeld (p : Fin 8) (s : State) : Host.Outcome State Fault Refusal := .next (addressHeld p.val s)
def execCannotClaimSend (p : Fin 8) (s : State) : Host.Outcome State Fault Refusal := .next (cannotClaim p.val s)
def execTransportSessionTimeout (p : Fin 8) (tx bam : Bool) (peer : Nat) (s : State) : Host.Outcome State Fault Refusal :=
  .next (transportTimeout p.val tx bam peer s)
def execIsoSend (who : Who) (p : Fin 8) (s : State) : Host.Outcome State Fault Refusal :=
  .next (s.request who (0x2B00 + p.val) 0x3A (.num 1) (hIsoSend p.val))
def execIsoSendDone (p : Fin 8) (s : State) : Host.Outcome State Fault Refusal := .next (isoDone p.val s)
def execCanShadowCompare (c : Fin 2) (differs hard : Bool) (s : State) : Host.Outcome State Fault Refusal :=
  .next (shadowCompare c.val differs hard s)
def execCanControllerSwap (p : Fin 8) (verify : List Bool) (dur : Nat) (transmitting : Bool) (s : State) :
    Host.Outcome State Fault Refusal := .next (controllerSwap p.val verify dur transmitting s)
def execCanPortFailed (p : Fin 8) (s : State) : Host.Outcome State Fault Refusal := .next (portFailed p.val s)
def execCanShadowRotate (c : Fin 2) (s : State) : Host.Outcome State Fault Refusal := .next (shadowRotate c.val s)

end Sys2Proof.Machine
end

