-- ==== Sys2Proof/Machine/Power.lean ====
section
/-! DEFINITION. Block resets, chip resets, START, the device states, the hold-up save, standby and wake, the supplies,
PRESENT and the address pins (R75, R95, R129, R181, R271, R277, R278, R452 to R463, R471 to R482). -/

namespace Sys2Proof.Machine

open Sys2Proof

def sk12 (sub : Nat) : Nat := ob 0x1210 sub
def ck10 (sub : Nat) : Nat := ob 0x1030 sub

/-- The system die runs: VL is there, and the module is neither in STANDBY nor off. -/
def State.awake (s : State) : Bool := s.pwr.up && decide (s.dev ≠ dsSTANDBY)
def State.setPwr (s : State) (f : PwrSt → PwrSt) : State := { s with pwr := f s.pwr }

/-! ### Block resets (R271) -/

/-- Show on each source that caused a block's reset whether the reset runs (R293 bit 5). -/
def State.blkRunning (s : State) (b : Nat) (on : Bool) : State :=
  (s.flt.causes.filter (fun p => decide (p.2 = b))).foldl (fun t p => t.putBit (stKey p.1) 5 on) s

/-- What a block loses when its reset starts. -/
def State.blockLoses (s : State) (b : Nat) : State :=
  if b = blkSUN then { s with rx := { s.rx with chans := [], engines := List.replicate 8 none, work := [] } }
  else if b = blkLARK then s.capsTruncate
  else if b = blkUCP then s.ucpBlock
  else if b = blkETH then s.ethBlock
  else s

/-- BLOCK_RESET: a reset that a BLK reaction has called for starts; a chip reset that is due replaces it (R271, R278). -/
def blockReset (b : Nat) (s : State) : State :=
  if !(s.flt.blkReq.contains b) || !s.awake then s
  else
    let s1 := { s with flt := { s.flt with blkReq := s.flt.blkReq.filter (fun x => decide (x ≠ b)) } }
    if s.flt.chipReq.isSome || s.pwr.chip || s.inReset b then s1
    else (((s1.putBit blocksInReset b true).inc32 (ob 0x2800 0x0A)).blkRunning b true).blockLoses b

/-- Yarrow resumes from its newest snapshot, or aligns again where that is older than 200 ms (chapter 6, coincidences). -/
def State.yarRestart (s : State) : State :=
  if s.tm.mt + 1 ≤ s.nav.snapAt + 200 * nsMs then s.setNav (fun n => { n with repro := true })
  else (s.put (nk 0x28) 0).setNav (fun n => { n with alignAt := s.tm.mt + 1, stillAt := 0, straightAt := 0 })

/-- What a block does when its reset ends: `pass` has the lanes that pass their start test, the rest says how Sunflower
starts. -/
def State.blockResumes (s : State) (b pass : Nat) (directed : List SvSig) (known : Nat) (near : Bool) : State :=
  if b = blkFAB then s.fabRestart
  else if b = blkCROP then s.cropRestart
  else if b = blkSUN then s.rxStart directed known (s.mayBeHot near)
  else if b = blkYAR then s.yarRestart
  else if b = blkLARK then s.larkRestart pass
  else if within 10 17 b then s.canBlockEnd (b - 10)
  else s

/-- BLOCK_RESET_END: the sources downstream stay in consequential mode for 10 µs more, and the escalation window of
the sources that caused it runs to 100 ms from now (R275, R276). -/
def blockResetEnd (b pass : Nat) (directed : List SvSig) (known : Nat) (near : Bool) (s : State) : State :=
  if !(s.inReset b) then s
  else
    let mine := s.flt.causes.filter (fun p => decide (p.2 = b))
    let s1 := (s.putBit blocksInReset b false).blkRunning b false
    let s2 := { s1 with flt := { s1.flt with
      settling := s1.flt.settling.filter (fun x => decide (x ≠ b)) ++ [b]
      window := mine.foldl (fun (t : Tbl Nat) (p : Nat × Nat) => Tbl.set 0 t p.1 (s.tm.mt + 100 * nsMs + 1)) s1.flt.window } }
    s2.blockResumes b pass directed known near

/-! ### Changes of the device state (R454 to R457) -/

/-- The motion check passes (R456). -/
def State.motionOk (s : State) : Bool :=
  let lim := s.cfgF (sk12 2)
  decide (lim = 0) || decide (1 < s.gsState % 128) || Q.le (Q.abs (F32.toQ s.nav.pubGs)) (F32.toQ lim)

/-- A pending source under one of the maps of R455: base 0x10 LIMP, 0x18 SAFE_HOLD; the lowest number. -/
def State.mapped (s : State) (base : Nat) : Option Nat :=
  (List.range 512).find? (fun n => bit (s.cfg (sk12 (base + n / 64))) (n % 64) && s.isPending n)

/-- Foxglove was not ACTIVE as it last reported (R455). -/
def State.foxDown (s : State) : Bool := decide (s.fox.rep.state ≠ fsACTIVE)

/-- The cause of SAFE_HOLD that stands, as the code of R457. -/
def State.holdCause (s : State) : Option Nat :=
  if s.foxDown then some 4 else (s.mapped 0x18).map (fun n => 0x1000 + n)
def State.limpCause (s : State) : Option Nat := (s.mapped 0x10).map (fun n => 0x1000 + n)

/-- 0x1210.0F. -/
def State.standing (s : State) : Nat :=
  ofBool s.foxDown + 2 * ofBool (s.mapped 0x18).isSome + 4 * ofBool (s.mapped 0x10).isSome + 8 * ofBool (s.active srcCFG_LOAD)

/-- A change of state with what leaving a state does: SERVICE releases the overrides and closes the debug port (R456),
CONFIGURE discards a return or import that waits (R432). -/
def State.changeState (s : State) (new cause : Nat) (cred : Option (Nat × Nat)) (part : Nat) : State :=
  let old := s.dev
  if old = new then s
  else
    let s1 := s.devChange new cause cred part
    let s2 := if old = dsSERVICE then s1.releaseOverrides.debugClose 0 0 0 else s1
    let s3 := if old = dsCONFIGURE then
        (match s2.fox.staged, s2.conf.waiting with
         | some g, some _ => (s2.dropStaged 6).chRecord 5 g.ver 0 none
         | _, _ => s2) else s2
    s3.setPwr (fun p => { p with limpAuto := false, lowAt := 0 })

/-- Entry to STANDBY: its save follows (R458, R460); an open safety change goes (R261). -/
def State.enterStandby (s : State) (cause : Nat) (cred : Option (Nat × Nat)) (part : Nat) : State :=
  ((((s.loseChange true).changeState dsSTANDBY cause cred part).inc32 (sk12 0x0E))).setPwr (fun p => { p with
    saving := some 3, standbyAt := s.tm.mt + 1, latched := none, req := none })

/-- The module enters a state of RUN's rank, or the highest one whose cause stands (R455). -/
def State.enterRanked (s : State) (cause : Nat) (cred : Option (Nat × Nat)) (part : Nat) : State :=
  let c := if s.dev = dsSERVICE then 0x0A else cause
  if s.holdCause.isSome then s.changeState dsSAFE_HOLD c cred part
  else if s.limpCause.isSome then (s.changeState dsLIMP c cred part).setPwr (fun p => { p with limpAuto := true })
  else s.changeState dsRUN cause cred part

/-- The automatic causes of R455. -/
def State.autoCauses (s : State) : State :=
  let d := s.dev
  if (d = dsRUN || d = dsLIMP) && s.holdCause.isSome then s.changeState dsSAFE_HOLD (s.holdCause.getD 0) none 0
  else if d = dsRUN && s.limpCause.isSome then
    (s.changeState dsLIMP (s.limpCause.getD 0) none 0).setPwr (fun p => { p with limpAuto := true })
  else if d = dsLIMP && s.limpCause.isNone && s.pwr.limpAuto && s.cfg (sk12 3) = 0 then s.changeState dsRUN 6 none 0
  else s

/-- States a request is accepted from, as a bit mask (R454). -/
def reqFrom (code : Nat) : Nat :=
  if code = 0 then 0x7C else if code = 2 then 0x78 else if code = 3 then 0x74 else if code = 4 then 0x08
  else if code = 5 then 0x18 else if code = 6 then 0x3C else if code = 0x80 then 0x44 else 0
def reqRole (code : Nat) : Role :=
  if code = 2 || code = 6 || code = 0x80 then .maint else if code = 3 then .tech else .op

/-- A write of 0x1200.03 (R454): taken at tick 0 of the next frame. -/
def hStateReq : Handler where
  consist := fun _ v => decide (reqFrom v.toNum ≠ 0)
  cond := fun s => decide (s.dev ≠ dsSTART)
  role := fun s w v => match s.roleOf w with | some r => r.mayWrite (reqRole v.toNum) | none => w.isMapped
  run := fun s w v =>
    let c := v.toNum
    if s.dev = c then (s, stOK)
    else if !(bit (reqFrom c) s.dev) then (s.refuse9 0x1200 3, stSTATE)
    else if c = 0 && s.pwr.wakeIn && s.cfgBool (sk12 6) then (s, stBUSY)
    else if (c = 0 || c = 2 || c = 6) && !s.motionOk then (s, stBUSY)
    else if c = 3 && (s.active srcCFG_LOAD || s.holdCause.isSome || s.limpCause.isSome) then (s, stBUSY)
    else (s.setPwr (fun p => { p with req := some (c, w) }), stOK)

/-- Tick 0 takes an accepted request (R321, R454, R455); one that a change of state has overtaken lapses. -/
def State.takeReq (s : State) : State :=
  match s.pwr.req with
  | none => s
  | some (c, w) =>
    let s1 := s.setPwr (fun p => { p with req := none })
    if !(bit (reqFrom c) s.dev) || s.dev = c then s1
    else
      let part := match w with | .port p => some p | .mapped p => some p | _ => none
      let cause := if part.isSome then 2 else 1
      let cred := if part.isSome then none else some (s.credOf w)
      if c = 0x80 then { s1 with flt := { s1.flt with chipReq := some (s1.flt.chipReq.getD (0xFFFF, 0x000B)) } }
      else if c = 0 then s1.enterStandby cause cred (part.getD 0)
      else if c = 3 then s1.enterRanked cause cred (part.getD 0)
      else if c = 4 && s1.holdCause.isSome then s1.changeState dsSAFE_HOLD (s1.holdCause.getD 0) none 0
      else s1.changeState c cause cred (part.getD 0)

/-- Where the after-run count runs (R460). -/
def State.afterRunOn (s : State) : Bool :=
  bit 0x3C s.dev && s.cfgBool (sk12 6) && !s.pwr.wakeIn && decide (s.cfg (sk12 7) ≠ 0) && s.motionOk

/-- The after-run count at tick 0: it starts, runs on, or starts again later. -/
def State.afterRunTick (s : State) : State :=
  s.setPwr (fun p => { p with lowAt := if !s.afterRunOn then 0 else if p.lowAt = 0 then s.tm.mt + 1 else p.lowAt })

/-- AFTER_RUN_EXPIRE (R460). -/
def afterRunExpire (s : State) : State :=
  if s.awake && s.afterRunOn && s.pwr.lowAt ≠ 0 && s.pwr.lowAt + s.cfg (sk12 7) * nsS ≤ s.tm.mt + 1 then s.enterStandby 8 none 0 else s

/-! ### What a reset clears (R277, R278, R317) -/

/-- Objects a chip reset leaves alone because what they show lies outside the reset: the always-on die, module time, the
supplies, the switch dies, Foxglove, the spare roles and the store (R30, R75, R277, R278). -/
def chipKeeps (k : Nat) : Bool :=
  let i := k / 256
  let sub := k % 256
  decide (i = 0x1000) || (decide (i = 0x1010) && decide (sub = 5)) || (decide (i = 0x1030) && decide (sub ≠ 0x0A)) ||
    (decide (i = 0x1200) && (decide (sub ≤ 2) || decide (sub = 9))) || decide (i = 0x1210) ||
    (decide (i = 0x1410) && decide (4 ≤ sub)) || (decide (i = 0x2000) && (decide (sub ≤ 2) || decide (sub = 0x14))) ||
    decide (i = 0x2140) || (within 0x2100 0x213F i && (decide (sub = 0x18) || decide (sub = 0x19))) ||
    (decide (i = 0x2400) && within 0x40 0x5F sub && decide (sub % 8 = 0)) || decide (i = 0x2560) ||
    (within 0x2600 0x2648 i && !(decide (i < 0x2640) && within 0x16 0x18 sub)) ||
    (decide (i = 0x2700) && decide (sub ≠ 0x0F)) || (decide (i = 0x2800) && decide (sub = 8)) || decide (i = 0x2900) ||
    (within 0x2B00 0x2B07 i && decide (sub = 0x13)) || (decide (i = 0x3000) && decide (sub = 8)) ||
    (decide (i = 0x3100) && decide (sub = 0x0A))

/-- Objects a power-up leaves alone beside the retained ones: Foxglove's, which its own power-up sets, the limiter's and
the store's, and what the discarded change left to show (R254, R261, R432, R472, R473). -/
def powerKeeps (k : Nat) : Bool :=
  let i := k / 256
  let sub := k % 256
  (decide (i = 0x1000) && within 7 8 sub) || (decide (i = 0x1030) && (decide (sub = 5) || decide (sub = 7))) ||
    (decide (i = 0x1010) && decide (sub = 5)) || (decide (i = 0x1030) && decide (sub = 4)) ||
    (decide (i = 0x1200) && (decide (sub ≤ 2) || decide (sub = 9))) ||
    (decide (i = 0x2700) && decide (sub ≠ 0x0F)) || (decide (i = 0x2800) && decide (sub = 8)) || (decide (i = 0x3000) && decide (sub = 8)) ||
    (decide (i = 0x3100) && decide (sub = 0x0A))

def isRetained (k : Nat) : Bool :=
  match Dict.desc (k / 256) (k % 256) with
  | some d => decide (d.kind = .retained)
  | none => false

/-- Values that are not kept go back to their table defaults (R317); the stored ones come with the version. -/
def State.clearObjs (s : State) (keep : Nat → Bool) : State :=
  let l := s.objs.filter (fun p => isRetained p.1 || (keep p.1 && !(isRws p.1) && !(s.isStored p.1)))
  { s with objs := l, blobs := s.blobs.filter (fun p => isRetained p.1) }

/-- The objects of the collector that a reset restores. -/
def sourceKeeps (k : Nat) : Bool :=
  (within 0x2810 0x281F (k / 256) && within 0x40 0x5F (k % 256)) ||
    (decide (k / 256 = 0x2800) && (within 0x20 0x27 (k % 256) || decide (k % 256 ≤ 2)))

/-- The engines and interfaces of the system die begin anew; `chip` for a chip reset, which leaves the switch dies, the
supplies and the spares alone. -/
def State.clearDie (s : State) (chip : Bool) : State :=
  { s with
    parts := [PartSt.reset, PartSt.reset, PartSt.reset], apps := []
    img := { ImgSt.reset with owner := s.img.owner }
    rx := { RxSt.reset with eph := s.rx.eph }
    nav := NavSt.reset, lark := LarkSt.reset
    crop := { CropSt.reset with yields := s.crop.yields, lastSeq := s.crop.lastSeq, areaRest := s.crop.areaRest }
    inp := if chip then s.inp else InSt.reset
    outs := if chip then s.outs else { OutSt.reset with chans := OutSt.reset.chans }
    conf := { s.conf with waiting := none, load := none }
    ucp := { s.ucp with fleetOut := [], fleetIn := [] }
    sp := if chip then s.sp else { s.sp with reqs := s.sp.reqs.filter (fun r => r.hold), waiting := [], poisoned := [] }
    timers := if chip then s.timers.filter (fun p => decide (0x100000 ≤ p.1)) else []
    tm := { TimeSt.reset with mt := s.tm.mt, frac := s.tm.frac, sched := s.tm.sched } }

/-- The status of the sources after a reset (R278): the steps stay, a source pending with PIN is restored as pending, and
so is `cause`, with CHIP in REACTED; everything else is clear. -/
def State.restoreSources (s : State) (cause : Option Nat) : State :=
  let old := s.objs.filter (fun p => within 0x2810 0x281F (p.1 / 256) && within 0x40 0x5F (p.1 % 256))
  let srcs := old.map (fun p => (p.1 / 256 - 0x2810) * 32 + (p.1 % 256 - 0x40))
  let word (n : Nat) : Nat :=
    let w := s.get (stKey n)
    let step := setBits 0 6 2 (bits w 6 2)
    let kept := setBit (setBits (setBit step 3 true) 11 5 (bits w 11 5)) 15 (bit s.flt.pinMap n)
    if cause = some n then setBit kept 14 true else if s.isPending n && bit s.flt.pinMap n then kept else step
  let pend := srcs.filter (fun n => bit (word n) 3)
  let pins := pend.filter (fun n => bit (word n) 15)
  let s1 := srcs.foldl (fun t n => ((t.put (stKey n) (word n)).put (cntKey n) 0).put (codeKey n) 0) s
  let s2 := (List.range 8).foldl (fun t i => t.put (ob 0x2800 (0x20 + i))
    ((pend.filter (fun n => decide (n / 64 = i))).foldl (fun m n => setBit m (n % 64) true) 0)) s1
  let s3 := ((s2.put (ob 0x2800 1) pend.length).put (ob 0x2800 2) pins.length).put blocksInReset 0
  { s3 with flt := { FaultSt.reset with
      window := s.flt.window, lastMt := s.flt.lastMt, holdPin := s.flt.holdPin
      pinMap := pins.foldl (fun m n => setBit m n true) 0, restored := pend } }.drivePin

/-- Every source starts clear (R278). -/
def State.clearSources (s : State) : State :=
  { s with
    objs := s.objs.filter (fun p => !(within 0x2810 0x281F (p.1 / 256) && within 0x40 0x9F (p.1 % 256)) &&
      !(decide (p.1 / 256 = 0x2800) && (within 0x20 0x27 (p.1 % 256) || decide (p.1 % 256 ≤ 2) || decide (p.1 % 256 = 9))))
    flt := { FaultSt.reset with holdPin := s.flt.holdPin } }.drivePin

/-! ### Elements at a power-up (R288, R289) -/

/-- The spare that serves a retired element. -/
def State.servedBy (s : State) (p e : Nat) : Option Nat :=
  (List.range (poolSize p)).find? (fun x => decide (Tbl.get 0 s.sp.serves (elKey p x) = e + 1))

/-- At a power-up the elements that are not retired are back in their places (R288): the retired ones stay out, and the
spares that serve them stay in. -/
def State.poolUp (s : State) (p : Nat) : State :=
  let retired := (List.range (poolSize p)).filter (fun e => decide ((s.elem p e).state = 3))
  let busy := retired.filterMap (s.servedBy p)
  let s1 := (List.range (poolSize p)).foldl (fun t e =>
    let x := t.elem p e
    let st := if x.state = 3 then 3 else if busy.contains e then 0 else if bornSpare p e then 1 else 0
    if x = elemDflt p e then t else t.setElem p e { x with state := st, swaps := 0 }) s
  let s2 := { s1 with sp := { s1.sp with serves := s1.sp.serves.filter (fun q =>
    decide (q.1 / 1024 ≠ p) || retired.contains (q.2 - 1)) } }
  s2.put (ob 0x2900 (0x21 + 8 * p)) ((List.range (poolSize p)).filter (fun e => decide ((s2.elem p e).state = 1))).length

/-- The objects that name the elements in use, where a retired one has been replaced. -/
def State.rolesUp (s : State) : State :=
  let lanes := (List.range 4).foldl (fun t l =>
    match t.servedBy 1 l with
    | some x => if (t.elem 1 l).state = 3 then (t.setLaneRole l 3).setLaneRole x 0 else t
    | none => t) s
  let pairs := (List.range 3).foldl (fun t c =>
    match t.servedBy 0 c with
    | some x => if (t.elem 0 c).state = 3 then (t.put (ob 0x1410 (4 + c)) x).put (ob 0x1410 7) 0xFF else t
    | none => t) lanes
  let cans := (List.range 8).foldl (fun t c =>
    match t.servedBy 4 c with
    | some x => if (t.elem 4 c).state = 3 then t.put (cank c 0x13) x else t
    | none => t) pairs
  (List.range 64).foldl (fun t c =>
    match t.servedBy 6 c with
    | some _ => if (t.elem 6 c).state = 3 then t.put (ik c 0x19) 1 else t
    | none => t) cans

/-! ### The chip reset (R277, R278) -/

/-- CHIP_RESET: the one that a reaction or a restart request has called for starts. -/
def chipReset (s : State) : State :=
  match s.flt.chipReq with
  | none => s
  | some (src, _) =>
    if !s.awake || s.pwr.saving.isSome then s
    else
      let s1 := drainFifo 16 s
      let s2 := (s1.inc32 (ob 0x2800 0x0B)).put (ob 0x2800 0x0C) src
      let s3 := (s2.loseChange false).changeState dsSTART 0x0B none 0
      let s4 := s3.cropChipReset.capsEmpty.dropSessions.ucpDrop.ethDrop.canDrop
      let s5 := (s4.sp.reqs.filter (fun r => !r.hold)).foldl (fun t r =>
        (t.dropReq r.pool r.el).recordSwap r.pool r.el 0xFFFF r.cause 3 0 r.mt) s4
      let s6 := { s5 with upd := { s5.upd with failed := s5.upd.failed || decide (s5.get (uk 4) = 6), now := false } }
      let s7 := ((s6.debugClose 0 0 0).clearDie true).restoreSources (if src < 512 then some src else none)
      let s8 := ((s7.clearObjs (fun k => chipKeeps k || sourceKeeps k))).setPwr (fun p => { p with
          chip := true, ran := false, req := none, bootHold := false, addrPins := none })
      (drainFifo 16 s8).foxChip true

/-- CHIP_RESET_END: within 5 ms; START follows (R277, R452). -/
def chipResetEnd (s : State) : State :=
  if s.pwr.chip then
    let s1 := (s.setPwr (fun p => { p with chip := false, startAt := s.tm.mt })).foxChip false
    s1.fabRestart
  else s

/-! ### Power up and START (R452) -/

/-- The objects of Foxglove that a power-up does not keep are at their defaults, and its last report is gone. -/
def State.clearFox (s : State) : State :=
  { s with
    fox := { s.fox with rep := FoxRep.reset }
    objs := s.objs.filter (fun p => !(decide (p.1 / 256 = 0x2700) && !(isRws p.1) && decide (p.1 % 256 ≠ 0x1D) && decide (p.1 % 256 ≠ 0x10))) }

/-- A power cycle begins: the device state is START, FAULT_N is held, Foxglove comes up; `vl` is a rise of VL (R254, R263,
R281, R297, R461). What the state before it was is recorded after POWER_UP. -/
def State.beginStart (s : State) (wake : Nat) (vl : Bool) (old : Option (Nat × Nat)) : State :=
  let d := s.dev
  let w := if s.pwr.lost then 0 else wake
  let s0 := if d = dsSTART then s else (s.put (ob 0x1200 2) d).put (ob 0x1200 1) dsSTART
  let s1 := ((((s0.put (sk12 9) w).put (ck10 5) 0).put (ck10 0x0A) 0xFFFF).put (ob 0x1010 5) 0).put (ck10 4) 0
  let s2 := s1.setPwr (fun p => { p with
    startAt := s.tm.mt, opening := true, ran := false, chg := old, everPresent := false, cause := if w ≤ 2 then w else 3, req := none, saving := none
    latched := none, standbyAt := 0, stateAt := s.tm.mt, lowAt := 0, limpAuto := false, bootHold := false, chip := false
    addrPins := none, vlCode := 0, vbakLow := false, charging := false, retrying := false })
  let s3 := { s2.clearFox with
    flt := { s2.flt with holdPin := true }, rcd := { s2.rcd with fifo := [], chain := none, held := none } }
  (s3.foxPowerUp vl).drivePin

/-- MT of a start, from the real-time counter's elapsed ticks of 30,517.578 ns corrected by 0x2000.1A and rounded up
(R33); without the counter 2 s beyond the stored MT, with MT_GAP (R34). -/
def State.restoreMt (s : State) (rtc : Nat) : State :=
  let off := s.getI32 (tk 0x1A)
  let gone : Q := Q.mk' ((rtc : Int) * 30517578 * 1000000000) ((1000000000 + off) * 1000).toNat
  let mt := if s.pwr.lost then s.nv.mt + 2 * nsS else s.nv.mt + gone.ceil.toNat
  let s1 := { s with tm := { TimeSt.reset with mt := mt } }
  ((s1.put (tk 9) s.nv.corr).put (tk 0x14) (ofBool s.pwr.lost)).put (tk 2) 0

/-- The counters of a start whose always-on die lost its state (R297). -/
def State.restoreCounters (s : State) : State :=
  if s.pwr.lost then
    let q := s.nv.seq + 1024
    let s1 := (((s.put recNextSeq q).put recArchived q).put recPcc (s.nv.pcc + 1)).put recOpms (s.nv.opms + 2000)
    { s1 with rcd := { s1.rcd with bank0 := [], bank1 := [], redo := [] } }
  else s.put recPcc (s.get recPcc + 1)

/-- The first record of the power cycle, before anything posted since (R300, R301). -/
def State.powerUpRecord (s : State) (noSave : Bool) : State :=
  let fl := s.get (tk 0x14) + 2 * ofBool noSave + 4 * ofBool s.pwr.lost + 8 * ofBool (bit (s.get recBanks) 2)
  let b : Body := ⟨1, if s.pwr.lost then 0 else s.pwr.cause, s.get recPcc % 65536, fl, s.utcCont, s.tm.mt, s.get recOpms⟩
  { s with rcd := { s.rcd with fifo := (b :: s.rcd.fifo).take 16 } }

/-- Steps 1, 2 and 5 of a power cycle: the always-on die's part, the collector, MT and the first records. The save mark is
read and taken (R458). -/
def State.openCycle (s : State) (rtc : Nat) : State :=
  let noSave := !s.nv.mark
  let s1 := (s.restoreMt rtc).restoreCounters
  let s2 := if s.pwr.lost then s1.clearSources else s1.restoreSources none
  let s3 := s2.powerUpRecord noSave
  let s4 := match s.pwr.chg with
    | some (old, cause) =>
      ((s3.push 12 dsSTART cause old []).send 5 (le 1 old ++ le 1 dsSTART ++ le 2 cause) 0).settle
    | none => s3
  let s5 := if noSave then (s4.put (sk12 0x0B) 1).raise srcSAVE_INCOMPLETE 0 else s4
  { s5 with nv := { s5.nv with mark := false } }.setPwr (fun p => { p with opening := false, chg := none, lost := false })

/-- The values of a version come into force (R434): its tables, its stored objects. -/
def State.loadValues (s : State) (v : Ver) : State :=
  let apps := Tbl.get [] v.blobs (ob 0x1300 0x89)
  let s1 := if apps = [] then s else s.putApps apps
  let s2 := v.blobs.foldl (fun t p => t.putB p.1 p.2) s1
  let m := Tbl.get [] v.blobs (ob 0x1300 0x83)
  let s3 := if m = [] then s2 else s2.putMap m
  v.vals.foldl (fun t p => t.put p.1 p.2) s3

/-- The profile goes to Foxglove with the version (R263, R430). -/
def State.loadProfile (s : State) (v : Ver) : State :=
  let s1 := v.prof.foldl (fun t p => t.put p.1 p.2) s
  (s1.put (fx 4) v.profVer).put (fx 3) (profCrc v.prof)

/-- Step 6 (R434): the active version; `bad` names the versions whose tag or HASH fails. Where it fails, the newest that
passes is loaded without its profile, which is staged as a return. -/
def State.loadConfig (s : State) (bad : List Nat) : State :=
  let a := s.activeVer
  if !(bad.contains a.num) then ((s.loadValues a).loadProfile a).follow srcCFG_LOAD false 0
  else
    let good := (s.conf.vers.filter (fun v => !(bad.contains v.num))).getLast?
    let v := good.getD { Ver.factory with num := 0 }
    let s1 := (s.loadValues v).updRecord 3 a.num none [⟨6, 0, v.num⟩]
    let s2 := s1.raise srcCFG_LOAD 0
    let g : StagedProf := ⟨v.prof, (v.profVer + 1) % 65536, .open_, 0, 0, [], 0, some v.num⟩
    ({ s2 with
      fox := { s2.fox with staged := some g }
      conf := { s2.conf with waiting := some { v with origin := 3, parent := v.num } } }.put (fx 0x10) chSTAGING).put (ob 0x3000 8) 1

/-- One failed self-test of step 8: a spare is brought in where one is ready, else START_TEST (R452, R463). -/
def State.testFailed (s : State) (p e : Nat) : State :=
  if p < 8 && e < poolSize p then
    if bornSpare p e && (s.elem p e).state = 1 then (s.setElemState p e 4).spareLow p e
    else if s.readySpares p e = [] then (s.setElemState p e 4).raise srcSTART_TEST (p * 4096 + e)
    else s.askSwap p e srcSTART_TEST false
  else s

/-- The elements that step 8 tests: after a chip reset not those of the switch dies and the IMUs (R452). -/
def startTests (chip : Bool) (l : List (Nat × Nat)) : List (Nat × Nat) :=
  if chip then l.filter (fun x => decide (x.1 ≠ 3) && decide (x.1 ≠ 7)) else l

/-- The partition that a core pair hosts. -/
def State.hosted (s : State) (e : Nat) : Option Nat := (List.range 3).find? (fun p => decide (s.get (ob 0x1410 (4 + p)) = e))

/-- A wear swap of a core pair that waits for START is made in START (R285, 0x2900.16). -/
def State.startPairs (s : State) : State :=
  if s.get (ob 0x2900 0x16) = 1 then
    (s.sp.reqs.filter (fun r => r.hold)).foldl (fun t r =>
      let x := (t.dropReq r.pool r.el).swap r.pool r.el r.cause r.mt [] 0
      match t.hosted r.el, x.2 with
      | some p, some new => x.1.put (ob 0x1410 (4 + p)) new
      | _, _ => x.1) s
  else s

/-- A power-up begins a power cycle, with everything gone that is not kept (R301, R317, R452). -/
def State.startCold (s : State) (rtc : Nat) : State :=
  let t := ((s.openCycle rtc).dropSessions.ucpDrop.ethDrop.canDrop.clearDie false).clearObjs (fun k => powerKeeps k || sourceKeeps k)
  ((List.range 8).foldl State.poolUp t).rolesUp

/-- FAULT_N is released, a safety change that was lost is recorded (R261), and SEC_ROOT follows the device root (R400). -/
def State.startRoot (s : State) (root : Nat) : State :=
  let s2 := { s with flt := { s.flt with holdPin := false } }.drivePin
  let s3 := match s2.fox.lostChange with
    | some v => (s2.chRecord 5 v 0 none).setFox (fun x => { x with lostChange := none })
    | none => s2
  ((s3.put (sk2F 0x1D) root).follow srcSEC_ROOT (decide (root ≠ 0)) 0).setPwr (fun p => { p with ran := true })

/-- The settings that the engines use are those in force now. -/
def State.snapAll (s : State) : State := { s with objs0 := s.objs, objsB := s.objs }

/-- With a slot to run, START loads a configuration, tests the elements and starts the receiver; what it has set up is in
force at once. -/
def State.startLoad (s : State) (cold : Bool) (bad : List Nat) (fails : List (Nat × Nat)) (directed : List SvSig) (known : Nat)
    (near : Bool) : State :=
  let s6 := (s.loadConfig bad).canStart
  let s7 := ((startTests (!cold) fails).foldl (fun t x => t.testFailed x.1 x.2) s6).startPairs
  let s8 := s7.rxStart directed known (s7.mayBeHot near)
  { s8.snapAll with eth := { s8.eth with annAt := 0 } }.snapTime

/-- START (R452): `rtc` the real-time counter's ticks since the stored MT, `root` is 1 where the device root did not come back within
three tries and 2 where the random source failed (R400), `slots` the firmware slots that verify (R415), `pass0` and `pass1` the
retention banks that pass (R309), `bad` the configuration versions that do not (R434), `fails` the elements that fail
their self-test as (pool, element), the rest how Sunflower starts (R110). -/
def startWork (rtc : Nat) (root : Nat) (slots : Nat) (pass0 pass1 : Bool) (bad : List Nat) (fails : List (Nat × Nat))
    (directed : List SvSig) (known : Nat) (near : Bool) (s : State) : State :=
  if s.dev ≠ dsSTART || s.pwr.ran || s.pwr.chip || !s.pwr.up then s
  else if s.active srcCLK_PLL then s.setPwr (fun p => { p with startAt := s.tm.mt })
  else
    let cold := s.pwr.opening
    let s4 := (if cold then s.startCold rtc else s).startRoot root
    if root ≠ 0 then s4.setPwr (fun p => { p with bootHold := true })
    else
      let s5 := (s4.bootSlot slots).recRejoin pass0 pass1
      if s5.pwr.bootHold then s5 else s5.startLoad cold bad fails directed known near

/-- At the end of START each block reports its conditions afresh (R278). -/
def State.reportAfresh (s : State) : State :=
  let s1 := (List.range 64).foldl State.outFault s
  let s2 := (List.range 8).foldl (fun t g => (t.grpFault g).follow (srcSWLINK g) (t.grp g).hold 0) s1
  let s3 := (List.range 8).foldl State.supFault s2
  let s4 := (s3.foxLevels).follow srcREC_DUAL (bit (s3.get recBanks) 2) 0
  let b : Nat := if s4.bankUsed 0 then 1 else 0
  let s5 := if bit (s4.get recBanks) 2 then s4 else s4.follow srcREC_BANK (!(s4.bankUsed 0 && s4.bankUsed 1)) b
  (s5.spareLow 0 0).follow srcWEAR (decide (s5.sp.waiting ≠ [])) 0

/-- START_COMPLETE (R453): never under SEC_ROOT or SEC_BOOT. -/
def startComplete (s : State) : State :=
  if s.dev ≠ dsSTART || !s.pwr.ran || s.pwr.chip || s.pwr.bootHold || s.active srcSEC_ROOT || s.active srcSEC_BOOT then s
  else
    let s1 := (s.reportAfresh).put (sk12 0x0D) (clampN 0xFFFFFFFF ((s.tm.mt - s.pwr.startAt) / nsMs))
    if s1.active srcCFG_LOAD then s1.changeState dsCONFIGURE 9 none 0
    else (s1.changeState (s1.cfg (sk12 1)) 3 none 0).autoCauses

/-! ### The hold-up save (R458, R473) -/

/-- What the save stores: the records outstanding, the counters, MT, the time floor, and the mark. -/
def State.saveStore (s : State) (t : Nat) : State :=
  let s1 := (s.post 2 (if t ≤ 1 then 0 else t - 1) 0 0 []).closeAllCuts
  let s2 := drainFifo 32 s1
  let s3 := mtStore (archiveAll 2048 s2).storeCounters.raiseFloor
  ({ s3 with nv := { s3.nv with mark := true } }.put (sk12 0x0B) 0).inc32 (sk12 0x0C)

/-- The system die powers down; the supplies, Foxglove and the switch dies with it (R459). -/
def State.powerDown (s : State) : State :=
  let s1 := (s.outputsOff).dropSessions.ucpDrop.ethDrop.canDrop.capsEmpty
  let s2 := s1.setFox (fun x => { x with alive := false, powered := false, lines := 0, reported := 0 })
  ({ s2 with flt := { s2.flt with holdPin := false } }.putBit faultPin 0 false).setPwr (fun p => { p with
    ran := false, chip := false, everPresent := false })

/-- What follows a save (R458, R461): STANDBY, from which a latched source or WAKE_IN at its high level wakes at once; START
where VL is there; off. -/
def State.afterSave (s : State) (t : Nat) (vlBack : Bool) (old : Nat) : State :=
  let s1 := s.powerDown.setPwr (fun p => { p with saving := none, up := vlBack, latched := none })
  if t = 3 then
    let w := if s.pwr.latched.isSome then s.pwr.latched else if s.pwr.wakeIn && s.cfgBool (sk12 6) then some 3 else none
    match w with
    | some n => if vlBack then s1.beginStart n false (some (dsSTANDBY, 7)) else s1
    | none => s1
  else if vlBack then s1.beginStart 1 (decide (t ≤ 1)) (if old = dsSTART then none else some (old, 0x0C))
  else s1.put (ob 0x1200 1) dsSTANDBY

/-- HOLDUP_SAVE: `trig` is 0 VL below 5 V for 500 µs, 1 VL below 6 V for more than 50 ms, 2 the break of PRESENT, 3 the entry
to STANDBY; `vlBack` says whether VL is there when the save ends. A save that has started completes (R458); before the
store is ready the module powers down without one (R473). -/
def holdupSave (trig : Nat) (vlBack : Bool) (s : State) : State :=
  if !s.pwr.up then s
  else if s.dev = dsSTANDBY && s.pwr.saving.isNone then
    (if trig ≤ 1 && !vlBack then s.setPwr (fun p => { p with up := false }) else s)
  else if 2 ≤ trig && s.pwr.saving ≠ some trig then s
  else
    let t := s.pwr.saving.getD trig
    let old := s.dev
    let s1 := (s.setPwr (fun p => { p with saving := some t })).outputsOff.put (sk12 0x0A) t
    let s2 := s1.loseChange false
    let s3 := if s.get (ck10 5) = 1 then s2.saveStore t else s2
    s3.afterSave t vlBack old

/-! ### Wake and the supplies (R461, R472 to R476, R481) -/

/-- The condition of a wake source: 2 CAN0, 3 WAKE_IN, 4 the wake timer (R395, R461). -/
def State.wakeCond (s : State) (w : Nat) : Bool :=
  if w = 2 then s.cfgBool (sk12 5) else if w = 3 then s.cfgBool (sk12 6) && s.pwr.wakeIn else decide (s.cfg (sk12 8) ≠ 0)

/-- WAKE: one that comes while the entry's save runs is latched. -/
def wake (w : Nat) (s : State) : State :=
  if s.dev ≠ dsSTANDBY || !s.pwr.up || s.pwr.standbyAt = 0 || !(s.wakeCond w) then s
  else if s.pwr.saving.isSome then s.setPwr (fun p => { p with latched := some (p.latched.getD w) })
  else s.beginStart w false (some (dsSTANDBY, 7))

/-- VL_RISE: the bypass closes with VL at or above 9 V (R472); from STANDBY this is a wake (R461). -/
def vlRise (mv : Nat) (s : State) : State :=
  if s.pwr.up || mv < 9000 then s
  else
    let old := if s.pwr.standbyAt = 0 then none else some (dsSTANDBY, 7)
    (((s.setPwr (fun p => { p with up := true })).beginStart 1 true old).put (ck10 1) (clampN 65535 mv)).put (ck10 0x0A) (clampN 65535 mv)

/-- VL_PRECHARGE_TIMEOUT and VL_PRECHARGE_RETRY (R472). -/
def vlPrechargeTimeout (s : State) : State :=
  if s.pwr.up then s else (s.inc32 (ck10 7)).setPwr (fun p => { p with charging := false, retrying := true })
def vlPrechargeRetry (s : State) : State :=
  if s.pwr.up || !s.pwr.retrying then s else s.setPwr (fun p => { p with charging := true, retrying := false })

/-- HOLDUP_STORE_READY (R473). -/
def holdupReady (mv : Nat) (s : State) : State :=
  if s.awake && s.pwr.saving.isNone then (s.put (ck10 5) 1).put (ck10 6) (clampN 65535 mv) else s

/-- VL_LOW follows its causes, and its code word and 0x1030.0B show the one in effect (R476). -/
def State.vlLevel (s : State) : State :=
  let code := if s.pwr.vlCode ≠ 0 then s.pwr.vlCode else if s.pwr.vbakLow then 3 else 0
  let s1 := s.put (ck10 0x0B) code
  if code ≠ 0 && s1.raw srcVL_LOW then s1.put (codeKey srcVL_LOW) code else s1.follow srcVL_LOW (decide (code ≠ 0)) code

/-- VBAK_MEASURE: VBAK under its test load, VL and its current (R474, R476). -/
def vbakMeasure (vbak vl ma : Nat) (s : State) : State :=
  if !s.awake then s
  else
    let s1 := ((((s.put (ck10 3) (clampN 65535 vbak)).put (ck10 1) (clampN 65535 vl)).put (ck10 2) (clampN 65535 ma)).put (ck10 0x0A)
      (min (s.get (ck10 0x0A)) vl))
    (s1.setPwr (fun p => { p with vbakLow := decide (vbak < 2700) || (p.vbakLow && decide (vbak < 2800)) })).vlLevel

/-- VL_LOW: code 1 VL below 9 V for more than 50 ms, 2 above 36 V for more than 400 ms, 0 within limits for 1 s (R476). -/
def vlLow (code mv : Nat) (s : State) : State :=
  if !s.awake then s
  else
    (((s.put (ck10 1) (clampN 65535 mv)).put (ck10 0x0A) (min (s.get (ck10 0x0A)) mv)).setPwr (fun p => { p with vlCode := code })).vlLevel

/-- VBAK_SUPPLY_MONITOR_TRIP: with VL absent the retained state is lost (R474). -/
def vbakTrip (s : State) : State := if s.pwr.up then s else s.setPwr (fun p => { p with lost := true })

/-- VB_PRECHARGE: a group's bypass closes while PRESENT is true (R475). -/
def vbPrecharge (g mv : Nat) (s : State) : State :=
  if s.awake && s.getBool (ob 0x1010 5) then (s.putBit (gk g 3) 0 true).put (gk g 1) (clampN 65535 mv) else s

/-! ### PRESENT, the address pins and the status pins (R477 to R482) -/

/-- PRESENT_MAKE (R477): the channels are restored by GROUP_RESTORE (R475). -/
def presentMake (s : State) : State :=
  if !s.awake || s.getBool (ob 0x1010 5) then s
  else
    let s1 := ((s.put (ob 0x1010 5) 1).put (ck10 4) 0x1F).setPwr (fun p => { p with everPresent := true })
    { s1 with eth := { s1.eth with annAt := 0 } }

/-- PRESENT_BREAK (R477, R478): `closed` are the contacts that still read closed. Every group goes to GROUP_OFF (R475). -/
def presentBreak (closed : Nat) (s : State) : State :=
  if !s.awake || !(s.getBool (ob 0x1010 5)) then s
  else
    let s1 := ((s.put (ob 0x1010 5) 0).put (ck10 4) (closed % 16)).inc32 (ck10 8)
    let s2 := (List.range 8).foldl (fun t g => ((t.grpOff g).putBit (gk g 3) 0 false)) s1
    s2.setPwr (fun p => { p with saving := some (p.saving.getD 2) })

/-- Node address and coding status of a pin reading (R479). -/
def addrOf (pins : Nat) : Nat × Nat :=
  let n := pins % 128
  if popCount 8 pins % 2 = 0 then (0xFF, 1) else if 1 ≤ n && n ≤ 64 then (n, 0) else (0xFF, 2)

/-- ADDRESS_READ: at the later of START step 6 and PRESENT; samples that disagree are taken again (R480). -/
def addressRead (pins : Nat) (agree : Bool) (s : State) : State :=
  if !s.awake || !s.pwr.ran || s.pwr.bootHold || !(s.getBool (ob 0x1010 5)) || s.pwr.addrPins.isSome then s
  else
    let s1 := s.put (ck10 9) pins
    if agree then ((s1.put (ob 0x1010 1) (addrOf pins).1).put (ob 0x1010 2) (addrOf pins).2).setPwr (fun p => { p with addrPins := some pins })
    else s1

/-- ADDRESS_CHANGE: a reading that has stood for 1 s (R480). -/
def addressChange (pins : Nat) (s : State) : State :=
  match s.pwr.addrPins with
  | none => s
  | some old =>
    if !s.awake then s
    else
      let s1 := s.put (ck10 9) pins
      if pins = old then s1 else s1.put (ob 0x1010 2) 3

/-- WAKE_IN_LEVEL: a level held for 10 ms (R481). -/
def wakeInLevel (high : Bool) (s : State) : State := s.setPwr (fun p => { p with wakeIn := high, lowAt := if high then 0 else p.lowAt })

/-- STATUS_PIN_OVERCURRENT: pin 0 FAULT_N, 1 SAFE_N; off for 10 ms, and then tried again (R482). -/
def statusPin (pin : Nat) (over_ : Bool) (s : State) : State :=
  let done (t : Nat) : Nat := if t ≠ 0 && t + 10 * nsMs ≤ s.tm.mt + 1 then 0 else t
  if !s.awake then s
  else s.setPwr (fun p =>
    if pin = 0 then { p with faultOff := if over_ then s.tm.mt + 1 else done p.faultOff }
    else { p with safeOff := if over_ then s.tm.mt + 1 else done p.safeOff })

def execBlockReset (b : Fin 25) (s : State) : Host.Outcome State Fault Refusal := .next (blockReset b.val s)
def execBlockResetEnd (b : Fin 25) (pass : Nat) (directed : List SvSig) (known : Nat) (near : Bool) (s : State) :
    Host.Outcome State Fault Refusal := .next (blockResetEnd b.val pass directed known near s)
def execChipReset (s : State) : Host.Outcome State Fault Refusal := .next (chipReset s)
def execChipResetEnd (s : State) : Host.Outcome State Fault Refusal := .next (chipResetEnd s)
def execStart (rtc : Nat) (root : Fin 3) (slots : Nat) (pass0 pass1 : Bool) (bad : List Nat) (fails : List (Nat × Nat))
    (directed : List SvSig) (known : Nat) (near : Bool) (s : State) : Host.Outcome State Fault Refusal :=
  .next (startWork rtc root.val slots pass0 pass1 bad fails directed known near s)
def execStartComplete (s : State) : Host.Outcome State Fault Refusal := .next (startComplete s)
def execStandbyRequest (who : Who) (s : State) : Host.Outcome State Fault Refusal :=
  .next (s.request who 0x1200 3 (.num 0) hStateReq)
def execConfigureRequest (who : Who) (s : State) : Host.Outcome State Fault Refusal :=
  .next (s.request who 0x1200 3 (.num 2) hStateReq)
def execRunRequest (who : Who) (s : State) : Host.Outcome State Fault Refusal :=
  .next (s.request who 0x1200 3 (.num 3) hStateReq)
def execLimpRequest (who : Who) (s : State) : Host.Outcome State Fault Refusal :=
  .next (s.request who 0x1200 3 (.num 4) hStateReq)
def execSafeHoldRequest (who : Who) (s : State) : Host.Outcome State Fault Refusal :=
  .next (s.request who 0x1200 3 (.num 5) hStateReq)
def execServiceRequest (who : Who) (s : State) : Host.Outcome State Fault Refusal :=
  .next (s.request who 0x1200 3 (.num 6) hStateReq)
def execRestartRequest (who : Who) (s : State) : Host.Outcome State Fault Refusal :=
  .next (s.request who 0x1200 3 (.num 0x80) hStateReq)
def execAutoStateChange (s : State) : Host.Outcome State Fault Refusal := .next s.autoCauses
def execHoldupSave (trig : Fin 4) (vlBack : Bool) (s : State) : Host.Outcome State Fault Refusal :=
  .next (holdupSave trig.val vlBack s)
def execAfterRunExpire (s : State) : Host.Outcome State Fault Refusal := .next (afterRunExpire s)
def execWake (src : Fin 3) (s : State) : Host.Outcome State Fault Refusal := .next (wake (2 + src.val) s)
def execVlRise (mv : Nat) (s : State) : Host.Outcome State Fault Refusal := .next (vlRise mv s)
def execVlPrechargeTimeout (s : State) : Host.Outcome State Fault Refusal := .next (vlPrechargeTimeout s)
def execHoldupStoreReady (mv : Nat) (s : State) : Host.Outcome State Fault Refusal := .next (holdupReady mv s)
def execVbakMeasure (vbak vl ma : Nat) (s : State) : Host.Outcome State Fault Refusal := .next (vbakMeasure vbak vl ma s)
def execVbPrecharge (g : Fin 8) (mv : Nat) (s : State) : Host.Outcome State Fault Refusal := .next (vbPrecharge g.val mv s)
def execVlLow (code : Fin 3) (mv : Nat) (s : State) : Host.Outcome State Fault Refusal := .next (vlLow code.val mv s)
def execPresentMake (s : State) : Host.Outcome State Fault Refusal := .next (presentMake s)
def execPresentBreak (closed : Fin 15) (s : State) : Host.Outcome State Fault Refusal := .next (presentBreak closed.val s)
def execAddressRead (pins : Fin 256) (agree : Bool) (s : State) : Host.Outcome State Fault Refusal :=
  .next (addressRead pins.val agree s)
def execAddressChange (pins : Fin 256) (s : State) : Host.Outcome State Fault Refusal := .next (addressChange pins.val s)
def execWakeInLevel (high : Bool) (s : State) : Host.Outcome State Fault Refusal := .next (wakeInLevel high s)
def execStatusPinOvercurrent (pin : Fin 2) (over_ : Bool) (s : State) : Host.Outcome State Fault Refusal :=
  .next (statusPin pin.val over_ s)
def execVbakSupplyMonitorTrip (s : State) : Host.Outcome State Fault Refusal := .next (vbakTrip s)
def execVlPrechargeRetry (s : State) : Host.Outcome State Fault Refusal := .next (vlPrechargeRetry s)

end Sys2Proof.Machine
end

