-- ==== Sys2Proof/Machine/Views.lean ====
section
/-! DEFINITION. What a read returns (R316, R319, R322, R324): values that are computed when they are read, the contents
of the DOMAIN objects, and the object description. -/

namespace Sys2Proof.Machine

open Sys2Proof

/-! ### Fixed-size values -/

/-- The lowest ready spare pair, 0xFF for none (0x1410.07). -/
def State.sparePair (s : State) : Nat := ((List.range 4).find? (fun e => decide ((s.elem 0 e).state = 1))).getD 0xFF

/-- Output channel objects that show the die's present state (R239). -/
def State.outView (s : State) (c sub : Nat) : Option Nat :=
  if sub = 0x19 then some (s.outState c)
  else if sub = 0x1A then some (s.outStatus c)
  else if sub = 0x27 then some (s.cellStatus c)
  else if sub = 0x29 then some (s.actualFreq c).toNat
  else none

/-- The entries of the description (0x1300.01). -/
def State.descCount (s : State) : Nat := dictObjs.length + s.apps.length

/-- Objects whose value is formed when it is read. -/
def State.view (s : State) (i sub : Nat) : Option Nat :=
  if within 0x2600 0x263F i then s.outView (i - 0x2600) sub
  else if within 0x2640 0x2647 i then (if sub = 8 then some (s.grpWindows (i - 0x2640)) else none)
  else
    let k := ob i sub
    if k = ob 0x1000 4 then some serialNo
    else if k = ob 0x1000 5 then some (Config.hardwareIssue % 2 ^ 16)
    else if k = ob 0x1000 6 then some (Config.productionDate % 2 ^ 32)
    else if k = ob 0x1000 0x0A then some s.dev
    else if k = ob 0x1200 9 then some (clampN 0xFFFFFFFF ((s.tm.mt - s.pwr.stateAt) / nsMs))
    else if k = ob 0x1210 0x0F then some s.standing
    else if k = ob 0x1300 1 then some s.descCount
    else if k = ob 0x1410 7 then some s.sparePair
    else if k = ob 0x2000 1 then some (s.tm.mt % 2 ^ 64)
    else if k = ob 0x2300 0x2C then some s.corrAgeNow
    else if k = ob 0x2560 1 then some s.tm.sched
    else if k = ob 0x2700 0x16 then some s.chLeft
    else if k = ob 0x3000 3 then some (ofBool !s.workSame)
    else none

/-- The value a read of a fixed-size object returns (R322). -/
def State.readNum (s : State) (i sub : Nat) : Nat := (s.view i sub).getD (s.get (ob i sub))

/-- The bytes of an STR. -/
def State.readStr (s : State) (i sub : Nat) : List Byte :=
  if i = 0x1000 && sub = 1 then ascii "Gwynsal Controls"
  else if i = 0x1000 && sub = 2 then ascii "Dennus DMC-64"
  else if i = 0x1000 && sub = 3 then ascii "GC-DMC64-01"
  else s.getB (ob i sub)

/-! ### The description (R316) -/

/-- Objects whose chapters add write conditions that the device state alone does not decide (R35, R182, R199, R239,
R408, R415, R419, R454). -/
def conditional (i sub : Nat) : Bool :=
  (within 0x2500 0x255F i && ((within 1 0x17 sub && decide (sub ≠ 0x0E) && decide (sub ≠ 0x0F)) || decide (sub = 0x19) ||
      decide (sub = 0x1A) || within 0x20 0x5C sub || within 0x70 0x74 sub)) ||
    (within 0x2600 0x263F i && within 1 0x15 sub) || (decide (i = 0x2000) && decide (sub = 5)) || (decide (i = 0x1200) && decide (sub = 3)) ||
    (decide (i = 0x2F00) && (within 3 4 sub || within 0x1A 0x1B sub)) || (decide (i = 0x3100) && (decide (sub = 1) || decide (sub = 3)))

/-- The 16 bytes of one entry. -/
def descEntry (i : Nat) (d : Desc) (mapIn mapOut cond app : Bool) : List Byte :=
  let w := if d.acc = .const || d.acc = .ro then 0xFF else d.wrole.code
  let r := if d.acc = .wo then 0xFF else d.rrole.code
  let flags := ofBool mapIn + 2 * ofBool mapOut + 4 * ofBool (decide (d.kind = .stored)) + 8 * ofBool (decide (d.kind = .retained)) +
    16 * ofBool cond + 32 * ofBool app
  le 2 i ++ le 1 d.sub ++ le 1 d.typ.code ++ le 1 d.acc.code ++ le 1 w ++ le 1 r ++ le 1 d.states ++ le 2 flags ++ le 2 0 ++
    le 4 (if d.typ.isFixed then d.typ.bytes else d.size)

/-- DOMAIN 0x1300.10: the module's objects, then the application-defined ones. -/
def State.description (s : State) : List Byte :=
  dictObjs.flatMap (fun p =>
    let i := p.1 / 256
    let sub := p.1 % 256
    descEntry i { p.2 with sub := sub } (s.mayMapIn i sub) (s.mayMapOut i sub) (conditional i sub) false) ++
    s.apps.flatMap (fun a => descEntry a.idx a.desc a.mapIn a.mapOut false true)

/-! ### DOMAIN objects (R324) -/

/-- What a DOMAIN reads as: its valid length, the multiple its offsets keep, and `n` of its bytes from an offset. -/
structure Domain where
  len : Nat
  align : Nat
  bytes : Nat → Nat → List Byte

def Domain.whole (l : List Byte) : Domain := ⟨l.length, 1, fun o n => bytesAt l o n⟩
def Domain.records (size : Nat) (l : List Byte) : Domain := { Domain.whole l with align := size }
/-- A ring of records of one size; `f` gives the record at a place. -/
def Domain.ring (size count : Nat) (f : Nat → List Byte) : Domain :=
  ⟨size * count, size, fun o n => ((List.range (n / size + 1)).flatMap (fun j => fixLen size (f (o / size + j)))).take n⟩

/-- A staged copy, or what is in force where none is staged (R324). -/
def State.stagedOr (s : State) (k : Nat) (inForce : List Byte) : Domain :=
  Domain.whole (if s.getB k = [] then inForce else s.getB k)
def orZeros (n : Nat) (l : List Byte) : List Byte := if l = [] then List.replicate n (0 : Byte) else l

/-- A CAN object table with all entries unused (R370). -/
def emptyCanTable : List Byte :=
  let z := List.replicate 8192 (0 : Byte)
  le 12 0 ++ le 4 (crc32 z) ++ z

/-- The newest record slot at a place of the archive (R303, R310). -/
def State.recordAt (s : State) (j : Nat) : List Byte :=
  let next := s.get recNextSeq
  let q := next - 1 - (next - 1 + 1048576 - j) % 1048576
  if next = 0 || j ≥ 1048576 || next - 1 < (next - 1 + 1048576 - j) % 1048576 || q < s.get recOldest then le 16 0
  else if next ≤ q + 1024 && !s.directMode then le 16 (s.retained q)
  else le 16 (Tbl.get 0 s.rcd.archive (q % 1048576))

/-- DOMAIN 0x2E00.0C: depth and oldest age of the queues (R344). -/
def State.queueStatus (s : State) : List Byte :=
  let row (l : List Nat) : List Byte := le 2 l.length ++ le 2 (clampN 0xFFFF ((s.tm.mt - l.foldl min s.tm.mt) / nsMs))
  (List.range 16).flatMap (fun q => row ((s.ucp.inq.filter (fun i => decide (i.queue = q))).map (·.since))) ++
    (List.range 16).flatMap (fun q => row ((s.ucp.outq.filter (fun i => decide (i.queue = q))).map (·.since)))

/-- DOMAIN 0x3000.09: the header of version v in slot v mod 8 (R427). -/
def State.verDirectory (s : State) : List Byte :=
  (List.range 8).flatMap (fun j => match s.conf.vers.find? (fun v => decide (v.num % 8 = j)) with
    | some v => (s.verBytes v).take 88
    | none => le 88 0)

/-- The DOMAIN objects. -/
def State.domain (s : State) (i sub : Nat) : Domain :=
  let k := ob i sub
  if within 0x2B00 0x2B07 i then
    (if sub = 0x40 then
      Domain.ring 96 2048 (fun j => Tbl.get [] (s.canPort (i - 0x2B00)).log j)
    else Domain.whole (s.getB k))
  else if i = 0x2C00 then
    (if sub ≤ 8 then s.stagedOr k (let b := s.getB (ob 0x2C00 (0x80 + sub)); if b = [] then emptyCanTable else b)
    else Domain.records 80 ((List.range 256).flatMap (s.objStatus (sub - 0x21))))
  else if k = ob 0x1100 2 then Domain.whole s.sessionTable
  else if k = ob 0x1300 3 then s.stagedOr k (orZeros 16 s.mapInForce)
  else if k = ob 0x1300 7 then Domain.records 4 (fixLen 8192 (s.getB k))
  else if k = ob 0x1300 9 then s.stagedOr k (s.getB (ob 0x1300 0x89))
  else if k = ob 0x1300 0x10 then Domain.whole s.description
  else if k = ob 0x2200 0x22 then Domain.ring 64 1048576 (fun j => le 64 (Tbl.get 0 s.crop.yields j))
  else if k = ob 0x2400 0x26 then Domain.ring 128 16384 (fun j => s.navRingAt (128 * j))
  else if within 0x2561 0x2564 i then ⟨524352, 4, fun o n => fixLen n (bytesAt (s.capContent (i - 0x2561)) o n)⟩
  else if k = ob 0x2700 0x14 then Domain.whole (match s.fox.staged with | some g => profBytes g.vals | none => [])
  else if k = ob 0x2700 0x15 then Domain.whole (profBytes s.profNow)
  else if k = ob 0x2900 0x60 then Domain.records 16 s.wearTable
  else if k = ob 0x2900 0x61 then Domain.records 32 s.swapHistory
  else if k = ob 0x2A00 0x10 then Domain.ring 16 1048576 s.recordAt
  else if k = ob 0x2A00 0x11 then Domain.ring 16 1024 (fun j => le 16 (Tbl.get 0 s.rcd.bank0 j))
  else if k = ob 0x2A00 0x12 then Domain.ring 16 1024 (fun j => le 16 (Tbl.get 0 s.rcd.bank1 j))
  else if k = ob 0x2E00 0x0C then Domain.whole s.queueStatus
  else if k = ob 0x2E00 0x83 then Domain.ring 4096 64 (fun j => Tbl.get [] s.ucp.fleetOut j)
  else if k = ob 0x2E00 0x87 then Domain.ring 4096 64 (fun j => Tbl.get [] s.ucp.fleetIn j)
  else if k = ob 0x2F00 1 then Domain.whole (fixLen 352 Config.deviceCred)
  else if k = ob 0x2F00 2 then Domain.whole (fixLen 97 Config.vendorKey)
  else if k = ob 0x2F00 3 then s.stagedOr k (fixLen 1408 s.anchorTable)
  else if k = ob 0x2F00 5 then s.stagedOr k (s.getB (ob 0x2F00 0x85))
  else if k = ob 0x2F00 7 then Domain.whole (fixLen 97 Config.fleetSignKey)
  else if k = ob 0x2F00 8 then Domain.whole (fixLen 97 Config.fleetAgreeKey)
  else if k = ob 0x2F00 0x12 then Domain.whole s.challengeNow
  else if k = ob 0x2F00 0x19 then Domain.whole s.debugChallenge
  else if k = ob 0x3000 9 then Domain.whole s.verDirectory
  else if k = ob 0x3000 0x0A then Domain.whole (s.verBytes s.activeVer)
  else if k = ob 0x3100 1 then ⟨s.get (uk 0x0B), 1, fun o n => s.imgBytes o n⟩
  else Domain.whole (s.getB k)

/-! ### A read (R319, R324) -/

/-- The present valid length of a DOMAIN (R325); bytes of a capture beyond it read as 0 (R198). -/
def State.validLen (s : State) (i sub : Nat) : Nat :=
  if within 0x2561 0x2564 i then (s.capContent (i - 0x2561)).length else (s.domain i sub).len

/-- Steps 6 and 9 of R319 for a read of a DOMAIN, with its bytes. A stream's offset is its running count (R122). -/
def State.readDomain (s : State) (i sub off n : Nat) : Nat × Nat × List Byte :=
  if i = 0x2300 && sub = 0x31 then
    let held := s.rx.nmea.length
    let back := (s.rx.nmeaCount + 2 ^ 32 - off % 2 ^ 32) % 2 ^ 32
    if n = 0 && off = 0 then (stOK, s.rx.nmeaCount, [])
    else if held < back || back < n then (stOFFSET, 0, [])
    else (stOK, s.rx.nmeaCount, (s.rx.nmea.drop (held - back)).take n)
  else
    let d := s.domain i sub
    if n = 0 && off = 0 then (stOK, s.validLen i sub, [])
    else if d.len < off then (stOFFSET, 0, [])
    else (stOK, s.validLen i sub, d.bytes off (min n (d.len - off)))

/-- The offset of a read does not fit the object whatever its state (step 6). -/
def State.readOffsetBad (s : State) (i sub : Nat) (d : Desc) (off : Nat) : Bool :=
  !(decide (i = 0x2300) && decide (sub = 0x31)) && (decide (off % (s.domain i sub).align ≠ 0) || decide (d.size < off))

/-- A read as R319 judges it: the status, AUX and the data. `n` is the bytes wanted of a
DOMAIN; AUX of the answer is its valid length (R325, R336). -/
def State.read (s : State) (w : Who) (i sub off n : Nat) : State × Nat × Nat × List Byte :=
  if s.dev = dsSTANDBY then (s, stSilent, 0, [])
  else match s.descOf i sub with
    | none => if (s.roleOf w).isNone then (s, stSESSION, 0, []) else (s, stUNKNOWN, 0, [])
    | some d =>
      let opn := decide (d.rrole = .opn)
      if (s.roleOf w).isNone && !opn then (s, stSESSION, 0, [])
      else if d.acc = .wo then (s, stDENIED, 0, [])
      else if !opn && !(((s.roleOf w).getD .op).mayRead d.rrole) then (s, stROLE, 0, [])
      else if d.typ = .dom && 4096 < n then (s, stTYPE, 0, [])
      else if d.typ ≠ .dom && (off ≠ 0 || n ≠ 0) then (s, stOFFSET, 0, [])
      else if d.typ = .dom && s.readOffsetBad i sub d off then (s, stOFFSET, 0, [])
      else if s.dev = dsSTART && !opn then (s.refuse9 i sub, stSTATE, 0, [])
      else if d.typ = .dom then
        (if within 0x2561 0x2564 i && s.capState (i - 0x2561) ≠ 3 then (s, stBUSY, 0, [])
        else
          let r := s.readDomain i sub off n
          (s, r.1, r.2.1, r.2.2))
      else if d.typ = .str then (s, stOK, 0, s.readStr i sub)
      else (s, stOK, 0, le d.typ.bytes (s.readNum i sub))

end Sys2Proof.Machine
end

