-- ==== Sys2Proof/Machine/Router.lean ====
section
/-! DEFINITION. Which rule set a write meets at each object, the requests that UCP takes from its queues, signed commands,
and the import and loading of configuration versions (R319, R336, R345, R414, R431, R433). -/

namespace Sys2Proof.Machine

open Sys2Proof

/-! ### The rules of an object -/

/-- A write with no rule of its own: a value is stored, a block goes into the staged copy. -/
def hPlain (i sub : Nat) : Handler := Handler.simple fun s _ v =>
  match v with
  | .num n => (s.put (ob i sub) n, stOK)
  | .blk off data =>
    match s.descOf i sub with
    | some d => (s.putB (ob i sub) (if d.typ = .str then data else stageInto (s.getB (ob i sub)) off data), stOK)
    | none => (s, stOK)

/-- A cause map names no reserved source (R462). -/
def hCauseMap (sub : Nat) : Handler where
  consist := fun _ v => (bitList 64 v.toNum).all (fun b => srcExists (64 * (sub % 8) + b))
  cond := fun _ => true
  run := fun s _ v => (s.put (sk12 sub) v.toNum, stOK)

def slotHandler (n i sub : Nat) : Handler :=
  if sub = 0x19 then hBank n
  else if sub = 0x1A then hSlotCmd n
  else if within 1 0x17 sub && sub ≠ 0x0E && sub ≠ 0x0F then hSlotCfg n sub
  else if within 0x20 0x5F sub then hBankPar n ((sub - 0x20) / 16) ((sub - 0x20) % 16)
  else if within 0x70 0x74 sub then hSupSet n sub
  else if sub = 0x78 then hPeakReset n
  else if sub = 0x89 then hTest n
  else if within 0x80 0x88 sub then hTestPar n sub
  else hPlain i sub

def inputHandler (c i sub : Nat) : Handler :=
  if sub = 1 then hInMode c else if sub = 2 then hInRange c else if sub = 3 then hInRate c else if sub = 4 then hInPhase c
  else hPlain i sub

def canHandler (p i sub : Nat) : Handler :=
  if sub = 0x11 then hRecovery p else if sub = 0x22 then hTiming p else if sub = 0x3A then hIsoSend p
  else if sub = 0x39 then hPlain i sub else hCanSet p sub

/-- The indices below 0x2000. -/
def lowHandler (i sub : Nat) : Handler :=
  if i = 0x1100 && sub = 5 then hEndSession
  else if i = 0x1200 && sub = 3 then hStateReq
  else if i = 0x1210 && 0x10 ≤ sub then hCauseMap sub
  else if i = 0x1300 && sub = 5 then hMapApply
  else if i = 0x1300 && sub = 0x0A then hAppApply
  else if i = 0x1410 then hPortRole sub
  else hPlain i sub

/-- 0x2140 to 0x2400. -/
def senseHandler (f : Facts) (i sub : Nat) : Handler :=
  if i = 0x2140 && sub = 1 then hSupRestart
  else if i = 0x2140 && sub % 16 = 1 then hSupEnable (sub / 16 - 1)
  else if i = 0x2200 && sub = 0x0A then hZero
  else if i = 0x2200 && sub = 0x25 then hBufferClear
  else if i = 0x2200 && sub = 0x29 then hTotalsReset
  else if i = 0x2300 && within 0x14 0x16 sub then hBaseline sub
  else if i = 0x2300 && sub = 0x26 then hCorrection
  else if i = 0x2300 && sub = 0x34 then hRxStart f.directed f.known f.near
  else if i = 0x2400 && sub = 0x1F then hLineBiasReset
  else if i = 0x2400 && (sub = 0xA2 || sub = 0xAA) then hExtSample ((sub - 0xA2) / 8)
  else hPlain i sub

/-- 0x2700 to 0x2A00. -/
def safetyHandler (i sub : Nat) : Handler :=
  if i = 0x2700 && sub = 0x0F then hDemand
  else if i = 0x2700 && sub = 0x11 then hStaging
  else if i = 0x2700 && sub = 0x12 then hSign
  else if i = 0x2700 && sub = 0x13 then hCounter
  else if i = 0x2800 && sub = 0x10 then hForce true
  else if i = 0x2800 && sub = 0x11 then hForce false
  else if i = 0x2800 && sub = 0x12 then hFaultClear
  else if i = 0x2800 && sub = 0x13 then hFaultClearAll
  else if within 0x2810 0x281F i && within 0x20 0x3F sub then hSrcConfig ((i - 0x2810) * 32 + (sub - 0x20))
  else if i = 0x2A00 && sub = 0x0B then hRecClear
  else if i = 0x2A00 && sub = 0x0D then hDualReset
  else if i = 0x2A00 && sub = 0x0E then hAppRecord
  else hPlain i sub

/-! ### Versions: loading, import (R431, R433) -/

/-- The entries that bytes spell, as key, TYPE and value; none where they do not fill the bytes. `n` bounds them. -/
def entriesOf : Nat → List Byte → Option (List (Nat × Nat × List Byte))
  | 0, l => if l = [] then some [] else none
  | n + 1, l =>
    let len := fieldAt l 4 4
    let size := 8 + (len + 3) / 4 * 4
    if l = [] then some []
    else if l.length < size || !((bytesAt l (8 + len) (size - 8 - len)).all (fun b => decide (b = 0))) then none
    else (entriesOf n (l.drop size)).map (fun t => (fieldAt l 0 2 * 256 + fieldAt l 2 1, fieldAt l 3 1, bytesAt l 8 len) :: t)

/-- One entry of a profile in place; none where it is not a value of an RWS object. -/
def takeRws (e : Nat × Nat × List Byte) (t : Tbl Nat) : Option (Tbl Nat) :=
  match Dict.desc (e.1 / 256) (e.1 % 256) with
  | some d =>
    if d.acc = .rws && e.2.1 = d.typ.code && e.2.2.length = d.typ.bytes && inRange d (ofLe e.2.2) then
      some (Tbl.set (Dict.dflt e.1) t e.1 (ofLe e.2.2))
    else none
  | none => none

/-- The profile that the bytes of 0x2700.15 spell. -/
def profOf (l : List Byte) : Option (Tbl Nat) :=
  (entriesOf l.length l).bind (fun es => es.foldl (fun a e => a.bind (takeRws e)) (some []))

/-- An image's contents (R429). -/
structure Image where
  vals : Tbl Nat
  blobs : Tbl (List Byte)
  prof : Tbl Nat
  deriving DecidableEq, Repr

/-- The rights an import's entries are judged with: a safety role brings the whole image (R433). -/
def Role.importer (r : Role) : Role := if r = .auth then .maint else r

/-- Put one entry in place; none where it fails steps 2 to 7 of R319 (R433 step 4). -/
def State.takeEntry (s : State) (r : Role) (m : Image) (e : Nat × Nat × List Byte) : Option Image :=
  let k := e.1
  if k = ob 0x2700 0x15 then (if e.2.1 = 11 then (profOf e.2.2).map (fun p => { m with prof := p }) else none)
  else match s.descOf (k / 256) (k % 256) with
    | none => none
    | some d =>
      if e.2.1 ≠ d.typ.code || d.acc ≠ .rw || !(r.importer.mayWrite d.wrole) then none
      else if d.typ.isFixed then
        (if e.2.2.length = d.typ.bytes && inRange d (ofLe e.2.2) then some { m with vals := Tbl.set (Dict.dflt k) m.vals k (ofLe e.2.2) } else none)
      else if d.size < e.2.2.length then none
      else if d.typ = .str then
        (if utf8Ok e.2.2.length e.2.2 then some { m with blobs := Tbl.set [] m.blobs k e.2.2 } else none)
      else match verBlobs.find? (fun p => decide (p.2 = k)) with
        | some p => some { m with blobs := Tbl.set [] m.blobs p.1 e.2.2 }
        | none => none

/-- The entries in turn, with the number of the first that fails. -/
def State.takeEntries (s : State) (r : Role) : List (Nat × Nat × List Byte) → Nat → Image → Image ⊕ Nat
  | [], _, m => .inl m
  | e :: rest, k, m => match s.takeEntry r m e with
    | some m' => s.takeEntries r rest (k + 1) m'
    | none => .inr k

/-- The stored values and tables of a version replace the working ones (R431): what would be in force under it. -/
def State.withVersion (s : State) (vals : Tbl Nat) (blobs : Tbl (List Byte)) : State :=
  let s0 := { s with objs := s.objs.filter (fun p => !(s.isStored p.1)) }
  let s1 := s0.putApps (Tbl.get [] blobs (ob 0x1300 0x89))
  let s2 := s1.putMap (Tbl.get [] blobs (ob 0x1300 0x83))
  let s3 := (List.range 8).foldl (fun t p => t.putTable p (Tbl.get [] blobs (ob 0x2C00 (0x81 + p)))) s2
  let s4 := s3.putB (ob 0x1010 6) (Tbl.get [] blobs (ob 0x1010 6))
  vals.foldl (fun t p => t.put p.1 p.2) s4

/-- The number of the table entry that fails the apply checks of its table (R328, R332, R371). -/
def State.tablesBad (s : State) (m : Image) (es : List (Nat × Nat × List Byte)) : Option Nat :=
  let numOf (k : Nat) : Nat := ((List.range es.length).find? (fun j => decide ((es.getD j (0, 0, [])).1 = k))).getD 0
  let app := Tbl.get [] m.blobs (ob 0x1300 0x89)
  let map := Tbl.get [] m.blobs (ob 0x1300 0x83)
  if (firstBad appEntOk [] (appChunks 2048 app) 0).isSome then some (numOf (ob 0x1300 9))
  else
    let t := s.withVersion m.vals m.blobs
    if map ≠ [] && (!(mapHeadOk map) || (firstBad t.mapEntOk [] (mapEntries map) 0).isSome) then some (numOf (ob 0x1300 3))
    else
      let ports := (List.range 8).filter (fun p => decide (Tbl.get [] m.blobs (ob 0x2C00 (0x81 + p)) ≠ []))
      let u := ports.foldl (fun v p => v.putB (ob 0x2C00 (1 + p)) (Tbl.get [] m.blobs (ob 0x2C00 (0x81 + p)))) t
      match u.tableFault (ports.foldl (fun a p => a + 2 ^ p) 0) with
      | some k => if ports = [] then none else some (numOf (ob 0x2C00 (1 + k / 256)))
      | none => none

/-- Values of an image that were objects' own reach the rules of those objects among themselves (R319 step 7): each value
against the image's other values. -/
def State.valuesBad (s : State) (handler : Nat → Nat → Handler) (m : Image) (es : List (Nat × Nat × List Byte)) : Option Nat :=
  let t := s.withVersion m.vals m.blobs
  (List.range es.length).find? (fun j =>
    let k := (es.getD j (0, 0, [])).1
    match t.descOf (k / 256) (k % 256) with
    | some d => d.typ.isFixed && decide (d.acc = .rw) && !((handler (k / 256) (k % 256)).consist t (.num (t.get k)))
    | none => false)

/-- The check of a staged image (R433): the status, what 0x3000.0D shows, and its contents. -/
def State.importCheck (s : State) (handler : Nat → Nat → Handler) (r : Role) (b : List Byte) : Nat × Nat × Image :=
  let none_ : Image := ⟨[], [], []⟩
  if fieldAt b 0 4 ≠ 0x56474643 || fieldAt b 0x20 4 ≠ b.length || b.length < 88 then (stRANGE, 0xFFFFFFFF, none_)
  else if bytesAt b 0x28 48 ≠ Config.sha384 (b.take 40 ++ b.drop 88) then (stINTEGRITY, 0xFFFFFFFF, none_)
  else if fieldAt b 0x0C 2 ≠ s.get (ob 0x1000 8) then (stRANGE, 0xFFFFFFFF, none_)
  else match entriesOf b.length (b.drop 88) with
    | none => (stRANGE, 0xFFFFFFFF, none_)
    | some es =>
      if es.length ≠ fieldAt b 0x24 4 then (stRANGE, 0xFFFFFFFF, none_) else
      let app := ((es.find? (fun e => decide (e.1 = ob 0x1300 9))).map (fun e => e.2.2)).getD []
      let t := s.putApps (if (firstBad appEntOk [] (appChunks 2048 app) 0).isSome then [] else app)
      match t.takeEntries r es 0 none_ with
      | .inr k => (stRANGE, k, none_)
      | .inl m => match s.tablesBad m es with
        | some k => (stRANGE, k, none_)
        | none => match s.valuesBad handler m es with
          | some k => (stRANGE, k, none_)
          | none => (stOK, 0xFFFFFFFF, m)

/-- CONFIG_IMPORT (R433): a passed image is brought as a return target is (R431, R432). -/
def hImport (handler : Nat → Nat → Handler) : Handler where
  consist := fun _ _ => true
  cond := fun _ => true
  role := fun s w _ =>
    match s.roleOf w with
    | none => false
    | some r =>
      let c := s.importCheck handler r (s.getB (ob 0x3000 0x0B))
      if c.1 = stOK then s.profileRole w (profCrc c.2.2.prof) else r.mayWrite .maint || decide (r = .auth)
  run := fun s w _ =>
    let b := s.getB (ob 0x3000 0x0B)
    let c := s.importCheck handler ((s.roleOf w).getD .op) b
    let s1 := s.put (ob 0x3000 0x0D) c.2.1
    if c.1 ≠ stOK then (s1, c.1)
    else
      let r := s1.bring w 4 (fieldAt b 4 4) c.2.2.vals c.2.2.blobs c.2.2.prof ((s1.get (fx 4) + 1) % 65536) (fieldAt b 4 4)
      if r.2 = stOK then (r.1.putB (ob 0x3000 0x0B) [], stOK) else r

/-! ### The router -/

/-- The rules of every object but those that carry out further writes. -/
def baseHandler (f : Facts) (i sub : Nat) : Handler :=
  if isRws (ob i sub) then hRws i sub
  else if i < 0x2000 then lowHandler i sub
  else if i = 0x2000 then (if sub = 5 then hCalOff else hPlain i sub)
  else if within 0x2100 0x213F i then inputHandler (i - 0x2100) i sub
  else if within 0x2140 0x2400 i then senseHandler f i sub
  else if within 0x2500 0x255F i then slotHandler (i - 0x2500) i sub
  else if within 0x2561 0x2564 i then (if sub = 8 then hCapCmd (i - 0x2561) else hCapSet (i - 0x2561) sub)
  else if within 0x2600 0x263F i then
    (if sub = 0x18 then hOutRestart (i - 0x2600) else if within 1 0x15 sub then hOutCfg (i - 0x2600) sub else hPlain i sub)
  else if within 0x2700 0x2A00 i then safetyHandler i sub
  else if within 0x2B00 0x2B07 i then canHandler (i - 0x2B00) i sub
  else if i = 0x2C00 && sub = 9 then hTableApply
  else if i = 0x2E00 && sub = 0x81 then hFleetSend
  else if i = 0x2E00 && sub = 0x86 then hFleetDeliver
  else if i = 0x2F00 && sub = 4 then hAnchors
  else if i = 0x2F00 && sub = 6 then hMembers
  else if i = 0x2F00 && sub = 0x0A then hRevocation
  else if i = 0x2F00 && sub = 0x18 then hDebugClose
  else if i = 0x2F00 && sub = 0x1A then hDebugOpen
  else if i = 0x2F00 && sub = 0x1B then hDebugLock
  else if i = 0x3000 && sub = 5 then hCommit
  else if i = 0x3000 && sub = 6 then hReturn
  else if i = 0x3100 && sub = 1 then hImageBlock
  else if i = 0x3100 && sub = 3 then hVerify f.built
  else if i = 0x3100 && sub = 5 then hArm
  else if i = 0x3100 && sub = 9 then hConfirm
  else hPlain i sub

def midHandler (f : Facts) (i sub : Nat) : Handler :=
  if i = 0x3000 && sub = 0x0C then hImport (baseHandler f) else baseHandler f i sub

/-- The value that bytes carry to an object: a number where its type has a fixed size and they have that size. -/
def State.valOf (s : State) (i sub off : Nat) (data : List Byte) : Val :=
  match s.descOf i sub with
  | some d => if d.typ.isFixed && data.length = d.typ.bytes then .num (ofLe data) else .blk off data
  | none => .blk off data

/-- A write with an OFFSET and an AUX beside its value (R336): they are 0 where the object is no DOMAIN. -/
def State.writeAt (s : State) (w : Who) (i sub off aux : Nat) (v : Val) (h : Handler) : State × Nat :=
  let dom := match s.descOf i sub with | some d => decide (d.typ = .dom) | none => false
  if s.dev ≠ dsSTANDBY && !dom && (off ≠ 0 || aux ≠ 0) then
    let c := s.checkWrite w i sub v h
    if c = stOK || c = stRANGE then (s, stOFFSET) else (s, c)
  else s.write w i sub v h

/-- AUX of a write's answer: a DOMAIN's valid length after it, the running count of a stream, the reason of an
AUTH_FAILED (R324, R336, R405). -/
def State.writeAux (s : State) (i sub st : Nat) : Nat :=
  if st = stOK then
    (match s.descOf i sub with
     | some d => if d.typ ≠ .dom then 0 else if i = 0x2300 && sub = 0x26 then s.get (rk 0x37) else s.validLen i sub
     | none => 0)
  else if i = 0x2E00 && sub = 0x86 then 0
  else s.auxOf st

/-! ### Signed commands (R414) -/

/-- A SECURITY record of a signed command: CODE the status, and what it wrote to. -/
def State.signedRecord (s : State) (st role serial i sub sess : Nat) : State :=
  s.secRecord 7 st role serial sess [⟨6, i, sub⟩]

/-- SIGNED_COMMAND_EXECUTE. -/
def hSigned (f : Facts) : Handler := Handler.simple fun s w _ =>
  let b := s.getB (sk2F 0x10)
  let c := b.take 352
  let len := fieldAt b 0x188 2
  let i := fieldAt b 0x180 2
  let sub := fieldAt b 0x182 1
  let off := fieldAt b 0x184 4
  let data := bytesAt b 0x190 len
  let cr := s.credOf w
  let s1 := s.drawChallenge
  if b.length ≠ 0x190 + len + 96 || 2048 < len || fieldAt b 0x183 1 ≠ 1 || fieldAt b 0x18A 6 ≠ 0 then (s1, stRANGE)
  else
    let why := s.credCheck c (fun k => decide (k ≤ 5)) true
    if why ≠ 0 then (s1.authRefused why cr.1 cr.2 w.sessionNo, stAUTH)
    else if !(Config.ecdsaOk (credKey c) (Config.sha384 (b.take (0x190 + len))) (bytesAt b (0x190 + len) 96)) then
      (s1.authRefused 3 cr.1 cr.2 w.sessionNo, stAUTH)
    else if bytesAt b 0x160 32 ≠ s.challengeNow then (s1.authRefused 12 cr.1 cr.2 w.sessionNo, stAUTH)
    else
      let role := credKind c
      let serial := credSerial c
      let me := Who.signed role serial
      let r :=
        if i = 0x2F00 && sub = 0x11 then (s1, stDENIED)
        else if i = 0x2700 && (sub = 0x12 || sub = 0x13) && bytesAt data 48 352 ≠ c then (s1.authRefused 13 role serial 0, stAUTH)
        else s1.writeAt me i sub off 0 (s1.valOf i sub off data) (midHandler f i sub)
      ((r.1.putB (sk2F 0x10) []).signedRecord r.2 role serial i sub w.sessionNo, r.2)

/-- The rules of an object (R319). -/
def handlerOf (f : Facts) (i sub : Nat) : Handler :=
  if i = 0x2F00 && sub = 0x11 then hSigned f else midHandler f i sub

/-! ### Commands -/

/-- READ as one command. -/
def readCmd (w : Who) (i sub off n : Nat) (s : State) : State :=
  let r := s.read w i sub off n
  r.1.answer r.2.1 r.2.2.1 r.2.2.2

/-- WRITE as one command. -/
def writeCmd (w : Who) (i sub off aux : Nat) (data : List Byte) (f : Facts) (s : State) : State :=
  let r := s.writeAt w i sub off aux (s.valOf i sub off data) (handlerOf f i sub)
  r.1.answer r.2 (r.1.writeAux i sub r.2) []

/-- Who a packet speaks for (R24, R319). -/
def Packet.who (p : Packet) : Route → Who
  | .port k => .port k
  | _ => if p.session = 0 then .open_ else .session p.session

/-- What a request does, with its status, AUX and payload (R336). While no slot lets START go on, the module answers READ of
open objects, the handshake, ATTEST and image delivery alone (R415): of the reads and writes, START itself refuses the others. -/
def State.carryOut (s : State) (r : Route) (p : Packet) (f : Facts) : State × Nat × Nat × List Byte :=
  let w := p.who r
  let own := decide (r.odd = 1)
  if s.pwr.bootHold && within 3 5 p.opcode then (s, stSTATE, 0, [])
  else if p.opcode = 1 then s.read w p.index p.sub p.offset p.aux
  else if p.opcode = 2 then
    let x := s.writeAt w p.index p.sub p.offset p.aux (s.valOf p.index p.sub p.offset p.payload) (handlerOf f p.index p.sub)
    (x.1, x.2, x.1.writeAux p.index p.sub x.2, [])
  else if p.opcode = 3 then s.subscribe w r p.index p.aux
  else if p.opcode = 4 then s.unsubscribe w r p.index
  else if p.opcode = 5 then s.nop p.payload
  else if own then (s, stDENIED, 0, [])
  else if p.opcode = 0x20 && p.session = 0 then s.hello r p.src p.payload
  else if p.opcode = 0x21 && p.session = 0 then s.finish p.aux p.payload
  else if p.opcode = 0x22 && p.session ≠ 0 then s.close p.session
  else if p.opcode = 0x23 then s.attest p.payload
  else (s, stDENIED, 0, [])

/-- A response queue of a request has room (R347). -/
def State.canAnswer (s : State) (i : InItem) : Bool := decide (oqDepth (2 * i.pkt.prio + i.route.odd) s.ucp.outq < 32)

/-- The counter toward the module of a session has reached its limit (R337). -/
def State.counterSpent (s : State) (n : Nat) : Bool :=
  match s.session n with
  | some x => decide (x.inHigh = some 0xFFFFFFFF)
  | none => false

/-- REQUEST_DEQUEUE (R345): the item of the highest effective level whose answer has room is carried out and answered. -/
def requestDequeue (f : Facts) (s : State) : State :=
  if s.dev = dsSTANDBY || s.inReset blkUCP || s.pwr.chip then s
  else match bestOf (fun i => s.queueLevel i.pkt.prio i.since) (s.ucp.inq.filter s.canAnswer) with
    | none => s
    | some i =>
      let wait := clampN 0xFFFFFFFF ((s.tm.mt - i.since) / 1000)
      let s1 := { s with ucp := { s.ucp with inq := s.ucp.inq.erase i } }
      let s2 := s1.put (uc 0x0D) (max (s1.get (uc 0x0D)) wait)
      let x := s2.carryOut i.route i.pkt f
      let s3 := x.1.respond i.route i.pkt (decide (i.pkt.session ≠ 0)) (some (i.pkt.space i.route)) x.2.1 x.2.2.1 x.2.2.2
      if s.counterSpent i.pkt.session then s3.endSession i.pkt.session 4 else s3

/-! ### A version takes force (R431) -/

/-- The keys whose value a version changes. -/
def State.verKeys (s : State) (v : Ver) : List Nat :=
  ((v.vals.map (·.1)) ++ (s.workVals.map (·.1)).filter (fun k => !(v.vals.any (fun p => decide (p.1 = k))))).filter (fun k =>
    decide (s.get k ≠ Tbl.get (Dict.dflt k) v.vals k))

/-- Every entry of a version, as if each object had been written and each staged table applied. -/
def State.loadVersion (s : State) (v : Ver) : State :=
  let f : Facts := ⟨false, [], 0, false⟩
  let ks := s.verKeys v
  let old (k : Nat) : List Byte := s.getB k
  let new (k : Nat) : List Byte := Tbl.get [] v.blobs k
  let s1 := if old (ob 0x1300 0x89) = new (ob 0x1300 0x89) then s else s.putApps (new (ob 0x1300 0x89))
  let s2 := ks.foldl (fun t k => ((handlerOf f (k / 256) (k % 256)).run t .open_ (.num (Tbl.get (Dict.dflt k) v.vals k))).1) s1
  let s3 := ks.foldl (fun t k => t.put k (Tbl.get (Dict.dflt k) v.vals k)) s2
  let s4 := if old (ob 0x1300 0x83) = new (ob 0x1300 0x83) then s3 else s3.putMap (new (ob 0x1300 0x83))
  let s5 := (List.range 8).foldl (fun t p =>
    if old (ob 0x2C00 (0x81 + p)) = new (ob 0x2C00 (0x81 + p)) then t else t.putTable p (new (ob 0x2C00 (0x81 + p)))) s4
  let s6 := s5.putB (ob 0x1010 6) (new (ob 0x1010 6))
  { s6.put (ob 0x3000 4) 0 with conf := { s6.conf with load := none } }

def execRequestDequeue (f : Facts) (s : State) : Host.Outcome State Fault Refusal := .next (requestDequeue f s)
def execRead (who : Who) (i sub off n : Nat) (s : State) : Host.Outcome State Fault Refusal := .next (readCmd who i sub off n s)
def execWrite (who : Who) (i sub off aux : Nat) (data : List Byte) (f : Facts) (s : State) : Host.Outcome State Fault Refusal :=
  .next (writeCmd who i sub off aux data f s)
def execSignedCommandExecute (who : Who) (f : Facts) (s : State) : Host.Outcome State Fault Refusal :=
  .next (s.request who 0x2F00 0x11 (.num 1) (hSigned f))
def execConfigImport (who : Who) (f : Facts) (s : State) : Host.Outcome State Fault Refusal :=
  .next (s.request who 0x3000 0x0C (.num 1) (hImport (baseHandler f)))

end Sys2Proof.Machine
end

