-- ==== Sys2Proof/Machine/Frame.lean ====
section
/-! DEFINITION. The module frame: Seal, Take, Assemble and Publish, the process images, the partitions on their core
pairs and their doorbell pages (R12, R14, R18 to R25, R329, R330). -/

namespace Sys2Proof.Machine

open Sys2Proof

/-- Frames run with everything in them: power is there, and neither standby nor a chip reset stands. -/
def State.framing (s : State) : Bool := s.awake && !s.pwr.chip

/-- The partitions run, from the end of START (R453). -/
def State.partsRun (s : State) : Bool := s.framing && decide (s.dev ≠ dsSTART)
def State.partRuns (s : State) (p : Nat) : Bool := s.partsRun && !(s.part p).down

/-- The process image logic runs. -/
def State.pilRuns (s : State) : Bool := s.partsRun && !(s.inReset blkPIL)

/-- The outside of a write that no command brings: nothing. -/
def Facts.none_ : Facts := ⟨false, [], 0, false⟩

/-! ### Seal (R12, R31) -/

/-- At tick 0 the frame number, the schedule counter and MT move on. -/
def State.nextFrame (s : State) : State :=
  let s1 := s.advance 5000
  let s2 := s1.addWrap (ob 0x2000 2) 1
  { s2.put (ob 0x2000 1) s2.tm.mt with tm := { s2.tm with sched := (s2.tm.sched + 1) % 200 } }

/-- The commits of a partition that stand at tick 0 are taken in this frame; the timeout count goes on (R22, R23). -/
def PartSt.seal (x : PartSt) : PartSt :=
  { x with
    ready := x.ready + x.commits
    commits := 0
    idle := if x.commits ≠ 0 then 0 else if x.resumeHold || x.down then x.idle else x.idle + 1 }

def State.sealParts (s : State) : State :=
  if s.partsRun then
    { s with parts := everyOf PartSt.reset 3 s.parts PartSt.seal, img := { s.img with atTick0 := s.img.wview, wrote0 := s.img.wrote, wrote := [] } }
  else s

/-- What was written in the frame before takes force, and its settings are the past of the sealed block (R74, R321). -/
def State.rollSnaps (s : State) : State := { s with objsB := s.objs0, objs0 := s.objs }

/-- A configuration, a map and an application table that wait take force at tick 0 (R328, R332, R430). -/
def State.sealLoad (s : State) : State := (match s.conf.load with | some v => s.loadVersion v | none => s).mapSeal

/-- The blocks of the engines are sealed. -/
def State.sealEngines (s : State) : State :=
  let s1 := ((((s.sealInputs.sealOutputs.canSeal.ethSeal).feedTick 1).feedTick 2).navTick).larkSeal
  { s1 with img := { s1.img with staleNav := true } }.sealParts

/-- SEAL: what waited takes force and the blocks of the engines are sealed (R74, R321). -/
def sealPhase (s : State) : State :=
  if !s.awake then s
  else if s.pwr.chip then s.nextFrame
  else
    let s1 := s.nextFrame.endEvents.sealLoad.rollSnaps.sealEngines
    ((s1.healthTick (s1.tm.mt - s.tm.mt)).takeReq.afterRunTick).settle

/-! ### The output image (R21, R22, R377) -/

/-- The owner and the bytes of the output-image field at an offset; none where no entry lies. -/
def State.outField (s : State) (off : Nat) : Option (Nat × Nat) :=
  let base := off - off % 8
  if within 0x40 0x33F off then
    (if off % 8 = 0 then some (Tbl.get 0 s.img.owner base, 4) else if off % 8 = 4 then some (Tbl.get 0 s.img.owner base, 1) else none)
  else if within 0x340 0x53F off then
    (if off % 8 = 0 then some (Tbl.get 0 s.img.owner base, 1) else if off % 8 = 2 then some (Tbl.get 0 s.img.owner base, 2) else none)
  else if within 0x1000 0x1FFF off then
    (((List.range 8).flatMap (fun p => (s.canPort p).tbl.map (·.2))).find? (fun o =>
      decide (o.kind = 2) && o.mapped && within (0x1000 + o.mapOff) (0x1000 + o.mapOff + o.span - 1) off)).map (fun o => (o.owner, 1))
  else
    ((mapEntries s.mapInForce).find? (fun e => decide (e.dir = 1) && decide (e.off = off))).map (fun e =>
      (e.owner, match s.descOf e.idx e.sub with | some d => d.typ.bytes | none => 0))

/-- The offsets of all output-image fields. -/
def State.outOffsets (s : State) : List Nat :=
  (List.range 96).flatMap (fun n => [0x40 + 8 * n, 0x44 + 8 * n]) ++ (List.range 64).flatMap (fun c => [0x340 + 8 * c, 0x342 + 8 * c]) ++
    (List.range 8).flatMap (fun p => ((s.canPort p).tbl.filter (fun e => decide (e.2.kind = 2) && e.2.mapped)).flatMap (fun e =>
      (List.range e.2.span).map (fun i => 0x1000 + e.2.mapOff + i))) ++
    ((mapEntries s.mapInForce).filter (fun e => decide (e.dir = 1))).map (fun e => e.off)

/-- An enabled slot fills the byte, and the Take copy skips it (R377). -/
def State.slotFills (s : State) (off : Nat) : Bool :=
  within 0x1000 0x1FFF off && s.slotBytes.any (fun r => decide (0x1000 + r.1 ≤ off) && decide (off < 0x1000 + r.1 + r.2))

/-- What Take copies for a partition. -/
def State.ownedBy (s : State) (p : Nat) : List Nat :=
  s.outOffsets.filter (fun k => (match s.outField k with | some (o, _) => decide (o = p) | none => false) && !(s.slotFills k))

/-- PI_TIMEOUT follows whether a partition stands in the timeout hold; its code has their bits (R23, R504). -/
def State.piFollow (s : State) : State :=
  let m := ((List.range 3).filter (fun p => (s.part p).timedOut)).foldl (fun a p => a + 2 ^ p) 0
  if s.raw srcPI_TIMEOUT && m ≠ 0 then s.put (codeKey srcPI_TIMEOUT) m else s.follow srcPI_TIMEOUT (decide (m ≠ 0)) m

/-- The entries of one partition go from the write view, as it stood at tick 0, into the taken view; commits beyond the
first are surplus (R22). -/
def State.takePart (s : State) (p : Nat) : State :=
  let x := s.part p
  let taken := (s.ownedBy p).foldl (fun t k => Tbl.set 0 t k (Tbl.get 0 s.img.atTick0 k)) s.img.taken
  let s1 := s.add32 (ob 0x1400 3) (x.ready - 1)
  { s1 with img := { s1.img with taken := taken } }.setPart p (fun y => { y with ready := 0 })

/-- One mapped output entry acts as a write of its taken value (R330): what a command wrote to the object before tick 0
stands. -/
def State.mappedWrite (s : State) (e : MapEnt) (v : Nat) : State :=
  let k := ob e.idx e.sub
  let r := s.write (.mapped e.owner) e.idx e.sub (.num v) (handlerOf Facts.none_ e.idx e.sub)
  if r.2 ≠ stOK then r.1.mappedRefused e.idx e.sub
  else if s.img.wrote0.contains k then r.1.putNow k (s.get k)
  else r.1.putNow k (r.1.get k)

/-- Entry number n of the map at a Take that copied the partitions `ps`; `old` is the taken view before. -/
def State.mapEntryAct (ps : List Nat) (old : Tbl Nat) (s : State) (n : Nat) : State :=
  let e := mapEntryAt s.mapInForce n
  let v := Tbl.get 0 s.img.taken e.off
  if e.dir ≠ 1 || !(ps.contains e.owner) then s
  else if v ≠ Tbl.get 0 old e.off || bit e.mode 0 || Tbl.get 0 s.img.once n = 0 then
    { s with img := { s.img with once := Tbl.set 0 s.img.once n 1 } }.mappedWrite e v
  else s

/-- TAKE (R22, R330). -/
def takePhase (s : State) : State :=
  if !s.pilRuns then s
  else
    let ps := (List.range 3).filter (fun p => decide ((s.part p).ready ≠ 0))
    let s1 := ps.foldl State.takePart s
    ((List.range (mapCount s.mapInForce)).foldl (State.mapEntryAct ps s.img.taken) s1).settle

/-! ### The input image (R20, R44, R68, R329, R374) -/

/-- FLAGS of R20. -/
def State.imgFlags (s : State) : Nat :=
  ofBool s.img.staleNav + 2 * ofBool s.img.overrun + 4 * ofBool (decide (s.timeState = tsHOLDOVER)) + 8 * ofBool s.safeAsserted +
    16 * ofBool (bit (s.get faultPin) 0)

def State.inputEntry (s : State) (n : Nat) : List Byte :=
  le 4 (s.get (ik n 0x16)) ++ le 2 (s.get (ik n 0x17)) ++ le 2 (s.chan n).samples ++ le 4 (s.chan n).edgeTime ++ le 4 (s.get (ik n 0x18))
def State.outputEntry (s : State) (n : Nat) : List Byte :=
  le 4 (s.get (xk n 0x1B)) ++ le 2 (s.outStatus n) ++ le 2 (s.get (xk n 0x1C))
def State.slotEntry (s : State) (n : Nat) : List Byte :=
  fle (s.slot n).y ++ fle (s.slot n).out ++ le 4 (s.get (sk n 0x64)) ++ le 1 (s.get (sk n 0x1B)) ++ le 1 (s.get (sk n 0x1C)) ++ le 2 0

/-- The time block (R44). -/
def State.timeBlock (s : State) : List Byte :=
  le 8 (s.get (tk 4)) ++ le 8 (s.get (tk 5)) ++ le 8 s.tm.nextMt ++ le 4 (s.get (tk 0x19)) ++ le 2 (s.get (tk 0x18)) ++
    le 1 s.timeState ++ le 1 s.timeFlags ++ le 4 (s.get (tk 8)) ++ le 4 (s.get (tk 9)) ++ le 2 (s.get (tk 7)) ++ le 2 0 ++
    le 4 s.tm.hold ++ le 8 (s.get (tk 0x13)) ++ le 4 (s.get (tk 0x12)) ++ le 4 0

/-- µs from tick 0 of this frame to the start of the supply's next test pulse (R66, R68). -/
def State.nextPulse (s : State) (k : Nat) : Nat :=
  if k < 4 || !(s.supOn k) then 0xFFFF else 50 * ((50 * (k - 4) + 200 - s.tm.sched) % 200)
def State.supplyEntry (s : State) (k : Nat) : List Byte :=
  le 2 (s.get (supk k 3)) ++ le 2 (s.get (supk k 4)) ++ le 2 (s.get (supk k 5)) ++ le 2 (s.nextPulse k)

/-- The navigation block (R157): the newest record, and what every frame rewrites. -/
def State.navBlock (s : State) : List Byte :=
  (match s.nav.ring with | r :: _ => fixLen 128 r.bytes | [] => le 128 0) ++ s.navFast

/-- Offsets 0x0000 to 0x0FFF of the input image (R20). -/
def State.fixedImage (s : State) : List Byte :=
  le 4 s.frameNo ++ le 4 s.imgFlags ++ le 8 (s.get (ob 0x2000 1)) ++ le 1 s.dev ++ le 7 0 ++ le 8 s.fox.reported ++
    le 2 (s.get (ob 0x2700 0x0C)) ++ le 30 0 ++ (List.range 64).flatMap s.inputEntry ++ (List.range 64).flatMap s.outputEntry ++
    (List.range 96).flatMap s.slotEntry ++ s.navBlock ++ s.cropBlock ++ s.timeBlock ++ (List.range 8).flatMap s.supplyEntry

/-- Bytes put into an image from an offset. -/
def putBytes (t : Tbl Nat) (off : Nat) : List Byte → Tbl Nat
  | [] => t
  | b :: rest => putBytes (Tbl.set 0 t off b.toNat) (off + 1) rest

/-- ASSEMBLE: the view that is not shown receives the next image (R20, R329, R374). -/
def assemble (s : State) : State :=
  if !s.pilRuns then s
  else
    let rx := s.rxAssemble
    let t1 := rx.2.foldl (fun t p => putBytes t p.1 p.2) (putBytes [] 0 s.fixedImage)
    let t2 := ((mapEntries s.mapInForce).filter (fun e => decide (e.dir = 0))).foldl (fun t e =>
      putBytes t e.off (le (match s.descOf e.idx e.sub with | some d => d.typ.bytes | none => 0) (s.readNum e.idx e.sub))) t1
    { rx.1 with img := { rx.1.img with next := t2, overrun := false } }

/-- FRAME as a view of the input image holds it. -/
def viewFrame (t : Tbl Nat) : Nat := ofLe ((List.range 4).map (fun i => BitVec.ofNat 8 (Tbl.get 0 t i)))

/-- PUBLISH: the views are exchanged and PI_READY is raised; without a new image the previous one stays (R14, R20). -/
def publish (s : State) : State :=
  if !s.pilRuns || viewFrame s.img.next ≠ s.frameNo || viewFrame s.img.shown = s.frameNo then s
  else { s with
    img := { s.img with shown := s.img.next, next := s.img.shown }
    parts := everyOf PartSt.reset 3 s.parts (fun x => { x with irqStatus := setBit x.irqStatus 0 true }) }

/-- PHASE_OVERRUN (R14): the phase's previous result stays; capture records of the frame say so (R196). -/
def phaseOverrun (s : State) : State :=
  if !s.framing then s
  else (({ s with img := { s.img with overrun := true } }.inc32 (ob 0x1400 4)).capMark 3).raise srcFRAME_OVR 0

/-! ### Partitions and core pairs (R18, R23, R285) -/

/-- LOCKSTEP_MISMATCH: a fault of the pair; the partition on it stands until it resumes, and the spare pair is asked for. -/
def lockstepMismatch (pair : Nat) (s : State) : State :=
  if !s.framing || s.inReset (blkCP pair) then s
  else
    let s1 := (s.raise (srcCORE_CP pair) 0).selfCheck 0 pair
    match s1.hosted pair with
    | none => s1
    | some p => (s1.setPart p (fun x => { x with down := true, resumeHold := true, ckptBusy := none })).askSwap 0 pair (srcCORE_CP pair) false

/-- The partition goes on from its checkpoint on pair `x`; tests it started end, and the loops stay held until it
commits (R18, R194). -/
def State.resumeOn (s : State) (p x : Nat) : State :=
  ((s.put (ob 0x1410 (4 + p)) x).abortTests (fun w => decide (w = .port p))).setPart p (fun y => { y with
    down := false, resumeHold := true, ckptBusy := none })

/-- PARTITION_RESUME: on the spare pair, or, where none serves, on the same pair after its reset (R18, R271, R285). -/
def partitionResume (p : Nat) (verify : List Bool) (dur : Nat) (s : State) : State :=
  let pair := s.get (ob 0x1410 (4 + p))
  let asked := match s.reqOf 0 pair with | some r => !r.hold | none => false
  if !s.partsRun || !((s.part p).down || asked) then s
  else
    let r := s.doRequested 0 pair verify dur
    match r.2 with
    | some x => r.1.resumeOn p x
    | none =>
      let waits := match r.1.reqOf 0 pair with | some q => !q.hold | none => false
      if waits || !(s.part p).down || s.inReset (blkCP pair) then r.1 else r.1.resumeOn p pair

/-- CKPT: the store of the partition's state begins (R18). -/
def ckpt (p addr : Nat) (s : State) : State :=
  if s.partRuns p then s.setPart p (fun x => { x with ckptBusy := some addr }) else s

/-- CKPT_DONE; a wear swap of the pair that waits for its checkpoint may go on (R285, 0x2900.16). -/
def ckptDone (p : Nat) (s : State) : State :=
  match (s.part p).ckptBusy with
  | none => s
  | some a =>
    let pair := s.get (ob 0x1410 (4 + p))
    let s1 := s.setPart p (fun x => { x with ckpt := a, ckptBusy := none, irqStatus := setBit x.irqStatus 2 true })
    if s1.get (ob 0x2900 0x16) = 0 then
      { s1 with sp := { s1.sp with reqs := s1.sp.reqs.map (fun r => if r.pool = 0 && r.el = pair then { r with hold := false } else r) } }
    else s1

/-! ### The doorbell pages -/

/-- APP_BUS_ERROR (R19): the access has no other effect. -/
def appBusError (s : State) : State := s.inc32 (ob 0x1400 5)

/-- One field written into the write view: an entry that the partition does not own stays, and the write ends in a bus
error; outside every entry it is ignored (R21, R328, R377). -/
def State.writeField (p : Nat) (s : State) (e : Nat × Nat) : State :=
  match s.outField e.1 with
  | none => s
  | some (o, n) =>
    if o = p then { s with img := { s.img with wview := Tbl.set 0 s.img.wview e.1 (e.2 % 256 ^ n) } } else appBusError s

/-- PI_COMMIT: the fields the partition wrote, and its commit; the first one after a resumption and after a timeout
ends the hold (R18, R22, R23). -/
def piCommit (p : Nat) (entries : List (Nat × Nat)) (s : State) : State :=
  if !(s.partRuns p) then s
  else
    ((entries.foldl (State.writeField p) s).setPart p (fun x => { x with
      commits := x.commits + 1, timedOut := false, resumeHold := false })).piFollow.settle

/-- PI_TIMEOUT: frames without a commit reach 0x1400.01 (R23). -/
def piTimeout (p : Nat) (s : State) : State :=
  let x := s.part p
  let n := s.cfg (ob 0x1400 1)
  if s.partRuns p && n ≠ 0 && n ≤ x.idle && x.commits = 0 && !x.timedOut && !x.resumeHold then
    ((s.inc32 (ob 0x1400 2)).setPart p (fun y => { y with timedOut := true })).piFollow.settle
  else s

/-- A ring size that the doorbell page admits. -/
def ringOk (n : Nat) : Bool := [4, 8, 16, 32, 64, 128, 256].contains n

/-- The doorbell settings a partition wrote: ring places and sizes only while both rings are empty. -/
def PartSt.writeDoor (x : PartSt) (d : Door) : PartSt :=
  let y := { x with irqEnable := d.irqEnable % 8 }
  if x.cmdHead = x.cmdTail && x.rspHead = x.rspTail && ringOk d.cmdSize && ringOk d.rspSize && d.cmdBase % 16 = 0 && d.rspBase % 16 = 0 then
    { y with cmdBase := d.cmdBase, cmdSize := d.cmdSize, rspBase := d.rspBase, rspSize := d.rspSize, cmdHead := 0, cmdTail := 0, rspHead := 0, rspTail := 0 }
  else y

/-- CMD_TAIL (R24): the packets that the descriptors between head and tail name go to the UCP engine. -/
def cmdTail (p : Nat) (door : Option Door) (tail : Nat) (packets : List (List Byte)) (s : State) : State :=
  if !(s.partRuns p) then s
  else
    let s1 := match door with | some d => s.setPart p (fun x => x.writeDoor d) | none => s
    let x := s1.part p
    let t := tail % x.cmdSize
    let s2 := s1.setPart p (fun y => { y with cmdTail := t })
    if s2.inReset blkUCP then s2
    else
      let n := (t + x.cmdSize - x.cmdHead % x.cmdSize) % x.cmdSize
      (packets.take n).foldl (fun u b => packetReceive (.port p) b u) (s2.setPart p (fun y => { y with cmdHead := t }))

/-- Deliver what waits for the local port while its ring has room; `n` bounds the responses. -/
def deliver (port : Nat) : Nat → State → State
  | 0, s => s
  | n + 1, s => if s.portReady port then deliver port n (outbound port s) else s

/-- RSP_TAIL (R25): the responses held for want of room go into the freed entries. -/
def rspTail (p tail : Nat) (s : State) : State :=
  if !(s.partRuns p) then s
  else
    let n := (s.part p).rspSize
    let free := (tail % n + n - (s.part p).rspTail % n) % n
    deliver (9 + p) free (s.setPart p (fun y => { y with rspTail := tail % n }))

/-- IRQ_STATUS: a bit written as 1 is cleared. -/
def irqStatus (p w : Nat) (s : State) : State :=
  if !(s.partRuns p) then s
  else s.setPart p (fun x => { x with irqStatus := (bitList 3 w).foldl (fun m i => setBit m i false) x.irqStatus })

def execSeal (s : State) : Host.Outcome State Fault Refusal := .next (sealPhase s)
def execTake (s : State) : Host.Outcome State Fault Refusal := .next (takePhase s)
def execAssemble (s : State) : Host.Outcome State Fault Refusal := .next (assemble s)
def execPublish (s : State) : Host.Outcome State Fault Refusal := .next (publish s)
def execPhaseOverrun (s : State) : Host.Outcome State Fault Refusal := .next (phaseOverrun s)
def execLockstepMismatch (pair : Fin 4) (s : State) : Host.Outcome State Fault Refusal := .next (lockstepMismatch pair.val s)
def execPartitionResume (p : Fin 3) (verify : List Bool) (dur : Nat) (s : State) : Host.Outcome State Fault Refusal :=
  .next (partitionResume p.val verify dur s)
def execCkpt (p : Fin 3) (addr : Nat) (s : State) : Host.Outcome State Fault Refusal := .next (ckpt p.val addr s)
def execCkptDone (p : Fin 3) (s : State) : Host.Outcome State Fault Refusal := .next (ckptDone p.val s)
def execPiCommit (p : Fin 3) (entries : List (Nat × Nat)) (s : State) : Host.Outcome State Fault Refusal :=
  .next (piCommit p.val entries s)
def execAppBusError (s : State) : Host.Outcome State Fault Refusal := .next (appBusError s)
def execPiTimeout (p : Fin 3) (s : State) : Host.Outcome State Fault Refusal := .next (piTimeout p.val s)
def execCmdTail (p : Fin 3) (door : Option Door) (tail : Nat) (packets : List (List Byte)) (s : State) :
    Host.Outcome State Fault Refusal := .next (cmdTail p.val door tail packets s)
def execRspTail (p : Fin 3) (tail : Nat) (s : State) : Host.Outcome State Fault Refusal := .next (rspTail p.val tail s)
def execIrqStatus (p : Fin 3) (w : Nat) (s : State) : Host.Outcome State Fault Refusal := .next (irqStatus p.val w s)

end Sys2Proof.Machine
end

