-- ==== Sys2Proof/Machine/Dispatch.lean ====
section
/-! DEFINITION. The meaning of each command: one arm per constructor, one direct call per arm. -/

namespace Sys2Proof.Machine

open Sys2Proof

def exec (i : Instr) (s : State) : Host.Outcome State Fault Refusal :=
  match i with
  | .sealFrame => Sys2Proof.Machine.execSeal s
  | .take => Sys2Proof.Machine.execTake s
  | .scale blk mon sense => Sys2Proof.Machine.execScale blk mon sense s
  | .crop => Sys2Proof.Machine.execCrop s
  | .fuseStep est gnss tests late => Sys2Proof.Machine.execFuseStep est gnss tests late s
  | .control upsets => Sys2Proof.Machine.execControl upsets s
  | .load bad => Sys2Proof.Machine.execLoad bad s
  | .assemble => Sys2Proof.Machine.execAssemble s
  | .publish => Sys2Proof.Machine.execPublish s
  | .exchange ok sched => Sys2Proof.Machine.execExchange ok sched s
  | .crossCheckLinkLost => Sys2Proof.Machine.execCrossCheckLinkLost s
  | .phaseOverrun => Sys2Proof.Machine.execPhaseOverrun s
  | .timebaseDeviation beyond => Sys2Proof.Machine.execTimebaseDeviation beyond s
  | .lockstepMismatch pair => Sys2Proof.Machine.execLockstepMismatch pair s
  | .partitionResume p verify dur => Sys2Proof.Machine.execPartitionResume p verify dur s
  | .ckpt p addr => Sys2Proof.Machine.execCkpt p addr s
  | .ckptDone p => Sys2Proof.Machine.execCkptDone p s
  | .piCommit p entries => Sys2Proof.Machine.execPiCommit p entries s
  | .appBusError => Sys2Proof.Machine.execAppBusError s
  | .piTimeout p => Sys2Proof.Machine.execPiTimeout p s
  | .cmdTail p door tail packets => Sys2Proof.Machine.execCmdTail p door tail packets s
  | .rspTail p tail => Sys2Proof.Machine.execRspTail p tail s
  | .irqStatus p w => Sys2Proof.Machine.execIrqStatus p w s
  | .clkPllLoss lost => Sys2Proof.Machine.execClkPllLoss lost s
  | .secondBoundary dT => Sys2Proof.Machine.execSecondBoundary dT s
  | .timeSolutionDelivery b d sigma sf sats => Sys2Proof.Machine.execTimeSolutionDelivery b d sigma sf sats s
  | .timeSolutionDeadline => Sys2Proof.Machine.execTimeSolutionDeadline s
  | .goffStepApply => Sys2Proof.Machine.execGoffStepApply s
  | .ppsPulse off => Sys2Proof.Machine.execPpsPulse off s
  | .pulseReport => Sys2Proof.Machine.execPulseReport s
  | .mtStore => Sys2Proof.Machine.execMtStore s
  | .standbyOscMeasure offset => Sys2Proof.Machine.execStandbyOscMeasure offset s
  | .leapSecond l => Sys2Proof.Machine.execLeapSecond l s
  | .calOffWrite who value => Sys2Proof.Machine.execCalOffWrite who value s
  | .gptpSyncSend p => Sys2Proof.Machine.execGptpSyncSend p s
  | .gptpMessageReceive p m => Sys2Proof.Machine.execGptpMessageReceive p m s
  | .inputEdge ch up both stamp => Sys2Proof.Machine.execInputEdge ch up both stamp s
  | .inputDiagFault ch high => Sys2Proof.Machine.execInputDiagFault ch high s
  | .currentInputProtect ch => Sys2Proof.Machine.execCurrentInputProtect ch s
  | .currentInputTrial ch => Sys2Proof.Machine.execCurrentInputTrial ch s
  | .settlingEnd ch => Sys2Proof.Machine.execSettlingEnd ch s
  | .supTrip k => Sys2Proof.Machine.execSupTrip k s
  | .supRetry k => Sys2Proof.Machine.execSupRetry k s
  | .supUndervolt k => Sys2Proof.Machine.execSupUndervolt k s
  | .supOvervolt k => Sys2Proof.Machine.execSupOvervolt k s
  | .supRetryReset k => Sys2Proof.Machine.execSupRetryReset k s
  | .supRestart who mask => Sys2Proof.Machine.execSupRestart who mask s
  | .supplyTestPulse k => Sys2Proof.Machine.execSupplyTestPulse k s
  | .shadowWindowEnd g own sp counts => Sys2Proof.Machine.execShadowWindowEnd g own sp counts s
  | .conversionFail ch => Sys2Proof.Machine.execConversionFail ch s
  | .spareConverterSwitch ch verify dur => Sys2Proof.Machine.execSpareConverterSwitch ch verify dur s
  | .spareConfirmTimeout ch => Sys2Proof.Machine.execSpareConfirmTimeout ch s
  | .lossSensorQuiet k => Sys2Proof.Machine.execLossSensorQuiet k s
  | .lossSensorNoisy k => Sys2Proof.Machine.execLossSensorNoisy k s
  | .lossSensorClear k noisy => Sys2Proof.Machine.execLossSensorClear k noisy s
  | .cropFlowTimeout => Sys2Proof.Machine.execCropFlowTimeout s
  | .moistTimeout => Sys2Proof.Machine.execMoistTimeout s
  | .zeroRequest who => Sys2Proof.Machine.execZeroRequest who s
  | .zeroDone => Sys2Proof.Machine.execZeroDone s
  | .recordClose => Sys2Proof.Machine.execRecordClose s
  | .bufferClear who => Sys2Proof.Machine.execBufferClear who s
  | .totalsReset who => Sys2Proof.Machine.execTotalsReset who s
  | .antFeedShort a => Sys2Proof.Machine.execAntFeedShort a s
  | .antFeedTrial a => Sys2Proof.Machine.execAntFeedTrial a s
  | .antFeedOpen a => Sys2Proof.Machine.execAntFeedOpen a s
  | .antFeedNormal a => Sys2Proof.Machine.execAntFeedNormal a s
  | .correlatorDump d => Sys2Proof.Machine.execCorrelatorDump d s
  | .aidingTimeout ch => Sys2Proof.Machine.execAidingTimeout ch s
  | .acquisitionDwellDone eng above hits => Sys2Proof.Machine.execAcquisitionDwellDone eng above hits s
  | .pullInTimeout ch => Sys2Proof.Machine.execPullInTimeout ch s
  | .carrierLoss ch => Sys2Proof.Machine.execCarrierLoss ch s
  | .carrierRestore ch => Sys2Proof.Machine.execCarrierRestore ch s
  | .codeLost ch => Sys2Proof.Machine.execCodeLost ch s
  | .coastRecover ch => Sys2Proof.Machine.execCoastRecover ch s
  | .coastTimeout ch => Sys2Proof.Machine.execCoastTimeout ch s
  | .reacqTimeout ch => Sys2Proof.Machine.execReacqTimeout ch s
  | .blankingWindow c share n => Sys2Proof.Machine.execBlankingWindow c share n s
  | .detectorEpoch c l => Sys2Proof.Machine.execDetectorEpoch c l s
  | .jammingMeasure c jn agc limit pll => Sys2Proof.Machine.execJammingMeasure c jn agc limit pll s
  | .gnssJamRaise c => Sys2Proof.Machine.execGnssJamRaise c s
  | .chainOutOfUse c => Sys2Proof.Machine.execChainOutOfUse c s
  | .multipeakCheck ch second => Sys2Proof.Machine.execMultipeakCheck ch second s
  | .falseSignalClear ch => Sys2Proof.Machine.execFalseSignalClear ch s
  | .measurementEpoch l aoa h => Sys2Proof.Machine.execMeasurementEpoch l aoa h s
  | .nmeaOutput bytes => Sys2Proof.Machine.execNmeaOutput bytes s
  | .correctionInput who off data => Sys2Proof.Machine.execCorrectionInput who off data s
  | .correctionEpochPass age usable carrier => Sys2Proof.Machine.execCorrectionEpochPass age usable carrier s
  | .gnssCorrTimeout => Sys2Proof.Machine.execGnssCorrTimeout s
  | .bankSwap el verify dur => Sys2Proof.Machine.execBankSwap el verify dur s
  | .receiverDataStore mask sats => Sys2Proof.Machine.execReceiverDataStore mask sats s
  | .receiverHotStart who directed known near => Sys2Proof.Machine.execReceiverHotStart who directed known near s
  | .receiverStartNoEph who directed known => Sys2Proof.Machine.execReceiverStartNoEph who directed known s
  | .receiverColdStart who => Sys2Proof.Machine.execReceiverColdStart who s
  | .aidingSetIssue sets => Sys2Proof.Machine.execAidingSetIssue sets s
  | .navSolutionIssue => Sys2Proof.Machine.execNavSolutionIssue s
  | .imuSample l => Sys2Proof.Machine.execImuSample l s
  | .imuExclude n => Sys2Proof.Machine.execImuExclude n s
  | .imuSwap n verify dur => Sys2Proof.Machine.execImuSwap n verify dur s
  | .inertialVoteLost => Sys2Proof.Machine.execInertialVoteLost s
  | .inertialRestore => Sys2Proof.Machine.execInertialRestore s
  | .imuReadmit n => Sys2Proof.Machine.execImuReadmit n s
  | .speedContradiction => Sys2Proof.Machine.execSpeedContradiction s
  | .speedSourceReadmit a => Sys2Proof.Machine.execSpeedSourceReadmit a s
  | .wheelNoEdge k => Sys2Proof.Machine.execWheelNoEdge k s
  | .zeroVelocityUpdate => Sys2Proof.Machine.execZeroVelocityUpdate s
  | .channelReadmit ch => Sys2Proof.Machine.execChannelReadmit ch s
  | .rtkCorrectionEpoch held ratio sats near => Sys2Proof.Machine.execRtkCorrectionEpoch held ratio sats near s
  | .navHeadingRaise => Sys2Proof.Machine.execNavHeadingRaise s
  | .lineBiasStore l1 l5 => Sys2Proof.Machine.execLineBiasStore l1 l5 s
  | .lineBiasReset who => Sys2Proof.Machine.execLineBiasReset who s
  | .alignLevel => Sys2Proof.Machine.execAlignLevel s
  | .alignHeading => Sys2Proof.Machine.execAlignHeading s
  | .repropagationDone => Sys2Proof.Machine.execRepropagationDone s
  | .lateEvaluation => Sys2Proof.Machine.execLateEvaluation s
  | .deadReckoningEntry => Sys2Proof.Machine.execDeadReckoningEntry s
  | .deadReckoningLimit => Sys2Proof.Machine.execDeadReckoningLimit s
  | .inertialOnlyLimit => Sys2Proof.Machine.execInertialOnlyLimit s
  | .externalSpeedSample who j mt => Sys2Proof.Machine.execExternalSpeedSample who j mt s
  | .slotCmdClose who n => Sys2Proof.Machine.execSlotCmdClose who n s
  | .slotCmdOpen who n => Sys2Proof.Machine.execSlotCmdOpen who n s
  | .slotCmdHold who n => Sys2Proof.Machine.execSlotCmdHold who n s
  | .bankSelect who n b => Sys2Proof.Machine.execBankSelect who n b s
  | .laneSelftestDone lane pass => Sys2Proof.Machine.execLaneSelftestDone lane pass s
  | .testStart who n => Sys2Proof.Machine.execTestStart who n s
  | .testStop who n => Sys2Proof.Machine.execTestStop who n s
  | .testComplete n => Sys2Proof.Machine.execTestComplete n s
  | .peakReset who n => Sys2Proof.Machine.execPeakReset who n s
  | .captureArm who k => Sys2Proof.Machine.execCaptureArm who k s
  | .captureStop who k => Sys2Proof.Machine.execCaptureStop who k s
  | .captureForce who k => Sys2Proof.Machine.execCaptureForce who k s
  | .captureRow k => Sys2Proof.Machine.execCaptureRow k s
  | .conductionEnd ch => Sys2Proof.Machine.execConductionEnd ch s
  | .inrushWindowClose ch => Sys2Proof.Machine.execInrushWindowClose ch s
  | .overcurrentTrip ch => Sys2Proof.Machine.execOvercurrentTrip ch s
  | .shortTrip ch collapse => Sys2Proof.Machine.execShortTrip ch collapse s
  | .lsOvercurrentTrip ch => Sys2Proof.Machine.execLsOvercurrentTrip ch s
  | .openLoadOn ch => Sys2Proof.Machine.execOpenLoadOn ch s
  | .offStateTest ch level => Sys2Proof.Machine.execOffStateTest ch level s
  | .thermalAbsTrip ch => Sys2Proof.Machine.execThermalAbsTrip ch s
  | .thermalDeltaTrip ch => Sys2Proof.Machine.execThermalDeltaTrip ch s
  | .thermalLatchClear ch => Sys2Proof.Machine.execThermalLatchClear ch s
  | .senseMissing g selfFail => Sys2Proof.Machine.execSenseMissing g selfFail s
  | .refDeviation ch => Sys2Proof.Machine.execRefDeviation ch s
  | .retry ch => Sys2Proof.Machine.execRetry ch s
  | .retryCounterReload ch => Sys2Proof.Machine.execRetryCounterReload ch s
  | .channelRestart who ch => Sys2Proof.Machine.execChannelRestart who ch s
  | .groupGuardOff g => Sys2Proof.Machine.execGroupGuardOff g s
  | .groupRestore g => Sys2Proof.Machine.execGroupRestore g s
  | .dissipationEstimate base clamp => Sys2Proof.Machine.execDissipationEstimate base clamp s
  | .cellSwap ch side failed verify dur => Sys2Proof.Machine.execCellSwap ch side failed verify dur s
  | .cellFaultTrip ch side short => Sys2Proof.Machine.execCellFaultTrip ch side short s
  | .permissionWithdraw ch => Sys2Proof.Machine.execPermissionWithdraw ch s
  | .permissionReturn ch => Sys2Proof.Machine.execPermissionReturn ch s
  | .switchLinkLoss g => Sys2Proof.Machine.execSwitchLinkLoss g s
  | .switchLinkRestore g => Sys2Proof.Machine.execSwitchLinkRestore g s
  | .railDisagreement => Sys2Proof.Machine.execRailDisagreement s
  | .foxgloveRegulatorFault dropout => Sys2Proof.Machine.execFoxgloveRegulatorFault dropout s
  | .safetyInputChange n high => Sys2Proof.Machine.execSafetyInputChange n high s
  | .inputPulseCheck n sup fail => Sys2Proof.Machine.execInputPulseCheck n sup fail s
  | .supplyPulseCheck sup fail => Sys2Proof.Machine.execSupplyPulseCheck sup fail s
  | .discrepancy p => Sys2Proof.Machine.execDiscrepancy p s
  | .stopDelayExpire f => Sys2Proof.Machine.execStopDelayExpire f s
  | .resetPress n ms => Sys2Proof.Machine.execResetPress n ms s
  | .resetStuck n => Sys2Proof.Machine.execResetStuck n s
  | .resetUnblock n => Sys2Proof.Machine.execResetUnblock n s
  | .darkPulse g ok counts => Sys2Proof.Machine.execDarkPulse g ok counts s
  | .demandRequestWrite who v => Sys2Proof.Machine.execDemandRequestWrite who v s
  | .safeSnsSample high counts => Sys2Proof.Machine.execSafeSnsSample high counts s
  | .sealRead reading => Sys2Proof.Machine.execSealRead reading s
  | .stagingOpen who => Sys2Proof.Machine.execStagingOpen who s
  | .stagingDiscard who => Sys2Proof.Machine.execStagingDiscard who s
  | .rwsEdit who k v => Sys2Proof.Machine.execRwsEdit who k v s
  | .sign who off data => Sys2Proof.Machine.execSign who off data s
  | .countersign who off data => Sys2Proof.Machine.execCountersign who off data s
  | .changeExpire => Sys2Proof.Machine.execChangeExpire s
  | .profileTransferDone crcOk => Sys2Proof.Machine.execProfileTransferDone crcOk s
  | .foxgloveSelftest pass => Sys2Proof.Machine.execFoxgloveSelftest pass s
  | .foxgloveProfileVerified crcOk => Sys2Proof.Machine.execFoxgloveProfileVerified crcOk s
  | .faultOccurrence src code => Sys2Proof.Machine.execFaultOccurrence src code s
  | .faultAutoClear src => Sys2Proof.Machine.execFaultAutoClear src s
  | .conseqModeEnd blk => Sys2Proof.Machine.execConseqModeEnd blk s
  | .stepDecay src => Sys2Proof.Machine.execStepDecay src s
  | .blockReset b => Sys2Proof.Machine.execBlockReset b s
  | .blockResetEnd b pass directed known near => Sys2Proof.Machine.execBlockResetEnd b pass directed known near s
  | .chipReset => Sys2Proof.Machine.execChipReset s
  | .chipResetEnd => Sys2Proof.Machine.execChipResetEnd s
  | .faultClearRequest who src => Sys2Proof.Machine.execFaultClearRequest who src s
  | .faultClearAll who => Sys2Proof.Machine.execFaultClearAll who s
  | .forceSet who src => Sys2Proof.Machine.execForceSet who src s
  | .forceClear who src => Sys2Proof.Machine.execForceClear who src s
  | .faultSnsSample high counts => Sys2Proof.Machine.execFaultSnsSample high counts s
  | .wearCrossing pool el gauge level v1 v2 => Sys2Proof.Machine.execWearCrossing pool el gauge level v1 v2 s
  | .spareSwap pool el verify dur => Sys2Proof.Machine.execSpareSwap pool el verify dur s
  | .sramBankCopy bank words verify dur => Sys2Proof.Machine.execSramBankCopy bank words verify dur s
  | .elementSelftestDone pool el pass => Sys2Proof.Machine.execElementSelftestDone pool el pass s
  | .spareTest pool el pass => Sys2Proof.Machine.execSpareTest pool el pass s
  | .sramScrub bank lastHour new sameWord => Sys2Proof.Machine.execSramScrub bank lastHour new sameWord s
  | .recordPost => Sys2Proof.Machine.execRecordPost s
  | .recordLost => Sys2Proof.Machine.execRecordLost s
  | .archiveCopy ok => Sys2Proof.Machine.execArchiveCopy ok s
  | .heldClearWrite => Sys2Proof.Machine.execHeldClearWrite s
  | .recBankFail bank verify => Sys2Proof.Machine.execRecBankFail bank verify s
  | .recDualFail => Sys2Proof.Machine.execRecDualFail s
  | .dualFailReset who => Sys2Proof.Machine.execDualFailReset who s
  | .recorderClear who => Sys2Proof.Machine.execRecorderClear who s
  | .applicationRecord who value => Sys2Proof.Machine.execApplicationRecord who value s
  | .counterStore => Sys2Proof.Machine.execCounterStore s
  | .packetReceive r bytes => Sys2Proof.Machine.execPacketReceive r bytes s
  | .requestDequeue f => Sys2Proof.Machine.execRequestDequeue f s
  | .read who idx sub off n => Sys2Proof.Machine.execRead who idx sub off n s
  | .write who idx sub off aux data f => Sys2Proof.Machine.execWrite who idx sub off aux data f s
  | .subscribe who r cls divider => Sys2Proof.Machine.execSubscribe who r cls divider s
  | .unsubscribe who r cls => Sys2Proof.Machine.execUnsubscribe who r cls s
  | .nop data => Sys2Proof.Machine.execNop data s
  | .outboundTransmit port => Sys2Proof.Machine.execOutboundTransmit port s
  | .tagQuarantineEnd sp epoch tag => Sys2Proof.Machine.execTagQuarantineEnd sp epoch tag s
  | .ucpSegmentReceive p node data => Sys2Proof.Machine.execUcpSegmentReceive p node data s
  | .ucpStreamTimeout p node stream => Sys2Proof.Machine.execUcpStreamTimeout p node stream s
  | .announce => Sys2Proof.Machine.execAnnounce s
  | .dupaddrClear => Sys2Proof.Machine.execDupaddrClear s
  | .ethFrameForward p f => Sys2Proof.Machine.execEthFrameForward p f s
  | .ethLinkDown p => Sys2Proof.Machine.execEthLinkDown p s
  | .ethLinkUp p quality => Sys2Proof.Machine.execEthLinkUp p quality s
  | .ringTestSend => Sys2Proof.Machine.execRingTestSend s
  | .ringFrameReceive p kind node => Sys2Proof.Machine.execRingFrameReceive p kind node s
  | .ringTestTimeout => Sys2Proof.Machine.execRingTestTimeout s
  | .fleetSend who => Sys2Proof.Machine.execFleetSend who s
  | .fleetDeliver who => Sys2Proof.Machine.execFleetDeliver who s
  | .mapApply who => Sys2Proof.Machine.execMapApply who s
  | .appTableApply who => Sys2Proof.Machine.execAppTableApply who s
  | .canFrameReceive p f err => Sys2Proof.Machine.execCanFrameReceive p f err s
  | .canProtocolException p => Sys2Proof.Machine.execCanProtocolException p s
  | .canRxTimeout p n => Sys2Proof.Machine.execCanRxTimeout p n s
  | .canTxDue => Sys2Proof.Machine.execCanTxDue s
  | .canFrameTransmit p err afterArb sof delay => Sys2Proof.Machine.execCanFrameTransmit p err afterArb sof delay s
  | .canBusOff p => Sys2Proof.Machine.execCanBusOff p s
  | .canRecoveryRequest who p => Sys2Proof.Machine.execCanRecoveryRequest who p s
  | .canRecoveryDone p => Sys2Proof.Machine.execCanRecoveryDone p s
  | .canTimingApply who p => Sys2Proof.Machine.execCanTimingApply who p s
  | .canJoinCheckEnd p => Sys2Proof.Machine.execCanJoinCheckEnd p s
  | .canTxdTimeout p => Sys2Proof.Machine.execCanTxdTimeout p s
  | .canTableApply who mask => Sys2Proof.Machine.execCanTableApply who mask s
  | .referenceMessageSend p => Sys2Proof.Machine.execReferenceMessageSend p s
  | .canTimeLost p => Sys2Proof.Machine.execCanTimeLost p s
  | .addressClaimSend p => Sys2Proof.Machine.execAddressClaimSend p s
  | .addressHeld p => Sys2Proof.Machine.execAddressHeld p s
  | .cannotClaimSend p => Sys2Proof.Machine.execCannotClaimSend p s
  | .transportSessionTimeout p tx bam peer => Sys2Proof.Machine.execTransportSessionTimeout p tx bam peer s
  | .isoSend who p => Sys2Proof.Machine.execIsoSend who p s
  | .isoSendDone p => Sys2Proof.Machine.execIsoSendDone p s
  | .canShadowCompare c differs hard => Sys2Proof.Machine.execCanShadowCompare c differs hard s
  | .canControllerSwap p verify dur transmitting => Sys2Proof.Machine.execCanControllerSwap p verify dur transmitting s
  | .canPortFailed p => Sys2Proof.Machine.execCanPortFailed p s
  | .hello r src data => Sys2Proof.Machine.execHello r src data s
  | .finish n data => Sys2Proof.Machine.execFinish n data s
  | .close n => Sys2Proof.Machine.execClose n s
  | .attest nonce => Sys2Proof.Machine.execAttest nonce s
  | .handshakeTimeout n => Sys2Proof.Machine.execHandshakeTimeout n s
  | .sessionIdleTimeout n => Sys2Proof.Machine.execSessionIdleTimeout n s
  | .sessionLifetimeEnd n => Sys2Proof.Machine.execSessionLifetimeEnd n s
  | .credentialExpiryCheck => Sys2Proof.Machine.execCredentialExpiryCheck s
  | .endSession who n => Sys2Proof.Machine.execEndSession who n s
  | .lockoutEnd r => Sys2Proof.Machine.execLockoutEnd r s
  | .revocationApply who => Sys2Proof.Machine.execRevocationApply who s
  | .anchorApply who => Sys2Proof.Machine.execAnchorApply who s
  | .memberListApply who => Sys2Proof.Machine.execMemberListApply who s
  | .signedCommandExecute who f => Sys2Proof.Machine.execSignedCommandExecute who f s
  | .challengeRenew => Sys2Proof.Machine.execChallengeRenew s
  | .debugOpen who data => Sys2Proof.Machine.execDebugOpen who data s
  | .debugClose who => Sys2Proof.Machine.execDebugClose who s
  | .debugTimeout => Sys2Proof.Machine.execDebugTimeout s
  | .debugLock who value => Sys2Proof.Machine.execDebugLock who value s
  | .configCommit who => Sys2Proof.Machine.execConfigCommit who s
  | .configReturn who v => Sys2Proof.Machine.execConfigReturn who v s
  | .configImport who f => Sys2Proof.Machine.execConfigImport who f s
  | .imageBlock who off data => Sys2Proof.Machine.execImageBlock who off data s
  | .imageVerify who built => Sys2Proof.Machine.execImageVerify who built s
  | .armA who => Sys2Proof.Machine.execArmA who s
  | .armN who => Sys2Proof.Machine.execArmN who s
  | .activateNow who => Sys2Proof.Machine.execActivateNow who s
  | .disarmReject who => Sys2Proof.Machine.execDisarmReject who s
  | .updateDiscard who => Sys2Proof.Machine.execUpdateDiscard who s
  | .updateConfirm who => Sys2Proof.Machine.execUpdateConfirm who s
  | .trialHealthy => Sys2Proof.Machine.execTrialHealthy s
  | .classNActivate => Sys2Proof.Machine.execClassNActivate s
  | .start rtc root slots pass0 pass1 bad fails directed known near => Sys2Proof.Machine.execStart rtc root slots pass0 pass1 bad fails directed known near s
  | .startComplete => Sys2Proof.Machine.execStartComplete s
  | .standbyRequest who => Sys2Proof.Machine.execStandbyRequest who s
  | .configureRequest who => Sys2Proof.Machine.execConfigureRequest who s
  | .runRequest who => Sys2Proof.Machine.execRunRequest who s
  | .limpRequest who => Sys2Proof.Machine.execLimpRequest who s
  | .safeHoldRequest who => Sys2Proof.Machine.execSafeHoldRequest who s
  | .serviceRequest who => Sys2Proof.Machine.execServiceRequest who s
  | .restartRequest who => Sys2Proof.Machine.execRestartRequest who s
  | .autoStateChange => Sys2Proof.Machine.execAutoStateChange s
  | .holdupSave trig vlBack => Sys2Proof.Machine.execHoldupSave trig vlBack s
  | .afterRunExpire => Sys2Proof.Machine.execAfterRunExpire s
  | .wake src => Sys2Proof.Machine.execWake src s
  | .vlRise mv => Sys2Proof.Machine.execVlRise mv s
  | .vlPrechargeTimeout => Sys2Proof.Machine.execVlPrechargeTimeout s
  | .holdupStoreReady mv => Sys2Proof.Machine.execHoldupStoreReady mv s
  | .vbakMeasure vbak vl ma => Sys2Proof.Machine.execVbakMeasure vbak vl ma s
  | .vbPrecharge g mv => Sys2Proof.Machine.execVbPrecharge g mv s
  | .vlLow code mv => Sys2Proof.Machine.execVlLow code mv s
  | .presentMake => Sys2Proof.Machine.execPresentMake s
  | .presentBreak closed => Sys2Proof.Machine.execPresentBreak closed s
  | .addressRead pins agree => Sys2Proof.Machine.execAddressRead pins agree s
  | .addressChange pins => Sys2Proof.Machine.execAddressChange pins s
  | .wakeInLevel high => Sys2Proof.Machine.execWakeInLevel high s
  | .statusPinOvercurrent pin over_ => Sys2Proof.Machine.execStatusPinOvercurrent pin over_ s
  | .foxgloveRegulatorRecover => Sys2Proof.Machine.execFoxgloveRegulatorRecover s
  | .vbakSupplyMonitorTrip => Sys2Proof.Machine.execVbakSupplyMonitorTrip s
  | .randomSourceHealthFail => Sys2Proof.Machine.execRandomSourceHealthFail s
  | .dieTempExceed hot => Sys2Proof.Machine.execDieTempExceed hot s
  | .hollyhockRailMismatch disagree => Sys2Proof.Machine.execHollyhockRailMismatch disagree s
  | .lupinRailMismatch => Sys2Proof.Machine.execLupinRailMismatch s
  | .sramUncorrectableError bank word => Sys2Proof.Machine.execSramUncorrectableError bank word s
  | .supplyMonitorFault faulty => Sys2Proof.Machine.execSupplyMonitorFault faulty s
  | .activationTimeMissed => Sys2Proof.Machine.execActivationTimeMissed s
  | .vlPrechargeRetry => Sys2Proof.Machine.execVlPrechargeRetry s
  | .icmpv6MessageReceive p typ src target data => Sys2Proof.Machine.execIcmpv6MessageReceive p typ src target data s
  | .ringManagerTimeout => Sys2Proof.Machine.execRingManagerTimeout s
  | .openLoadClear ch => Sys2Proof.Machine.execOpenLoadClear ch s
  | .refDevClear ch => Sys2Proof.Machine.execRefDevClear ch s
  | .chainBackInUse c => Sys2Proof.Machine.execChainBackInUse c s
  | .headingFixTimeout => Sys2Proof.Machine.execHeadingFixTimeout s
  | .ambiguityDiscard => Sys2Proof.Machine.execAmbiguityDiscard s
  | .canShadowRotate c => Sys2Proof.Machine.execCanShadowRotate c s

end Sys2Proof.Machine
end

