-- ==== Sys2Proof/Safety.lean ====
section
/-! DEFINITION. What counts as a good state of the block, when a request is carried out, and what each command may
change, in the terms that the statements use. -/

namespace Sys2Proof.Machine

open Sys2Proof

/-- The object store and its snapshots are in canonical form: keys strictly rising, and nothing listed that an unlisted
key reads as, so that equal stores are equal data. -/
def State.tablesOk (s : State) : Bool :=
  Tbl.wf Dict.dflt s.objs && Tbl.wf (fun _ => []) s.blobs && Tbl.wf Dict.dflt s.objs0 && Tbl.wf Dict.dflt s.objsB

/-- Steps 1 to 8 of R319 let the write pass: there is a session with a role that may write the object, the value is in
range and consistent, and the device state and the object's further conditions permit it. -/
def State.accepts (s : State) (w : Who) (i sub : Nat) (v : Val) (h : Handler) : Bool :=
  decide (s.dev ≠ dsSTANDBY) && decide (s.checkWrite w i sub v h = stOK) &&
    bit (match s.descOf i sub with | some d => s.statesOf i sub d | none => 0) s.dev && h.cond s

/-! ### What a command may change -/

/-- What may change: the sub-states that are named, the snapshots of tick 0, and the objects with the keys of `idx`. -/
structure Foot where
  apps : Bool := false
  tm : Bool := false
  parts : Bool := false
  img : Bool := false
  inp : Bool := false
  rx : Bool := false
  nav : Bool := false
  crop : Bool := false
  lark : Bool := false
  outs : Bool := false
  fox : Bool := false
  can : Bool := false
  flt : Bool := false
  rcd : Bool := false
  nv : Bool := false
  sp : Bool := false
  ucp : Bool := false
  sec : Bool := false
  eth : Bool := false
  conf : Bool := false
  upd : Bool := false
  pwr : Bool := false
  timers : Bool := false
  free : Bool := false
  pending : Bool := false
  snap : Bool := false
  idx : Nat → Bool := fun _ => false

/-- Everything may change but the queue of commands. -/
def Foot.full : Foot where
  apps := true
  tm := true
  parts := true
  img := true
  inp := true
  rx := true
  nav := true
  crop := true
  lark := true
  outs := true
  fox := true
  can := true
  flt := true
  rcd := true
  nv := true
  sp := true
  ucp := true
  sec := true
  eth := true
  conf := true
  upd := true
  pwr := true
  timers := true
  free := true
  snap := true
  idx := fun _ => true

/-- From m to t nothing has changed outside F, and the tables have kept their form. -/
structure Kept (F : Foot) (m t : State) : Prop where
  tables : m.tablesOk = true → t.tablesOk = true
  objs0 : F.snap = true ∨ t.objs0 = m.objs0
  objsB : F.snap = true ∨ t.objsB = m.objsB
  get : ∀ k, F.idx k = true ∨ t.get k = m.get k
  getB : ∀ k, F.idx k = true ∨ t.getB k = m.getB k
  apps : F.apps = true ∨ t.apps = m.apps
  tm : F.tm = true ∨ t.tm = m.tm
  parts : F.parts = true ∨ t.parts = m.parts
  img : F.img = true ∨ t.img = m.img
  inp : F.inp = true ∨ t.inp = m.inp
  rx : F.rx = true ∨ t.rx = m.rx
  nav : F.nav = true ∨ t.nav = m.nav
  crop : F.crop = true ∨ t.crop = m.crop
  lark : F.lark = true ∨ t.lark = m.lark
  outs : F.outs = true ∨ t.outs = m.outs
  fox : F.fox = true ∨ t.fox = m.fox
  can : F.can = true ∨ t.can = m.can
  flt : F.flt = true ∨ t.flt = m.flt
  rcd : F.rcd = true ∨ t.rcd = m.rcd
  nv : F.nv = true ∨ t.nv = m.nv
  sp : F.sp = true ∨ t.sp = m.sp
  ucp : F.ucp = true ∨ t.ucp = m.ucp
  sec : F.sec = true ∨ t.sec = m.sec
  eth : F.eth = true ∨ t.eth = m.eth
  conf : F.conf = true ∨ t.conf = m.conf
  upd : F.upd = true ∨ t.upd = m.upd
  pwr : F.pwr = true ∨ t.pwr = m.pwr
  timers : F.timers = true ∨ t.timers = m.timers
  free : F.free = true ∨ t.free = m.free
  pending : F.pending = true ∨ t.pending = m.pending

/-- The keys of the objects whose index begins with one of the bytes `gs`, of the single objects `ks`, and of the objects
(first index, last index, subindex) of `fs`. -/
def objects (gs : List Nat) (ks : List Nat) (fs : List (Nat × Nat × Nat)) (k : Nat) : Bool :=
  gs.contains (k / 65536) || ks.contains k || fs.any (fun f => within f.1 f.2.1 (k / 256) && decide (k % 256 = f.2.2))

/-- What a fault that is found may change besides: the collector with its objects, a record and an event that wait, and the
counts of those that were lost (R269 to R282, R302, R347). -/
def Foot.faults (F : Foot) : Foot :=
  { F with flt := true, rcd := true, ucp := true
           idx := fun k => F.idx k || objects [0x28] [recLostCount, ob 0x2E00 0x0A] [] k }

/-- The objects that a fault may change: the collector's, and the counts of lost records and events. -/
def faultKey (k : Nat) : Bool := objects [0x28] [recLostCount, ob 0x2E00 0x0A] [] k

end Sys2Proof.Machine

namespace Sys2Proof

open Machine

/-- What a command may change. A request may also note the object it writes, count a change of the working configuration,
count a refusal under R9, and leave its answer. -/
def Instr.foot : Instr → Foot
  | .sealFrame =>
    { apps := true, can := true, conf := true, crop := true, eth := true, flt := true, fox := true, free := true, img :=
        true, inp := true, lark := true, nav := true, outs := true, parts := true, pwr := true, rcd := true, rx := true, sec
        := true, snap := true, timers := true, tm := true, ucp := true, upd := true, idx := fun _ => true }
  | .take =>
    { apps := true, can := true, conf := true, crop := true, flt := true, fox := true, free := true, img := true, inp :=
        true, lark := true, nav := true, outs := true, parts := true, pwr := true, rcd := true, rx := true, sec := true,
        snap := true, timers := true, ucp := true, upd := true, idx := fun _ => true }
  | .scale _ _ _ =>
    ({ inp := true, outs := true, idx := objects [0x21, 0x26] [] [] } : Foot).faults
  | .crop =>
    ({ crop := true, free := true, idx := objects [0x22] [] [] } : Foot).faults
  | .fuseStep _ _ _ _ =>
    ({ img := true, nav := true, rx := true, idx := objects [0x24] [rk 0x25, rk 0x5, rk 0x6, rk 0x7] [] } : Foot).faults
  | .control _ =>
    ({ lark := true, snap := true, sp := true, timers := true, idx := objects [0x25, 0x29] [ob 0x1200 0x4, ob 0x1200
        0x5, ob 0x1200 0x6, ob 0x1200 0x7, ob 0x1200 0x8, ob 0x1300 0x7, ob 0x1300 0x8] [] } : Foot).faults
  | .load _ =>
    ({ free := true, img := true, lark := true, outs := true, idx := objects [] [] [(0x2600, 0x263F, 0x1D), (0x2600,
        0x263F, 0x1E), (0x2600, 0x263F, 0x1F), (0x2600, 0x263F, 0x24)] } : Foot).faults
  | .assemble =>
    { can := true, img := true }
  | .publish =>
    { img := true, parts := true }
  | .exchange _ _ =>
    ({ fox := true, inp := true, idx := objects [0x27] [] [] } : Foot).faults
  | .crossCheckLinkLost | .timebaseDeviation _ | .railDisagreement | .foxgloveRegulatorFault _ | .safetyInputChange _ _
    | .inputPulseCheck _ _ _ | .discrepancy _ | .stopDelayExpire _ | .resetStuck _ | .resetUnblock _ | .sealRead _ |
    .foxgloveSelftest _ | .foxgloveProfileVerified _ =>
    ({ fox := true, idx := objects [0x27] [] [] } : Foot).faults
  | .phaseOverrun =>
    ({ img := true, lark := true, idx := objects [] [ob 0x1400 0x4] [] } : Foot).faults
  | .lockstepMismatch _ =>
    ({ parts := true, sp := true } : Foot).faults
  | .partitionResume _ _ _ =>
    ({ lark := true, parts := true, sp := true, timers := true, idx := objects [0x14, 0x29] [] [] } : Foot).faults
  | .ckpt _ _ | .irqStatus _ _ =>
    { parts := true }
  | .ckptDone _ =>
    { parts := true, sp := true }
  | .piCommit _ _ =>
    ({ img := true, parts := true, idx := objects [] [ob 0x1400 0x5] [] } : Foot).faults
  | .appBusError =>
    { idx := objects [] [ob 0x1400 0x5] [] }
  | .piTimeout _ =>
    ({ parts := true, idx := objects [] [ob 0x1400 0x2] [] } : Foot).faults
  | .cmdTail _ _ _ _ =>
    ({ eth := true, parts := true, sec := true, idx := objects [] [uc 0x5, uc 0x6, uc 0x7, uc 0x8, uc 0x9, uc 0xF] [] }
        : Foot).faults
  | .rspTail _ _ | .outboundTransmit _ =>
    ({ can := true, lark := true, parts := true, sec := true, idx := objects [] [ob 0x1100 0x1, ob 0x2E00 0xE] [] } :
        Foot).faults
  | .clkPllLoss _ | .cropFlowTimeout | .gnssJamRaise _ | .gnssCorrTimeout | .navHeadingRaise | .faultOccurrence _ _ |
    .faultAutoClear _ | .conseqModeEnd _ | .faultSnsSample _ _ | .dieTempExceed _ | .hollyhockRailMismatch _ |
    .lupinRailMismatch | .supplyMonitorFault _ | .activationTimeMissed =>
    ({} : Foot).faults
  | .secondBoundary _ =>
    ({ tm := true, idx := objects [] [tk 0x3, tk 0x4, tk 0x5, tk 0x8, tk 0x9] [] } : Foot).faults
  | .timeSolutionDelivery _ _ _ _ _ =>
    ({ rx := true, tm := true, idx := objects [] [rk 0x25, rk 0x5, rk 0x6, rk 0x7, tk 0x4, tk 0x9] [] } : Foot).faults
  | .timeSolutionDeadline =>
    { tm := true }
  | .goffStepApply | .ppsPulse _ =>
    ({ eth := true, tm := true, idx := objects [] [tk 0x12, tk 0x13, tk 0x4] [] } : Foot).faults
  | .pulseReport =>
    ({ tm := true, idx := objects [] [tk 0x18, tk 0x19] [] } : Foot).faults
  | .mtStore | .counterStore =>
    { nv := true }
  | .standbyOscMeasure _ =>
    { idx := objects [] [tk 0x1A] [] }
  | .leapSecond _ =>
    ({ tm := true, idx := objects [] [tk 0x5, tk 0x7] [] } : Foot).faults
  | .calOffWrite _ _ =>
    ({ img := true, idx := objects [] [ob 0x1200 0x4, ob 0x1200 0x5, ob 0x1200 0x6, ob 0x1200 0x7, ob 0x1200 0x8, ob
        0x3000 0x4, tk 0x5] [] } : Foot).faults
  | .gptpSyncSend _ =>
    { eth := true, timers := true, idx := objects [0x2E] [] [] }
  | .gptpMessageReceive _ _ =>
    { eth := true, tm := true, idx := objects [0x2E] [] [] }
  | .inputEdge _ _ _ _ =>
    { inp := true, idx := objects [] [] [(0x2100, 0x213F, 0x1B)] }
  | .inputDiagFault _ _ =>
    ({ inp := true, idx := objects [] [] [(0x2100, 0x213F, 0x17), (0x2100, 0x213F, 0x1C)] } : Foot).faults
  | .currentInputProtect _ =>
    { inp := true, timers := true, idx := objects [] [] [(0x2100, 0x213F, 0x17)] }
  | .currentInputTrial _ | .supRetryReset _ =>
    { inp := true, timers := true }
  | .settlingEnd _ =>
    { inp := true }
  | .supTrip _ | .supOvervolt _ =>
    ({ timers := true, idx := objects [0x21] [] [] } : Foot).faults
  | .supRetry _ =>
    ({ inp := true, timers := true, idx := objects [0x21] [] [] } : Foot).faults
  | .supUndervolt _ =>
    { idx := objects [0x21] [] [] }
  | .supRestart _ _ =>
    ({ img := true, inp := true, idx := objects [0x21] [ob 0x1200 0x4, ob 0x1200 0x5, ob 0x1200 0x6, ob 0x1200 0x7, ob
        0x1200 0x8, ob 0x3000 0x4] [] } : Foot).faults
  | .supplyTestPulse _ =>
    { inp := true, idx := objects [0x21] [] [] }
  | .shadowWindowEnd _ _ _ _ | .conversionFail _ =>
    ({ inp := true, sp := true, timers := true } : Foot).faults
  | .spareConverterSwitch _ _ _ =>
    ({ sp := true, timers := true, idx := objects [0x29] [] [(0x2100, 0x213F, 0x17), (0x2100, 0x213F, 0x19)] } :
        Foot).faults
  | .spareConfirmTimeout _ =>
    { sp := true, timers := true, idx := objects [] [] [(0x2100, 0x213F, 0x17), (0x2100, 0x213F, 0x19)] }
  | .lossSensorQuiet _ | .lossSensorNoisy _ | .lossSensorClear _ _ =>
    ({ idx := objects [0x22] [] [] } : Foot).faults
  | .moistTimeout =>
    ({ idx := objects [] [hk 0x2B] [] } : Foot).faults
  | .zeroRequest _ =>
    { crop := true, img := true, ucp := true, idx := objects [] [hk 0x2B, hk 0xB, ob 0x1200 0x4, ob 0x1200 0x5, ob
        0x1200 0x6, ob 0x1200 0x7, ob 0x1200 0x8, ob 0x3000 0x4] [] }
  | .zeroDone =>
    { idx := objects [] [hk 0x2B, hk 0x9, hk 0xB] [] }
  | .recordClose =>
    ({ crop := true, free := true, idx := objects [] [hk 0x23, hk 0x24, hk 0x26, hk 0x27, hk 0x28, hk 0x2B, hk 0x2C] []
        } : Foot).faults
  | .bufferClear _ =>
    ({ img := true, idx := objects [] [hk 0x2B, hk 0x2C, ob 0x1200 0x4, ob 0x1200 0x5, ob 0x1200 0x6, ob 0x1200 0x7, ob
        0x1200 0x8, ob 0x3000 0x4] [] } : Foot).faults
  | .totalsReset _ =>
    { crop := true, img := true, ucp := true, idx := objects [] [hk 0x26, hk 0x27, hk 0x28, ob 0x1200 0x4, ob 0x1200
        0x5, ob 0x1200 0x6, ob 0x1200 0x7, ob 0x1200 0x8, ob 0x3000 0x4] [] }
  | .antFeedShort _ =>
    ({ rx := true, timers := true, idx := objects [] [rk 0x1A] [] } : Foot).faults
  | .antFeedTrial _ =>
    { rx := true, timers := true }
  | .antFeedOpen _ | .antFeedNormal _ =>
    ({ idx := objects [] [rk 0x1A] [] } : Foot).faults
  | .correlatorDump _ =>
    ({ rx := true, sp := true, idx := objects [] [rk 0x25, rk 0x32, rk 0x35, rk 0x5, rk 0x6, rk 0x7] [] } : Foot).faults
  | .aidingTimeout _ =>
    ({ rx := true, idx := objects [] [rk 0x35, rk 0x5, rk 0x6, rk 0x7] [] } : Foot).faults
  | .acquisitionDwellDone _ _ _ | .pullInTimeout _ | .carrierLoss _ | .carrierRestore _ | .codeLost _ | .coastRecover _
    | .coastTimeout _ | .reacqTimeout _ | .channelReadmit _ =>
    { rx := true, idx := objects [] [rk 0x5, rk 0x6, rk 0x7] [] }
  | .blankingWindow _ _ _ | .detectorEpoch _ _ =>
    { rx := true, idx := objects [0x23] [] [] }
  | .jammingMeasure _ _ _ _ _ | .chainOutOfUse _ | .chainBackInUse _ =>
    ({ rx := true, idx := objects [0x23] [] [] } : Foot).faults
  | .multipeakCheck _ _ | .falseSignalClear _ =>
    ({ rx := true, idx := objects [] [rk 0x25, rk 0x5, rk 0x6, rk 0x7] [] } : Foot).faults
  | .measurementEpoch _ _ _ =>
    ({ nav := true, rx := true, idx := objects [] [nk 0x1E, rk 0x25, rk 0x2D, rk 0x5, rk 0x6, rk 0x7] [] } :
        Foot).faults
  | .nmeaOutput _ =>
    ({ rx := true } : Foot).faults
  | .correctionInput _ _ _ =>
    { img := true, rx := true, ucp := true, idx := objects [] [ob 0x1200 0x4, ob 0x1200 0x5, ob 0x1200 0x6, ob 0x1200
        0x7, ob 0x1200 0x8, ob 0x3000 0x4, rk 0x28, rk 0x29, rk 0x2A, rk 0x2B, rk 0x37] [] }
  | .correctionEpochPass _ _ _ =>
    ({ nav := true, rx := true } : Foot).faults
  | .bankSwap _ _ _ =>
    ({ rx := true, sp := true, timers := true, idx := objects [0x29] [rk 0x33, rk 0x5, rk 0x6, rk 0x7] [] } :
        Foot).faults
  | .receiverDataStore _ _ =>
    { rx := true, idx := objects [] [rk 0x36] [] }
  | .receiverHotStart _ _ _ _ | .receiverStartNoEph _ _ _ | .receiverColdStart _ =>
    { img := true, rx := true, ucp := true, idx := objects [0x23] [ob 0x1200 0x4, ob 0x1200 0x5, ob 0x1200 0x6, ob
        0x1200 0x7, ob 0x1200 0x8, ob 0x3000 0x4] [] }
  | .aidingSetIssue _ =>
    ({ rx := true, idx := objects [] [rk 0x5, rk 0x6, rk 0x7] [] } : Foot).faults
  | .navSolutionIssue =>
    { nav := true, idx := objects [] [nk 0x20, nk 0x22, nk 0x27] [] }
  | .imuSample _ =>
    { nav := true, idx := objects [0x24] [] [] }
  | .imuExclude _ =>
    ({ nav := true, sp := true, idx := objects [0x24, 0x29] [] [] } : Foot).faults
  | .imuSwap _ _ _ =>
    ({ sp := true, timers := true, idx := objects [0x24, 0x29] [] [] } : Foot).faults
  | .inertialVoteLost | .inertialRestore =>
    ({ nav := true } : Foot).faults
  | .imuReadmit _ =>
    ({ sp := true, idx := objects [0x24, 0x29] [] [] } : Foot).faults
  | .speedContradiction | .speedSourceReadmit _ | .wheelNoEdge _ | .lateEvaluation =>
    ({ nav := true, idx := objects [0x24] [] [] } : Foot).faults
  | .zeroVelocityUpdate | .headingFixTimeout =>
    { nav := true }
  | .rtkCorrectionEpoch _ _ _ _ =>
    { nav := true, idx := objects [] [nk 0x20, nk 0x25] [] }
  | .lineBiasStore _ _ =>
    { idx := objects [] [nk 0x1C, nk 0x1D, nk 0x1E] [] }
  | .lineBiasReset _ =>
    { img := true, nav := true, ucp := true, idx := objects [] [nk 0x1C, nk 0x1D, nk 0x1E, ob 0x1200 0x4, ob 0x1200 0x5,
        ob 0x1200 0x6, ob 0x1200 0x7, ob 0x1200 0x8, ob 0x3000 0x4] [] }
  | .alignLevel =>
    { idx := objects [] [nk 0x28] [] }
  | .alignHeading =>
    { idx := objects [] [nk 0x20, nk 0x28] [] }
  | .repropagationDone =>
    { nav := true, idx := objects [] [nk 0x23] [] }
  | .deadReckoningEntry | .ambiguityDiscard =>
    { nav := true, idx := objects [] [nk 0x20] [] }
  | .deadReckoningLimit =>
    ({ nav := true, idx := objects [] [nk 0x20] [] } : Foot).faults
  | .inertialOnlyLimit =>
    { nav := true, idx := objects [] [nk 0x21] [] }
  | .externalSpeedSample _ _ _ =>
    { img := true, nav := true, ucp := true, idx := objects [0x24] [ob 0x1200 0x4, ob 0x1200 0x5, ob 0x1200 0x6, ob
        0x1200 0x7, ob 0x1200 0x8, ob 0x3000 0x4] [] }
  | .slotCmdClose _ _ | .slotCmdOpen _ _ | .slotCmdHold _ _ =>
    { img := true, lark := true, ucp := true, idx := objects [] [ob 0x1200 0x4, ob 0x1200 0x5, ob 0x1200 0x6, ob 0x1200
        0x7, ob 0x1200 0x8, ob 0x3000 0x4] [(0x2500, 0x255F, 0x1F)] }
  | .bankSelect _ _ _ =>
    { img := true, lark := true, ucp := true, idx := objects [] [ob 0x1200 0x4, ob 0x1200 0x5, ob 0x1200 0x6, ob 0x1200
        0x7, ob 0x1200 0x8, ob 0x3000 0x4] [(0x2500, 0x255F, 0x19)] }
  | .laneSelftestDone _ _ =>
    ({ sp := true, timers := true, idx := objects [0x29] [ob 0x2560 0x2] [] } : Foot).faults
  | .testStart _ _ | .testStop _ _ =>
    { img := true, lark := true, ucp := true, idx := objects [] [ob 0x1200 0x4, ob 0x1200 0x5, ob 0x1200 0x6, ob 0x1200
        0x7, ob 0x1200 0x8, ob 0x3000 0x4] [] }
  | .testComplete _ =>
    { lark := true, idx := objects [] [] [(0x2500, 0x255F, 0x8A), (0x2500, 0x255F, 0x8B), (0x2500, 0x255F, 0x8C)] }
  | .peakReset _ _ =>
    { img := true, ucp := true, idx := objects [] [ob 0x1200 0x4, ob 0x1200 0x5, ob 0x1200 0x6, ob 0x1200 0x7, ob 0x1200
        0x8, ob 0x3000 0x4] [(0x2500, 0x255F, 0x76)] }
  | .captureArm _ _ | .captureStop _ _ | .captureForce _ _ =>
    { img := true, lark := true, ucp := true, idx := objects [] [ob 0x1200 0x4, ob 0x1200 0x5, ob 0x1200 0x6, ob 0x1200
        0x7, ob 0x1200 0x8, ob 0x3000 0x4] [(0x2561, 0x2564, 0x9), (0x2561, 0x2564, 0xA), (0x2561, 0x2564, 0xB)] }
  | .captureRow _ =>
    { lark := true, idx := objects [] [] [(0x2561, 0x2564, 0x9), (0x2561, 0x2564, 0xA)] }
  | .conductionEnd _ | .inrushWindowClose _ =>
    { outs := true }
  | .overcurrentTrip _ | .shortTrip _ _ | .lsOvercurrentTrip _ | .thermalAbsTrip _ | .thermalDeltaTrip _ =>
    ({ outs := true, idx := objects [] [] [(0x2600, 0x263F, 0x1F), (0x2600, 0x263F, 0x21)] } : Foot).faults
  | .openLoadOn _ =>
    ({ outs := true, idx := objects [] [] [(0x2600, 0x263F, 0x28)] } : Foot).faults
  | .offStateTest _ _ | .thermalLatchClear _ | .permissionWithdraw _ | .permissionReturn _ =>
    ({ outs := true, idx := objects [] [] [(0x2600, 0x263F, 0x1F)] } : Foot).faults
  | .senseMissing _ _ =>
    ({ outs := true, idx := objects [] [] [(0x2640, 0x2647, 0x3), (0x2640, 0x2647, 0x5)] } : Foot).faults
  | .refDeviation _ | .openLoadClear _ | .refDevClear _ =>
    ({ outs := true } : Foot).faults
  | .retry _ =>
    ({ outs := true, idx := objects [] [] [(0x2600, 0x263F, 0x1F), (0x2600, 0x263F, 0x20)] } : Foot).faults
  | .retryCounterReload _ =>
    { outs := true, idx := objects [] [] [(0x2600, 0x263F, 0x20)] }
  | .channelRestart _ _ =>
    ({ img := true, outs := true, idx := objects [] [ob 0x1200 0x4, ob 0x1200 0x5, ob 0x1200 0x6, ob 0x1200 0x7, ob
        0x1200 0x8, ob 0x3000 0x4] [(0x2600, 0x263F, 0x1F), (0x2600, 0x263F, 0x20)] } : Foot).faults
  | .groupGuardOff _ =>
    ({ outs := true, idx := objects [] [] [(0x2640, 0x2647, 0x3), (0x2640, 0x2647, 0x4)] } : Foot).faults
  | .groupRestore _ | .switchLinkRestore _ =>
    ({ outs := true, idx := objects [] [] [(0x2600, 0x263F, 0x1F), (0x2640, 0x2647, 0x3)] } : Foot).faults
  | .dissipationEstimate _ _ =>
    ({ outs := true, idx := objects [] [ob 0x2648 0x1, ob 0x2648 0x2, ob 0x2648 0x3, ob 0x2648 0x4] [(0x2640, 0x2647,
        0x3)] } : Foot).faults
  | .cellSwap _ _ _ _ _ =>
    ({ sp := true, timers := true, idx := objects [0x29] [] [(0x2600, 0x263F, 0x27)] } : Foot).faults
  | .cellFaultTrip _ _ _ =>
    ({ outs := true, sp := true, timers := true, idx := objects [0x29] [ob 0x2700 0x1E] [(0x2600, 0x263F, 0x1F),
        (0x2600, 0x263F, 0x21), (0x2600, 0x263F, 0x27)] } : Foot).faults
  | .switchLinkLoss _ =>
    ({ outs := true, idx := objects [] [] [(0x2600, 0x263F, 0x1F), (0x2640, 0x2647, 0x3), (0x2640, 0x2647, 0x7)] } :
        Foot).faults
  | .supplyPulseCheck _ _ | .resetPress _ _ | .foxgloveRegulatorRecover =>
    ({ fox := true, idx := objects [0x21, 0x27] [] [] } : Foot).faults
  | .darkPulse _ _ _ =>
    ({ fox := true, outs := true, idx := objects [0x27] [] [] } : Foot).faults
  | .demandRequestWrite _ _ =>
    { img := true, ucp := true, idx := objects [] [fx 0xF, ob 0x1200 0x4, ob 0x1200 0x5, ob 0x1200 0x6, ob 0x1200 0x7,
        ob 0x1200 0x8, ob 0x3000 0x4] [] }
  | .safeSnsSample _ _ =>
    ({ fox := true, idx := objects [] [fx 0x7] [] } : Foot).faults
  | .stagingOpen _ | .stagingDiscard _ =>
    ({ conf := true, fox := true, img := true, idx := objects [0x27] [ob 0x1200 0x4, ob 0x1200 0x5, ob 0x1200 0x6, ob
        0x1200 0x7, ob 0x1200 0x8, ob 0x3000 0x4, ob 0x3000 0x8] [] } : Foot).faults
  | .rwsEdit _ _ _ =>
    ({ fox := true, img := true, idx := objects [] [ob 0x1200 0x4, ob 0x1200 0x5, ob 0x1200 0x6, ob 0x1200 0x7, ob
        0x1200 0x8, ob 0x3000 0x4] [] } : Foot).faults
  | .sign _ _ _ =>
    ({ fox := true, img := true, idx := objects [] [fx 0x10, fx 0x12, fx 0x17, ob 0x1100 0x6, ob 0x1200 0x4, ob 0x1200
        0x5, ob 0x1200 0x6, ob 0x1200 0x7, ob 0x1200 0x8, ob 0x2F00 0x1C, ob 0x3000 0x4] [] } : Foot).faults
  | .countersign _ _ _ =>
    ({ conf := true, fox := true, img := true, idx := objects [0x27] [ob 0x1100 0x6, ob 0x1200 0x4, ob 0x1200 0x5, ob
        0x1200 0x6, ob 0x1200 0x7, ob 0x1200 0x8, ob 0x2F00 0x1C, ob 0x3000 0x1, ob 0x3000 0x2, ob 0x3000 0x4, ob 0x3000
        0x7, ob 0x3000 0x8, ob 0x3000 0xE] [] } : Foot).faults
  | .changeExpire =>
    ({ conf := true, fox := true, idx := objects [0x27] [ob 0x3000 0x8] [] } : Foot).faults
  | .profileTransferDone _ =>
    { flt := true, fox := true, rcd := true, ucp := true, idx := fun _ => true }
  | .stepDecay _ =>
    { idx := objects [0x28] [] [] }
  | .blockReset _ =>
    { eth := true, flt := true, lark := true, rx := true, ucp := true, idx := objects [0x28] [] [(0x2561, 0x2564, 0x9),
        (0x2561, 0x2564, 0xA)] }
  | .blockResetEnd _ _ _ _ _ =>
    ({ can := true, crop := true, inp := true, lark := true, nav := true, rx := true, sp := true, timers := true, idx :=
        objects [0x23, 0x25, 0x29] [nk 0x28] [(0x2B00, 0x2B07, 0x14)] } : Foot).faults
  | .chipReset =>
    { apps := true, can := true, conf := true, crop := true, eth := true, flt := true, fox := true, img := true, inp :=
        true, lark := true, nav := true, outs := true, parts := true, pwr := true, rcd := true, rx := true, sec := true, sp
        := true, timers := true, tm := true, ucp := true, upd := true, idx := fun _ => true }
  | .chipResetEnd =>
    ({ fox := true, inp := true, pwr := true, idx := objects [0x27] [] [] } : Foot).faults
  | .faultClearRequest _ _ | .faultClearAll _ | .forceSet _ _ | .forceClear _ _ | .applicationRecord _ _ =>
    ({ img := true, idx := objects [] [ob 0x1200 0x4, ob 0x1200 0x5, ob 0x1200 0x6, ob 0x1200 0x7, ob 0x1200 0x8, ob
        0x3000 0x4] [] } : Foot).faults
  | .wearCrossing _ _ _ _ _ _ =>
    { sp := true }
  | .spareSwap _ _ _ _ | .sramBankCopy _ _ _ _ | .elementSelftestDone _ _ _ =>
    ({ sp := true, timers := true, idx := objects [0x29] [] [] } : Foot).faults
  | .spareTest _ _ _ =>
    ({ sp := true, idx := objects [0x29] [] [] } : Foot).faults
  | .sramScrub _ _ _ _ =>
    ({ sp := true } : Foot).faults
  | .recordPost | .heldClearWrite =>
    ({ idx := objects [] [recArchived, recNextSeq] [] } : Foot).faults
  | .recordLost =>
    { flt := true, rcd := true, idx := objects [] [recArchived, recLostCount, recNextSeq] [] }
  | .archiveCopy _ =>
    ({ nv := true, idx := objects [] [recArchived] [] } : Foot).faults
  | .recBankFail _ _ =>
    ({ idx := objects [] [ob 0x2A00 0xA, recBanks] [] } : Foot).faults
  | .recDualFail =>
    ({ idx := objects [] [ob 0x2A00 0xA, recArchived, recBanks, recNextSeq] [] } : Foot).faults
  | .dualFailReset _ =>
    ({ img := true, idx := objects [] [ob 0x1200 0x4, ob 0x1200 0x5, ob 0x1200 0x6, ob 0x1200 0x7, ob 0x1200 0x8, ob
        0x3000 0x4, recBanks] [] } : Foot).faults
  | .recorderClear _ =>
    { flt := true, img := true, rcd := true, ucp := true, idx := objects [] [ob 0x1200 0x4, ob 0x1200 0x5, ob 0x1200
        0x6, ob 0x1200 0x7, ob 0x1200 0x8, ob 0x2A00 0xC, ob 0x3000 0x4, recArchived, recLostCount, recNextSeq, recOldest]
        [] }
  | .packetReceive _ _ =>
    ({ eth := true, sec := true, idx := objects [] [uc 0x5, uc 0x6, uc 0x7, uc 0x8, uc 0x9, uc 0xF] [] } : Foot).faults
  | .requestDequeue _ | .write _ _ _ _ _ _ _ | .signedCommandExecute _ _ | .configImport _ _ =>
    { apps := true, can := true, conf := true, crop := true, flt := true, fox := true, free := true, img := true, inp :=
        true, lark := true, nav := true, outs := true, pwr := true, rcd := true, rx := true, sec := true, timers := true,
        ucp := true, upd := true, idx := fun _ => true }
  | .read _ _ _ _ _ =>
    { ucp := true, idx := objects [] [ob 0x1200 0x4, ob 0x1200 0x5, ob 0x1200 0x6, ob 0x1200 0x7, ob 0x1200 0x8] [] }
  | .subscribe _ _ _ _ | .unsubscribe _ _ _ =>
    { ucp := true, idx := objects [] [uc 0xE] [] }
  | .nop _ | .tagQuarantineEnd _ _ _ | .attest _ =>
    { ucp := true }
  | .ucpSegmentReceive _ _ _ =>
    ({ eth := true, sec := true, idx := objects [] [uc 0x5, uc 0x6, uc 0x7, uc 0x8, uc 0x9, uc 0xB, uc 0xF] [] } :
        Foot).faults
  | .ucpStreamTimeout _ _ _ =>
    { ucp := true, idx := objects [] [uc 0xB] [] }
  | .announce =>
    { eth := true, ucp := true }
  | .dupaddrClear =>
    ({ eth := true } : Foot).faults
  | .ethFrameForward _ _ | .icmpv6MessageReceive _ _ _ _ _ =>
    { eth := true, idx := objects [0x2E] [] [] }
  | .ethLinkDown _ | .ethLinkUp _ _ | .ringTestTimeout =>
    ({ eth := true, idx := objects [0x2E] [] [] } : Foot).faults
  | .ringTestSend =>
    ({ eth := true, timers := true, idx := objects [0x2E] [] [] } : Foot).faults
  | .ringFrameReceive _ _ _ =>
    ({ eth := true, idx := objects [0x24, 0x2E] [] [] } : Foot).faults
  | .fleetSend _ =>
    ({ free := true, img := true, idx := objects [] [ob 0x1200 0x4, ob 0x1200 0x5, ob 0x1200 0x6, ob 0x1200 0x7, ob
        0x1200 0x8, ob 0x3000 0x4, uc 0x80, uc 0x82, uc 0x84] [] } : Foot).faults
  | .fleetDeliver _ =>
    ({ img := true, sec := true, idx := objects [] [ob 0x1200 0x4, ob 0x1200 0x5, ob 0x1200 0x6, ob 0x1200 0x7, ob
        0x1200 0x8, ob 0x3000 0x4, uc 0x85, uc 0x88, uc 0x8A] [] } : Foot).faults
  | .mapApply _ =>
    { img := true, ucp := true, idx := objects [] [ob 0x1200 0x4, ob 0x1200 0x5, ob 0x1200 0x6, ob 0x1200 0x7, ob 0x1200
        0x8, ob 0x1300 0x3, ob 0x1300 0x6, ob 0x3000 0x4] [] }
  | .appTableApply _ =>
    { img := true, ucp := true, idx := objects [] [ob 0x1200 0x4, ob 0x1200 0x5, ob 0x1200 0x6, ob 0x1200 0x7, ob 0x1200
        0x8, ob 0x1300 0x6, ob 0x1300 0x9, ob 0x3000 0x4] [] }
  | .canFrameReceive _ _ _ =>
    ({ can := true, eth := true, free := true, sec := true, idx := objects [0x2B] [uc 0x5, uc 0x6, uc 0x7, uc 0x8, uc
        0x9, uc 0xB, uc 0xF] [] } : Foot).faults
  | .canProtocolException _ =>
    ({ can := true, idx := objects [] [] [(0x2B00, 0x2B07, 0x14), (0x2B00, 0x2B07, 0x1C)] } : Foot).faults
  | .canRxTimeout _ _ | .referenceMessageSend _ | .addressClaimSend _ | .canShadowRotate _ =>
    { can := true }
  | .canTxDue | .transportSessionTimeout _ _ _ _ =>
    { can := true, idx := objects [] [] [(0x2B00, 0x2B07, 0x3D)] }
  | .canFrameTransmit _ _ _ _ _ =>
    ({ can := true, idx := objects [0x2B] [] [] } : Foot).faults
  | .canBusOff _ =>
    ({ idx := objects [] [] [(0x2B00, 0x2B07, 0x14), (0x2B00, 0x2B07, 0x17)] } : Foot).faults
  | .canRecoveryRequest _ _ =>
    ({ img := true, idx := objects [] [ob 0x1200 0x4, ob 0x1200 0x5, ob 0x1200 0x6, ob 0x1200 0x7, ob 0x1200 0x8, ob
        0x3000 0x4] [(0x2B00, 0x2B07, 0x14)] } : Foot).faults
  | .canRecoveryDone _ =>
    ({ idx := objects [] [] [(0x2B00, 0x2B07, 0x14), (0x2B00, 0x2B07, 0x15), (0x2B00, 0x2B07, 0x16)] } : Foot).faults
  | .canTimingApply _ _ =>
    ({ can := true, img := true, idx := objects [] [ob 0x1200 0x4, ob 0x1200 0x5, ob 0x1200 0x6, ob 0x1200 0x7, ob
        0x1200 0x8, ob 0x3000 0x4] [(0x2B00, 0x2B07, 0xD), (0x2B00, 0x2B07, 0xE), (0x2B00, 0x2B07, 0x14)] } : Foot).faults
  | .canJoinCheckEnd _ =>
    ({ can := true, idx := objects [] [] [(0x2B00, 0x2B07, 0x14), (0x2B00, 0x2B07, 0x35), (0x2B00, 0x2B07, 0x36)] } :
        Foot).faults
  | .canTxdTimeout _ =>
    ({ idx := objects [] [] [(0x2B00, 0x2B07, 0x20)] } : Foot).faults
  | .canTableApply _ _ =>
    { can := true, img := true, ucp := true, idx := objects [0x2C] [ob 0x1200 0x4, ob 0x1200 0x5, ob 0x1200 0x6, ob
        0x1200 0x7, ob 0x1200 0x8, ob 0x3000 0x4] [] }
  | .canTimeLost _ =>
    ({ idx := objects [] [] [(0x2B00, 0x2B07, 0x2D)] } : Foot).faults
  | .addressHeld _ =>
    { idx := objects [] [] [(0x2B00, 0x2B07, 0x35), (0x2B00, 0x2B07, 0x36)] }
  | .cannotClaimSend _ =>
    ({ can := true, idx := objects [] [] [(0x2B00, 0x2B07, 0x36)] } : Foot).faults
  | .isoSend _ _ =>
    { can := true, img := true, ucp := true, idx := objects [] [ob 0x1200 0x4, ob 0x1200 0x5, ob 0x1200 0x6, ob 0x1200
        0x7, ob 0x1200 0x8, ob 0x3000 0x4] [(0x2B00, 0x2B07, 0x39), (0x2B00, 0x2B07, 0x3B), (0x2B00, 0x2B07, 0x3D)] }
  | .isoSendDone _ =>
    { can := true, idx := objects [] [] [(0x2B00, 0x2B07, 0x3B), (0x2B00, 0x2B07, 0x3C)] }
  | .canShadowCompare _ _ _ =>
    { can := true, sp := true }
  | .canControllerSwap _ _ _ _ =>
    ({ can := true, sp := true, timers := true, idx := objects [0x29] [] [(0x2B00, 0x2B07, 0x13)] } : Foot).faults
  | .canPortFailed _ =>
    ({ sp := true, timers := true, idx := objects [0x29] [] [(0x2B00, 0x2B07, 0x13), (0x2B00, 0x2B07, 0x14)] } :
        Foot).faults
  | .hello _ _ _ =>
    ({ free := true, sec := true, idx := objects [] [ob 0x1100 0x6, ob 0x1100 0x7, ob 0x2F00 0x1C] [] } : Foot).faults
  | .finish _ _ =>
    ({ sec := true, idx := objects [] [ob 0x1100 0x1, ob 0x1100 0x6, ob 0x1100 0x7, ob 0x2F00 0x1C] [] } : Foot).faults
  | .close _ | .sessionIdleTimeout _ | .sessionLifetimeEnd _ =>
    ({ lark := true, sec := true, idx := objects [] [ob 0x1100 0x1, ob 0x2E00 0xE] [] } : Foot).faults
  | .handshakeTimeout _ | .lockoutEnd _ =>
    { sec := true }
  | .credentialExpiryCheck =>
    ({ lark := true, sec := true, timers := true, idx := objects [] [ob 0x1100 0x1, ob 0x1100 0x8, ob 0x2E00 0xE] [] } :
        Foot).faults
  | .endSession _ _ =>
    ({ img := true, lark := true, sec := true, idx := objects [] [ob 0x1100 0x1, ob 0x1200 0x4, ob 0x1200 0x5, ob 0x1200
        0x6, ob 0x1200 0x7, ob 0x1200 0x8, ob 0x2E00 0xE, ob 0x3000 0x4] [] } : Foot).faults
  | .revocationApply _ =>
    ({ conf := true, fox := true, img := true, lark := true, sec := true, idx := objects [0x27] [ob 0x1100 0x1, ob
        0x1100 0x6, ob 0x1200 0x4, ob 0x1200 0x5, ob 0x1200 0x6, ob 0x1200 0x7, ob 0x1200 0x8, ob 0x2E00 0xE, ob 0x2F00
        0x1C, ob 0x3000 0x4, ob 0x3000 0x8, sk2F 0x9, sk2F 0xB] [] } : Foot).faults
  | .anchorApply _ =>
    ({ img := true, lark := true, sec := true, idx := objects [] [ob 0x1100 0x1, ob 0x1100 0x6, ob 0x1200 0x4, ob 0x1200
        0x5, ob 0x1200 0x6, ob 0x1200 0x7, ob 0x1200 0x8, ob 0x2E00 0xE, ob 0x2F00 0x1C, ob 0x3000 0x4, sk2F 0x3, sk2F 0x83,
        sk2F 0xB] [] } : Foot).faults
  | .memberListApply _ =>
    ({ img := true, sec := true, idx := objects [] [ob 0x1100 0x6, ob 0x1200 0x4, ob 0x1200 0x5, ob 0x1200 0x6, ob
        0x1200 0x7, ob 0x1200 0x8, ob 0x2F00 0x1C, ob 0x3000 0x4, sk2F 0x5, sk2F 0x85, sk2F 0xB] [] } : Foot).faults
  | .challengeRenew =>
    { free := true, sec := true }
  | .debugOpen _ _ =>
    ({ free := true, img := true, sec := true, idx := objects [] [ob 0x1100 0x6, ob 0x1200 0x4, ob 0x1200 0x5, ob 0x1200
        0x6, ob 0x1200 0x7, ob 0x1200 0x8, ob 0x2F00 0x1C, ob 0x3000 0x4, sk2F 0x18] [] } : Foot).faults
  | .debugClose _ =>
    ({ img := true, sec := true, idx := objects [] [ob 0x1200 0x4, ob 0x1200 0x5, ob 0x1200 0x6, ob 0x1200 0x7, ob
        0x1200 0x8, ob 0x3000 0x4, sk2F 0x18] [] } : Foot).faults
  | .debugTimeout =>
    ({ sec := true, idx := objects [] [sk2F 0x18] [] } : Foot).faults
  | .debugLock _ _ =>
    ({ img := true, idx := objects [] [ob 0x1000 0x9, ob 0x1200 0x4, ob 0x1200 0x5, ob 0x1200 0x6, ob 0x1200 0x7, ob
        0x1200 0x8, ob 0x3000 0x4, sk2F 0x18] [] } : Foot).faults
  | .configCommit _ =>
    ({ conf := true, img := true, idx := objects [] [ob 0x1200 0x4, ob 0x1200 0x5, ob 0x1200 0x6, ob 0x1200 0x7, ob
        0x1200 0x8, ob 0x3000 0x1, ob 0x3000 0x2, ob 0x3000 0x3, ob 0x3000 0x4, ob 0x3000 0x7, ob 0x3000 0xE] [] } :
        Foot).faults
  | .configReturn _ _ =>
    ({ conf := true, fox := true, img := true, idx := objects [] [fx 0x10, ob 0x1200 0x4, ob 0x1200 0x5, ob 0x1200 0x6,
        ob 0x1200 0x7, ob 0x1200 0x8, ob 0x3000 0x1, ob 0x3000 0x2, ob 0x3000 0x4, ob 0x3000 0x7, ob 0x3000 0x8, ob 0x3000
        0xE] [] } : Foot).faults
  | .imageBlock _ _ _ =>
    ({ img := true, upd := true, idx := objects [] [ob 0x1020 0x2, ob 0x1200 0x4, ob 0x1200 0x5, ob 0x1200 0x6, ob
        0x1200 0x7, ob 0x1200 0x8, ob 0x3000 0x4, uk 0x2, uk 0x4, uk 0xA, uk 0xB, uk 0xC, uk 0xE] [] } : Foot).faults
  | .imageVerify _ _ =>
    ({ img := true, upd := true, idx := objects [0x10] [ob 0x1200 0x4, ob 0x1200 0x5, ob 0x1200 0x6, ob 0x1200 0x7, ob
        0x1200 0x8, ob 0x3000 0x4, uk 0x4, uk 0xC] [] } : Foot).faults
  | .armA _ | .armN _ | .activateNow _ | .disarmReject _ | .updateDiscard _ =>
    ({ img := true, upd := true, idx := objects [] [ob 0x1200 0x4, ob 0x1200 0x5, ob 0x1200 0x6, ob 0x1200 0x7, ob
        0x1200 0x8, ob 0x3000 0x4, uk 0x2, uk 0x4, uk 0x6, uk 0xA, uk 0xB, uk 0xC, uk 0xE] [] } : Foot).faults
  | .updateConfirm _ =>
    ({ img := true, upd := true, idx := objects [0x10] [ob 0x1200 0x4, ob 0x1200 0x5, ob 0x1200 0x6, ob 0x1200 0x7, ob
        0x1200 0x8, ob 0x3000 0x4, uk 0x2, uk 0x4, uk 0xA, uk 0xB, uk 0xE] [] } : Foot).faults
  | .trialHealthy =>
    ({ upd := true, idx := objects [0x10] [uk 0x2, uk 0x4, uk 0xA, uk 0xB, uk 0xE] [] } : Foot).faults
  | .classNActivate =>
    ({ upd := true, idx := objects [] [ob 0x1000 0x7, ob 0x1000 0x8, ob 0x1020 0x1, ob 0x1020 0x2, uk 0x4, uk 0xA] [] }
        : Foot).faults
  | .start _ _ _ _ _ _ _ _ _ _ =>
    { apps := true, can := true, conf := true, crop := true, eth := true, flt := true, fox := true, img := true, inp :=
        true, lark := true, nav := true, nv := true, outs := true, parts := true, pwr := true, rcd := true, rx := true, sec
        := true, snap := true, sp := true, timers := true, tm := true, ucp := true, upd := true, idx := fun _ => true }
  | .startComplete =>
    ({ conf := true, fox := true, img := true, pwr := true, sec := true, idx := objects [0x27] [ob 0x1200 0x1, ob 0x1200
        0x2, ob 0x1200 0x9, ob 0x3000 0x8, sk12 0xD, sk2F 0x18] [(0x2600, 0x263F, 0x16), (0x2640, 0x2647, 0x3)] } :
        Foot).faults
  | .standbyRequest _ | .configureRequest _ | .runRequest _ | .limpRequest _ | .safeHoldRequest _ | .serviceRequest _ |
    .restartRequest _ =>
    { img := true, pwr := true, ucp := true, idx := objects [] [ob 0x1200 0x4, ob 0x1200 0x5, ob 0x1200 0x6, ob 0x1200
        0x7, ob 0x1200 0x8, ob 0x3000 0x4] [] }
  | .autoStateChange =>
    ({ conf := true, fox := true, img := true, pwr := true, sec := true, idx := objects [0x27] [ob 0x1200 0x1, ob 0x1200
        0x2, ob 0x1200 0x9, ob 0x3000 0x8, sk2F 0x18] [(0x2600, 0x263F, 0x16)] } : Foot).faults
  | .holdupSave _ _ =>
    ({ can := true, conf := true, crop := true, eth := true, fox := true, free := true, lark := true, nv := true, outs
        := true, pwr := true, sec := true, timers := true, idx := objects [0x21, 0x27, 0x2E] [ck10 0x4, ck10 0x5, ck10 0xA,
        hk 0x23, hk 0x24, hk 0x26, hk 0x27, hk 0x28, hk 0x2B, hk 0x2C, ob 0x1010 0x5, ob 0x1100 0x1, ob 0x1100 0x8, ob
        0x1200 0x1, ob 0x1200 0x2, ob 0x3000 0x8, recArchived, recNextSeq, sk12 0x9, sk12 0xA, sk12 0xB, sk12 0xC] [(0x2561,
        0x2564, 0x9), (0x2561, 0x2564, 0xA), (0x2600, 0x263F, 0x1F)] } : Foot).faults
  | .afterRunExpire =>
    ({ conf := true, fox := true, img := true, pwr := true, sec := true, idx := objects [0x27] [ob 0x1200 0x1, ob 0x1200
        0x2, ob 0x1200 0x9, ob 0x3000 0x8, sk12 0xE, sk2F 0x18] [(0x2600, 0x263F, 0x16)] } : Foot).faults
  | .wake _ =>
    ({ fox := true, pwr := true, idx := objects [0x21, 0x27] [ck10 0x4, ck10 0x5, ck10 0xA, ob 0x1010 0x5, ob 0x1200
        0x1, ob 0x1200 0x2, sk12 0x9] [] } : Foot).faults
  | .vlRise _ =>
    ({ fox := true, pwr := true, idx := objects [0x21, 0x27] [ck10 0x1, ck10 0x4, ck10 0x5, ck10 0xA, ob 0x1010 0x5, ob
        0x1200 0x1, ob 0x1200 0x2, sk12 0x9] [] } : Foot).faults
  | .vlPrechargeTimeout =>
    { pwr := true, idx := objects [] [ck10 0x7] [] }
  | .holdupStoreReady _ =>
    { idx := objects [] [ck10 0x5, ck10 0x6] [] }
  | .vbakMeasure _ _ _ =>
    ({ pwr := true, idx := objects [] [ck10 0x1, ck10 0x2, ck10 0x3, ck10 0xA, ck10 0xB] [] } : Foot).faults
  | .vbPrecharge _ _ =>
    { idx := objects [] [] [(0x2640, 0x2647, 0x1), (0x2640, 0x2647, 0x3)] }
  | .vlLow _ _ =>
    ({ pwr := true, idx := objects [] [ck10 0x1, ck10 0xA, ck10 0xB] [] } : Foot).faults
  | .presentMake =>
    { eth := true, pwr := true, idx := objects [] [ck10 0x4, ob 0x1010 0x5] [] }
  | .presentBreak _ =>
    { outs := true, pwr := true, idx := objects [] [ck10 0x4, ck10 0x8, ob 0x1010 0x5] [(0x2640, 0x2647, 0x3)] }
  | .addressRead _ _ =>
    { pwr := true, idx := objects [] [ck10 0x9, ob 0x1010 0x1, ob 0x1010 0x2] [] }
  | .addressChange _ =>
    { idx := objects [] [ck10 0x9, ob 0x1010 0x2] [] }
  | .wakeInLevel _ | .statusPinOvercurrent _ _ | .vbakSupplyMonitorTrip | .vlPrechargeRetry =>
    { pwr := true }
  | .randomSourceHealthFail =>
    ({ idx := objects [] [sk2F 0x1D] [] } : Foot).faults
  | .sramUncorrectableError _ _ =>
    ({ idx := objects [] [ob 0x1400 0x5] [] } : Foot).faults
  | .ringManagerTimeout =>
    ({ eth := true, idx := objects [] [uc 0x11, uc 0x12] [] } : Foot).faults

end Sys2Proof
end

