-- ==== Sys2Proof/Certificates/Slice0/Obligations.lean ====
section
/-! DEFINITION. What the provers prove: the statements about the commands of the block, each named for what it says. -/

open Sys2Proof Sys2Proof.Machine

/-- A swap of element `e` of pool `p` has been asked for and can start, and `x` is the first ready spare that may serve it. -/
def SwapReady (s : State) (p e x : Nat) : Prop :=
  p < 8 ∧ e < 1024 ∧ x < 1024 ∧ (∃ r, s.reqOf p e = some r ∧ r.hold = false) ∧ s.canSwap p = true ∧
    (s.readySpares p e).head? = some x ∧ (s.elem p e).state ≠ 1

/-- Element `e` of pool `p` is out, and spare `x` serves in its place; the request is done and the swap is counted. -/
def Swapped (s t : State) (p e x : Nat) : Prop :=
  (t.elem p x).state = 0 ∧ 2 ≤ (t.elem p e).state ∧ (t.elem p e).swaps = (s.elem p e).swaps + 1 ∧
    Tbl.get 0 t.sp.serves (elKey p x) = e + 1 ∧ t.reqOf p e = none ∧
    t.get (ob 0x2900 1) = min 0xFFFFFFFF (s.get (ob 0x2900 1) + 1) ∧
    t.get (ob 0x2900 (0x22 + 8 * p)) = min 0xFFFFFFFF (s.get (ob 0x2900 (0x22 + 8 * p)) + 1)


/-- For every command c and state s, the step of s with c at the front of its queue is exec of c on s with the queue's
rest. On an empty queue the block idles: the step answers the state unchanged (the model's choice, log 1). -/
def Obligations.StepRunsFront : Prop :=
  ∀ (s : State),
    (∀ (c : Instr) (rest : List Instr), s.pending = c :: rest → step s = exec c { s with pending := rest }) ∧
    (s.pending = [] → step s = .next s)

/-- State.reset has every table of objects in canonical form (keys rising, nothing listed that equals what an unlisted key
reads as), an empty queue of commands, no block in reset, and every object at its DEFAULT. -/
def Obligations.ResetTables : Prop :=
  State.reset.tablesOk = true ∧ State.reset.pending = [] ∧ State.reset.get blocksInReset = 0 ∧
    (∀ k, State.reset.get k = Dict.dflt k) ∧ (∀ k, State.reset.cfg k = Dict.dflt k)

/-- For every state whose object tables are in canonical form, if a step answers a next state then its object tables are
in canonical form; and whatever the state, the queue after a step is the queue without its front, or as it was where
it was empty. -/
def Obligations.StepKeepsTables : Prop :=
  ∀ s t : State, step s = .next t → (s.tablesOk = true → t.tablesOk = true) ∧ t.pending = s.pending.tail

/-- For every command i and state s, if exec answers t then t differs from s at most in what Instr.foot lists for i: the
units, and the objects by index and subindex; every other unit and every other object, and the queue of commands,
reads as before, the snapshots of tick 0 too unless the command is SEAL, TAKE, CONTROL or START, and the tables keep
their canonical form. Where a fault is found, the collector with its objects, a record and an event that wait, and the
counts of those that were lost may change too. -/
def Obligations.CommandsFrame : Prop :=
  ∀ (i : Instr) (s t : State), exec i s = .next t → Kept i.foot s t

/-- SECOND_BOUNDARY always completes and leaves module time as it was. Where three valid own seconds have been counted
outside LOCKED the state becomes LOCKED. Afterwards TIME_HOLD is raw exactly in HOLDOVER and UNQUALIFIED, and
TIME_UNQUAL exactly in UNQUALIFIED. TIME_SOLUTION_DEADLINE counts its second as not valid and leaves c, G_OFF and the
time state. -/
def Obligations.SecondBoundaryDecides : Prop :=
  ∀ (dT : Nat) (s : State),
    (∃ t, exec (.secondBoundary dT) s = .next t ∧ t.tm.mt = s.tm.mt ∧
      (3 ≤ s.tm.good → s.timeState ≠ tsLOCKED → t.timeState = tsLOCKED) ∧
      t.raw srcTIME_HOLD = (decide (t.timeState = tsHOLDOVER) || decide (t.timeState = tsUNQUALIFIED)) ∧
      t.raw srcTIME_UNQUAL = decide (t.timeState = tsUNQUALIFIED)) ∧
    (∃ t, exec .timeSolutionDeadline s = .next t ∧ t.tm.good = 0 ∧ t.tm.bad = s.tm.bad + 1 ∧
      ∀ k, t.get k = s.get k)

/-- Where a step has been decided, GOFF_STEP_APPLY adds its size to G_OFF, counts it in 0x2000.12, shows it in 0x2000.13,
raises TIME_STEP, forgets the step and leaves MT and c. The on-time edge of a reported pulse drives PPS_OUT active,
marks its second and ends its report; the end of the pulse width drives PPS_OUT inactive and changes nothing else. -/
def Obligations.StepMovesGoff : Prop :=
  ∀ (s : State),
    (∀ (size : Int) (sec : Nat), s.tm.step = some (size, sec) →
      ∃ t, exec .goffStepApply s = .next t ∧ t.tm.mt = s.tm.mt ∧ t.tm.step = none ∧ t.get (tk 9) = s.get (tk 9) ∧
        t.get (tk 4) = i64bits (s.goff + size) ∧ t.get (tk 0x13) = i64bits size ∧
        t.get (tk 0x12) = clampN 0xFFFFFFFF (s.get (tk 0x12) + 1) ∧ t.raw srcTIME_STEP = true) ∧
    (s.ppsOn = true → s.tm.reported = true →
      ∃ t, exec (.ppsPulse false) s = .next t ∧ t.tm.pps = true ∧ t.tm.reported = false ∧
        t.tm.lastSec = (s.get (tk 0x19) : Int) ∧ t.tm.mt = s.tm.mt) ∧
    exec (.ppsPulse true) s = .next { s with tm := { s.tm with pps := false } }

/-- Where pulses are given and the next one is not yet reported, PULSE_REPORT completes: the report is out, module time
stands, and QERR lies within −1,250 ps to 1,250 ps whenever the rate correction lies within ±10 ppm. -/
def Obligations.PulseReportQuantisation : Prop :=
  ∀ (s : State), s.ppsOn = true → s.tm.reported = false → (s.rate.natAbs ≤ 10000000) →
    ∃ t, exec .pulseReport s = .next t ∧ t.tm.reported = true ∧ t.tm.mt = s.tm.mt ∧ t.tm.pps = s.tm.pps ∧
      -1250 ≤ t.getI16 (tk 0x18) ∧ t.getI16 (tk 0x18) ≤ 1250

/-- LEAP_SECOND stores L within 0 to 255 and, with calendar source 0 outside FREE, leaves CAL_OFF at G_OFF + (315,964,800
− L) × 10⁹. An accepted write of CAL_OFF stores the value. Neither changes MT, G_OFF, c or PPS_OUT. -/
def Obligations.CalendarOffset : Prop :=
  ∀ (s : State),
    (∀ l : Nat, ∃ t, exec (.leapSecond l) s = .next t ∧ t.get (tk 7) = clampN 255 l ∧
      (s.tcfg 6 = 0 → s.timeState ≠ tsFREE →
        t.getI64 (tk 5) = signed 64 (i64bits (s.goff + (gpsUnix - (clampN 255 l : Int)) * 1000000000))) ∧
      t.tm.mt = s.tm.mt ∧ t.get (tk 4) = s.get (tk 4) ∧ t.get (tk 9) = s.get (tk 9) ∧ t.tm.pps = s.tm.pps) ∧
    (∀ (w : Who) (v : Int), s.accepts w 0x2000 5 (.num (i64bits v)) hCalOff = true →
      ∃ t, exec (.calOffWrite w v) s = .next t ∧ t.get (tk 5) = i64bits v ∧ t.ucp.last.status = stOK ∧
        t.tm = s.tm ∧ t.get (tk 4) = s.get (tk 4) ∧ t.get (tk 9) = s.get (tk 9))

/-- MT_STORE stores MT and the rate correction and changes nothing else. STANDBY_OSC_MEASURE stores the offset within
±200,000 and changes nothing else. -/
def Obligations.TimeStores : Prop :=
  ∀ (s : State),
    exec .mtStore s = .next { s with nv := { s.nv with mt := s.tm.mt, corr := s.get (tk 9) } } ∧
    ∀ x : Int, ∃ t, exec (.standbyOscMeasure x) s = .next t ∧ t.get (tk 0x1A) = i32bits (clampI (-200000) 200000 x) ∧
      (∀ k, k ≠ tk 0x1A → t.get k = s.get k) ∧ t.tm = s.tm ∧ t.nv = s.nv

/-- In LOCKED, a delivery with at least 4 satellites, an uncertainty within 50 ns, no false signals detected and no jump
of the clock rate changes c by −d within ±10 ppb and ±10 ppm, leaves MT, and sets CLK_TCXO's raw state exactly where
the needed rate lies beyond ±5 ppm. A phase error below 1,000 ns moves G_OFF by −b within the slew limit, SLEWING
telling whether more is left; a larger one leaves G_OFF and decides a step of −b. -/
def Obligations.DisciplineInLocked : Prop :=
  ∀ (s : State) (b d : Int) (sigma sf sats : Nat), s.timeState = tsLOCKED → 4 ≤ sats → sigma ≤ 50000 →
    s.get (rk 0x25) ≠ 2 → (∀ o, s.rx.lastNeed = some o → (s.rate - d - o).natAbs ≤ 50000) →
    ∃ t, exec (.timeSolutionDelivery b d sigma sf sats) s = .next t ∧ t.tm.mt = s.tm.mt ∧
      t.get (tk 9) = i32bits (clampI (-10000000) 10000000 (s.rate + clampI (-10000) 10000 (-d))) ∧
      t.raw srcCLK_TCXO = decide (5000000 < (s.rate - d).natAbs) ∧
      (b.natAbs < 1000 →
        t.get (tk 4) = i64bits (s.goff - clampI (-(s.tcfg 0x11 : Int)) (s.tcfg 0x11) b) ∧
        t.tm.slewing = decide ((s.tcfg 0x11 : Int) < (b.natAbs : Int))) ∧
      (1000 ≤ b.natAbs → t.get (tk 4) = s.get (tk 4) ∧ ∃ sec, t.tm.step = some (-b, sec))

/-- With the capture fabric not in reset, an accepted edge in frequency mode adds one to COUNT modulo 2³² where the edge
selection takes it, with its stamp, the block's edge number and the last 8 stamps; otherwise it changes none of these.
In digital mode the accepted change sets the state and counts in the same way. In quadrature mode both lines inside
one stamp leave COUNT, set QUAD_ERR and count the error; else COUNT moves by +1 or -1, as A leads B or not, on the
transitions that the decoding selects. No other channel and no object but the error count changes. (Line A is taken to
stand at the other level before the command.) -/
def Obligations.EdgesCounted : Prop :=
  ∀ (ch : Fin 64) (up : Bool) (stamp : Nat) (s : State), s.inReset blkFAB = false →
    let a := ch.val - ch.val % 2
    let sel := s.cfg (ik ch.val 0x0A) = 2 ∨ (s.cfg (ik ch.val 0x0A) = 0 ∧ up = true) ∨ (s.cfg (ik ch.val 0x0A) = 1 ∧ up = false)
    let counted (d : Int) (x y : ChanSt) : Prop := (y.count : Int) = ((x.count : Int) + d) % 2 ^ 32 ∧ y.tN = stamp ∧
      y.edges = x.edges + 1 ∧ y.stamps <:+ x.stamps ++ [stamp] ∧ (x.stamps.length ≤ 8 → y.stamps.length = min 8 (x.stamps.length + 1))
    let uncounted (x y : ChanSt) : Prop := y.count = x.count ∧ y.edges = x.edges ∧ y.stamps = x.stamps
    let phase (p q : Bool) : Int := if p then (if q then 2 else 1) else (if q then 3 else 0)
    (∀ both, s.cfg (ik a 1) ≠ 5 → s.cfg (ik ch.val 1) = 4 → ∃ t, exec (.inputEdge ch up both stamp) s = .next t ∧
      (sel → counted 1 (s.chan ch.val) (t.chan ch.val)) ∧ (¬sel → uncounted (s.chan ch.val) (t.chan ch.val)) ∧
      (∀ k, t.get k = s.get k) ∧ (∀ c, c ≠ ch.val → t.chan c = s.chan c)) ∧
    (∀ both, s.cfg (ik a 1) ≠ 5 → s.cfg (ik ch.val 1) = 8 → ∃ t, exec (.inputEdge ch up both stamp) s = .next t ∧
      (t.chan ch.val).dig = up ∧ (t.chan ch.val).tN = stamp ∧
      (sel → counted 1 (s.chan ch.val) (t.chan ch.val)) ∧ (¬sel → uncounted (s.chan ch.val) (t.chan ch.val)) ∧
      (∀ k, t.get k = s.get k) ∧ (∀ c, c ≠ ch.val → t.chan c = s.chan c)) ∧
    (s.cfg (ik a 1) = 5 → ∃ t, exec (.inputEdge ch up true stamp) s = .next t ∧
      uncounted (s.chan a) (t.chan a) ∧ (t.chan a).quadErr = true ∧
      t.get (ik a 0x1B) = min 0xFFFFFFFF (s.get (ik a 0x1B) + 1) ∧ (∀ k, k ≠ ik a 0x1B → t.get k = s.get k)) ∧
    (s.cfg (ik a 1) = 5 → ∃ t, exec (.inputEdge ch up false stamp) s = .next t ∧
      (let A' := if ch.val = a then up else (s.chan a).line
       let B := if ch.val = a then (s.chan (a + 1)).line else !up
       let B' := if ch.val = a then (s.chan (a + 1)).line else up
       let A := if ch.val = a then !up else (s.chan a).line
       let d : Int := if (phase A' B' - phase A B) % 4 = 1 then 1 else -1
       let takes := s.cfg (ik a 0x0E) = 4 ∨ (s.cfg (ik a 0x0E) = 2 ∧ ch.val = a) ∨ (s.cfg (ik a 0x0E) = 1 ∧ ch.val = a ∧ up = true)
       (s.cfg (ik a 0x0E) = 1 ∨ s.cfg (ik a 0x0E) = 2 ∨ s.cfg (ik a 0x0E) = 4) →
         (takes → counted d (s.chan a) (t.chan a)) ∧ (¬takes → uncounted (s.chan a) (t.chan a))) ∧
      (∀ k, t.get k = s.get k) ∧ (∀ c, c ≠ ch.val → c ≠ a → t.chan c = s.chan c))

/-- When a channel's limit has been passed for its diagnostic time, INPUT_DIAG_FAULT sets the low or the high fault with
its status bit, counts it and raises the channel's source. A current input over its limit has its burden disconnected
with PROTECT set and no other object changed; a second later the trial connects it again. At the end of SETTLING the
channel takes up without a reference edge, with the time of the end standing for its latest edge, and its filter
starts anew; no object changes. -/
def Obligations.InputChannelFaults : Prop :=
  ∀ (ch : Fin 64) (s : State),
    (s.cfg (ik ch.val 0x14) * 20 ≤ (s.chan ch.val).lowRun → (s.chan ch.val).diagLow = false →
      ∃ t, exec (.inputDiagFault ch false) s = .next t ∧ (t.chan ch.val).diagLow = true ∧ bit (t.get (ik ch.val 0x17)) 3 = true ∧
        t.get (ik ch.val 0x1C) = min 0xFFFFFFFF (s.get (ik ch.val 0x1C) + 1) ∧ t.raw (srcIN_DIAG ch.val) = true) ∧
    (s.cfg (ik ch.val 0x14) * 20 ≤ (s.chan ch.val).highRun → (s.chan ch.val).diagHigh = false →
      ∃ t, exec (.inputDiagFault ch true) s = .next t ∧ (t.chan ch.val).diagHigh = true ∧ bit (t.get (ik ch.val 0x17)) 4 = true ∧
        t.get (ik ch.val 0x1C) = min 0xFFFFFFFF (s.get (ik ch.val 0x1C) + 1) ∧ t.raw (srcIN_DIAG ch.val) = true) ∧
    (s.cfg (ik ch.val 1) = 2 →
      ∃ t, exec (.currentInputProtect ch) s = .next t ∧ (t.chan ch.val).protect = true ∧ bit (t.get (ik ch.val 0x17)) 5 = true ∧
        (∀ k, k ≠ ik ch.val 0x17 → t.get k = s.get k) ∧ ∀ c, c ≠ ch.val → t.chan c = s.chan c) ∧
    ((s.chan ch.val).protect = true → s.timerPast (tmProt ch.val) nsS = true →
      ∃ t, exec (.currentInputTrial ch) s = .next t ∧ (t.chan ch.val).protect = false ∧ (∀ k, t.get k = s.get k) ∧
        ∀ c, c ≠ ch.val → t.chan c = s.chan c) ∧
    ((s.chan ch.val).settling = true → (s.chan ch.val).settleLeft = 0 →
      ∃ t, exec (.settlingEnd ch) s = .next t ∧ (t.chan ch.val).settling = false ∧ (t.chan ch.val).hasRef = false ∧
        (t.chan ch.val).tN = s.tm.mt ∧ (t.chan ch.val).fNum = 0 ∧ (t.chan ch.val).y = none ∧ (∀ k, t.get k = s.get k) ∧
        ∀ c, c ≠ ch.val → t.chan c = s.chan c)

/-- A supply that is on trips off with TRIPPED set, its trip counted and its source raised, for the current limit or, with
OVERVOLT, for back-feed; it latches exactly where its retry limit is not 255 and its retries have reached it, or it
was latched. Undervoltage sets UNDERVOLT alone. 100 ms after a trip that did not latch, it is on again with one retry
more and its source inactive; 10 s of regulation reset the retries. SUP4 to SUP7 start a pulse at their own schedule
counts. A write of the restart object that its checks pass clears LATCHED, TRIPPED and OVERVOLT and the retries of
each latched supply it names, and leaves the status and retries of every other supply. -/
def Obligations.SupplyProtection : Prop :=
  (∀ (k : Fin 8) (s : State), s.supOn k.val = true →
    (∃ t, exec (.supTrip k) s = .next t ∧ supStatus t k.val 0 = false ∧ supStatus t k.val 3 = true ∧
      supStatus t k.val 4 = (supStatus s k.val 4 || (decide (s.cfg (supk k.val 2) ≠ 255) && decide (s.cfg (supk k.val 2) ≤ (s.sup k.val).retries))) ∧
      t.get (supk k.val 6) = min 0xFFFFFFFF (s.get (supk k.val 6) + 1) ∧ t.raw (srcSUP k.val) = true) ∧
    (∃ t, exec (.supOvervolt k) s = .next t ∧ supStatus t k.val 0 = false ∧ supStatus t k.val 3 = true ∧ supStatus t k.val 6 = true ∧
      supStatus t k.val 4 = (supStatus s k.val 4 || (decide (s.cfg (supk k.val 2) ≠ 255) && decide (s.cfg (supk k.val 2) ≤ (s.sup k.val).retries))) ∧
      t.get (supk k.val 6) = min 0xFFFFFFFF (s.get (supk k.val 6) + 1) ∧ t.raw (srcSUP k.val) = true) ∧
    (∃ t, exec (.supUndervolt k) s = .next t ∧ supStatus t k.val 5 = true ∧ (∀ j, j ≠ supk k.val 5 → t.get j = s.get j) ∧ t.inp = s.inp) ∧
    (s.timerPast (tmSupReg k.val) (10 * nsS) = true →
      ∃ t, exec (.supRetryReset k) s = .next t ∧ (t.sup k.val).retries = 0 ∧ ∀ j, t.get j = s.get j) ∧
    (4 ≤ k.val → s.tm.sched = 50 * (k.val - 4) →
      ∃ t, exec (.supplyTestPulse k) s = .next t ∧ supStatus t k.val 7 = true ∧ (t.sup k.val).pulseMt = s.tm.mt ∧
        ∀ j, j ≠ supk k.val 5 → t.get j = s.get j)) ∧
  (∀ (k : Fin 8) (s : State), supStatus s k.val 3 = true → supStatus s k.val 4 = false → s.timerPast (tmSupRetry k.val) (100 * nsMs) = true →
    ∃ t, exec (.supRetry k) s = .next t ∧ supStatus t k.val 0 = true ∧ supStatus t k.val 3 = false ∧
      (t.sup k.val).retries = (s.sup k.val).retries + 1 ∧ t.raw (srcSUP k.val) = false) ∧
  (∀ (who : Who) (mask : Nat) (s : State), s.accepts who 0x2140 0x01 (.num mask) hSupRestart = true →
    ∃ t, exec (.supRestart who mask) s = .next t ∧ t.ucp.last.status = stOK ∧ ∀ k, k < 8 →
      (Nat.testBit mask k = true → supStatus s k 4 = true →
        supStatus t k 3 = false ∧ supStatus t k 4 = false ∧ supStatus t k 6 = false ∧ (t.sup k).retries = 0) ∧
      (Nat.testBit mask k = false ∨ supStatus s k 4 = false → t.get (supk k 5) = s.get (supk k 5) ∧ t.sup k = s.sup k))

/-- While a group's spare is free, a compared window of a channel that converts counts a disagreement exactly where the
two means differ by more than 0.05 % of the converter span: the third in a row fails the channel's converter, a window
within the bound sets the run to 0. A discarded conversion within 1 ms of the one before fails the converter; any
other only notes its time. A converter that fails marks the open block SUSPECT, raises its source and asks for the
spare. A failed converter whose spare serves another channel, or whose 2 frames have passed, shows 0xFF with
CONV_FAIL, and its request ends. -/
def Obligations.ConverterFailures : Prop :=
  ∀ (s : State),
    (∀ (g : Fin 8) (own sp : Int) (c : Nat), c = 8 * g.val + Tbl.get 0 s.inp.shadow g.val → (s.elem 6 (64 + g.val)).state = 1 → s.cfg (ik c 1) ≠ 0 → (s.chan c).failed = false →
      ∃ t, exec (.shadowWindowEnd g own sp true) s = .next t ∧
        (5 * 2 ^ 32 < (own - sp).natAbs * 10000 →
          (2 ≤ (s.chan c).disagree → (t.chan c).failed = true ∧ (t.chan c).suspect = true ∧ t.raw (srcADC c) = true ∧ (t.reqOf 6 c).isSome = true) ∧
          ((s.chan c).disagree < 2 → (t.chan c).failed = false ∧ (t.chan c).disagree = (s.chan c).disagree + 1)) ∧
        (¬ 5 * 2 ^ 32 < (own - sp).natAbs * 10000 → (t.chan c).failed = false ∧ (t.chan c).disagree = 0)) ∧
    (∀ ch : Fin 64, s.cfg (ik ch.val 1) ≠ 0 → (s.chan ch.val).failed = false →
      ∃ t, exec (.conversionFail ch) s = .next t ∧ (t.elem 6 ch.val).v2 = min 0xFFFFFFFF ((s.elem 6 ch.val).v2 + 1) ∧
        ((s.chan ch.val).lastBad ≠ 0 → s.tm.mt + 1 ≤ (s.chan ch.val).lastBad + nsMs →
          (t.chan ch.val).failed = true ∧ (t.chan ch.val).suspect = true ∧ t.raw (srcADC ch.val) = true ∧ (t.reqOf 6 ch.val).isSome = true) ∧
        ((s.chan ch.val).lastBad = 0 ∨ (s.chan ch.val).lastBad + nsMs < s.tm.mt + 1 →
          (t.chan ch.val).failed = false ∧ (t.chan ch.val).lastBad = s.tm.mt + 1 ∧ ∀ k, t.get k = s.get k)) ∧
    (∀ ch : Fin 64, (s.chan ch.val).failed = true → s.get (ik ch.val 0x19) = 0 →
      ((s.elem 6 (64 + ch.val / 8)).state = 0 ∨ s.timerPast (tmConfirm ch.val) 100000 = true) →
      ∃ t, exec (.spareConfirmTimeout ch) s = .next t ∧ t.get (ik ch.val 0x19) = 0xFF ∧ bit (t.get (ik ch.val 0x17)) 12 = true ∧
        t.reqOf 6 ch.val = none ∧ t.inp = s.inp ∧ ∀ k, k ≠ ik ch.val 0x19 → k ≠ ik ch.val 0x17 → t.get k = s.get k)

/-- With the capture fabric out of reset, SCALE completes for any block, monitor samples and sense results: every channel
that is not paired publishes the COUNT it had at the Seal tick and a paired channel publishes 0; a digital channel's
VALUE is its debounced state, 1 or 0; a channel that is off has VALUE 0 and no VALID; the block is the sealed one.
With the fabric in reset no input object changes. -/
def Obligations.ScalePublishes : Prop :=
  ∀ (s : State) (blk : List ChBlock) (mon : List SupMon) (sense : List SenseBlk),
    (s.inReset blkFAB = false → ∃ t, exec (.scale blk mon sense) s = .next t ∧ t.inp.block = blk ∧ ∀ c : Fin 64,
      t.get (ik c.val 0x18) = (if s.cfgB (ik c.val 1) = 9 then 0 else (s.chan c.val).sealCount) ∧
      (s.cfgB (ik c.val 1) = 8 → t.getI32 (ik c.val 0x16) = if (s.chan c.val).dig then 1 else 0) ∧
      (s.cfgB (ik c.val 1) = 0 → t.getI32 (ik c.val 0x16) = 0 ∧ bit (t.get (ik c.val 0x17)) 0 = false)) ∧
    (s.inReset blkFAB = true → ∃ t, exec (.scale blk mon sense) s = .next t ∧ t.inp = s.inp ∧
      ∀ (c : Fin 64) (j : Nat), t.get (ik c.val j) = s.get (ik c.val j))

/-- A zero request that its checks pass answers OK; it aborts with result 3 where cutting is true, the elevator stands or
the flow input is invalid, and else runs with result 1, an empty sum and ZEROING set. When the zero's frames have
passed, S0 is the rounded mean of what it gathered, the result is 2 and ZEROING is clear. A quiet or noisy loss sensor
sets its mark and raises its source; after 10 s free of the condition the mark clears, and the source's raw state says
whether the other mark stands. A flow input invalid for 1 s while cutting raises CROP_FLOW; 120 s without a full frame
clear MOIST_VALID and raise CROP_MOIST. -/
def Obligations.CropZeroAndWatches : Prop :=
  ∀ (s : State),
    (∀ who : Who, s.accepts who 0x2200 0x0A (.num 1) hZero = true → ∃ t, exec (.zeroRequest who) s = .next t ∧ t.ucp.last.status = stOK ∧
      (s.cfg (hk 2) = 1 ∨ s.cropHas 6 = true ∨ s.flowOk = false → t.get (hk 0x0B) = 3 ∧ t.crop = s.crop) ∧
      (s.cfg (hk 2) ≠ 1 → s.cropHas 6 = false → s.flowOk = true →
        t.get (hk 0x0B) = 1 ∧ t.crop.zeroSum = 0 ∧ t.crop.zeroN = 0 ∧ t.cropHas 8 = true ∧ t.get (hk 9) = s.get (hk 9))) ∧
    (s.get (hk 0x0B) = 1 → 20 * s.cfg (hk 0x0C) ≤ s.crop.zeroN → ∃ t, exec .zeroDone s = .next t ∧ t.get (hk 0x0B) = 2 ∧
      t.getI32 (hk 9) = clampI (-2147483648) 2147483647 (Q.mk' s.crop.zeroSum s.crop.zeroN).roundAway ∧ t.cropHas 8 = false) ∧
    (∀ k : Fin 8,
      ((s.crop.loss.getD k.val LossSt.reset).quietNow = true → ∃ t, exec (.lossSensorQuiet k) s = .next t ∧
        bit (t.get (lsk k.val 0x0B)) 4 = true ∧ t.raw (srcCROP_LS k.val) = true) ∧
      ((s.crop.loss.getD k.val LossSt.reset).noisyNow = true → ∃ t, exec (.lossSensorNoisy k) s = .next t ∧
        bit (t.get (lsk k.val 0x0B)) 5 = true ∧ t.raw (srcCROP_LS k.val) = true) ∧
      (200000 ≤ (s.crop.loss.getD k.val LossSt.reset).quietFree → ∃ t, exec (.lossSensorClear k false) s = .next t ∧
        bit (t.get (lsk k.val 0x0B)) 4 = false ∧ t.raw (srcCROP_LS k.val) = bit (s.get (lsk k.val 0x0B)) 5) ∧
      (200000 ≤ (s.crop.loss.getD k.val LossSt.reset).noisyFree → ∃ t, exec (.lossSensorClear k true) s = .next t ∧
        bit (t.get (lsk k.val 0x0B)) 5 = false ∧ t.raw (srcCROP_LS k.val) = bit (s.get (lsk k.val 0x0B)) 4)) ∧
    (20000 ≤ s.crop.flowBad → ∃ t, exec .cropFlowTimeout s = .next t ∧ t.raw srcCROP_FLOW = true ∧ t.crop = s.crop) ∧
    (s.cropHas 2 = true → 2400000 ≤ s.crop.noFull → ∃ t, exec .moistTimeout s = .next t ∧ t.cropHas 2 = false ∧ t.raw srcCROP_MOIST = true)

/-- RECORD_CLOSE takes the oldest interval once its closing MT has come. Where the ground was cut or grain was weighed and
the buffer has room or its policy is to overwrite, the record is written at its place, the write sequence moves on and
the mass totals grow by the record's masses; a full buffer that overwrites moves its oldest sequence on. Under policy
1 a full buffer loses the record, counts it, sets BUFFER_FULL and raises CROP_BUF. An interval without cutting or
grain changes no object. A buffer clear that passes its checks makes the oldest sequence the write sequence and ends
CROP_BUF; a totals reset makes the totals 0. -/
def Obligations.YieldRecordsWritten : Prop :=
  ∀ (s : State),
    (∀ (x : CutInt) (rest : List CutInt), s.crop.cuts = x :: rest → s.closeMt x ≤ s.tm.mt →
      ∃ t, exec .recordClose s = .next t ∧ t.crop.cuts = rest ∧
        (x.cut = false → Q.lt Q.zero x.wet = false → ∀ k, t.get k = s.get k) ∧
        ((x.cut = true ∨ Q.lt Q.zero x.wet = true) →
          (s.get (hk 0x23) - s.get (hk 0x2C) < 1048576 ∨ s.cfg (hk 0x21) ≠ 1 →
            ∃ r, r = s.yieldRecord (s.get (hk 0x23)) s.freeVal x ∧
              Tbl.get 0 t.crop.yields (s.get (hk 0x23) % 1048576) = ofLe r.1 ∧ t.get (hk 0x23) = s.get (hk 0x23) + 1 ∧
              t.crop.lastSeq = s.get (hk 0x23) ∧ t.get (hk 0x26) = min 0xFFFFFFFF (s.get (hk 0x26) + r.2.1) ∧
              t.get (hk 0x27) = min 0xFFFFFFFF (s.get (hk 0x27) + r.2.2.1) ∧
              t.get (hk 0x2C) = s.get (hk 0x2C) + (if s.get (hk 0x23) - s.get (hk 0x2C) < 1048576 then 0 else 1)) ∧
          (1048576 ≤ s.get (hk 0x23) - s.get (hk 0x2C) → s.cfg (hk 0x21) = 1 →
            t.get (hk 0x24) = min 0xFFFFFFFF (s.get (hk 0x24) + 1) ∧ t.cropHas 11 = true ∧ t.raw srcCROP_BUF = true ∧
              t.get (hk 0x23) = s.get (hk 0x23) ∧ t.crop.yields = s.crop.yields))) ∧
    (∀ who : Who, s.accepts who 0x2200 0x25 (.num 1) hBufferClear = true → ∃ t, exec (.bufferClear who) s = .next t ∧
      t.get (hk 0x2C) = s.get (hk 0x23) ∧ t.get (hk 0x23) = s.get (hk 0x23) ∧ t.cropHas 11 = false ∧ t.raw srcCROP_BUF = false) ∧
    (∀ who : Who, s.accepts who 0x2200 0x29 (.num 1) hTotalsReset = true → ∃ t, exec (.totalsReset who) s = .next t ∧
      t.get (hk 0x26) = 0 ∧ t.get (hk 0x27) = 0 ∧ t.get (hk 0x28) = 0 ∧ t.crop.yields = s.crop.yields)

/-- With the engine off, CROP leaves the crop block of the input image all 0, no open interval and the yield buffer as it
was. With the engine on and in block reset it counts an excluded frame and changes nothing else of the engine.
Otherwise the status shows ENABLED, and CUTTING as the setting says, the sample clock moves on by one frame, and a
frame whose flow or elevator channel is not valid holds the mass flow and clears FLOW_VALID. -/
def Obligations.CropPhaseSets : Prop :=
  ∀ (s : State),
    (s.cfg (hk 1) ≠ 1 → ∃ t, exec .crop s = .next t ∧ t.cropBlock = le 128 0 ∧ t.crop.yields = s.crop.yields ∧
      t.get (hk 0x23) = s.get (hk 0x23)) ∧
    (s.cfg (hk 1) = 1 → s.inReset blkCROP = true → ∃ t, exec .crop s = .next t ∧ t.crop = s.crop ∧
      t.get (hk 0x2A) = min 0xFFFFFFFF (s.get (hk 0x2A) + 1) ∧ ∀ k, k ≠ hk 0x2A → t.get k = s.get k) ∧
    (s.cfg (hk 1) = 1 → s.inReset blkCROP = false → ∃ t, exec .crop s = .next t ∧ t.cropHas 0 = true ∧
      t.cropHas 7 = decide (s.cfg (hk 2) = 1) ∧ t.crop.clock = s.crop.clock + 50 ∧
      ((s.flowOk && s.elevOk) = false → t.crop.q = s.crop.q ∧ t.cropHas 1 = false))

/-- Where an antenna's feed is enabled: a short turns it off, reads SHORT and raises its GNSS_ANT source; a second after a
short its trial turns it on and changes no object; on an enabled feed that is on, low current for its time reads OPEN
with the source raised, and normal current reads NORMAL with the source's raw state inactive, the feed staying on. -/
def Obligations.AntennaFeedStates : Prop :=
  ∀ (a : Fin 2) (s : State), s.feedEnabled a.val = true →
    (∃ t, exec (.antFeedShort a) s = .next t ∧ bit t.rx.feedOn a.val = false ∧ feedState t a.val = 3 ∧
      t.raw (srcGNSS_ANT a.val) = true) ∧
    (feedState s a.val = 3 → s.timerPast (tmFeed a.val) nsS = true →
      ∃ t, exec (.antFeedTrial a) s = .next t ∧ bit t.rx.feedOn a.val = true ∧ ∀ k, t.get k = s.get k) ∧
    (bit s.rx.feedOn a.val = true →
      (∃ t, exec (.antFeedOpen a) s = .next t ∧ t.rx = s.rx ∧ feedState t a.val = 2 ∧ t.raw (srcGNSS_ANT a.val) = true) ∧
      (∃ t, exec (.antFeedNormal a) s = .next t ∧ t.rx = s.rx ∧ feedState t a.val = 1 ∧ t.raw (srcGNSS_ANT a.val) = false))

/-- For a channel in TRACK whose carrier condition has stood its time, CARRIER_LOSS goes to CODE_ONLY; in CODE_ONLY with
good C/N0 and PLI for 100 ms, CARRIER_RESTORE returns to CARRIER with the lock time restarted and SLIP set. With the
code lost for 1 s a SCALAR channel for which nothing waits goes to REACQ and an aided one to COAST. From COAST,
COAST_RECOVER goes to TRACK and CODE_ONLY, and 5 s lead to REACQ. After 30 s without a failed check FALSE_SIGNAL_CLEAR
clears the channel's checks, and MULTIPEAK_CHECK with an idle engine and no second peak restarts the count. -/
def Obligations.ChannelCarrierAndCode : Prop :=
  ∀ (c : Nat) (s : State),
    ((s.rxc c).state = rxTRACK → (s.rxc c).codeOnly = false →
      (s.stood (s.rxc c).lowAt (200 * nsMs) = true ∨ s.stood (s.rxc c).pliLowAt (100 * nsMs) = true) →
      ∃ t, exec (.carrierLoss c) s = .next t ∧ (t.rxc c).codeOnly = true ∧ (t.rxc c).state = rxTRACK) ∧
    ((s.rxc c).state = rxTRACK → (s.rxc c).codeOnly = true → s.stood (s.rxc c).goodAt (100 * nsMs) = true →
      ∃ t, exec (.carrierRestore c) s = .next t ∧ (t.rxc c).codeOnly = false ∧ (t.rxc c).slip = true ∧
        (t.rxc c).lockAt = s.tm.mt ∧ (t.rxc c).state = rxTRACK) ∧
    ((s.rxc c).state = rxTRACK → s.stood (s.rxc c).lostAt nsS = true →
      (∀ i ∈ s.rx.work, i.ch ≠ some c) →
      ∃ t, exec (.codeLost c) s = .next t ∧ (t.rxc c).state = (if (s.rxc c).mode = 0 then rxREACQ else rxCOAST)) ∧
    ((s.rxc c).state = rxCOAST → s.stood (s.rxc c).recAt (100 * nsMs) = true →
      ∃ t, exec (.coastRecover c) s = .next t ∧ (t.rxc c).state = rxTRACK ∧ (t.rxc c).codeOnly = true) ∧
    ((s.rxc c).state = rxCOAST → (s.rxc c).since + 5 * nsS ≤ s.tm.mt → (∀ i ∈ s.rx.work, i.ch ≠ some c) →
      ∃ t, exec (.coastTimeout c) s = .next t ∧ (t.rxc c).state = rxREACQ) ∧
    ((s.rxc c).fails ≠ 0 → s.stood (s.rxc c).failAt (30 * nsS) = true →
      ∃ t, exec (.falseSignalClear c) s = .next t ∧ (t.rxc c).fails = 0 ∧ (t.rxc c).state = (s.rxc c).state) ∧
    ((s.rxc c).state = rxTRACK → none ∈ s.rx.engines →
      ∃ t, exec (.multipeakCheck c false) s = .next t ∧ (t.rxc c).peaks = 0 ∧ (t.rxc c).state = rxTRACK)

/-- A sweep that finds a cell above the threshold puts its channel, in SEARCH, VERIFY or REACQ, into VERIFY on the same
engine. A verification with at least 2 hits puts its channel, for which nothing waits, into PULL_IN and frees the
engine's hold on it; with fewer it returns the channel to SEARCH. 1 s in PULL_IN returns the channel to SEARCH. 10 s
in REACQ, where nothing waits for an engine, leave the channel IDLE. -/
def Obligations.AcquisitionMoves : Prop :=
  ∀ (s : State),
    (∀ (e : Fin 8) (w : AcqWork) (hits : Nat), s.rx.engines.getD e.val none = some w →
      ((s.rxc w.ch).state = rxSEARCH ∨ (s.rxc w.ch).state = rxVERIFY ∨ (s.rxc w.ch).state = rxREACQ) →
      (w.verify = false →
        ∃ t, exec (.acquisitionDwellDone e true hits) s = .next t ∧ (t.rxc w.ch).state = rxVERIFY ∧
          t.rx.engines = s.rx.engines.set e.val (some { w with verify := true })) ∧
      (w.verify = true → hits < 2 → ∀ above,
        ∃ t, exec (.acquisitionDwellDone e above hits) s = .next t ∧ (t.rxc w.ch).state = rxSEARCH ∧
          t.rx.engines = s.rx.engines.set e.val (some { w with verify := false })) ∧
      (w.verify = true → 2 ≤ hits → (∀ i ∈ s.rx.work, i.ch ≠ some w.ch) → ∀ above,
        ∃ t, exec (.acquisitionDwellDone e above hits) s = .next t ∧ (t.rxc w.ch).state = rxPULL_IN)) ∧
    (∀ c : Nat, (s.rxc c).state = rxPULL_IN → (s.rxc c).since + nsS ≤ s.tm.mt →
      ∃ t, exec (.pullInTimeout c) s = .next t ∧ (t.rxc c).state = rxSEARCH) ∧
    (∀ c : Nat, (s.rxc c).state = rxREACQ → (s.rxc c).since + 10 * nsS ≤ s.tm.mt → (∀ i ∈ s.rx.work, i.ch = some c) →
      ∃ t, exec (.reacqTimeout c) s = .next t ∧ (t.rxc c).state = rxIDLE ∧ t.rx.work = [])

/-- A dump without mismatch for a channel in TRACK or COAST for which nothing waits stores its C/N0 and PLI. An aiding set
issued in a frame with s a multiple of 20 while fusion runs reaches a channel in TRACK or COAST with the frame's MT,
and ends GNSS_AID's raw state. With aiding absent for 2 ms a channel in TRACK reverts to SCALAR and is counted,
GNSS_AID rising where no episode stood, and a channel in COAST for which nothing waits goes to REACQ. -/
def Obligations.DumpsAndAiding : Prop :=
  ∀ (s : State),
    (∀ d : Dump, s.inReset blkSUN = false → ((s.rxc d.ch).state = rxTRACK ∨ (s.rxc d.ch).state = rxCOAST) →
      d.mismatch = false → (∀ i ∈ s.rx.work, i.ch ≠ some d.ch) →
      ∃ t, exec (.correlatorDump d) s = .next t ∧ (t.rxc d.ch).cn0 = d.cn0 ∧ (t.rxc d.ch).pli = d.pli) ∧
    (∀ sets : List AidSet, s.tm.sched % 20 = 0 → s.cfg (ob 0x2400 1) = 1 → s.inReset blkYAR = false → sets ≠ [] →
      ∃ t, exec (.aidingSetIssue sets) s = .next t ∧ t.raw srcGNSS_AID = false ∧
        ∀ a, sets = [a] → ((s.rxc a.ch).state = rxTRACK ∨ (s.rxc a.ch).state = rxCOAST) →
          (t.rxc a.ch).aid = some a ∧ (t.rxc a.ch).aidAt = s.tm.mt + 1) ∧
    (∀ c : Nat, s.aidAbsent (s.rxc c) = true →
      ((s.rxc c).state = rxTRACK → (s.rxc c).mode ≠ 0 →
        ∃ t, exec (.aidingTimeout c) s = .next t ∧ (t.rxc c).mode = 0 ∧ (t.rxc c).state = rxTRACK ∧
          t.get (rk 0x35) = clampN 0xFFFFFFFF (s.get (rk 0x35) + 1) ∧
          (s.rx.aidEpisode = false → t.raw srcGNSS_AID = true)) ∧
      ((s.rxc c).state = rxCOAST → (∀ i ∈ s.rx.work, i.ch ≠ some c) →
        ∃ t, exec (.aidingTimeout c) s = .next t ∧ (t.rxc c).state = rxREACQ))

/-- With blanking on, a blanking window publishes the share within 1,000 and adds its samples, and the third window in a
row beyond the limit sets PULSED. A detector epoch notes the interferers seen, and with the chain's notches disabled
reads all four free. A jamming measurement publishes J/N, the AGC gain and the level. A chain SEVERE for 1 s raises
GNSS_JAM. A chain whose PLL is out of lock or whose AGC stood at its limit for 1 s goes out of use and raises GNSS_RF,
and 1 s without the condition brings it back. -/
def Obligations.InterferenceReports : Prop :=
  ∀ (c : Fin 4) (s : State),
    (∀ share n : Nat, s.cfg (rk 0x1E) = 1 →
      ∃ t, exec (.blankingWindow c share n) s = .next t ∧ t.get (rck c.val 2) = clampN 1000 share ∧
        t.get (rck c.val 3) = clampN 0xFFFFFFFF (s.get (rck c.val 3) + n) ∧
        (10 * s.cfg (rk 0x21) < share → 2 ≤ (s.rf c.val).overRun → bit (t.get (rck c.val 0)) 5 = true)) ∧
    (∀ l : List Interferer,
      ∃ t, exec (.detectorEpoch c l) s = .next t ∧ (t.rf c.val).lastSeen = l.map (fun i => i.id) ∧
        (bit (s.cfg (rk 0x1B)) c.val = false → ∀ k, k < 4 → t.get (rck c.val (4 + k)) = 0x7FFFFFFF)) ∧
    (∀ (jn agc : Nat) (limit pll : Bool),
      ∃ t, exec (.jammingMeasure c jn agc limit pll) s = .next t ∧ t.get (rck c.val 1) = clampN 65535 jn ∧
        t.get (rck c.val 8) = clampN 65535 agc ∧
        bits (t.get (rck c.val 0)) 6 2 = (if 150 ≤ jn then 2 else if 30 ≤ jn then 1 else 0)) ∧
    (s.stood (s.rf c.val).severeAt nsS = true →
      ∃ t, exec (.gnssJamRaise c) s = .next t ∧ t.raw srcGNSS_JAM = true) ∧
    ((bit (s.get (rck c.val 0)) 2 = true ∨ s.stood (s.rf c.val).limitAt nsS = true) → s.cfg (rk 1) = 1 →
      ∃ t, exec (.chainOutOfUse c) s = .next t ∧ t.chainUsed c.val = false ∧ t.raw srcGNSS_RF = true) ∧
    (s.chainUsed c.val = false → s.stood (s.rf c.val).okAt nsS = true →
      ∃ t, exec (.chainBackInUse c) s = .next t ∧ t.chainUsed c.val = true)

/-- An accepted write of corrections at the stream's running count advances the count by its length; at any other offset
it is refused with OFFSET_INVALID and leaves the stream and the count. A complete, young and usable epoch is passed:
none is left, the instant is noted and GNSS_CORR's raw state ends; one too old is dropped. When none has passed for
the age limit GNSS_CORR is raised. With any sentence enabled, sentences advance the NMEA byte count. -/
def Obligations.CorrectionsAndNmea : Prop :=
  ∀ (s : State),
    (∀ (w : Who) (off : Nat) (data : List Byte), s.accepts w 0x2300 0x26 (.blk off data) hCorrection = true →
      (off = s.get (rk 0x37) →
        ∃ t, exec (.correctionInput w off data) s = .next t ∧ t.ucp.last.status = stOK ∧
          t.get (rk 0x37) = (s.get (rk 0x37) + data.length) % 2 ^ 32) ∧
      (off ≠ s.get (rk 0x37) →
        ∃ t, exec (.correctionInput w off data) s = .next t ∧ t.ucp.last.status = stOFFSET ∧ t.rx = s.rx ∧
          t.get (rk 0x37) = s.get (rk 0x37))) ∧
    (∀ (c : CorrEpoch) (age : Nat) (usable carrier : Bool), s.rx.corr = some c → c.complete = true →
      (age ≤ 10 * s.cfg (rk 0x27) → usable = true →
        ∃ t, exec (.correctionEpochPass age usable carrier) s = .next t ∧ t.rx.corr = none ∧ t.rx.corrAt = s.tm.mt + 1 ∧
          t.raw srcGNSS_CORR = false) ∧
      (10 * s.cfg (rk 0x27) < age →
        exec (.correctionEpochPass age usable carrier) s = .next { s with rx := { s.rx with corr := none } })) ∧
    (s.stood s.rx.corrAt (s.cfg (rk 0x27) * nsS) = true →
      ∃ t, exec .gnssCorrTimeout s = .next t ∧ t.raw srcGNSS_CORR = true ∧ t.rx = s.rx) ∧
    (∀ bytes : List Byte, s.cfg (rk 0x2E) ≠ 0 → bytes ≠ [] →
      ∃ t, exec (.nmeaOutput bytes) s = .next t ∧ t.rx.nmeaCount = (s.rx.nmeaCount + bytes.length) % 2 ^ 32)

/-- RECEIVER_DATA_STORE marks what is stored and, with ephemerides among it, notes their satellites at the present MT. An
accepted hot start keeps what is stored and is hot exactly where the hot conditions hold. A start without ephemerides
discards these, and a cold start discards everything; neither is hot. -/
def Obligations.ReceiverStarts : Prop :=
  ∀ (s : State),
    (∀ (mask : Nat) (sats : List Nat), ∃ t, exec (.receiverDataStore mask sats) s = .next t ∧
      t.get (rk 0x36) = (s.get (rk 0x36) ||| mask) % 16 ∧
      t.rx.eph = (if bit mask 1 then sats.map (fun k => (k, s.tm.mt)) else s.rx.eph)) ∧
    (∀ (w : Who) (directed : List SvSig) (known : Nat) (near : Bool),
      s.accepts w 0x2300 0x34 (.num 1) (hRxStart directed known near) = true →
      ∃ t, exec (.receiverHotStart w directed known near) s = .next t ∧ t.ucp.last.status = stOK ∧
        t.rx.hot = s.mayBeHot near ∧ t.rx.eph = s.rx.eph ∧ t.get (rk 0x36) = s.get (rk 0x36)) ∧
    (∀ (w : Who) (directed : List SvSig) (known : Nat),
      s.accepts w 0x2300 0x34 (.num 2) (hRxStart directed known false) = true →
      ∃ t, exec (.receiverStartNoEph w directed known) s = .next t ∧ t.ucp.last.status = stOK ∧ t.rx.hot = false ∧
        t.rx.eph = [] ∧ t.get (rk 0x36) = setBit (s.get (rk 0x36)) 1 false) ∧
    (∀ w : Who, s.accepts w 0x2300 0x34 (.num 3) (hRxStart [] 0 false) = true →
      ∃ t, exec (.receiverColdStart w) s = .next t ∧ t.ucp.last.status = stOK ∧ t.rx.hot = false ∧ t.rx.eph = [] ∧
        t.get (rk 0x36) = 0)

/-- SEAL, in a module that is awake, moves module time by 5,000 ticks and the schedule counter by 1 modulo 200, makes the
settings of the frame before those of the sealed block, and outside a chip reset, with no configuration, map or
application table waiting, brings every object's stored value into force (objects of the fault collector, the lost
records, dropped events, frame number and module time apart). TAKE, with no map entry, copies every entry of each
partition that has committed from the write view as it stood at tick 0 into the taken view, leaves every other byte,
and ends those commits. ASSEMBLE, where every mapped input entry lies at 0x1000 or above, writes the bytes of the
fixed image into the view that is not shown, which stays, and ends the overrun flag. PUBLISH exchanges the views and
raises PI_READY of every partition, where the new view carries this frame's number and the shown one does not.
PHASE_OVERRUN counts, sets the flag and raises FRAME_OVR. -/
def Obligations.FramePhases : Prop :=
  ∀ (s : State),
    (s.awake = true →
      ∃ t, exec .sealFrame s = .next t ∧ t.tm.mt = (s.advance 5000).tm.mt ∧ t.tm.sched = (s.tm.sched + 1) % 200 ∧
        (s.pwr.chip = false → t.objsB = s.objs0 ∧
          (s.conf.load = none → s.img.newMap = none → s.img.newApps = none →
            ∀ k, faultKey k = false → k ≠ ob 0x2000 1 → k ≠ ob 0x2000 2 → k ≠ recOpms → t.cfg k = s.get k))) ∧
    (s.pilRuns = true → mapCount s.mapInForce = 0 →
      ∃ t, exec .take s = .next t ∧
        (∀ k, Tbl.get 0 t.img.taken k =
          if ∃ p : Fin 3, (s.part p.val).ready ≠ 0 ∧ k ∈ s.ownedBy p.val then Tbl.get 0 s.img.atTick0 k else Tbl.get 0 s.img.taken k) ∧
        ∀ p : Fin 3, (t.part p.val).ready = 0) ∧
    (s.pilRuns = true → (∀ e ∈ mapEntries s.mapInForce, e.dir = 0 → 0x1000 ≤ e.off) →
      ∃ t, exec .assemble s = .next t ∧ t.img.shown = s.img.shown ∧ t.img.overrun = false ∧
        ∀ (i : Nat) (b : Byte), i < 0x1000 → s.fixedImage[i]? = some b → Tbl.get 0 t.img.next i = b.toNat) ∧
    (s.pilRuns = true → viewFrame s.img.next = s.frameNo → viewFrame s.img.shown ≠ s.frameNo →
      ∃ t, exec .publish s = .next t ∧ t.img.shown = s.img.next ∧ t.img.next = s.img.shown ∧
        ∀ p : Fin 3, bit (t.part p.val).irqStatus 0 = true) ∧
    (s.framing = true →
      ∃ t, exec .phaseOverrun s = .next t ∧ t.img.overrun = true ∧
        t.get (ob 0x1400 4) = min 0xFFFFFFFF (s.get (ob 0x1400 4) + 1) ∧ t.raw srcFRAME_OVR = true)

/-- A lockstep mismatch raises the pair's source, takes the partition on the pair down with its loops held, and asks for a
spare pair. A partition that is down resumes on the spare pair where the swap asked for succeeds, and on its own pair
where no swap waits and the pair's reset has ended; 0x1410 then names the pair. CKPT and CKPT_DONE make the stored
address the checkpoint and raise the interrupt. PI_COMMIT counts a commit and ends the timeout and resume holds.
Frames without a commit that reach 0x1400.01 put the partition in the timeout hold, counted, with PI_TIMEOUT raised. A
1 written to an interrupt bit clears it. An application bus error counts and changes no other object. -/
def Obligations.PartitionsRun : Prop :=
  ∀ (s : State),
    (∀ (pair : Fin 4) (p : Nat), s.framing = true → s.inReset (blkCP pair.val) = false → s.hosted pair.val = some p →
      ∃ t, exec (.lockstepMismatch pair) s = .next t ∧ t.raw (srcCORE_CP pair.val) = true ∧ (t.part p).down = true ∧
        (t.part p).resumeHold = true ∧ (t.reqOf 0 pair.val).isSome = true) ∧
    (∀ (p : Fin 3) (verify : List Bool) (dur x : Nat), s.partsRun = true →
      SwapReady s 0 (s.get (ob 0x1410 (4 + p.val))) x → verify.headD true = true →
      ∃ t, exec (.partitionResume p verify dur) s = .next t ∧ t.get (ob 0x1410 (4 + p.val)) = x ∧ (t.part p.val).down = false ∧
        (t.part p.val).resumeHold = true) ∧
    (∀ (p : Fin 3) (verify : List Bool) (dur : Nat), s.partsRun = true → (s.part p.val).down = true →
      s.reqOf 0 (s.get (ob 0x1410 (4 + p.val))) = none → s.inReset (blkCP (s.get (ob 0x1410 (4 + p.val)))) = false →
      ∃ t, exec (.partitionResume p verify dur) s = .next t ∧ (t.part p.val).down = false ∧ (t.part p.val).resumeHold = true ∧
        ∀ k, t.get k = s.get k) ∧
    (∀ (p : Fin 3) (addr : Nat), s.partRuns p.val = true →
      ∃ t, exec (.ckpt p addr) s = .next t ∧ (t.part p.val).ckptBusy = some addr ∧
        ∃ u, exec (.ckptDone p) t = .next u ∧ (u.part p.val).ckpt = addr ∧ (u.part p.val).ckptBusy = none ∧
          bit (u.part p.val).irqStatus 2 = true) ∧
    (∀ (p : Fin 3) (l : List (Nat × Nat)), s.partRuns p.val = true →
      ∃ t, exec (.piCommit p l) s = .next t ∧ (t.part p.val).commits = (s.part p.val).commits + 1 ∧
        (t.part p.val).timedOut = false ∧ (t.part p.val).resumeHold = false) ∧
    (∀ p : Fin 3, s.partRuns p.val = true → s.cfg (ob 0x1400 1) ≠ 0 → s.cfg (ob 0x1400 1) ≤ (s.part p.val).idle →
      (s.part p.val).commits = 0 → (s.part p.val).timedOut = false → (s.part p.val).resumeHold = false →
      ∃ t, exec (.piTimeout p) s = .next t ∧ (t.part p.val).timedOut = true ∧
        t.get (ob 0x1400 2) = min 0xFFFFFFFF (s.get (ob 0x1400 2) + 1)) ∧
    (∀ (p : Fin 3) (w : Nat), s.partRuns p.val = true →
      ∃ t, exec (.irqStatus p w) s = .next t ∧
        ∀ i, i < 3 → bit (t.part p.val).irqStatus i = (bit (s.part p.val).irqStatus i && !bit w i)) ∧
    (∃ t, exec .appBusError s = .next t ∧ t.get (ob 0x1400 5) = min 0xFFFFFFFF (s.get (ob 0x1400 5) + 1) ∧
      ∀ k, k ≠ ob 0x1400 5 → t.get k = s.get k)

/-- Where a partition's writes go to entries that it does not own, each of them counts a bus error in 0x1400.05 and the
write view stays as it was, every byte of it. -/
def Obligations.UnownedEntryStays : Prop :=
  ∀ (s : State) (p : Fin 3) (l : List (Nat × Nat)), s.partRuns p.val = true → l ≠ [] →
    (∀ e ∈ l, ∃ o n, s.outField e.1 = some (o, n) ∧ o ≠ p.val) →
    ∃ t, exec (.piCommit p l) s = .next t ∧ t.img.wview = s.img.wview ∧
      t.get (ob 0x1400 5) = min 0xFFFFFFFF (s.get (ob 0x1400 5) + l.length)

/-- FAULT_OCCURRENCE on an existing source that is not ACTIVE leaves it RAW, ACTIVE and PENDING. FAULT_AUTO_CLEAR of a raw
source that is not forced leaves it neither RAW nor ACTIVE, and no longer pending where its clear mode is AUTO. A
force of an existing source that passes its checks sets FORCED and ACTIVE and leaves RAW; the end of a force clears
FORCED, leaves RAW, and leaves ACTIVE equal to RAW. (REC_LOST and UCP_EVQ, which posting a record or an event can
itself raise again, are left out of the clauses on what ends.) -/
def Obligations.SourceOccursAndEnds : Prop :=
  (∀ (src : Fin 512) (code : Nat) (s : State), srcExists src.val = true → s.active src.val = false →
    ∃ t, exec (.faultOccurrence src code) s = .next t ∧ t.raw src.val = true ∧ t.active src.val = true ∧ t.isPending src.val = true) ∧
  (∀ (src : Fin 512) (s : State), srcExists src.val = true → src.val ≠ srcREC_LOST → src.val ≠ srcUCP_EVQ →
    s.raw src.val = true → s.active src.val = true → s.forced src.val = false →
    ∃ t, exec (.faultAutoClear src) s = .next t ∧ t.raw src.val = false ∧ t.active src.val = false ∧
      (bit (s.get (cfgKey src.val)) 13 = false → t.isPending src.val = false)) ∧
  (∀ (who : Who) (src : Nat) (s : State), src < 512 → src ≠ srcREC_LOST → src ≠ srcUCP_EVQ →
    (s.accepts who 0x2800 0x10 (.num src) (hForce true) = true →
      ∃ t, exec (.forceSet who src) s = .next t ∧ t.forced src = true ∧ t.active src = true ∧ t.raw src = s.raw src) ∧
    (s.accepts who 0x2800 0x11 (.num src) (hForce false) = true →
      ∃ t, exec (.forceClear who src) s = .next t ∧ t.forced src = false ∧ t.raw src = s.raw src ∧ t.active src = s.raw src))

/-- A clear request for a source that passes its checks answers OK and leaves it not pending where the source is not
ACTIVE, and answers BUSY and leaves it pending as it was where it is ACTIVE. The request that clears all answers OK
and leaves no source pending that was not ACTIVE, and leaves pending as it was each that is ACTIVE. A source whose
STEP is not 0 and whose decay time has passed since its last occurrence has STEP 0, with no other object changed.
(REC_LOST and UCP_EVQ, which posting the record of a clear can itself raise, are left out.) -/
def Obligations.PendingSourcesCleared : Prop :=
  ∀ (who : Who) (s : State),
    (∀ src : Nat, src < 512 → src ≠ srcREC_LOST → src ≠ srcUCP_EVQ → s.accepts who 0x2800 0x12 (.num src) hFaultClear = true →
      ∃ t, exec (.faultClearRequest who src) s = .next t ∧
        (s.active src = false → t.ucp.last.status = stOK ∧ t.isPending src = false) ∧
        (s.active src = true → t.ucp.last.status = stBUSY ∧ t.isPending src = s.isPending src)) ∧
    (s.accepts who 0x2800 0x13 (.num 1) hFaultClearAll = true →
      ∃ t, exec (.faultClearAll who) s = .next t ∧ t.ucp.last.status = stOK ∧
        ∀ src : Nat, src < 512 → src ≠ srcREC_LOST → src ≠ srcUCP_EVQ →
          (s.active src = false → t.isPending src = false) ∧ (s.active src = true → t.isPending src = s.isPending src)) ∧
    (∀ src : Fin 512, s.escStep src.val ≠ 0 → Tbl.get 0 s.flt.lastMt src.val ≠ 0 →
      Tbl.get 0 s.flt.lastMt src.val + s.get (ob 0x2800 7) * nsS ≤ s.tm.mt + 1 →
      ∃ t, exec (.stepDecay src) s = .next t ∧ t.escStep src.val = 0 ∧ ∀ k, k ≠ stKey src.val → t.get k = s.get k)

/-- DIE_TEMP, HOLLY_SELF, CLK_PLL and SUP_MON are RAW exactly as their findings say. A mismatch of Lupin's rails raises
SPARE_FAIL; an uncorrectable word counts a bus error and raises SRAM_UE. A sample of FAULT_SNS that does not count
changes no more than the pin's bit 2; the tenth high sample in a row that counts while the pin is driven raises
FLT_PIN; a low one ends the run; with the pin not driven, bit 1 tells whether something else holds it low. -/
def Obligations.LevelSourcesFollow : Prop :=
  ∀ (s : State),
    (∀ b : Bool, ∃ t, exec (.dieTempExceed b) s = .next t ∧ t.raw srcDIE_TEMP = b) ∧
    (∀ b : Bool, ∃ t, exec (.hollyhockRailMismatch b) s = .next t ∧ t.raw srcHOLLY_SELF = b) ∧
    (∀ b : Bool, ∃ t, exec (.clkPllLoss b) s = .next t ∧ t.raw srcCLK_PLL = b) ∧
    (∀ b : Bool, ∃ t, exec (.supplyMonitorFault b) s = .next t ∧ t.raw srcSUP_MON = b) ∧
    (∃ t, exec .lupinRailMismatch s = .next t ∧ t.raw srcSPARE_FAIL = true) ∧
    (∀ bank word : Nat, ∃ t, exec (.sramUncorrectableError bank word) s = .next t ∧ t.raw srcSRAM_UE = true ∧
      t.get (ob 0x1400 5) = min 0xFFFFFFFF (s.get (ob 0x1400 5) + 1)) ∧
    (∀ h : Bool, ∃ t, exec (.faultSnsSample h false) s = .next t ∧ bit (t.get faultPin) 2 = h ∧ t.flt = s.flt ∧
      ∀ k, k ≠ faultPin → t.get k = s.get k) ∧
    (bit (s.get faultPin) 0 = true → s.flt.snsRun = 9 →
      ∃ t, exec (.faultSnsSample true true) s = .next t ∧ t.raw srcFLT_PIN = true) ∧
    (bit (s.get faultPin) 0 = true → s.raw srcFLT_PIN = true →
      ∃ t, exec (.faultSnsSample false true) s = .next t ∧ t.raw srcFLT_PIN = false) ∧
    (bit (s.get faultPin) 0 = false → ∃ t, exec (.faultSnsSample true true) s = .next t ∧ bit (t.get faultPin) 1 = false ∧ t.flt.snsRun = 0)

/-- Where a swap of an element has been asked for and can start, and its first ready spare passes its verification, the
swap command of its pool takes the element out, with its swaps counted, puts the spare into service for it, ends the
request, and counts the swap in the module's and in the pool's count: SPARE_SWAP for the pools of lanes, cells,
correlator banks, converters and IMUs; SRAM_BANK_COPY, which also poisons in the spare the words it could not correct;
SPARE_CONVERTER_SWITCH, after which 0x21nn.19 reads 1 and the converter's source is inactive; BANK_SWAP; IMU_SWAP at a
sample instant; CELL_SWAP, after which the channel's status names the cell; CAN_CONTROLLER_SWAP, after which the
port's controller object holds the spare. -/
def Obligations.RequestedSwaps : Prop :=
  ∀ (s : State) (verify : List Bool) (dur e x : Nat), verify.headD true = true →
    (∀ p : Fin 8, p.val ≠ 0 → p.val ≠ 2 → p.val ≠ 4 → SwapReady s p.val e x →
      ∃ t, exec (.spareSwap p e verify dur) s = .next t ∧ Swapped s t p.val e x) ∧
    (∀ (b : Fin 64) (words : List Nat), SwapReady s 2 b.val x →
      ∃ t, exec (.sramBankCopy b words verify dur) s = .next t ∧ Swapped s t 2 b.val x ∧
        ∀ w ∈ words, w < 65536 → x * 65536 + w ∈ t.sp.poisoned) ∧
    (∀ c : Fin 64, SwapReady s 6 c.val x →
      ∃ t, exec (.spareConverterSwitch c verify dur) s = .next t ∧ Swapped s t 6 c.val x ∧ t.get (ik c.val 0x19) = 1 ∧
        t.raw (srcADC c.val) = false) ∧
    (∀ b : Fin 26, SwapReady s 5 b.val x →
      ∃ t, exec (.bankSwap b verify dur) s = .next t ∧ Swapped s t 5 b.val x ∧ t.rx.bankSwap = true ∧ t.rx.chans = s.rx.chans) ∧
    (∀ n : Fin 4, s.tm.sched % 10 = 0 → SwapReady s 7 n.val x →
      ∃ t, exec (.imuSwap n verify dur) s = .next t ∧ Swapped s t 7 n.val x) ∧
    (∀ (c : Fin 64) (side : Fin 2), SwapReady s 3 (s.activeCell c.val side.val) x →
      ∃ t, exec (.cellSwap c side false verify dur) s = .next t ∧ Swapped s t 3 (s.activeCell c.val side.val) x ∧
        bits (t.get (xk c.val 0x27)) side.val 1 = x % 2 ∧ t.outs = s.outs) ∧
    (∀ (p : Fin 8) (b : Bool), s.inReset (blkCAN p.val) = false → s.dev ≠ dsSTANDBY → SwapReady s 4 (s.ctrl p.val) x →
      ∃ t, exec (.canControllerSwap p verify dur b) s = .next t ∧ Swapped s t 4 (s.ctrl p.val) x ∧ t.get (cank p.val 0x13) = x)

/-- An element in its self-test for 1 s becomes a ready spare when it passes and failed when it does not. The test of a
spare that is not in use does the same, except for switch cells and for an IMU whose state is not spare. A scrub of a
bank in service writes the corrected errors of the hour to its gauge; at the threshold, or with one word corrected
twice, it raises SRAM_CE and asks for the bank's swap; below, no swap is asked. A wear crossing, of any pool but the
IMUs, writes the gauge and asks for the swap. -/
def Obligations.ElementsTested : Prop :=
  ∀ (s : State),
    (∀ (p : Fin 8) (e : Nat) (pass : Bool), (s.elem p.val e).state = 5 → s.timerPast (0x100000 + elKey p.val e) nsS = true →
      ∃ t, exec (.elementSelftestDone p e pass) s = .next t ∧ (t.elem p.val e).state = (if pass then 1 else 4)) ∧
    (∀ (p : Fin 8) (e : Nat) (pass : Bool), p.val ≠ 3 → (p.val = 7 → s.get (ob 0x2400 (0x40 + 8 * e)) = 1) →
      ((s.elem p.val e).state = 1 ∨ (s.elem p.val e).state = 2) →
      ∃ t, exec (.spareTest p e pass) s = .next t ∧ (t.elem p.val e).state = (if pass then 1 else 4)) ∧
    (∀ (b : Fin 68) (n new : Nat) (sameWord : Bool), (s.elem 2 b.val).state = 0 →
      ∃ t, exec (.sramScrub b n new sameWord) s = .next t ∧ (t.elem 2 b.val).v1 = min 0xFFFFFFFF n ∧
        (t.elem 2 b.val).v2 = min 0xFFFFFFFF ((s.elem 2 b.val).v2 + new) ∧
        (s.get (ob 0x2900 0x14) ≤ n ∨ sameWord = true → t.raw srcSRAM_CE = true ∧ (t.reqOf 2 b.val).isSome = true) ∧
        (n < s.get (ob 0x2900 0x14) → sameWord = false → t.sp.reqs = s.sp.reqs ∧ ∀ k, t.get k = s.get k)) ∧
    (∀ (p : Fin 8) (e g level v1 v2 : Nat), p.val ≠ 7 → e < poolSize p.val →
      ∃ t, exec (.wearCrossing p e g level v1 v2) s = .next t ∧ (t.elem p.val e).level = level ∧ (t.elem p.val e).gauge = g ∧
        (t.elem p.val e).state = (s.elem p.val e).state ∧ (t.reqOf p.val e).isSome = true ∧ ∀ k, t.get k = s.get k)

/-- A write of one of 0x1410.01 to 0x1410.03 that passes every other check, and whose role may not write an object that an
output entry of that partition names, is answered with OUT_OF_RANGE, and no object changes. -/
def Obligations.PortRoleHeld : Prop :=
  ∀ (s : State) (w : Who) (p : Fin 3) (b : Byte) (f : Facts) (e : MapEnt) (d : Desc), s.dev ≠ dsSTANDBY →
    s.checkWrite w 0x1410 (p.val + 1) (.num b.toNat) (Handler.simple fun u _ _ => (u, stOK)) = stOK →
    e ∈ mapEntries s.mapInForce → e.dir = 1 → e.owner = p.val → s.descOf e.idx e.sub = some d →
    (Role.ofCode b.toNat).mayWrite d.wrole = false →
    ∃ t, exec (.write w 0x1410 (p.val + 1) 0 0 [b] f) s = .next t ∧ t.ucp.last.status = stRANGE ∧
      (∀ k, t.get k = s.get k) ∧ (∀ k, t.getB k = s.getB k)
end

