-- ==== Sys2Proof/Laws/Tbl.lean ====
section
/-! SUPPORT. Sparse tables: what is read after a write, and that every operation keeps the canonical form. -/

namespace Sys2Proof.Machine

variable {α : Type}

theorem getD_range_map (d : α) {n i : Nat} (h : i < n) (f : Nat → α) : ((List.range n).map f).getD i d = f i := by
  simp [List.getD_eq_getElem?_getD, h]
theorem everyOf_getD (d : α) {n i : Nat} (h : i < n) (l : List α) (f : α → α) : (everyOf d n l f).getD i d = f (l.getD i d) :=
  getD_range_map d h _
theorem oneOf_getD (d : α) {n i : Nat} (h : i < n) (l : List α) (f : α → α) : (oneOf d n l i f).getD i d = f (l.getD i d) := by
  unfold oneOf; rw [getD_range_map d h, if_pos rfl]
theorem oneOf_getD_ne (d : α) {n i j : Nat} (h : j < n) (hij : j ≠ i) (l : List α) (f : α → α) : (oneOf d n l i f).getD j d = l.getD j d := by
  unfold oneOf; rw [getD_range_map d h, if_neg hij]

@[simp] theorem Tbl.get_nil (d : α) (k : Nat) : Tbl.get d [] k = d := rfl

@[simp] theorem Tbl.get_erase_same (d : α) (t : Tbl α) (k : Nat) : Tbl.get d (Tbl.erase t k) k = d := by
  induction t with
  | nil => rfl
  | cons p rest ih =>
    obtain ⟨j, v⟩ := p
    by_cases h : k = j <;> simp [Tbl.erase, Tbl.get, h] <;> simpa [h] using ih

theorem Tbl.get_erase_other (d : α) (t : Tbl α) {j k : Nat} (h : k ≠ j) : Tbl.get d (Tbl.erase t j) k = Tbl.get d t k := by
  induction t with
  | nil => rfl
  | cons p rest ih =>
    obtain ⟨i, v⟩ := p
    by_cases hj : j = i
    · subst hj; simp [Tbl.erase, Tbl.get, h, ih]
    · by_cases hk : k = i <;> simp [Tbl.erase, Tbl.get, hj, hk, ih]

@[simp] theorem Tbl.get_insert_same (d : α) (t : Tbl α) (k : Nat) (v : α) : Tbl.get d (Tbl.insert t k v) k = v := by
  induction t with
  | nil => simp [Tbl.insert, Tbl.get]
  | cons p rest ih =>
    obtain ⟨j, w⟩ := p
    by_cases hlt : k < j
    · simp [Tbl.insert, Tbl.get, hlt]
    · by_cases he : k = j
      · simp [Tbl.insert, Tbl.get, he]
      · simp [Tbl.insert, Tbl.get, hlt, he, ih]

theorem Tbl.get_insert_other (d : α) (t : Tbl α) {j k : Nat} (v : α) (h : k ≠ j) :
    Tbl.get d (Tbl.insert t j v) k = Tbl.get d t k := by
  induction t with
  | nil => simp [Tbl.insert, Tbl.get, h]
  | cons p rest ih =>
    obtain ⟨i, w⟩ := p
    by_cases hlt : j < i
    · simp [Tbl.insert, Tbl.get, hlt, h]
    · by_cases he : j = i
      · subst he; simp [Tbl.insert, Tbl.get, h]
      · by_cases hk : k = i <;> simp [Tbl.insert, Tbl.get, hlt, he, hk, ih]

theorem Tbl.above_mono {j k : Nat} (h : j ≤ k) : ∀ {t : Tbl α}, Tbl.above k t = true → Tbl.above j t = true
  | [], _ => rfl
  | (i, _) :: rest, hk => by
    simp only [Tbl.above, Bool.and_eq_true, decide_eq_true_eq] at hk ⊢
    exact ⟨by omega, Tbl.above_mono h hk.2⟩

theorem Tbl.above_erase {j : Nat} (k : Nat) : ∀ {t : Tbl α}, Tbl.above j t = true → Tbl.above j (Tbl.erase t k) = true
  | [], _ => rfl
  | (i, v) :: rest, h => by
    simp only [Tbl.above, Bool.and_eq_true, decide_eq_true_eq] at h
    unfold Tbl.erase
    split
    · exact Tbl.above_erase k h.2
    · simp [Tbl.above, h.1, Tbl.above_erase k h.2]

theorem Tbl.above_insert {j k : Nat} (hjk : j < k) (v : α) :
    ∀ {t : Tbl α}, Tbl.above j t = true → Tbl.above j (Tbl.insert t k v) = true
  | [], _ => by simp [Tbl.insert, Tbl.above, hjk]
  | (i, w) :: rest, h => by
    simp only [Tbl.above, Bool.and_eq_true, decide_eq_true_eq] at h
    unfold Tbl.insert
    split
    · simp [Tbl.above, hjk, h.1, h.2]
    · split
      · simp [Tbl.above, hjk, h.2]
      · simp [Tbl.above, h.1, Tbl.above_insert hjk v h.2]

theorem Tbl.rising_erase (k : Nat) : ∀ {t : Tbl α}, Tbl.rising t = true → Tbl.rising (Tbl.erase t k) = true
  | [], _ => rfl
  | (i, v) :: rest, h => by
    simp only [Tbl.rising, Bool.and_eq_true] at h
    unfold Tbl.erase
    split
    · exact Tbl.rising_erase k h.2
    · simp [Tbl.rising, Tbl.above_erase k h.1, Tbl.rising_erase k h.2]

theorem Tbl.rising_insert (k : Nat) (v : α) : ∀ {t : Tbl α}, Tbl.rising t = true → Tbl.rising (Tbl.insert t k v) = true
  | [], _ => rfl
  | (i, w) :: rest, h => by
    simp only [Tbl.rising, Bool.and_eq_true] at h
    unfold Tbl.insert
    split
    · next hlt => simp [Tbl.rising, Tbl.above, hlt, Tbl.above_mono (Nat.le_of_lt hlt) h.1, h.1, h.2]
    · split
      · next he => subst he; simp [Tbl.rising, h.1, h.2]
      · simp [Tbl.rising, Tbl.above_insert (by omega : i < k) v h.1, Tbl.rising_insert k v h.2]

theorem Tbl.above_filter {j : Nat} (p : Nat × α → Bool) : ∀ {t : Tbl α}, Tbl.above j t = true → Tbl.above j (t.filter p) = true
  | [], _ => rfl
  | (i, v) :: rest, h => by
    simp only [Tbl.above, Bool.and_eq_true, decide_eq_true_eq] at h
    rw [List.filter_cons]
    split
    · simp [Tbl.above, h.1, Tbl.above_filter p h.2]
    · exact Tbl.above_filter p h.2

variable [DecidableEq α]

/-- Reading the key that was written gives the value written. -/
@[simp] theorem Tbl.get_set_same (d : α) (t : Tbl α) (k : Nat) (v : α) : Tbl.get d (Tbl.set d t k v) k = v := by
  unfold Tbl.set
  split
  · next h => rw [Tbl.get_erase_same, h]
  · exact Tbl.get_insert_same d t k v

/-- Every other key reads as before, whatever the unlisted value of the written one is. -/
theorem Tbl.get_set_other (d e : α) (t : Tbl α) {j k : Nat} (v : α) (h : k ≠ j) :
    Tbl.get e (Tbl.set d t j v) k = Tbl.get e t k := by
  unfold Tbl.set
  split
  · exact Tbl.get_erase_other e t h
  · exact Tbl.get_insert_other e t v h

theorem Tbl.sparse_erase (d : Nat → α) (k : Nat) : ∀ {t : Tbl α}, Tbl.sparse d t = true → Tbl.sparse d (Tbl.erase t k) = true
  | [], _ => rfl
  | (i, v) :: rest, h => by
    simp only [Tbl.sparse, Bool.and_eq_true, decide_eq_true_eq] at h
    unfold Tbl.erase
    split
    · exact Tbl.sparse_erase d k h.2
    · simp [Tbl.sparse, h.1, Tbl.sparse_erase d k h.2]

theorem Tbl.sparse_insert (d : Nat → α) (k : Nat) {v : α} (hv : v ≠ d k) :
    ∀ {t : Tbl α}, Tbl.sparse d t = true → Tbl.sparse d (Tbl.insert t k v) = true
  | [], _ => by simp [Tbl.insert, Tbl.sparse, hv]
  | (i, w) :: rest, h => by
    simp only [Tbl.sparse, Bool.and_eq_true, decide_eq_true_eq] at h
    unfold Tbl.insert
    split
    · simp [Tbl.sparse, hv, h.1, h.2]
    · split
      · simp [Tbl.sparse, hv, h.2]
      · simp [Tbl.sparse, h.1, Tbl.sparse_insert d k hv h.2]

/-- A write keeps the canonical form. -/
theorem Tbl.wf_set (d : Nat → α) {t : Tbl α} (k : Nat) (v : α) (h : Tbl.wf d t = true) : Tbl.wf d (Tbl.set (d k) t k v) = true := by
  simp only [Tbl.wf, Bool.and_eq_true] at h
  unfold Tbl.set
  split
  · simp [Tbl.wf, Tbl.rising_erase k h.1, Tbl.sparse_erase d k h.2]
  · next hv => simp [Tbl.wf, Tbl.rising_insert k v h.1, Tbl.sparse_insert d k hv h.2]

/-- Dropping entries keeps the canonical form. -/
theorem Tbl.wf_filter (d : Nat → α) (p : Nat × α → Bool) : ∀ {t : Tbl α}, Tbl.wf d t = true → Tbl.wf d (t.filter p) = true
  | [], _ => rfl
  | (i, v) :: rest, h => by
    simp only [Tbl.wf, Tbl.rising, Tbl.sparse, Bool.and_eq_true, decide_eq_true_eq] at h
    have hr : Tbl.wf d (rest.filter p) = true := Tbl.wf_filter d p (by simp [Tbl.wf, h.1.2, h.2.2])
    rw [List.filter_cons]
    split
    · simp only [Tbl.wf, Bool.and_eq_true] at hr
      simp [Tbl.wf, Tbl.rising, Tbl.sparse, Tbl.above_filter p h.1.1, hr.1, hr.2, h.2.1]
    · exact hr

omit [DecidableEq α] in
/-- A filter leaves a key alone that it lets through with every value. -/
theorem Tbl.get_filter (d : α) (p : Nat × α → Bool) {k : Nat} (h : ∀ v, p (k, v) = true) : ∀ (t : Tbl α),
    Tbl.get d (t.filter p) k = Tbl.get d t k
  | [] => rfl
  | (j, w) :: rest => by
    by_cases hj : k = j
    · subst hj
      rw [List.filter_cons_of_pos (h w)]
      simp [Tbl.get]
    · have ih := Tbl.get_filter d p h rest
      by_cases hp : p (j, w) = true
      · rw [List.filter_cons_of_pos hp]
        simp [Tbl.get, hj, ih]
      · rw [List.filter_cons_of_neg hp, ih]
        simp [Tbl.get, hj]

/-- An empty table is in canonical form. -/
@[simp] theorem Tbl.wf_nil (d : Nat → α) : Tbl.wf d ([] : Tbl α) = true := rfl

end Sys2Proof.Machine
end

