-- ==== Sys2Proof/Laws/Kept.lean ====
section
/-! SUPPORT. Footprints: what an operation may change. `Kept F m t` says that t is reached from m by changes inside the
footprint F only, and that the object store has kept its canonical form. The files after this one hold one lemma for each
operation of the model, which says so of it under the permissions it needs; a proof about a command cites it. -/

namespace Sys2Proof.Machine

open Sys2Proof

/-- Every object whose index begins with the byte g may change. -/
def Foot.grp (F : Foot) (g : Nat) : Prop := ∀ k, k / 65536 = g → F.idx k = true

/-- What a write to an object does stays inside F. -/
def Handler.Stays (F : Foot) (h : Handler) : Prop := ∀ (m s : State) (w : Who) (v : Val), Kept F m s → Kept F m (h.run s w v).1

variable {F : Foot} {m s : State}

theorem Kept.refl (F : Foot) (s : State) : Kept F s s where
  tables := id
  objs0 := .inr rfl
  objsB := .inr rfl
  get := fun _ => .inr rfl
  getB := fun _ => .inr rfl
  apps := .inr rfl
  tm := .inr rfl
  parts := .inr rfl
  img := .inr rfl
  inp := .inr rfl
  rx := .inr rfl
  nav := .inr rfl
  crop := .inr rfl
  lark := .inr rfl
  outs := .inr rfl
  fox := .inr rfl
  can := .inr rfl
  flt := .inr rfl
  rcd := .inr rfl
  nv := .inr rfl
  sp := .inr rfl
  ucp := .inr rfl
  sec := .inr rfl
  eth := .inr rfl
  conf := .inr rfl
  upd := .inr rfl
  pwr := .inr rfl
  timers := .inr rfl
  free := .inr rfl
  pending := .inr rfl

theorem Kept.get_eq {t : State} (h : Kept F m t) {k : Nat} (hk : F.idx k = false) : t.get k = m.get k :=
  (h.get k).resolve_left (by simp [hk])
theorem Kept.getB_eq {t : State} (h : Kept F m t) {k : Nat} (hk : F.idx k = false) : t.getB k = m.getB k :=
  (h.getB k).resolve_left (by simp [hk])
theorem Kept.apps_eq {t : State} (h : Kept F m t) (hf : F.apps = false) : t.apps = m.apps := h.apps.resolve_left (by simp [hf])
theorem Kept.tm_eq {t : State} (h : Kept F m t) (hf : F.tm = false) : t.tm = m.tm := h.tm.resolve_left (by simp [hf])
theorem Kept.parts_eq {t : State} (h : Kept F m t) (hf : F.parts = false) : t.parts = m.parts := h.parts.resolve_left (by simp [hf])
theorem Kept.img_eq {t : State} (h : Kept F m t) (hf : F.img = false) : t.img = m.img := h.img.resolve_left (by simp [hf])
theorem Kept.inp_eq {t : State} (h : Kept F m t) (hf : F.inp = false) : t.inp = m.inp := h.inp.resolve_left (by simp [hf])
theorem Kept.rx_eq {t : State} (h : Kept F m t) (hf : F.rx = false) : t.rx = m.rx := h.rx.resolve_left (by simp [hf])
theorem Kept.nav_eq {t : State} (h : Kept F m t) (hf : F.nav = false) : t.nav = m.nav := h.nav.resolve_left (by simp [hf])
theorem Kept.crop_eq {t : State} (h : Kept F m t) (hf : F.crop = false) : t.crop = m.crop := h.crop.resolve_left (by simp [hf])
theorem Kept.lark_eq {t : State} (h : Kept F m t) (hf : F.lark = false) : t.lark = m.lark := h.lark.resolve_left (by simp [hf])
theorem Kept.outs_eq {t : State} (h : Kept F m t) (hf : F.outs = false) : t.outs = m.outs := h.outs.resolve_left (by simp [hf])
theorem Kept.fox_eq {t : State} (h : Kept F m t) (hf : F.fox = false) : t.fox = m.fox := h.fox.resolve_left (by simp [hf])
theorem Kept.can_eq {t : State} (h : Kept F m t) (hf : F.can = false) : t.can = m.can := h.can.resolve_left (by simp [hf])
theorem Kept.flt_eq {t : State} (h : Kept F m t) (hf : F.flt = false) : t.flt = m.flt := h.flt.resolve_left (by simp [hf])
theorem Kept.rcd_eq {t : State} (h : Kept F m t) (hf : F.rcd = false) : t.rcd = m.rcd := h.rcd.resolve_left (by simp [hf])
theorem Kept.nv_eq {t : State} (h : Kept F m t) (hf : F.nv = false) : t.nv = m.nv := h.nv.resolve_left (by simp [hf])
theorem Kept.sp_eq {t : State} (h : Kept F m t) (hf : F.sp = false) : t.sp = m.sp := h.sp.resolve_left (by simp [hf])
theorem Kept.ucp_eq {t : State} (h : Kept F m t) (hf : F.ucp = false) : t.ucp = m.ucp := h.ucp.resolve_left (by simp [hf])
theorem Kept.sec_eq {t : State} (h : Kept F m t) (hf : F.sec = false) : t.sec = m.sec := h.sec.resolve_left (by simp [hf])
theorem Kept.eth_eq {t : State} (h : Kept F m t) (hf : F.eth = false) : t.eth = m.eth := h.eth.resolve_left (by simp [hf])
theorem Kept.conf_eq {t : State} (h : Kept F m t) (hf : F.conf = false) : t.conf = m.conf := h.conf.resolve_left (by simp [hf])
theorem Kept.upd_eq {t : State} (h : Kept F m t) (hf : F.upd = false) : t.upd = m.upd := h.upd.resolve_left (by simp [hf])
theorem Kept.pwr_eq {t : State} (h : Kept F m t) (hf : F.pwr = false) : t.pwr = m.pwr := h.pwr.resolve_left (by simp [hf])
theorem Kept.timers_eq {t : State} (h : Kept F m t) (hf : F.timers = false) : t.timers = m.timers := h.timers.resolve_left (by simp [hf])
theorem Kept.free_eq {t : State} (h : Kept F m t) (hf : F.free = false) : t.free = m.free := h.free.resolve_left (by simp [hf])
theorem Kept.pending_eq {t : State} (h : Kept F m t) (hf : F.pending = false) : t.pending = m.pending := h.pending.resolve_left (by simp [hf])

/-! ### One field changed -/

@[simp ↓] theorem Kept.set_apps {x : _} (hk : Kept F m s) (h : F.apps = true) :
    Kept F m { s with apps := x } :=
  { hk with apps := .inl h }
@[simp ↓] theorem Kept.set_tm {x : _} (hk : Kept F m s) (h : F.tm = true) :
    Kept F m { s with tm := x } :=
  { hk with tm := .inl h }
@[simp ↓] theorem Kept.set_parts {x : _} (hk : Kept F m s) (h : F.parts = true) :
    Kept F m { s with parts := x } :=
  { hk with parts := .inl h }
@[simp ↓] theorem Kept.set_img {x : _} (hk : Kept F m s) (h : F.img = true) :
    Kept F m { s with img := x } :=
  { hk with img := .inl h }
@[simp ↓] theorem Kept.set_inp {x : _} (hk : Kept F m s) (h : F.inp = true) :
    Kept F m { s with inp := x } :=
  { hk with inp := .inl h }
@[simp ↓] theorem Kept.set_rx {x : _} (hk : Kept F m s) (h : F.rx = true) :
    Kept F m { s with rx := x } :=
  { hk with rx := .inl h }
@[simp ↓] theorem Kept.set_nav {x : _} (hk : Kept F m s) (h : F.nav = true) :
    Kept F m { s with nav := x } :=
  { hk with nav := .inl h }
@[simp ↓] theorem Kept.set_crop {x : _} (hk : Kept F m s) (h : F.crop = true) :
    Kept F m { s with crop := x } :=
  { hk with crop := .inl h }
@[simp ↓] theorem Kept.set_lark {x : _} (hk : Kept F m s) (h : F.lark = true) :
    Kept F m { s with lark := x } :=
  { hk with lark := .inl h }
@[simp ↓] theorem Kept.set_outs {x : _} (hk : Kept F m s) (h : F.outs = true) :
    Kept F m { s with outs := x } :=
  { hk with outs := .inl h }
@[simp ↓] theorem Kept.set_fox {x : _} (hk : Kept F m s) (h : F.fox = true) :
    Kept F m { s with fox := x } :=
  { hk with fox := .inl h }
@[simp ↓] theorem Kept.set_can {x : _} (hk : Kept F m s) (h : F.can = true) :
    Kept F m { s with can := x } :=
  { hk with can := .inl h }
@[simp ↓] theorem Kept.set_flt {x : _} (hk : Kept F m s) (h : F.flt = true) :
    Kept F m { s with flt := x } :=
  { hk with flt := .inl h }
@[simp ↓] theorem Kept.set_rcd {x : _} (hk : Kept F m s) (h : F.rcd = true) :
    Kept F m { s with rcd := x } :=
  { hk with rcd := .inl h }
@[simp ↓] theorem Kept.set_nv {x : _} (hk : Kept F m s) (h : F.nv = true) :
    Kept F m { s with nv := x } :=
  { hk with nv := .inl h }
@[simp ↓] theorem Kept.set_sp {x : _} (hk : Kept F m s) (h : F.sp = true) :
    Kept F m { s with sp := x } :=
  { hk with sp := .inl h }
@[simp ↓] theorem Kept.set_ucp {x : _} (hk : Kept F m s) (h : F.ucp = true) :
    Kept F m { s with ucp := x } :=
  { hk with ucp := .inl h }
@[simp ↓] theorem Kept.set_sec {x : _} (hk : Kept F m s) (h : F.sec = true) :
    Kept F m { s with sec := x } :=
  { hk with sec := .inl h }
@[simp ↓] theorem Kept.set_eth {x : _} (hk : Kept F m s) (h : F.eth = true) :
    Kept F m { s with eth := x } :=
  { hk with eth := .inl h }
@[simp ↓] theorem Kept.set_conf {x : _} (hk : Kept F m s) (h : F.conf = true) :
    Kept F m { s with conf := x } :=
  { hk with conf := .inl h }
@[simp ↓] theorem Kept.set_upd {x : _} (hk : Kept F m s) (h : F.upd = true) :
    Kept F m { s with upd := x } :=
  { hk with upd := .inl h }
@[simp ↓] theorem Kept.set_pwr {x : _} (hk : Kept F m s) (h : F.pwr = true) :
    Kept F m { s with pwr := x } :=
  { hk with pwr := .inl h }
@[simp ↓] theorem Kept.set_timers {x : _} (hk : Kept F m s) (h : F.timers = true) :
    Kept F m { s with timers := x } :=
  { hk with timers := .inl h }
@[simp ↓] theorem Kept.set_free {x : _} (hk : Kept F m s) (h : F.free = true) :
    Kept F m { s with free := x } :=
  { hk with free := .inl h }
@[simp ↓] theorem Kept.set_pending {x : _} (hk : Kept F m s) (h : F.pending = true) :
    Kept F m { s with pending := x } :=
  { hk with pending := .inl h }
@[simp ↓] theorem Kept.set_apps_img {x0 x1 : _} (hk : Kept F m s) (h0 : F.apps = true) (h1 : F.img = true) :
    Kept F m { s with apps := x0, img := x1 } :=
  { hk with apps := .inl h0, img := .inl h1 }
@[simp ↓] theorem Kept.set_apps_tm_parts_img_inp_rx_nav_crop_lark_outs_sp_ucp_conf_timers {x0 x1 x2 x3 x4 x5 x6 x7 x8 x9 x10 x11 x12 x13 : _} (hk : Kept F m s) (h0 : F.apps = true) (h1 : F.tm = true) (h2 : F.parts = true) (h3 : F.img = true) (h4 : F.inp = true) (h5 : F.rx = true) (h6 : F.nav = true) (h7 : F.crop = true) (h8 : F.lark = true) (h9 : F.outs = true) (h10 : F.sp = true) (h11 : F.ucp = true) (h12 : F.conf = true) (h13 : F.timers = true) :
    Kept F m { s with apps := x0, tm := x1, parts := x2, img := x3, inp := x4, rx := x5, nav := x6, crop := x7, lark := x8, outs := x9, sp := x10, ucp := x11, conf := x12, timers := x13 } :=
  { hk with apps := .inl h0, tm := .inl h1, parts := .inl h2, img := .inl h3, inp := .inl h4, rx := .inl h5, nav := .inl h6, crop := .inl h7, lark := .inl h8, outs := .inl h9, sp := .inl h10, ucp := .inl h11, conf := .inl h12, timers := .inl h13 }
@[simp ↓] theorem Kept.set_flt_rcd {x0 x1 : _} (hk : Kept F m s) (h0 : F.flt = true) (h1 : F.rcd = true) :
    Kept F m { s with flt := x0, rcd := x1 } :=
  { hk with flt := .inl h0, rcd := .inl h1 }
@[simp ↓] theorem Kept.set_flt_ucp {x0 x1 : _} (hk : Kept F m s) (h0 : F.flt = true) (h1 : F.ucp = true) :
    Kept F m { s with flt := x0, ucp := x1 } :=
  { hk with flt := .inl h0, ucp := .inl h1 }
@[simp ↓] theorem Kept.set_fox_conf {x0 x1 : _} (hk : Kept F m s) (h0 : F.fox = true) (h1 : F.conf = true) :
    Kept F m { s with fox := x0, conf := x1 } :=
  { hk with fox := .inl h0, conf := .inl h1 }
@[simp ↓] theorem Kept.set_img_pwr {x0 x1 : _} (hk : Kept F m s) (h0 : F.img = true) (h1 : F.pwr = true) :
    Kept F m { s with img := x0, pwr := x1 } :=
  { hk with img := .inl h0, pwr := .inl h1 }
@[simp ↓] theorem Kept.set_parts_img {x0 x1 : _} (hk : Kept F m s) (h0 : F.parts = true) (h1 : F.img = true) :
    Kept F m { s with parts := x0, img := x1 } :=
  { hk with parts := .inl h0, img := .inl h1 }
@[simp ↓] theorem Kept.set_rx_nav {x0 x1 : _} (hk : Kept F m s) (h0 : F.rx = true) (h1 : F.nav = true) :
    Kept F m { s with rx := x0, nav := x1 } :=
  { hk with rx := .inl h0, nav := .inl h1 }
@[simp ↓] theorem Kept.set_tm_eth {x0 x1 : _} (hk : Kept F m s) (h0 : F.tm = true) (h1 : F.eth = true) :
    Kept F m { s with tm := x0, eth := x1 } :=
  { hk with tm := .inl h0, eth := .inl h1 }
@[simp ↓] theorem Kept.set_ucp_sec {x0 x1 : _} (hk : Kept F m s) (h0 : F.ucp = true) (h1 : F.sec = true) :
    Kept F m { s with ucp := x0, sec := x1 } :=
  { hk with ucp := .inl h0, sec := .inl h1 }
@[simp ↓] theorem Kept.set_upd_pwr {x0 x1 : _} (hk : Kept F m s) (h0 : F.upd = true) (h1 : F.pwr = true) :
    Kept F m { s with upd := x0, pwr := x1 } :=
  { hk with upd := .inl h0, pwr := .inl h1 }

/-! ### Objects -/

@[simp] theorem ob_idx {i j : Nat} (h : F.grp (i / 256)) : F.idx (ob i j) = true := h _ (by unfold ob; omega)
@[simp] theorem Foot.grp_all (h : ∀ i, F.idx i = true) (g : Nat) : F.grp g := fun k _ => h k
@[simp] theorem ob_grp (i j : Nat) : ob i j / 65536 = i / 256 := by unfold ob; omega

theorem Kept.wfs {t : State} (h : Kept F m t) (hm : m.tablesOk = true) : Tbl.wf Dict.dflt t.objs = true ∧
    Tbl.wf (fun _ => []) t.blobs = true ∧ Tbl.wf Dict.dflt t.objs0 = true ∧ Tbl.wf Dict.dflt t.objsB = true := by
  have := h.tables hm
  simpa [State.tablesOk, and_assoc] using this

@[simp ↓] theorem State.put_kept {k v : Nat} (hk : Kept F m s) (h : F.idx k = true) : Kept F m (s.put k v) :=
  { hk with
    tables := fun hm => by
      obtain ⟨a, b, c, d⟩ := hk.wfs hm
      simp [State.tablesOk, State.put, Tbl.wf_set Dict.dflt k v a, b, c, d]
    get := fun j => by
      rcases hk.get j with e | e
      · exact .inl e
      · by_cases hj : j = k
        · subst hj; exact .inl h
        · exact .inr (by rw [← e]; exact Tbl.get_set_other _ _ _ _ hj) }

@[simp ↓] theorem State.putNow_kept {k v : Nat} (hk : Kept F m s) (h : F.idx k = true) (h' : F.snap = true) :
    Kept F m (s.putNow k v) :=
  { State.put_kept hk h with
    objs0 := .inl h'
    tables := fun hm => by
      obtain ⟨a, b, c, d⟩ := hk.wfs hm
      simp [State.tablesOk, State.putNow, State.put, Tbl.wf_set Dict.dflt k v a, Tbl.wf_set Dict.dflt k v c, b, d] }

@[simp ↓] theorem State.putB_kept {k : Nat} {l : List Byte} (hk : Kept F m s) (h : F.idx k = true) :
    Kept F m (s.putB k l) :=
  { hk with
    tables := fun hm => by
      obtain ⟨a, b, c, d⟩ := hk.wfs hm
      simp [State.tablesOk, State.putB, a, Tbl.wf_set (fun _ => ([] : List Byte)) k l b, c, d]
    getB := fun j => by
      rcases hk.getB j with e | e
      · exact .inl e
      · by_cases hj : j = k
        · subst hj; exact .inl h
        · exact .inr (by rw [← e]; exact Tbl.get_set_other _ _ _ _ hj) }

/-! ### Combinations -/

@[simp ↓] theorem kept_ite {c : Prop} [Decidable c] {a b : State} :
    Kept F m (if c then a else b) ↔ if c then Kept F m a else Kept F m b := by split <;> rfl

@[simp ↓] theorem fst_ite {α β : Type} {c : Prop} [Decidable c] {a b : α × β} : (if c then a else b).1 = if c then a.1 else b.1 := by
  split <;> rfl

@[simp ↓] theorem kept_foldl {β : Type} {f : State → β → State} (l : List β) (s : State)
    (hf : ∀ t x, Kept F m t → Kept F m (f t x)) (h : Kept F m s) : Kept F m (l.foldl f s) := by
  induction l generalizing s with
  | nil => exact h
  | cons x xs ih => exact ih _ (hf _ _ h)

@[simp ↓] theorem Handler.Stays.run {h : Handler} (hh : h.Stays F) {w : Who} {v : Val} (hs : Kept F m s) :
    Kept F m (h.run s w v).1 := hh m s w v hs

theorem Handler.stays_ite {c : Prop} [Decidable c] {a b : Handler} (ha : a.Stays F) (hb : b.Stays F) : (if c then a else b).Stays F := by
  split <;> assumption

theorem Handler.simple_stays (f : State → Who → Val → State × Nat)
    (hf : ∀ m s w v, Kept F m s → Kept F m (f s w v).1) : (Handler.simple f).Stays F := fun m s w v h => hf m s w v h

end Sys2Proof.Machine
end

