-- ==== Sys2Proof/Laws/KeptOps.lean ====
section
/-! SUPPORT. Footprints of the shared operations. -/

set_option linter.unusedSimpArgs false
set_option linter.unusedVariables false

namespace Sys2Proof.Machine

open Sys2Proof

@[simp] theorem stKey_grp (a : Nat) : stKey a / 65536 = 0x28 := by unfold stKey; rw [ob_grp]; omega
@[simp] theorem stKey_idx {F : Foot} (h : F.grp 0x28) (a : Nat) : F.idx (stKey a) = true := h _ (stKey_grp _)
@[simp] theorem cfgKey_grp (a : Nat) : cfgKey a / 65536 = 0x28 := by unfold cfgKey; rw [ob_grp]; omega
@[simp] theorem cfgKey_idx {F : Foot} (h : F.grp 0x28) (a : Nat) : F.idx (cfgKey a) = true := h _ (cfgKey_grp _)
@[simp] theorem cntKey_grp (a : Nat) : cntKey a / 65536 = 0x28 := by unfold cntKey; rw [ob_grp]; omega
@[simp] theorem cntKey_idx {F : Foot} (h : F.grp 0x28) (a : Nat) : F.idx (cntKey a) = true := h _ (cntKey_grp _)
@[simp] theorem codeKey_grp (a : Nat) : codeKey a / 65536 = 0x28 := by unfold codeKey; rw [ob_grp]; omega
@[simp] theorem codeKey_idx {F : Foot} (h : F.grp 0x28) (a : Nat) : F.idx (codeKey a) = true := h _ (codeKey_grp _)
@[simp] theorem pendKey_grp (a : Nat) : pendKey a / 65536 = 0x28 := by unfold pendKey; rw [ob_grp]
@[simp] theorem pendKey_idx {F : Foot} (h : F.grp 0x28) (a : Nat) : F.idx (pendKey a) = true := h _ (pendKey_grp _)
@[simp] theorem blocksInReset_grp : blocksInReset / 65536 = 0x28 := rfl
@[simp] theorem blocksInReset_idx {F : Foot} (h : F.grp 0x28) : F.idx (blocksInReset) = true := h _ (blocksInReset_grp)
@[simp] theorem faultPin_grp : faultPin / 65536 = 0x28 := rfl
@[simp] theorem faultPin_idx {F : Foot} (h : F.grp 0x28) : F.idx (faultPin) = true := h _ (faultPin_grp)
@[simp] theorem recNextSeq_grp : recNextSeq / 65536 = 0x2A := rfl
@[simp] theorem recNextSeq_idx {F : Foot} (h : F.grp 0x2A) : F.idx (recNextSeq) = true := h _ (recNextSeq_grp)
@[simp] theorem recOldest_grp : recOldest / 65536 = 0x2A := rfl
@[simp] theorem recOldest_idx {F : Foot} (h : F.grp 0x2A) : F.idx (recOldest) = true := h _ (recOldest_grp)
@[simp] theorem recArchived_grp : recArchived / 65536 = 0x2A := rfl
@[simp] theorem recArchived_idx {F : Foot} (h : F.grp 0x2A) : F.idx (recArchived) = true := h _ (recArchived_grp)
@[simp] theorem recPcc_grp : recPcc / 65536 = 0x2A := rfl
@[simp] theorem recPcc_idx {F : Foot} (h : F.grp 0x2A) : F.idx (recPcc) = true := h _ (recPcc_grp)
@[simp] theorem recOpms_grp : recOpms / 65536 = 0x2A := rfl
@[simp] theorem recOpms_idx {F : Foot} (h : F.grp 0x2A) : F.idx (recOpms) = true := h _ (recOpms_grp)
@[simp] theorem recBanks_grp : recBanks / 65536 = 0x2A := rfl
@[simp] theorem recBanks_idx {F : Foot} (h : F.grp 0x2A) : F.idx (recBanks) = true := h _ (recBanks_grp)
@[simp] theorem recCalField_grp : recCalField / 65536 = 0x2A := rfl
@[simp] theorem recCalField_idx {F : Foot} (h : F.grp 0x2A) : F.idx (recCalField) = true := h _ (recCalField_grp)
@[simp] theorem recLostCount_grp : recLostCount / 65536 = 0x2A := rfl
@[simp] theorem recLostCount_idx {F : Foot} (h : F.grp 0x2A) : F.idx (recLostCount) = true := h _ (recLostCount_grp)

@[simp ↓] theorem State.putBool_kept {F : Foot} {org : State} (s : State) (k : Nat) (b : Bool) (h_idx : F.idx k = true) (hk :
    Kept F org s) : Kept F org (State.putBool s k b) := by
  unfold State.putBool
  simp [hk, h_idx]

@[simp ↓] theorem State.putI16_kept {F : Foot} {org : State} (s : State) (k : Nat) (x : Int) (h_idx : F.idx k = true) (hk :
    Kept F org s) : Kept F org (State.putI16 s k x) := by
  unfold State.putI16
  simp [hk, h_idx]

@[simp ↓] theorem State.putI32_kept {F : Foot} {org : State} (s : State) (k : Nat) (x : Int) (h_idx : F.idx k = true) (hk :
    Kept F org s) : Kept F org (State.putI32 s k x) := by
  unfold State.putI32
  simp [hk, h_idx]

@[simp ↓] theorem State.putI64_kept {F : Foot} {org : State} (s : State) (k : Nat) (x : Int) (h_idx : F.idx k = true) (hk :
    Kept F org s) : Kept F org (State.putI64 s k x) := by
  unfold State.putI64
  simp [hk, h_idx]

@[simp ↓] theorem State.putF_kept {F : Foot} {org : State} (s : State) (k : Nat) (x : F32) (h_idx : F.idx k = true) (hk : Kept
    F org s) : Kept F org (State.putF s k x) := by
  unfold State.putF
  simp [hk, h_idx]

@[simp ↓] theorem State.add32_kept {F : Foot} {org : State} (s : State) (k : Nat) (n : Nat) (h_idx : F.idx k = true) (hk :
    Kept F org s) : Kept F org (State.add32 s k n) := by
  unfold State.add32
  simp [hk, h_idx]

@[simp ↓] theorem State.inc32_kept {F : Foot} {org : State} (s : State) (k : Nat) (h_idx : F.idx k = true) (hk : Kept F org s)
    : Kept F org (State.inc32 s k) := by
  unfold State.inc32
  simp [hk, h_idx]

@[simp ↓] theorem State.addWrap_kept {F : Foot} {org : State} (s : State) (k : Nat) (n : Nat) (h_idx : F.idx k = true) (hk :
    Kept F org s) : Kept F org (State.addWrap s k n) := by
  unfold State.addWrap
  simp [hk, h_idx]

@[simp ↓] theorem State.putBit_kept {F : Foot} {org : State} (s : State) (k : Nat) (i : Nat) (b : Bool) (h_idx : F.idx k =
    true) (hk : Kept F org s) : Kept F org (State.putBit s k i b) := by
  unfold State.putBit
  simp [hk, h_idx]

@[simp ↓] theorem State.useFree_kept {F : Foot} {org : State} (s : State) (h_free : F.free = true) (hk : Kept F org s) : Kept
    F org (State.useFree s) := by
  unfold State.useFree
  simp [hk, h_free]

@[simp ↓] theorem State.setPart_kept {F : Foot} {org : State} (s : State) (p : Nat) (f : PartSt → PartSt) (h_parts : F.parts =
    true) (hk : Kept F org s) : Kept F org (State.setPart s p f) := by
  unfold State.setPart
  simp [hk, h_parts]

@[simp ↓] theorem State.startTimer_kept {F : Foot} {org : State} (s : State) (t : Nat) (h_timers : F.timers = true) (hk : Kept
    F org s) : Kept F org (State.startTimer s t) := by
  unfold State.startTimer
  simp [hk, h_timers]

@[simp ↓] theorem State.stopTimer_kept {F : Foot} {org : State} (s : State) (t : Nat) (h_timers : F.timers = true) (hk : Kept
    F org s) : Kept F org (State.stopTimer s t) := by
  unfold State.stopTimer
  simp [hk, h_timers]

@[simp ↓] theorem State.push_kept {F : Foot} {org : State} (s : State) (kind : Nat) (subject : Nat) (code : Nat) (flags : Nat)
    (conts : List Cont) (h_flt : F.flt = true) (h_rcd : F.rcd = true) (h_recLostCount : F.idx (recLostCount) = true) (hk : Kept F
    org s) : Kept F org (State.push s kind subject code flags conts) := by
  unfold State.push
  simp [hk, h_flt, h_rcd, h_recLostCount]

@[simp ↓] theorem State.queueEvent_kept {F : Foot} {org : State} (s : State) (r : Route) (p : Packet) (h_flt : F.flt = true)
    (h_ucp : F.ucp = true) (h_ob_11776_10 : F.idx (ob 11776 10) = true) (hk : Kept F org s) : Kept F org (State.queueEvent s r p)
    := by
  unfold State.queueEvent
  simp [hk, h_flt, h_ucp, h_ob_11776_10]

@[simp ↓] theorem State.eventTo_kept {F : Foot} {org : State} (s : State) (u : Sub) (cls : Nat) (data : List Byte) (aux : Nat)
    (h_flt : F.flt = true) (h_ucp : F.ucp = true) (h_ob_11776_10 : F.idx (ob 11776 10) = true) (hk : Kept F org s) : Kept F org
    (State.eventTo s u cls data aux) := by
  unfold State.eventTo
  simp (contextual := true) (maxDischargeDepth := 60) [hk, h_flt, h_ucp, h_ob_11776_10]

@[simp ↓] theorem State.send_kept {F : Foot} {org : State} (s : State) (cls : Nat) (data : List Byte) (aux : Nat) (h_flt :
    F.flt = true) (h_ucp : F.ucp = true) (h_ob_11776_10 : F.idx (ob 11776 10) = true) (hk : Kept F org s) : Kept F org (State.send
    s cls data aux) := by
  unfold State.send
  simp (contextual := true) (maxDischargeDepth := 60) [hk, h_flt, h_ucp, h_ob_11776_10]

@[simp ↓] theorem State.drivePin_kept {F : Foot} {org : State} (s : State) (h_faultPin : F.idx (faultPin) = true) (hk : Kept F
    org s) : Kept F org (State.drivePin s) := by
  unfold State.drivePin
  simp [hk, h_faultPin]

@[simp ↓] theorem State.setPending_kept {F : Foot} {org : State} (s : State) (src : Nat) (on : Bool) (pin : Bool) (h_flt :
    F.flt = true) (h_28 : F.grp 40) (hk : Kept F org s) : Kept F org (State.setPending s src on pin) := by
  unfold State.setPending
  simp (contextual := true) (maxDischargeDepth := 60) [hk, h_flt, h_28]

@[simp ↓] theorem State.occurConseq_kept {F : Foot} {org : State} (s : State) (src : Nat) (h_flt : F.flt = true) (h_rcd :
    F.rcd = true) (h_28 : F.grp 40) (h_recLostCount : F.idx (recLostCount) = true) (hk : Kept F org s) : Kept F org
    (State.occurConseq s src) := by
  unfold State.occurConseq
  simp (contextual := true) (maxDischargeDepth := 60) [hk, h_flt, h_rcd, h_28, h_recLostCount]

@[simp ↓] theorem State.occurMark_kept {F : Foot} {org : State} (s : State) (src : Nat) (h_flt : F.flt = true) (h_28 : F.grp
    40) (hk : Kept F org s) : Kept F org (State.occurMark s src) := by
  unfold State.occurMark
  simp (contextual := true) (maxDischargeDepth := 60) [hk, h_flt, h_28]

@[simp ↓] theorem State.occurTell_kept {F : Foot} {org : State} (s : State) (src : Nat) (t : State) (h_flt : F.flt = true)
    (h_rcd : F.rcd = true) (h_ucp : F.ucp = true) (h_ob_10240_14 : F.idx (ob 10240 14) = true) (h_ob_11776_10 : F.idx (ob 11776
    10) = true) (h_recLostCount : F.idx (recLostCount) = true) (hk : Kept F org t) : Kept F org (State.occurTell s src t) := by
  unfold State.occurTell
  simp (contextual := true) (maxDischargeDepth := 60) [hk, h_flt, h_rcd, h_ucp, h_ob_10240_14, h_ob_11776_10, h_recLostCount]

@[simp ↓] theorem State.occurBase_kept {F : Foot} {org : State} (s : State) (src : Nat) (h_flt : F.flt = true) (h_rcd : F.rcd
    = true) (h_ucp : F.ucp = true) (h_28 : F.grp 40) (h_ob_11776_10 : F.idx (ob 11776 10) = true) (h_recLostCount : F.idx
    (recLostCount) = true) (hk : Kept F org s) : Kept F org (State.occurBase s src) := by
  unfold State.occurBase
  simp [hk, h_flt, h_rcd, h_ucp, h_28, h_ob_11776_10, h_recLostCount]

@[simp ↓] theorem State.raiseEvent_kept {F : Foot} {org : State} (s : State) (src : Nat) (code : Nat) (h_flt : F.flt = true)
    (h_rcd : F.rcd = true) (h_ucp : F.ucp = true) (h_28 : F.grp 40) (h_ob_11776_10 : F.idx (ob 11776 10) = true) (h_recLostCount :
    F.idx (recLostCount) = true) (hk : Kept F org s) : Kept F org (State.raiseEvent s src code) := by
  unfold State.raiseEvent
  simp (contextual := true) (maxDischargeDepth := 60) [hk, h_flt, h_rcd, h_ucp, h_28, h_ob_11776_10, h_recLostCount]

@[simp ↓] theorem State.settle_kept {F : Foot} {org : State} (s : State) (h_flt : F.flt = true) (h_rcd : F.rcd = true) (h_ucp
    : F.ucp = true) (h_28 : F.grp 40) (h_ob_11776_10 : F.idx (ob 11776 10) = true) (h_recLostCount : F.idx (recLostCount) = true)
    (hk : Kept F org s) : Kept F org (State.settle s) := by
  unfold State.settle
  simp (contextual := true) (maxDischargeDepth := 60) [hk, h_flt, h_rcd, h_ucp, h_28, h_ob_11776_10, h_recLostCount]

@[simp ↓] theorem State.post_kept {F : Foot} {org : State} (s : State) (kind : Nat) (subject : Nat) (code : Nat) (flags : Nat)
    (conts : List Cont) (h_flt : F.flt = true) (h_rcd : F.rcd = true) (h_ucp : F.ucp = true) (h_28 : F.grp 40) (h_ob_11776_10 :
    F.idx (ob 11776 10) = true) (h_recLostCount : F.idx (recLostCount) = true) (hk : Kept F org s) : Kept F org (State.post s kind
    subject code flags conts) := by
  unfold State.post
  simp [hk, h_flt, h_rcd, h_ucp, h_28, h_ob_11776_10, h_recLostCount]

@[simp ↓] theorem State.event_kept {F : Foot} {org : State} (s : State) (cls : Nat) (data : List Byte) (aux : Nat) (h_flt :
    F.flt = true) (h_rcd : F.rcd = true) (h_ucp : F.ucp = true) (h_28 : F.grp 40) (h_ob_11776_10 : F.idx (ob 11776 10) = true)
    (h_recLostCount : F.idx (recLostCount) = true) (hk : Kept F org s) : Kept F org (State.event s cls data aux) := by
  unfold State.event
  simp [hk, h_flt, h_rcd, h_ucp, h_28, h_ob_11776_10, h_recLostCount]

@[simp ↓] theorem State.clearRecord_kept {F : Foot} {org : State} (s : State) (src : Nat) (cred : Option (Nat × Nat)) (h_flt :
    F.flt = true) (h_rcd : F.rcd = true) (h_recLostCount : F.idx (recLostCount) = true) (hk : Kept F org s) : Kept F org
    (State.clearRecord s src cred) := by
  unfold State.clearRecord
  (repeat' split) <;> simp (contextual := true) (maxDischargeDepth := 60) [hk, h_flt, h_rcd, h_recLostCount]

@[simp ↓] theorem State.clearSource_kept {F : Foot} {org : State} (s : State) (src : Nat) (cred : Option (Nat × Nat)) (h_flt :
    F.flt = true) (h_rcd : F.rcd = true) (h_ucp : F.ucp = true) (h_28 : F.grp 40) (h_ob_11776_10 : F.idx (ob 11776 10) = true)
    (h_recLostCount : F.idx (recLostCount) = true) (hk : Kept F org s) : Kept F org (State.clearSource s src cred) := by
  unfold State.clearSource
  simp (contextual := true) (maxDischargeDepth := 60) [hk, h_flt, h_rcd, h_ucp, h_28, h_ob_11776_10, h_recLostCount]

@[simp ↓] theorem State.afterActive_kept {F : Foot} {org : State} (s : State) (src : Nat) (was : Bool) (h_flt : F.flt = true)
    (h_rcd : F.rcd = true) (h_ucp : F.ucp = true) (h_28 : F.grp 40) (h_ob_11776_10 : F.idx (ob 11776 10) = true) (h_recLostCount :
    F.idx (recLostCount) = true) (hk : Kept F org s) : Kept F org (State.afterActive s src was) := by
  unfold State.afterActive
  simp (contextual := true) (maxDischargeDepth := 60) [hk, h_flt, h_rcd, h_ucp, h_28, h_ob_11776_10, h_recLostCount]

@[simp ↓] theorem State.setRaw_kept {F : Foot} {org : State} (s : State) (src : Nat) (on : Bool) (code : Nat) (h_flt : F.flt =
    true) (h_rcd : F.rcd = true) (h_ucp : F.ucp = true) (h_28 : F.grp 40) (h_ob_11776_10 : F.idx (ob 11776 10) = true)
    (h_recLostCount : F.idx (recLostCount) = true) (hk : Kept F org s) : Kept F org (State.setRaw s src on code) := by
  unfold State.setRaw
  simp (contextual := true) (maxDischargeDepth := 60) [hk, h_flt, h_rcd, h_ucp, h_28, h_ob_11776_10, h_recLostCount]

@[simp ↓] theorem State.raise_kept {F : Foot} {org : State} (s : State) (src : Nat) (code : Nat) (h_flt : F.flt = true) (h_rcd
    : F.rcd = true) (h_ucp : F.ucp = true) (h_28 : F.grp 40) (h_ob_11776_10 : F.idx (ob 11776 10) = true) (h_recLostCount : F.idx
    (recLostCount) = true) (hk : Kept F org s) : Kept F org (State.raise s src code) := by
  unfold State.raise
  simp [hk, h_flt, h_rcd, h_ucp, h_28, h_ob_11776_10, h_recLostCount]

@[simp ↓] theorem State.follow_kept {F : Foot} {org : State} (s : State) (src : Nat) (on : Bool) (code : Nat) (h_flt : F.flt =
    true) (h_rcd : F.rcd = true) (h_ucp : F.ucp = true) (h_28 : F.grp 40) (h_ob_11776_10 : F.idx (ob 11776 10) = true)
    (h_recLostCount : F.idx (recLostCount) = true) (hk : Kept F org s) : Kept F org (State.follow s src on code) := by
  unfold State.follow
  simp [hk, h_flt, h_rcd, h_ucp, h_28, h_ob_11776_10, h_recLostCount]

@[simp ↓] theorem State.endEvents_kept {F : Foot} {org : State} (s : State) (h_flt : F.flt = true) (h_rcd : F.rcd = true)
    (h_ucp : F.ucp = true) (h_28 : F.grp 40) (h_ob_11776_10 : F.idx (ob 11776 10) = true) (h_recLostCount : F.idx (recLostCount) =
    true) (hk : Kept F org s) : Kept F org (State.endEvents s) := by
  unfold State.endEvents
  simp (contextual := true) (maxDischargeDepth := 60) [hk, h_flt, h_rcd, h_ucp, h_28, h_ob_11776_10, h_recLostCount]

@[simp ↓] theorem State.devChange_kept {F : Foot} {org : State} (s : State) (new : Nat) (cause : Nat) (cred : Option (Nat ×
    Nat)) (part : Nat) (h_flt : F.flt = true) (h_img : F.img = true) (h_pwr : F.pwr = true) (h_rcd : F.rcd = true) (h_ucp : F.ucp
    = true) (h_28 : F.grp 40) (h_ob_11776_10 : F.idx (ob 11776 10) = true) (h_ob_4608_1 : F.idx (ob 4608 1) = true) (h_ob_4608_2 :
    F.idx (ob 4608 2) = true) (h_ob_4608_9 : F.idx (ob 4608 9) = true) (h_recLostCount : F.idx (recLostCount) = true) (hk : Kept F
    org s) : Kept F org (State.devChange s new cause cred part) := by
  unfold State.devChange
  simp (contextual := true) (maxDischargeDepth := 60) [hk, h_flt, h_img, h_pwr, h_rcd, h_ucp, h_28, h_ob_11776_10, h_ob_4608_1, h_ob_4608_2, h_ob_4608_9, h_recLostCount]

end Sys2Proof.Machine
end

