-- ==== Sys2Proof/Laws/KeptAccess.lean ====
section
/-! SUPPORT. Footprints of writes. -/

set_option linter.unusedSimpArgs false
set_option linter.unusedVariables false

namespace Sys2Proof.Machine

open Sys2Proof

@[simp ↓] theorem State.mappedRefused_kept {F : Foot} {org : State} (s : State) (i : Nat) (sub : Nat) (h_ob_4864_7 : F.idx (ob
    4864 7) = true) (h_ob_4864_8 : F.idx (ob 4864 8) = true) (hk : Kept F org s) : Kept F org (State.mappedRefused s i sub) := by
  unfold State.mappedRefused
  (repeat' split) <;> simp (contextual := true) (maxDischargeDepth := 60) [hk, h_ob_4864_7, h_ob_4864_8]

@[simp ↓] theorem State.refuse9_kept {F : Foot} {org : State} (s : State) (i : Nat) (sub : Nat) (h_ob_4608_4 : F.idx (ob 4608
    4) = true) (h_ob_4608_5 : F.idx (ob 4608 5) = true) (h_ob_4608_6 : F.idx (ob 4608 6) = true) (h_ob_4608_7 : F.idx (ob 4608 7)
    = true) (h_ob_4608_8 : F.idx (ob 4608 8) = true) (hk : Kept F org s) : Kept F org (State.refuse9 s i sub) := by
  unfold State.refuse9
  simp (contextual := true) (maxDischargeDepth := 60) [hk, h_ob_4608_4, h_ob_4608_5, h_ob_4608_6, h_ob_4608_7, h_ob_4608_8]

@[simp ↓] theorem State.touched_kept {F : Foot} {org : State} (s : State) (h_ob_12288_4 : F.idx (ob 12288 4) = true) (hk :
    Kept F org s) : Kept F org (State.touched s) := by
  unfold State.touched
  simp [hk, h_ob_12288_4]

@[simp ↓] theorem State.noteWrite_kept {F : Foot} {org : State} (s : State) (k : Nat) (h_img : F.img = true) (hk : Kept F org
    s) : Kept F org (State.noteWrite s k) := by
  unfold State.noteWrite
  simp [hk, h_img]

@[simp ↓] theorem State.write_kept {F : Foot} {org : State} (s : State) (w : Who) (i : Nat) (sub : Nat) (v : Val) (h :
    Handler) (h_img : F.img = true) (h_ob_12288_4 : F.idx (ob 12288 4) = true) (h_ob_4608_4 : F.idx (ob 4608 4) = true)
    (h_ob_4608_5 : F.idx (ob 4608 5) = true) (h_ob_4608_6 : F.idx (ob 4608 6) = true) (h_ob_4608_7 : F.idx (ob 4608 7) = true)
    (h_ob_4608_8 : F.idx (ob 4608 8) = true) (h_h : h.Stays F) (hk : Kept F org s) : Kept F org (State.write s w i sub v h).1 :=
    by
  have hr := h_h org s w v hk
  unfold State.write
  simp only []
  (repeat' split) <;> simp (maxDischargeDepth := 60) [*]

@[simp ↓] theorem State.answer_kept {F : Foot} {org : State} (s : State) (st : Nat) (aux : Nat) (data : List Byte) (h_ucp :
    F.ucp = true) (hk : Kept F org s) : Kept F org (State.answer s st aux data) := by
  unfold State.answer
  simp [hk, h_ucp]

@[simp ↓] theorem State.request_kept {F : Foot} {org : State} (s : State) (w : Who) (i : Nat) (sub : Nat) (v : Val) (h :
    Handler) (h_img : F.img = true) (h_ucp : F.ucp = true) (h_ob_12288_4 : F.idx (ob 12288 4) = true) (h_ob_4608_4 : F.idx (ob
    4608 4) = true) (h_ob_4608_5 : F.idx (ob 4608 5) = true) (h_ob_4608_6 : F.idx (ob 4608 6) = true) (h_ob_4608_7 : F.idx (ob
    4608 7) = true) (h_ob_4608_8 : F.idx (ob 4608 8) = true) (h_h : h.Stays F) (hk : Kept F org s) : Kept F org (State.request s w
    i sub v h) := by
  unfold State.request
  simp [hk, h_img, h_ucp, h_ob_12288_4, h_ob_4608_4, h_ob_4608_5, h_ob_4608_6, h_ob_4608_7, h_ob_4608_8, h_h]

end Sys2Proof.Machine
end

