-- ==== Sys2Proof/Laws/KeptRecorder.lean ====
section
/-! SUPPORT. Footprints of the recorder. -/

set_option linter.unusedSimpArgs false
set_option linter.unusedVariables false

namespace Sys2Proof.Machine

open Sys2Proof

@[simp ↓] theorem State.putSlot_kept {F : Foot} {org : State} (s : State) (seq : Nat) (w : Nat) (h_rcd : F.rcd = true)
    (h_recArchived : F.idx (recArchived) = true) (hk : Kept F org s) : Kept F org (State.putSlot s seq w) := by
  unfold State.putSlot
  simp [hk, h_rcd, h_recArchived]

@[simp ↓] theorem State.newSlot_kept {F : Foot} {org : State} (s : State) (mk : Nat → Nat) (h_flt : F.flt = true) (h_rcd :
    F.rcd = true) (h_recArchived : F.idx (recArchived) = true) (h_recLostCount : F.idx (recLostCount) = true) (h_recNextSeq :
    F.idx (recNextSeq) = true) (hk : Kept F org s) : Kept F org (State.newSlot s mk) := by
  unfold State.newSlot
  simp (contextual := true) (maxDischargeDepth := 60) [hk, h_flt, h_rcd, h_recArchived, h_recLostCount, h_recNextSeq]

@[simp ↓] theorem State.writeUnit_kept {F : Foot} {org : State} (s : State) (b : Body) (h_flt : F.flt = true) (h_rcd : F.rcd =
    true) (h_recArchived : F.idx (recArchived) = true) (h_recLostCount : F.idx (recLostCount) = true) (h_recNextSeq : F.idx
    (recNextSeq) = true) (hk : Kept F org s) : Kept F org (State.writeUnit s b) := by
  unfold State.writeUnit
  simp (contextual := true) (maxDischargeDepth := 60) [hk, h_flt, h_rcd, h_recArchived, h_recLostCount, h_recNextSeq]

@[simp ↓] theorem State.writeHeld_kept {F : Foot} {org : State} (s : State) (h_flt : F.flt = true) (h_rcd : F.rcd = true)
    (h_recArchived : F.idx (recArchived) = true) (h_recLostCount : F.idx (recLostCount) = true) (h_recNextSeq : F.idx (recNextSeq)
    = true) (hk : Kept F org s) : Kept F org (State.writeHeld s) := by
  unfold State.writeHeld
  (repeat' split) <;> simp (contextual := true) (maxDischargeDepth := 60) [hk, h_flt, h_rcd, h_recArchived, h_recLostCount, h_recNextSeq]

@[simp ↓] theorem State.foldRepeat_kept {F : Foot} {org : State} (s : State) (c : Chain) (b : Body) (h_flt : F.flt = true)
    (h_rcd : F.rcd = true) (h_recArchived : F.idx (recArchived) = true) (h_recLostCount : F.idx (recLostCount) = true)
    (h_recNextSeq : F.idx (recNextSeq) = true) (hk : Kept F org s) : Kept F org (State.foldRepeat s c b) := by
  unfold State.foldRepeat
  (repeat' split) <;> simp (contextual := true) (maxDischargeDepth := 60) [hk, h_flt, h_rcd, h_recArchived, h_recLostCount, h_recNextSeq]

@[simp ↓] theorem State.acceptBody_kept {F : Foot} {org : State} (s : State) (b : Body) (h_flt : F.flt = true) (h_rcd : F.rcd
    = true) (h_recArchived : F.idx (recArchived) = true) (h_recLostCount : F.idx (recLostCount) = true) (h_recNextSeq : F.idx
    (recNextSeq) = true) (hk : Kept F org s) : Kept F org (State.acceptBody s b) := by
  unfold State.acceptBody
  (repeat' split) <;> simp (contextual := true) (maxDischargeDepth := 60) [hk, h_flt, h_rcd, h_recArchived, h_recLostCount, h_recNextSeq]

@[simp ↓] theorem recordPost_kept {F : Foot} {org : State} (s : State) (h_flt : F.flt = true) (h_rcd : F.rcd = true) (h_ucp :
    F.ucp = true) (h_28 : F.grp 40) (h_ob_11776_10 : F.idx (ob 11776 10) = true) (h_recArchived : F.idx (recArchived) = true)
    (h_recLostCount : F.idx (recLostCount) = true) (h_recNextSeq : F.idx (recNextSeq) = true) (hk : Kept F org s) : Kept F org
    (recordPost s) := by
  unfold recordPost
  (repeat' split) <;> simp (contextual := true) (maxDischargeDepth := 60) [hk, h_flt, h_rcd, h_ucp, h_28, h_ob_11776_10, h_recArchived, h_recLostCount, h_recNextSeq]

@[simp ↓] theorem drainFifo_kept {F : Foot} {org : State} (x0 : Nat) (x1 : State) (h_flt : F.flt = true) (h_rcd : F.rcd =
    true) (h_ucp : F.ucp = true) (h_28 : F.grp 40) (h_ob_11776_10 : F.idx (ob 11776 10) = true) (h_recArchived : F.idx
    (recArchived) = true) (h_recLostCount : F.idx (recLostCount) = true) (h_recNextSeq : F.idx (recNextSeq) = true) (hk : Kept F
    org x1) : Kept F org (drainFifo x0 x1) := by
  induction x0 generalizing x1 with
  | zero => exact hk
  | succ n ih => unfold drainFifo; split; exacts [hk, ih _ (by simp [*])]

@[simp ↓] theorem recordLost_kept {F : Foot} {org : State} (s : State) (h_flt : F.flt = true) (h_rcd : F.rcd = true)
    (h_recArchived : F.idx (recArchived) = true) (h_recLostCount : F.idx (recLostCount) = true) (h_recNextSeq : F.idx (recNextSeq)
    = true) (hk : Kept F org s) : Kept F org (recordLost s) := by
  unfold recordLost
  simp (contextual := true) (maxDischargeDepth := 60) [hk, h_flt, h_rcd, h_recArchived, h_recLostCount, h_recNextSeq]

@[simp ↓] theorem State.archiveSlot_kept {F : Foot} {org : State} (s : State) (seq : Nat) (h_rcd : F.rcd = true) (hk : Kept F
    org s) : Kept F org (State.archiveSlot s seq) := by
  unfold State.archiveSlot
  simp [hk, h_rcd]

@[simp ↓] theorem State.storeCounters_kept {F : Foot} {org : State} (s : State) (h_nv : F.nv = true) (hk : Kept F org s) :
    Kept F org (State.storeCounters s) := by
  unfold State.storeCounters
  simp [hk, h_nv]

@[simp ↓] theorem archiveCopy_kept {F : Foot} {org : State} (ok : Bool) (s : State) (h_flt : F.flt = true) (h_nv : F.nv =
    true) (h_rcd : F.rcd = true) (h_ucp : F.ucp = true) (h_28 : F.grp 40) (h_ob_11776_10 : F.idx (ob 11776 10) = true)
    (h_recArchived : F.idx (recArchived) = true) (h_recLostCount : F.idx (recLostCount) = true) (hk : Kept F org s) : Kept F org
    (archiveCopy ok s) := by
  unfold archiveCopy
  (repeat' split) <;> simp (contextual := true) (maxDischargeDepth := 60) [hk, h_flt, h_nv, h_rcd, h_ucp, h_28, h_ob_11776_10, h_recArchived, h_recLostCount]

@[simp ↓] theorem archiveAll_kept {F : Foot} {org : State} (x0 : Nat) (x1 : State) (h_flt : F.flt = true) (h_nv : F.nv = true)
    (h_rcd : F.rcd = true) (h_ucp : F.ucp = true) (h_28 : F.grp 40) (h_ob_11776_10 : F.idx (ob 11776 10) = true) (h_recArchived :
    F.idx (recArchived) = true) (h_recLostCount : F.idx (recLostCount) = true) (hk : Kept F org x1) : Kept F org (archiveAll x0
    x1) := by
  induction x0 generalizing x1 with
  | zero => exact hk
  | succ n ih => unfold archiveAll; split; exacts [hk, ih _ (by simp [*])]

@[simp ↓] theorem heldClearWrite_kept {F : Foot} {org : State} (s : State) (h_flt : F.flt = true) (h_rcd : F.rcd = true)
    (h_ucp : F.ucp = true) (h_28 : F.grp 40) (h_ob_11776_10 : F.idx (ob 11776 10) = true) (h_recArchived : F.idx (recArchived) =
    true) (h_recLostCount : F.idx (recLostCount) = true) (h_recNextSeq : F.idx (recNextSeq) = true) (hk : Kept F org s) : Kept F
    org (heldClearWrite s) := by
  unfold heldClearWrite
  (repeat' split) <;> simp (contextual := true) (maxDischargeDepth := 60) [hk, h_flt, h_rcd, h_ucp, h_28, h_ob_11776_10, h_recArchived, h_recLostCount, h_recNextSeq]

@[simp ↓] theorem State.bankOut_kept {F : Foot} {org : State} (s : State) (b : Nat) (h_rcd : F.rcd = true) (h_ob_10752_10 :
    F.idx (ob 10752 10) = true) (h_recBanks : F.idx (recBanks) = true) (hk : Kept F org s) : Kept F org (State.bankOut s b) := by
  unfold State.bankOut
  simp (contextual := true) (maxDischargeDepth := 60) [hk, h_rcd, h_ob_10752_10, h_recBanks]

@[simp ↓] theorem recBankFail_kept {F : Foot} {org : State} (b : Nat) (verify : Bool) (s : State) (h_flt : F.flt = true)
    (h_rcd : F.rcd = true) (h_ucp : F.ucp = true) (h_28 : F.grp 40) (h_ob_10752_10 : F.idx (ob 10752 10) = true) (h_ob_11776_10 :
    F.idx (ob 11776 10) = true) (h_recBanks : F.idx (recBanks) = true) (h_recLostCount : F.idx (recLostCount) = true) (hk : Kept F
    org s) : Kept F org (recBankFail b verify s) := by
  unfold recBankFail
  simp [hk, h_flt, h_rcd, h_ucp, h_28, h_ob_10752_10, h_ob_11776_10, h_recBanks, h_recLostCount]

@[simp ↓] theorem recDualFail_kept {F : Foot} {org : State} (s : State) (h_flt : F.flt = true) (h_rcd : F.rcd = true) (h_ucp :
    F.ucp = true) (h_28 : F.grp 40) (h_ob_10752_10 : F.idx (ob 10752 10) = true) (h_ob_11776_10 : F.idx (ob 11776 10) = true)
    (h_recArchived : F.idx (recArchived) = true) (h_recBanks : F.idx (recBanks) = true) (h_recLostCount : F.idx (recLostCount) =
    true) (h_recNextSeq : F.idx (recNextSeq) = true) (hk : Kept F org s) : Kept F org (recDualFail s) := by
  unfold recDualFail
  simp (contextual := true) (maxDischargeDepth := 60) [hk, h_flt, h_rcd, h_ucp, h_28, h_ob_10752_10, h_ob_11776_10, h_recArchived, h_recBanks, h_recLostCount, h_recNextSeq]

@[simp ↓] theorem hDualReset_kept {F : Foot} (h_flt : F.flt = true) (h_rcd : F.rcd = true) (h_ucp : F.ucp = true) (h_28 :
    F.grp 40) (h_ob_11776_10 : F.idx (ob 11776 10) = true) (h_recBanks : F.idx (recBanks) = true) (h_recLostCount : F.idx
    (recLostCount) = true) : (hDualReset).Stays F := by
  unfold hDualReset
  refine Handler.simple_stays _ fun m s w v hk => ?_
  (repeat' split) <;> simp (contextual := true) (maxDischargeDepth := 60) [hk, h_flt, h_rcd, h_ucp, h_28, h_ob_11776_10, h_recBanks, h_recLostCount]

@[simp ↓] theorem hRecClear_kept {F : Foot} (h_flt : F.flt = true) (h_rcd : F.rcd = true) (h_ob_10752_12 : F.idx (ob 10752 12)
    = true) (h_recArchived : F.idx (recArchived) = true) (h_recLostCount : F.idx (recLostCount) = true) (h_recNextSeq : F.idx
    (recNextSeq) = true) (h_recOldest : F.idx (recOldest) = true) : (hRecClear).Stays F := by
  unfold hRecClear
  refine Handler.simple_stays _ fun m s w v hk => ?_
  (repeat' split) <;> simp (contextual := true) (maxDischargeDepth := 60) [hk, h_flt, h_rcd, h_ob_10752_12, h_recArchived, h_recLostCount, h_recNextSeq, h_recOldest]

@[simp ↓] theorem hAppRecord_kept {F : Foot} (h_flt : F.flt = true) (h_rcd : F.rcd = true) (h_ucp : F.ucp = true) (h_28 :
    F.grp 40) (h_ob_11776_10 : F.idx (ob 11776 10) = true) (h_recLostCount : F.idx (recLostCount) = true) : (hAppRecord).Stays F
    := by
  unfold hAppRecord
  refine Handler.simple_stays _ fun m s w v hk => ?_
  (repeat' split) <;> simp (contextual := true) (maxDischargeDepth := 60) [hk, h_flt, h_rcd, h_ucp, h_28, h_ob_11776_10, h_recLostCount]

@[simp ↓] theorem State.recRejoin_kept {F : Foot} {org : State} (s : State) (pass0 : Bool) (pass1 : Bool) (h_flt : F.flt =
    true) (h_rcd : F.rcd = true) (h_ucp : F.ucp = true) (h_28 : F.grp 40) (h_ob_11776_10 : F.idx (ob 11776 10) = true) (h_recBanks
    : F.idx (recBanks) = true) (h_recLostCount : F.idx (recLostCount) = true) (hk : Kept F org s) : Kept F org (State.recRejoin s
    pass0 pass1) := by
  unfold State.recRejoin
  simp (contextual := true) (maxDischargeDepth := 60) [hk, h_flt, h_rcd, h_ucp, h_28, h_ob_11776_10, h_recBanks, h_recLostCount]

end Sys2Proof.Machine
end

