-- ==== Sys2Proof/Laws/KeptFaults.lean ====
section
/-! SUPPORT. Footprints of the fault collector. -/

set_option linter.unusedSimpArgs false
set_option linter.unusedVariables false

namespace Sys2Proof.Machine

open Sys2Proof

@[simp ↓] theorem faultOccurrence_kept {F : Foot} {org : State} (src : Nat) (code : Nat) (s : State) (h_flt : F.flt = true)
    (h_rcd : F.rcd = true) (h_ucp : F.ucp = true) (h_28 : F.grp 40) (h_ob_11776_10 : F.idx (ob 11776 10) = true) (h_recLostCount :
    F.idx (recLostCount) = true) (hk : Kept F org s) : Kept F org (faultOccurrence src code s) := by
  unfold faultOccurrence
  simp [hk, h_flt, h_rcd, h_ucp, h_28, h_ob_11776_10, h_recLostCount]

@[simp ↓] theorem faultAutoClear_kept {F : Foot} {org : State} (src : Nat) (s : State) (h_flt : F.flt = true) (h_rcd : F.rcd =
    true) (h_ucp : F.ucp = true) (h_28 : F.grp 40) (h_ob_11776_10 : F.idx (ob 11776 10) = true) (h_recLostCount : F.idx
    (recLostCount) = true) (hk : Kept F org s) : Kept F org (faultAutoClear src s) := by
  unfold faultAutoClear
  simp [hk, h_flt, h_rcd, h_ucp, h_28, h_ob_11776_10, h_recLostCount]

@[simp ↓] theorem conseqModeEnd_kept {F : Foot} {org : State} (blk : Nat) (s : State) (h_flt : F.flt = true) (h_rcd : F.rcd =
    true) (h_ucp : F.ucp = true) (h_28 : F.grp 40) (h_ob_11776_10 : F.idx (ob 11776 10) = true) (h_recLostCount : F.idx
    (recLostCount) = true) (hk : Kept F org s) : Kept F org (conseqModeEnd blk s) := by
  unfold conseqModeEnd
  simp (contextual := true) (maxDischargeDepth := 60) [hk, h_flt, h_rcd, h_ucp, h_28, h_ob_11776_10, h_recLostCount]

@[simp ↓] theorem stepDecay_kept {F : Foot} {org : State} (src : Nat) (s : State) (h_28 : F.grp 40) (hk : Kept F org s) : Kept
    F org (stepDecay src s) := by
  unfold stepDecay
  simp [hk, h_28]

@[simp ↓] theorem hFaultClear_kept {F : Foot} (h_flt : F.flt = true) (h_rcd : F.rcd = true) (h_ucp : F.ucp = true) (h_28 :
    F.grp 40) (h_ob_11776_10 : F.idx (ob 11776 10) = true) (h_recLostCount : F.idx (recLostCount) = true) : (hFaultClear).Stays F
    := by
  intro m s w v hk
  unfold hFaultClear
  simp (contextual := true) (maxDischargeDepth := 60) [hk, h_flt, h_rcd, h_ucp, h_28, h_ob_11776_10, h_recLostCount]

@[simp ↓] theorem hFaultClearAll_kept {F : Foot} (h_flt : F.flt = true) (h_rcd : F.rcd = true) (h_ucp : F.ucp = true) (h_28 :
    F.grp 40) (h_ob_11776_10 : F.idx (ob 11776 10) = true) (h_recLostCount : F.idx (recLostCount) = true) : (hFaultClearAll).Stays
    F := by
  unfold hFaultClearAll
  refine Handler.simple_stays _ fun m s w v hk => ?_
  (repeat' split) <;> simp (contextual := true) (maxDischargeDepth := 60) [hk, h_flt, h_rcd, h_ucp, h_28, h_ob_11776_10, h_recLostCount]

@[simp ↓] theorem hForce_kept {F : Foot} (on : Bool) (h_flt : F.flt = true) (h_rcd : F.rcd = true) (h_ucp : F.ucp = true)
    (h_28 : F.grp 40) (h_ob_11776_10 : F.idx (ob 11776 10) = true) (h_recLostCount : F.idx (recLostCount) = true) : (hForce
    on).Stays F := by
  intro m s w v hk
  unfold hForce
  simp (contextual := true) (maxDischargeDepth := 60) [hk, h_flt, h_rcd, h_ucp, h_28, h_ob_11776_10, h_recLostCount]

@[simp ↓] theorem hSrcConfig_kept {F : Foot} (src : Nat) (h_28 : F.grp 40) : (hSrcConfig src).Stays F := by
  intro m s w v hk
  unfold hSrcConfig
  simp (contextual := true) (maxDischargeDepth := 60) [hk, h_28]

@[simp ↓] theorem faultSnsSample_kept {F : Foot} {org : State} (high : Bool) (counts : Bool) (s : State) (h_flt : F.flt =
    true) (h_rcd : F.rcd = true) (h_ucp : F.ucp = true) (h_28 : F.grp 40) (h_ob_11776_10 : F.idx (ob 11776 10) = true)
    (h_recLostCount : F.idx (recLostCount) = true) (hk : Kept F org s) : Kept F org (faultSnsSample high counts s) := by
  unfold faultSnsSample
  simp (contextual := true) (maxDischargeDepth := 60) [hk, h_flt, h_rcd, h_ucp, h_28, h_ob_11776_10, h_recLostCount]

@[simp ↓] theorem levelFinding_kept {F : Foot} {org : State} (src : Nat) (on : Bool) (code : Nat) (s : State) (h_flt : F.flt =
    true) (h_rcd : F.rcd = true) (h_ucp : F.ucp = true) (h_28 : F.grp 40) (h_ob_11776_10 : F.idx (ob 11776 10) = true)
    (h_recLostCount : F.idx (recLostCount) = true) (hk : Kept F org s) : Kept F org (levelFinding src on code s) := by
  unfold levelFinding
  simp [hk, h_flt, h_rcd, h_ucp, h_28, h_ob_11776_10, h_recLostCount]

@[simp ↓] theorem sramUncorrectable_kept {F : Foot} {org : State} (bank : Nat) (word : Nat) (s : State) (h_flt : F.flt = true)
    (h_rcd : F.rcd = true) (h_ucp : F.ucp = true) (h_28 : F.grp 40) (h_ob_11776_10 : F.idx (ob 11776 10) = true) (h_ob_5120_5 :
    F.idx (ob 5120 5) = true) (h_recLostCount : F.idx (recLostCount) = true) (hk : Kept F org s) : Kept F org (sramUncorrectable
    bank word s) := by
  unfold sramUncorrectable
  simp [hk, h_flt, h_rcd, h_ucp, h_28, h_ob_11776_10, h_ob_5120_5, h_recLostCount]

end Sys2Proof.Machine
end

