-- ==== Sys2Proof/Laws/KeptSpares.lean ====
section
/-! SUPPORT. Footprints of the spare manager. -/

set_option linter.unusedSimpArgs false
set_option linter.unusedVariables false

namespace Sys2Proof.Machine

open Sys2Proof

@[simp ↓] theorem State.setElem_kept {F : Foot} {org : State} (s : State) (p : Nat) (e : Nat) (x : Elem) (h_sp : F.sp = true)
    (hk : Kept F org s) : Kept F org (State.setElem s p e x) := by
  unfold State.setElem
  simp [hk, h_sp]

@[simp ↓] theorem State.setElemState_kept {F : Foot} {org : State} (s : State) (p : Nat) (e : Nat) (st : Nat) (h_sp : F.sp =
    true) (h_29 : F.grp 41) (hk : Kept F org s) : Kept F org (State.setElemState s p e st) := by
  unfold State.setElemState
  simp [hk, h_sp, h_29]

@[simp ↓] theorem State.selfCheck_kept {F : Foot} {org : State} (s : State) (p : Nat) (e : Nat) (h_sp : F.sp = true) (hk :
    Kept F org s) : Kept F org (State.selfCheck s p e) := by
  unfold State.selfCheck
  simp [hk, h_sp]

@[simp ↓] theorem State.spareLow_kept {F : Foot} {org : State} (s : State) (p : Nat) (e : Nat) (h_flt : F.flt = true) (h_rcd :
    F.rcd = true) (h_ucp : F.ucp = true) (h_28 : F.grp 40) (h_ob_11776_10 : F.idx (ob 11776 10) = true) (h_recLostCount : F.idx
    (recLostCount) = true) (hk : Kept F org s) : Kept F org (State.spareLow s p e) := by
  unfold State.spareLow
  simp [hk, h_flt, h_rcd, h_ucp, h_28, h_ob_11776_10, h_recLostCount]

@[simp ↓] theorem State.recordSwap_kept {F : Foot} {org : State} (s : State) (p : Nat) (e : Nat) (inn : Nat) (cause : Nat)
    (result : Nat) (dur : Nat) (mt : Nat) (h_flt : F.flt = true) (h_rcd : F.rcd = true) (h_sp : F.sp = true) (h_ucp : F.ucp =
    true) (h_28 : F.grp 40) (h_29 : F.grp 41) (h_ob_11776_10 : F.idx (ob 11776 10) = true) (h_recLostCount : F.idx (recLostCount)
    = true) (hk : Kept F org s) : Kept F org (State.recordSwap s p e inn cause result dur mt) := by
  unfold State.recordSwap
  simp (contextual := true) (maxDischargeDepth := 60) [hk, h_flt, h_rcd, h_sp, h_ucp, h_28, h_29, h_ob_11776_10, h_recLostCount]

@[simp ↓] theorem trySpares_kept {F : Foot} {org : State} (p : Nat) (x1 : List Nat) (x2 : List Bool) (x3 : State) (h_sp : F.sp
    = true) (h_29 : F.grp 41) (hk : Kept F org x3) : Kept F org (trySpares p x1 x2 x3).1 := by
  induction x1 generalizing x2 x3 with
  | nil => exact hk
  | cons x rest ih => unfold trySpares; split; exacts [hk, ih _ _ (by simp [*])]

@[simp ↓] theorem State.wearDone_kept {F : Foot} {org : State} (s : State) (p : Nat) (e : Nat) (h_flt : F.flt = true) (h_rcd :
    F.rcd = true) (h_sp : F.sp = true) (h_ucp : F.ucp = true) (h_28 : F.grp 40) (h_ob_11776_10 : F.idx (ob 11776 10) = true)
    (h_recLostCount : F.idx (recLostCount) = true) (hk : Kept F org s) : Kept F org (State.wearDone s p e) := by
  unfold State.wearDone
  simp [hk, h_flt, h_rcd, h_sp, h_ucp, h_28, h_ob_11776_10, h_recLostCount]

@[simp ↓] theorem State.swap_kept {F : Foot} {org : State} (s : State) (p : Nat) (e : Nat) (cause : Nat) (mt : Nat) (verify :
    List Bool) (dur : Nat) (h_flt : F.flt = true) (h_rcd : F.rcd = true) (h_sp : F.sp = true) (h_timers : F.timers = true) (h_ucp
    : F.ucp = true) (h_28 : F.grp 40) (h_29 : F.grp 41) (h_ob_11776_10 : F.idx (ob 11776 10) = true) (h_recLostCount : F.idx
    (recLostCount) = true) (hk : Kept F org s) : Kept F org (State.swap s p e cause mt verify dur).1 := by
  unfold State.swap
  simp only []
  split <;> (try split) <;> (try (rename_i heq; have e := congrArg Prod.fst heq; dsimp only at e; subst e)) <;>
    simp (contextual := true) (maxDischargeDepth := 60) [hk, h_flt, h_rcd, h_sp, h_timers, h_ucp, h_28, h_29, h_ob_11776_10, h_recLostCount]

@[simp ↓] theorem State.askSwap_kept {F : Foot} {org : State} (s : State) (p : Nat) (e : Nat) (cause : Nat) (hold : Bool)
    (h_sp : F.sp = true) (hk : Kept F org s) : Kept F org (State.askSwap s p e cause hold) := by
  unfold State.askSwap
  simp [hk, h_sp]

@[simp ↓] theorem State.dropReq_kept {F : Foot} {org : State} (s : State) (p : Nat) (e : Nat) (h_sp : F.sp = true) (hk : Kept
    F org s) : Kept F org (State.dropReq s p e) := by
  unfold State.dropReq
  simp [hk, h_sp]

@[simp ↓] theorem State.doRequested_kept {F : Foot} {org : State} (s : State) (p : Nat) (e : Nat) (verify : List Bool) (dur :
    Nat) (h_flt : F.flt = true) (h_rcd : F.rcd = true) (h_sp : F.sp = true) (h_timers : F.timers = true) (h_ucp : F.ucp = true)
    (h_28 : F.grp 40) (h_29 : F.grp 41) (h_ob_11776_10 : F.idx (ob 11776 10) = true) (h_recLostCount : F.idx (recLostCount) =
    true) (hk : Kept F org s) : Kept F org (State.doRequested s p e verify dur).1 := by
  unfold State.doRequested
  (repeat' split) <;> simp (contextual := true) (maxDischargeDepth := 60) [hk, h_flt, h_rcd, h_sp, h_timers, h_ucp, h_28, h_29, h_ob_11776_10, h_recLostCount]

@[simp ↓] theorem wearCrossing_kept {F : Foot} {org : State} (p : Nat) (e : Nat) (gauge : Nat) (level : Nat) (v1 : Nat) (v2 :
    Nat) (s : State) (h_sp : F.sp = true) (hk : Kept F org s) : Kept F org (wearCrossing p e gauge level v1 v2 s) := by
  unfold wearCrossing
  simp [hk, h_sp]

@[simp ↓] theorem spareSwap_kept {F : Foot} {org : State} (p : Nat) (e : Nat) (verify : List Bool) (dur : Nat) (s : State)
    (h_flt : F.flt = true) (h_rcd : F.rcd = true) (h_sp : F.sp = true) (h_timers : F.timers = true) (h_ucp : F.ucp = true) (h_28 :
    F.grp 40) (h_29 : F.grp 41) (h_ob_11776_10 : F.idx (ob 11776 10) = true) (h_recLostCount : F.idx (recLostCount) = true) (hk :
    Kept F org s) : Kept F org (spareSwap p e verify dur s) := by
  unfold spareSwap
  simp [hk, h_flt, h_rcd, h_sp, h_timers, h_ucp, h_28, h_29, h_ob_11776_10, h_recLostCount]

@[simp ↓] theorem State.spareReady_kept {F : Foot} {org : State} (s : State) (p : Nat) (h_flt : F.flt = true) (h_rcd : F.rcd =
    true) (h_sp : F.sp = true) (h_ucp : F.ucp = true) (h_28 : F.grp 40) (h_ob_11776_10 : F.idx (ob 11776 10) = true)
    (h_recLostCount : F.idx (recLostCount) = true) (hk : Kept F org s) : Kept F org (State.spareReady s p) := by
  unfold State.spareReady
  simp (contextual := true) (maxDischargeDepth := 60) [hk, h_flt, h_rcd, h_sp, h_ucp, h_28, h_ob_11776_10, h_recLostCount]

@[simp ↓] theorem elementSelftestDone_kept {F : Foot} {org : State} (p : Nat) (e : Nat) (pass : Bool) (s : State) (h_flt :
    F.flt = true) (h_rcd : F.rcd = true) (h_sp : F.sp = true) (h_timers : F.timers = true) (h_ucp : F.ucp = true) (h_28 : F.grp
    40) (h_29 : F.grp 41) (h_ob_11776_10 : F.idx (ob 11776 10) = true) (h_recLostCount : F.idx (recLostCount) = true) (hk : Kept F
    org s) : Kept F org (elementSelftestDone p e pass s) := by
  unfold elementSelftestDone
  simp (contextual := true) (maxDischargeDepth := 60) [hk, h_flt, h_rcd, h_sp, h_timers, h_ucp, h_28, h_29, h_ob_11776_10, h_recLostCount]

@[simp ↓] theorem spareTest_kept {F : Foot} {org : State} (p : Nat) (e : Nat) (pass : Bool) (s : State) (h_flt : F.flt = true)
    (h_rcd : F.rcd = true) (h_sp : F.sp = true) (h_ucp : F.ucp = true) (h_28 : F.grp 40) (h_29 : F.grp 41) (h_ob_11776_10 : F.idx
    (ob 11776 10) = true) (h_recLostCount : F.idx (recLostCount) = true) (hk : Kept F org s) : Kept F org (spareTest p e pass s)
    := by
  unfold spareTest
  simp (contextual := true) (maxDischargeDepth := 60) [hk, h_flt, h_rcd, h_sp, h_ucp, h_28, h_29, h_ob_11776_10, h_recLostCount]

@[simp ↓] theorem sramScrub_kept {F : Foot} {org : State} (bank : Nat) (lastHour : Nat) (new : Nat) (sameWord : Bool) (s :
    State) (h_flt : F.flt = true) (h_rcd : F.rcd = true) (h_sp : F.sp = true) (h_ucp : F.ucp = true) (h_28 : F.grp 40)
    (h_ob_11776_10 : F.idx (ob 11776 10) = true) (h_recLostCount : F.idx (recLostCount) = true) (hk : Kept F org s) : Kept F org
    (sramScrub bank lastHour new sameWord s) := by
  unfold sramScrub
  simp (contextual := true) (maxDischargeDepth := 60) [hk, h_flt, h_rcd, h_sp, h_ucp, h_28, h_ob_11776_10, h_recLostCount]

@[simp ↓] theorem sramBankCopy_kept {F : Foot} {org : State} (bank : Nat) (words : List Nat) (verify : List Bool) (dur : Nat)
    (s : State) (h_flt : F.flt = true) (h_rcd : F.rcd = true) (h_sp : F.sp = true) (h_timers : F.timers = true) (h_ucp : F.ucp =
    true) (h_28 : F.grp 40) (h_29 : F.grp 41) (h_ob_11776_10 : F.idx (ob 11776 10) = true) (h_recLostCount : F.idx (recLostCount)
    = true) (hk : Kept F org s) : Kept F org (sramBankCopy bank words verify dur s) := by
  unfold sramBankCopy
  split <;> (try (rename_i heq; have e := congrArg Prod.fst heq; dsimp only at e; subst e)) <;>
    simp (contextual := true) (maxDischargeDepth := 60) [hk, h_flt, h_rcd, h_sp, h_timers, h_ucp, h_28, h_29, h_ob_11776_10, h_recLostCount]

end Sys2Proof.Machine
end

