-- ==== Sys2Proof/Laws/KeptTime.lean ====
section
/-! SUPPORT. Footprints of time. -/

set_option linter.unusedSimpArgs false
set_option linter.unusedVariables false

namespace Sys2Proof.Machine

open Sys2Proof

@[simp] theorem tk_grp (a : Nat) : tk a / 65536 = 0x20 := by unfold tk; rw [ob_grp]
@[simp] theorem tk_idx {F : Foot} (h : F.grp 0x20) (a : Nat) : F.idx (tk a) = true := h _ (tk_grp _)

@[simp ↓] theorem State.advance_kept {F : Foot} {org : State} (s : State) (ticks : Nat) (h_tm : F.tm = true) (h_recOpms :
    F.idx (recOpms) = true) (hk : Kept F org s) : Kept F org (State.advance s ticks) := by
  unfold State.advance
  simp [hk, h_tm, h_recOpms]

@[simp ↓] theorem State.snapTime_kept {F : Foot} {org : State} (s : State) (h_tm : F.tm = true) (hk : Kept F org s) : Kept F
    org (State.snapTime s) := by
  unfold State.snapTime
  simp [hk, h_tm]

@[simp ↓] theorem State.setCal_kept {F : Foot} {org : State} (s : State) (v : Int) (subject : Nat) (h_flt : F.flt = true)
    (h_rcd : F.rcd = true) (h_ucp : F.ucp = true) (h_28 : F.grp 40) (h_ob_11776_10 : F.idx (ob 11776 10) = true) (h_recLostCount :
    F.idx (recLostCount) = true) (h_tk_5 : F.idx (tk 5) = true) (hk : Kept F org s) : Kept F org (State.setCal s v subject) := by
  unfold State.setCal
  simp [hk, h_flt, h_rcd, h_ucp, h_28, h_ob_11776_10, h_recLostCount, h_tk_5]

@[simp ↓] theorem State.recomputeCal_kept {F : Foot} {org : State} (s : State) (subject : Nat) (h_flt : F.flt = true) (h_rcd :
    F.rcd = true) (h_tm : F.tm = true) (h_ucp : F.ucp = true) (h_28 : F.grp 40) (h_ob_11776_10 : F.idx (ob 11776 10) = true)
    (h_recLostCount : F.idx (recLostCount) = true) (h_tk_5 : F.idx (tk 5) = true) (hk : Kept F org s) : Kept F org
    (State.recomputeCal s subject) := by
  unfold State.recomputeCal
  simp [hk, h_flt, h_rcd, h_tm, h_ucp, h_28, h_ob_11776_10, h_recLostCount, h_tk_5]

@[simp ↓] theorem State.discipline_kept {F : Foot} {org : State} (s : State) (b : Int) (d : Int) (h_tm : F.tm = true) (h_tk_4
    : F.idx (tk 4) = true) (h_tk_9 : F.idx (tk 9) = true) (hk : Kept F org s) : Kept F org (State.discipline s b d) := by
  unfold State.discipline
  simp (contextual := true) (maxDischargeDepth := 60) [hk, h_tm, h_tk_4, h_tk_9]

@[simp ↓] theorem timeSolutionDelivery_kept {F : Foot} {org : State} (b : Int) (d : Int) (sigma : Nat) (sf : Nat) (sats : Nat)
    (s : State) (h_flt : F.flt = true) (h_rcd : F.rcd = true) (h_tm : F.tm = true) (h_ucp : F.ucp = true) (h_28 : F.grp 40)
    (h_ob_11776_10 : F.idx (ob 11776 10) = true) (h_recLostCount : F.idx (recLostCount) = true) (h_tk_4 : F.idx (tk 4) = true)
    (h_tk_9 : F.idx (tk 9) = true) (hk : Kept F org s) : Kept F org (timeSolutionDelivery b d sigma sf sats s) := by
  unfold timeSolutionDelivery
  simp (contextual := true) (maxDischargeDepth := 60) [hk, h_flt, h_rcd, h_tm, h_ucp, h_28, h_ob_11776_10, h_recLostCount, h_tk_4, h_tk_9]

@[simp ↓] theorem timeSolutionDeadline_kept {F : Foot} {org : State} (s : State) (h_tm : F.tm = true) (hk : Kept F org s) :
    Kept F org (timeSolutionDeadline s) := by
  unfold timeSolutionDeadline
  simp [hk, h_tm]

@[simp ↓] theorem State.publishErr_kept {F : Foot} {org : State} (s : State) (h_tk_8 : F.idx (tk 8) = true) (hk : Kept F org
    s) : Kept F org (State.publishErr s) := by
  unfold State.publishErr
  simp [hk, h_tk_8]

@[simp ↓] theorem State.updateErr_kept {F : Foot} {org : State} (s : State) (old : Nat) (new : Nat) (dT : Nat) (h_tm : F.tm =
    true) (hk : Kept F org s) : Kept F org (State.updateErr s old new dT) := by
  unfold State.updateErr
  simp [hk, h_tm]

@[simp ↓] theorem State.setGoff_kept {F : Foot} {org : State} (s : State) (new : Nat) (h_tk_4 : F.idx (tk 4) = true) (hk :
    Kept F org s) : Kept F org (State.setGoff s new) := by
  unfold State.setGoff
  simp [hk, h_tk_4]

@[simp ↓] theorem State.countSources_kept {F : Foot} {org : State} (s : State) (h_tm : F.tm = true) (hk : Kept F org s) : Kept
    F org (State.countSources s) := by
  unfold State.countSources
  simp [hk, h_tm]

@[simp ↓] theorem State.leaveFree_kept {F : Foot} {org : State} (s : State) (new : Nat) (h_tm : F.tm = true) (h_tk_4 : F.idx
    (tk 4) = true) (hk : Kept F org s) : Kept F org (State.leaveFree s new) := by
  unfold State.leaveFree
  simp [hk, h_tm, h_tk_4]

@[simp ↓] theorem secondBoundary_kept {F : Foot} {org : State} (dT : Nat) (s : State) (h_flt : F.flt = true) (h_rcd : F.rcd =
    true) (h_tm : F.tm = true) (h_ucp : F.ucp = true) (h_28 : F.grp 40) (h_ob_11776_10 : F.idx (ob 11776 10) = true)
    (h_recLostCount : F.idx (recLostCount) = true) (h_tk_3 : F.idx (tk 3) = true) (h_tk_4 : F.idx (tk 4) = true) (h_tk_5 : F.idx
    (tk 5) = true) (h_tk_8 : F.idx (tk 8) = true) (h_tk_9 : F.idx (tk 9) = true) (hk : Kept F org s) : Kept F org (secondBoundary
    dT s) := by
  unfold secondBoundary
  simp (contextual := true) (maxDischargeDepth := 60) [hk, h_flt, h_rcd, h_tm, h_ucp, h_28, h_ob_11776_10, h_recLostCount, h_tk_3, h_tk_4, h_tk_5, h_tk_8, h_tk_9]

@[simp ↓] theorem State.applyStep_kept {F : Foot} {org : State} (s : State) (h_eth : F.eth = true) (h_flt : F.flt = true)
    (h_rcd : F.rcd = true) (h_tm : F.tm = true) (h_ucp : F.ucp = true) (h_28 : F.grp 40) (h_ob_11776_10 : F.idx (ob 11776 10) =
    true) (h_recLostCount : F.idx (recLostCount) = true) (h_tk_18 : F.idx (tk 18) = true) (h_tk_19 : F.idx (tk 19) = true) (h_tk_4
    : F.idx (tk 4) = true) (hk : Kept F org s) : Kept F org (State.applyStep s) := by
  unfold State.applyStep
  (repeat' split) <;> simp (contextual := true) (maxDischargeDepth := 60) [hk, h_eth, h_flt, h_rcd, h_tm, h_ucp, h_28, h_ob_11776_10, h_recLostCount, h_tk_18, h_tk_19, h_tk_4]

@[simp ↓] theorem pulseReport_kept {F : Foot} {org : State} (s : State) (h_flt : F.flt = true) (h_rcd : F.rcd = true) (h_tm :
    F.tm = true) (h_ucp : F.ucp = true) (h_28 : F.grp 40) (h_ob_11776_10 : F.idx (ob 11776 10) = true) (h_recLostCount : F.idx
    (recLostCount) = true) (h_tk_24 : F.idx (tk 24) = true) (h_tk_25 : F.idx (tk 25) = true) (hk : Kept F org s) : Kept F org
    (pulseReport s) := by
  unfold pulseReport
  simp (contextual := true) (maxDischargeDepth := 60) [hk, h_flt, h_rcd, h_tm, h_ucp, h_28, h_ob_11776_10, h_recLostCount, h_tk_24, h_tk_25]

@[simp ↓] theorem ppsPulse_kept {F : Foot} {org : State} (off : Bool) (s : State) (h_eth : F.eth = true) (h_flt : F.flt =
    true) (h_rcd : F.rcd = true) (h_tm : F.tm = true) (h_ucp : F.ucp = true) (h_28 : F.grp 40) (h_ob_11776_10 : F.idx (ob 11776
    10) = true) (h_recLostCount : F.idx (recLostCount) = true) (h_tk_18 : F.idx (tk 18) = true) (h_tk_19 : F.idx (tk 19) = true)
    (h_tk_4 : F.idx (tk 4) = true) (hk : Kept F org s) : Kept F org (ppsPulse off s) := by
  unfold ppsPulse
  simp [hk, h_eth, h_flt, h_rcd, h_tm, h_ucp, h_28, h_ob_11776_10, h_recLostCount, h_tk_18, h_tk_19, h_tk_4]

@[simp ↓] theorem mtStore_kept {F : Foot} {org : State} (s : State) (h_nv : F.nv = true) (hk : Kept F org s) : Kept F org
    (mtStore s) := by
  unfold mtStore
  simp [hk, h_nv]

@[simp ↓] theorem standbyOscMeasure_kept {F : Foot} {org : State} (offset : Int) (s : State) (h_tk_26 : F.idx (tk 26) = true)
    (hk : Kept F org s) : Kept F org (standbyOscMeasure offset s) := by
  unfold standbyOscMeasure
  simp [hk, h_tk_26]

@[simp ↓] theorem leapSecond_kept {F : Foot} {org : State} (l : Nat) (s : State) (h_flt : F.flt = true) (h_rcd : F.rcd = true)
    (h_tm : F.tm = true) (h_ucp : F.ucp = true) (h_28 : F.grp 40) (h_ob_11776_10 : F.idx (ob 11776 10) = true) (h_recLostCount :
    F.idx (recLostCount) = true) (h_tk_5 : F.idx (tk 5) = true) (h_tk_7 : F.idx (tk 7) = true) (hk : Kept F org s) : Kept F org
    (leapSecond l s) := by
  unfold leapSecond
  simp [hk, h_flt, h_rcd, h_tm, h_ucp, h_28, h_ob_11776_10, h_recLostCount, h_tk_5, h_tk_7]

@[simp ↓] theorem hCalOff_kept {F : Foot} (h_flt : F.flt = true) (h_rcd : F.rcd = true) (h_ucp : F.ucp = true) (h_28 : F.grp
    40) (h_ob_11776_10 : F.idx (ob 11776 10) = true) (h_recLostCount : F.idx (recLostCount) = true) (h_tk_5 : F.idx (tk 5) = true)
    : (hCalOff).Stays F := by
  unfold hCalOff
  refine Handler.simple_stays _ fun m s w v hk => ?_
  (repeat' split) <;> simp (contextual := true) (maxDischargeDepth := 60) [hk, h_flt, h_rcd, h_ucp, h_28, h_ob_11776_10, h_recLostCount, h_tk_5]

end Sys2Proof.Machine
end

