-- ==== Sys2Proof/Laws/KeptInputs.lean ====
section
/-! SUPPORT. Footprints of the inputs and supplies. -/

set_option linter.unusedSimpArgs false
set_option linter.unusedVariables false

namespace Sys2Proof.Machine

open Sys2Proof

@[simp] theorem ik_grp (a b : Nat) : ik a b / 65536 = 0x21 := by unfold ik; rw [ob_grp]; omega
@[simp] theorem ik_idx {F : Foot} (h : F.grp 0x21) (a b : Nat) : F.idx (ik a b) = true := h _ (ik_grp _ _)
@[simp] theorem supk_grp (a b : Nat) : supk a b / 65536 = 0x21 := by unfold supk; rw [ob_grp]
@[simp] theorem supk_idx {F : Foot} (h : F.grp 0x21) (a b : Nat) : F.idx (supk a b) = true := h _ (supk_grp _ _)

@[simp ↓] theorem State.setChan_kept {F : Foot} {org : State} (s : State) (c : Nat) (f : ChanSt → ChanSt) (h_inp : F.inp =
    true) (hk : Kept F org s) : Kept F org (State.setChan s c f) := by
  unfold State.setChan
  simp [hk, h_inp]

@[simp ↓] theorem State.setSup_kept {F : Foot} {org : State} (s : State) (k : Nat) (f : SupSt → SupSt) (h_inp : F.inp = true)
    (hk : Kept F org s) : Kept F org (State.setSup s k f) := by
  unfold State.setSup
  simp [hk, h_inp]

@[simp ↓] theorem State.supFault_kept {F : Foot} {org : State} (s : State) (k : Nat) (h_flt : F.flt = true) (h_rcd : F.rcd =
    true) (h_ucp : F.ucp = true) (h_28 : F.grp 40) (h_ob_11776_10 : F.idx (ob 11776 10) = true) (h_recLostCount : F.idx
    (recLostCount) = true) (hk : Kept F org s) : Kept F org (State.supFault s k) := by
  unfold State.supFault
  simp [hk, h_flt, h_rcd, h_ucp, h_28, h_ob_11776_10, h_recLostCount]

@[simp ↓] theorem State.supTrip_kept {F : Foot} {org : State} (s : State) (k : Nat) (overvolt : Bool) (h_flt : F.flt = true)
    (h_rcd : F.rcd = true) (h_timers : F.timers = true) (h_ucp : F.ucp = true) (h_21 : F.grp 33) (h_28 : F.grp 40) (h_ob_11776_10
    : F.idx (ob 11776 10) = true) (h_recLostCount : F.idx (recLostCount) = true) (hk : Kept F org s) : Kept F org (State.supTrip s
    k overvolt) := by
  unfold State.supTrip
  simp (contextual := true) (maxDischargeDepth := 60) [hk, h_flt, h_rcd, h_timers, h_ucp, h_21, h_28, h_ob_11776_10, h_recLostCount]

@[simp ↓] theorem supTrip_kept {F : Foot} {org : State} (k : Nat) (s : State) (h_flt : F.flt = true) (h_rcd : F.rcd = true)
    (h_timers : F.timers = true) (h_ucp : F.ucp = true) (h_21 : F.grp 33) (h_28 : F.grp 40) (h_ob_11776_10 : F.idx (ob 11776 10) =
    true) (h_recLostCount : F.idx (recLostCount) = true) (hk : Kept F org s) : Kept F org (supTrip k s) := by
  unfold supTrip
  simp [hk, h_flt, h_rcd, h_timers, h_ucp, h_21, h_28, h_ob_11776_10, h_recLostCount]

@[simp ↓] theorem supOvervolt_kept {F : Foot} {org : State} (k : Nat) (s : State) (h_flt : F.flt = true) (h_rcd : F.rcd =
    true) (h_timers : F.timers = true) (h_ucp : F.ucp = true) (h_21 : F.grp 33) (h_28 : F.grp 40) (h_ob_11776_10 : F.idx (ob 11776
    10) = true) (h_recLostCount : F.idx (recLostCount) = true) (hk : Kept F org s) : Kept F org (supOvervolt k s) := by
  unfold supOvervolt
  simp [hk, h_flt, h_rcd, h_timers, h_ucp, h_21, h_28, h_ob_11776_10, h_recLostCount]

@[simp ↓] theorem supUndervolt_kept {F : Foot} {org : State} (k : Nat) (s : State) (h_21 : F.grp 33) (hk : Kept F org s) :
    Kept F org (supUndervolt k s) := by
  unfold supUndervolt
  simp [hk, h_21]

@[simp ↓] theorem supRetry_kept {F : Foot} {org : State} (k : Nat) (s : State) (h_flt : F.flt = true) (h_inp : F.inp = true)
    (h_rcd : F.rcd = true) (h_timers : F.timers = true) (h_ucp : F.ucp = true) (h_21 : F.grp 33) (h_28 : F.grp 40) (h_ob_11776_10
    : F.idx (ob 11776 10) = true) (h_recLostCount : F.idx (recLostCount) = true) (hk : Kept F org s) : Kept F org (supRetry k s)
    := by
  unfold supRetry
  simp (contextual := true) (maxDischargeDepth := 60) [hk, h_flt, h_inp, h_rcd, h_timers, h_ucp, h_21, h_28, h_ob_11776_10, h_recLostCount]

@[simp ↓] theorem supRetryReset_kept {F : Foot} {org : State} (k : Nat) (s : State) (h_inp : F.inp = true) (h_timers :
    F.timers = true) (hk : Kept F org s) : Kept F org (supRetryReset k s) := by
  unfold supRetryReset
  simp [hk, h_inp, h_timers]

@[simp ↓] theorem hSupRestart_kept {F : Foot} (h_flt : F.flt = true) (h_inp : F.inp = true) (h_rcd : F.rcd = true) (h_ucp :
    F.ucp = true) (h_21 : F.grp 33) (h_28 : F.grp 40) (h_ob_11776_10 : F.idx (ob 11776 10) = true) (h_recLostCount : F.idx
    (recLostCount) = true) : (hSupRestart).Stays F := by
  unfold hSupRestart
  refine Handler.simple_stays _ fun m s w v hk => ?_
  (repeat' split) <;> simp (contextual := true) (maxDischargeDepth := 60) [hk, h_flt, h_inp, h_rcd, h_ucp, h_21, h_28, h_ob_11776_10, h_recLostCount]

@[simp ↓] theorem hSupEnable_kept {F : Foot} (k : Nat) (h_flt : F.flt = true) (h_rcd : F.rcd = true) (h_timers : F.timers =
    true) (h_ucp : F.ucp = true) (h_21 : F.grp 33) (h_28 : F.grp 40) (h_ob_11776_10 : F.idx (ob 11776 10) = true) (h_recLostCount
    : F.idx (recLostCount) = true) : (hSupEnable k).Stays F := by
  unfold hSupEnable
  refine Handler.simple_stays _ fun m s w v hk => ?_
  (repeat' split) <;> simp (contextual := true) (maxDischargeDepth := 60) [hk, h_flt, h_rcd, h_timers, h_ucp, h_21, h_28, h_ob_11776_10, h_recLostCount]

@[simp ↓] theorem supplyTestPulse_kept {F : Foot} {org : State} (k : Nat) (s : State) (h_inp : F.inp = true) (h_21 : F.grp 33)
    (hk : Kept F org s) : Kept F org (supplyTestPulse k s) := by
  unfold supplyTestPulse
  simp (contextual := true) (maxDischargeDepth := 60) [hk, h_inp, h_21]

@[simp ↓] theorem State.scaleSup_kept {F : Foot} {org : State} (s : State) (m : SupMon) (h_inp : F.inp = true) (h_21 : F.grp
    33) (hk : Kept F org s) : Kept F org (State.scaleSup s m) := by
  unfold State.scaleSup
  simp (contextual := true) (maxDischargeDepth := 60) [hk, h_inp, h_21]

@[simp ↓] theorem State.scaleChan_kept {F : Foot} {org : State} (s : State) (mon : List SupMon) (c : Nat) (convs : List Conv)
    (h_flt : F.flt = true) (h_inp : F.inp = true) (h_rcd : F.rcd = true) (h_ucp : F.ucp = true) (h_ik22 : ∀ p, F.idx (ik p 22) =
    true) (h_ik23 : ∀ p, F.idx (ik p 23) = true) (h_ik24 : ∀ p, F.idx (ik p 24) = true) (h_ik26 : ∀ p, F.idx (ik p 26) = true)
    (h_ik29 : ∀ p, F.idx (ik p 29) = true) (h_28 : F.grp 40) (h_ob_11776_10 : F.idx (ob 11776 10) = true) (h_recLostCount : F.idx
    (recLostCount) = true) (hk : Kept F org s) : Kept F org (State.scaleChan s mon c convs) := by
  unfold State.scaleChan
  simp (contextual := true) (maxDischargeDepth := 60) [hk, h_flt, h_inp, h_rcd, h_ucp, h_ik22, h_ik23, h_ik24, h_ik26, h_ik29, h_28, h_ob_11776_10, h_recLostCount]

@[simp ↓] theorem scaleBlock_kept {F : Foot} {org : State} (blk : List ChBlock) (mon : List SupMon) (s : State) (h_flt : F.flt
    = true) (h_inp : F.inp = true) (h_rcd : F.rcd = true) (h_ucp : F.ucp = true) (h_21 : F.grp 33) (h_28 : F.grp 40)
    (h_ob_11776_10 : F.idx (ob 11776 10) = true) (h_recLostCount : F.idx (recLostCount) = true) (hk : Kept F org s) : Kept F org
    (scaleBlock blk mon s) := by
  unfold scaleBlock
  simp (contextual := true) (maxDischargeDepth := 60) [hk, h_flt, h_inp, h_rcd, h_ucp, h_21, h_28, h_ob_11776_10, h_recLostCount]

@[simp ↓] theorem State.sealInputs_kept {F : Foot} {org : State} (s : State) (h_inp : F.inp = true) (hk : Kept F org s) : Kept
    F org (State.sealInputs s) := by
  unfold State.sealInputs
  simp [hk, h_inp]

@[simp ↓] theorem settlingEnd_kept {F : Foot} {org : State} (c : Nat) (s : State) (h_inp : F.inp = true) (hk : Kept F org s) :
    Kept F org (settlingEnd c s) := by
  unfold settlingEnd
  simp [hk, h_inp]

@[simp ↓] theorem State.fabRestart_kept {F : Foot} {org : State} (s : State) (h_inp : F.inp = true) (hk : Kept F org s) : Kept
    F org (State.fabRestart s) := by
  unfold State.fabRestart
  simp [hk, h_inp]

@[simp ↓] theorem inputEdge_kept {F : Foot} {org : State} (c : Nat) (up : Bool) (both : Bool) (stamp : Nat) (s : State) (h_inp
    : F.inp = true) (h_ik27 : ∀ p, F.idx (ik p 27) = true) (hk : Kept F org s) : Kept F org (inputEdge c up both stamp s) := by
  unfold inputEdge
  simp only []
  (repeat' split) <;> simp (maxDischargeDepth := 60) [*]

@[simp ↓] theorem inputDiagFault_kept {F : Foot} {org : State} (c : Nat) (high : Bool) (s : State) (h_flt : F.flt = true)
    (h_inp : F.inp = true) (h_rcd : F.rcd = true) (h_ucp : F.ucp = true) (h_ik23 : ∀ p, F.idx (ik p 23) = true) (h_ik28 : ∀ p,
    F.idx (ik p 28) = true) (h_28 : F.grp 40) (h_ob_11776_10 : F.idx (ob 11776 10) = true) (h_recLostCount : F.idx (recLostCount)
    = true) (hk : Kept F org s) : Kept F org (inputDiagFault c high s) := by
  unfold inputDiagFault
  simp (contextual := true) (maxDischargeDepth := 60) [hk, h_flt, h_inp, h_rcd, h_ucp, h_ik23, h_ik28, h_28, h_ob_11776_10, h_recLostCount]

@[simp ↓] theorem currentInputProtect_kept {F : Foot} {org : State} (c : Nat) (s : State) (h_inp : F.inp = true) (h_timers :
    F.timers = true) (h_ik23 : ∀ p, F.idx (ik p 23) = true) (hk : Kept F org s) : Kept F org (currentInputProtect c s) := by
  unfold currentInputProtect
  simp (contextual := true) (maxDischargeDepth := 60) [hk, h_inp, h_timers, h_ik23]

@[simp ↓] theorem currentInputTrial_kept {F : Foot} {org : State} (c : Nat) (s : State) (h_inp : F.inp = true) (h_timers :
    F.timers = true) (hk : Kept F org s) : Kept F org (currentInputTrial c s) := by
  unfold currentInputTrial
  simp [hk, h_inp, h_timers]

@[simp ↓] theorem State.convFailed_kept {F : Foot} {org : State} (s : State) (c : Nat) (h_flt : F.flt = true) (h_inp : F.inp =
    true) (h_rcd : F.rcd = true) (h_sp : F.sp = true) (h_timers : F.timers = true) (h_ucp : F.ucp = true) (h_28 : F.grp 40)
    (h_ob_11776_10 : F.idx (ob 11776 10) = true) (h_recLostCount : F.idx (recLostCount) = true) (hk : Kept F org s) : Kept F org
    (State.convFailed s c) := by
  unfold State.convFailed
  simp (contextual := true) (maxDischargeDepth := 60) [hk, h_flt, h_inp, h_rcd, h_sp, h_timers, h_ucp, h_28, h_ob_11776_10, h_recLostCount]

@[simp ↓] theorem shadowWindowEnd_kept {F : Foot} {org : State} (g : Nat) (own : Int) (sp : Int) (counts : Bool) (s : State)
    (h_flt : F.flt = true) (h_inp : F.inp = true) (h_rcd : F.rcd = true) (h_sp : F.sp = true) (h_timers : F.timers = true) (h_ucp
    : F.ucp = true) (h_28 : F.grp 40) (h_ob_11776_10 : F.idx (ob 11776 10) = true) (h_recLostCount : F.idx (recLostCount) = true)
    (hk : Kept F org s) : Kept F org (shadowWindowEnd g own sp counts s) := by
  unfold shadowWindowEnd
  simp (contextual := true) (maxDischargeDepth := 60) [hk, h_flt, h_inp, h_rcd, h_sp, h_timers, h_ucp, h_28, h_ob_11776_10, h_recLostCount]

@[simp ↓] theorem conversionFail_kept {F : Foot} {org : State} (c : Nat) (s : State) (h_flt : F.flt = true) (h_inp : F.inp =
    true) (h_rcd : F.rcd = true) (h_sp : F.sp = true) (h_timers : F.timers = true) (h_ucp : F.ucp = true) (h_28 : F.grp 40)
    (h_ob_11776_10 : F.idx (ob 11776 10) = true) (h_recLostCount : F.idx (recLostCount) = true) (hk : Kept F org s) : Kept F org
    (conversionFail c s) := by
  unfold conversionFail
  simp (contextual := true) (maxDischargeDepth := 60) [hk, h_flt, h_inp, h_rcd, h_sp, h_timers, h_ucp, h_28, h_ob_11776_10, h_recLostCount]

@[simp ↓] theorem State.convNone_kept {F : Foot} {org : State} (s : State) (c : Nat) (h_sp : F.sp = true) (h_ik23 : ∀ p, F.idx
    (ik p 23) = true) (h_ik25 : ∀ p, F.idx (ik p 25) = true) (hk : Kept F org s) : Kept F org (State.convNone s c) := by
  unfold State.convNone
  simp (contextual := true) (maxDischargeDepth := 60) [hk, h_sp, h_ik23, h_ik25]

@[simp ↓] theorem spareConverterSwitch_kept {F : Foot} {org : State} (c : Nat) (verify : List Bool) (dur : Nat) (s : State)
    (h_flt : F.flt = true) (h_rcd : F.rcd = true) (h_sp : F.sp = true) (h_timers : F.timers = true) (h_ucp : F.ucp = true) (h_ik23
    : ∀ p, F.idx (ik p 23) = true) (h_ik25 : ∀ p, F.idx (ik p 25) = true) (h_28 : F.grp 40) (h_29 : F.grp 41) (h_ob_11776_10 :
    F.idx (ob 11776 10) = true) (h_recLostCount : F.idx (recLostCount) = true) (hk : Kept F org s) : Kept F org
    (spareConverterSwitch c verify dur s) := by
  have ht : Kept F org (s.doRequested 6 c verify dur).1 := by simp [*]
  unfold spareConverterSwitch
  split
  · split <;> rename_i heq <;> rw [heq] at ht <;> dsimp only at ht <;>
      simp (contextual := true) (maxDischargeDepth := 60) [*]
  · exact hk

@[simp ↓] theorem spareConfirmTimeout_kept {F : Foot} {org : State} (c : Nat) (s : State) (h_sp : F.sp = true) (h_timers :
    F.timers = true) (h_ik23 : ∀ p, F.idx (ik p 23) = true) (h_ik25 : ∀ p, F.idx (ik p 25) = true) (hk : Kept F org s) : Kept F
    org (spareConfirmTimeout c s) := by
  unfold spareConfirmTimeout
  simp [hk, h_sp, h_timers, h_ik23, h_ik25]

@[simp ↓] theorem hInMode_kept {F : Foot} (c : Nat) (h_21 : F.grp 33) : (hInMode c).Stays F := by
  intro m s w v hk
  unfold hInMode
  simp (contextual := true) (maxDischargeDepth := 60) [hk, h_21]

@[simp ↓] theorem hInRange_kept {F : Foot} (c : Nat) (h_ik2 : ∀ p, F.idx (ik p 2) = true) : (hInRange c).Stays F := by
  intro m s w v hk
  unfold hInRange
  simp (contextual := true) (maxDischargeDepth := 60) [hk, h_ik2]

@[simp ↓] theorem hInRate_kept {F : Foot} (c : Nat) (h_ik3 : ∀ p, F.idx (ik p 3) = true) (h_ik4 : ∀ p, F.idx (ik p 4) = true)
    : (hInRate c).Stays F := by
  intro m s w v hk
  unfold hInRate
  simp (contextual := true) (maxDischargeDepth := 60) [hk, h_ik3, h_ik4]

@[simp ↓] theorem hInPhase_kept {F : Foot} (c : Nat) (h_ik4 : ∀ p, F.idx (ik p 4) = true) : (hInPhase c).Stays F := by
  intro m s w v hk
  unfold hInPhase
  simp (contextual := true) (maxDischargeDepth := 60) [hk, h_ik4]

end Sys2Proof.Machine
end

