-- ==== Sys2Proof/Laws/KeptReceiver.lean ====
section
/-! SUPPORT. Footprints of the receiver. -/

set_option linter.unusedSimpArgs false
set_option linter.unusedVariables false

namespace Sys2Proof.Machine

open Sys2Proof

@[simp] theorem rk_grp (a : Nat) : rk a / 65536 = 0x23 := by unfold rk; rw [ob_grp]
@[simp] theorem rk_idx {F : Foot} (h : F.grp 0x23) (a : Nat) : F.idx (rk a) = true := h _ (rk_grp _)
@[simp] theorem rck_grp (a b : Nat) : rck a b / 65536 = 0x23 := by unfold rck; rw [ob_grp]
@[simp] theorem rck_idx {F : Foot} (h : F.grp 0x23) (a b : Nat) : F.idx (rck a b) = true := h _ (rck_grp _ _)

@[simp ↓] theorem State.rxCounts_kept {F : Foot} {org : State} (s : State) (h_rk_5 : F.idx (rk 5) = true) (h_rk_6 : F.idx (rk
    6) = true) (h_rk_7 : F.idx (rk 7) = true) (hk : Kept F org s) : Kept F org (State.rxCounts s) := by
  unfold State.rxCounts
  simp (contextual := true) (maxDischargeDepth := 60) [hk, h_rk_5, h_rk_6, h_rk_7]

@[simp ↓] theorem State.setRx_kept {F : Foot} {org : State} (s : State) (c : Nat) (f : RxChan → RxChan) (h_rx : F.rx = true)
    (h_rk_5 : F.idx (rk 5) = true) (h_rk_6 : F.idx (rk 6) = true) (h_rk_7 : F.idx (rk 7) = true) (hk : Kept F org s) : Kept F org
    (State.setRx s c f) := by
  unfold State.setRx
  simp [hk, h_rx, h_rk_5, h_rk_6, h_rk_7]

@[simp ↓] theorem State.setRf_kept {F : Foot} {org : State} (s : State) (c : Nat) (f : RfChain → RfChain) (h_rx : F.rx = true)
    (hk : Kept F org s) : Kept F org (State.setRf s c f) := by
  unfold State.setRf
  simp [hk, h_rx]

@[simp ↓] theorem State.setFeed_kept {F : Foot} {org : State} (s : State) (a : Nat) (st : Nat) (h_flt : F.flt = true) (h_rcd :
    F.rcd = true) (h_ucp : F.ucp = true) (h_28 : F.grp 40) (h_ob_11776_10 : F.idx (ob 11776 10) = true) (h_recLostCount : F.idx
    (recLostCount) = true) (h_rk_26 : F.idx (rk 26) = true) (hk : Kept F org s) : Kept F org (State.setFeed s a st) := by
  unfold State.setFeed
  simp [hk, h_flt, h_rcd, h_ucp, h_28, h_ob_11776_10, h_recLostCount, h_rk_26]

@[simp ↓] theorem antFeedShort_kept {F : Foot} {org : State} (a : Nat) (s : State) (h_flt : F.flt = true) (h_rcd : F.rcd =
    true) (h_rx : F.rx = true) (h_timers : F.timers = true) (h_ucp : F.ucp = true) (h_28 : F.grp 40) (h_ob_11776_10 : F.idx (ob
    11776 10) = true) (h_recLostCount : F.idx (recLostCount) = true) (h_rk_26 : F.idx (rk 26) = true) (hk : Kept F org s) : Kept F
    org (antFeedShort a s) := by
  unfold antFeedShort
  simp (contextual := true) (maxDischargeDepth := 60) [hk, h_flt, h_rcd, h_rx, h_timers, h_ucp, h_28, h_ob_11776_10, h_recLostCount, h_rk_26]

@[simp ↓] theorem antFeedTrial_kept {F : Foot} {org : State} (a : Nat) (s : State) (h_rx : F.rx = true) (h_timers : F.timers =
    true) (hk : Kept F org s) : Kept F org (antFeedTrial a s) := by
  unfold antFeedTrial
  simp [hk, h_rx, h_timers]

@[simp ↓] theorem antFeedOpen_kept {F : Foot} {org : State} (a : Nat) (s : State) (h_flt : F.flt = true) (h_rcd : F.rcd =
    true) (h_ucp : F.ucp = true) (h_28 : F.grp 40) (h_ob_11776_10 : F.idx (ob 11776 10) = true) (h_recLostCount : F.idx
    (recLostCount) = true) (h_rk_26 : F.idx (rk 26) = true) (hk : Kept F org s) : Kept F org (antFeedOpen a s) := by
  unfold antFeedOpen
  simp [hk, h_flt, h_rcd, h_ucp, h_28, h_ob_11776_10, h_recLostCount, h_rk_26]

@[simp ↓] theorem antFeedNormal_kept {F : Foot} {org : State} (a : Nat) (s : State) (h_flt : F.flt = true) (h_rcd : F.rcd =
    true) (h_ucp : F.ucp = true) (h_28 : F.grp 40) (h_ob_11776_10 : F.idx (ob 11776 10) = true) (h_recLostCount : F.idx
    (recLostCount) = true) (h_rk_26 : F.idx (rk 26) = true) (hk : Kept F org s) : Kept F org (antFeedNormal a s) := by
  unfold antFeedNormal
  simp [hk, h_flt, h_rcd, h_ucp, h_28, h_ob_11776_10, h_recLostCount, h_rk_26]

@[simp ↓] theorem State.feedTick_kept {F : Foot} {org : State} (s : State) (a : Nat) (h_flt : F.flt = true) (h_rcd : F.rcd =
    true) (h_rx : F.rx = true) (h_ucp : F.ucp = true) (h_28 : F.grp 40) (h_ob_11776_10 : F.idx (ob 11776 10) = true)
    (h_recLostCount : F.idx (recLostCount) = true) (h_rk_26 : F.idx (rk 26) = true) (hk : Kept F org s) : Kept F org
    (State.feedTick s a) := by
  unfold State.feedTick
  simp [hk, h_flt, h_rcd, h_rx, h_ucp, h_28, h_ob_11776_10, h_recLostCount, h_rk_26]

@[simp ↓] theorem State.rxIdle_kept {F : Foot} {org : State} (s : State) (c : Nat) (h_rx : F.rx = true) (h_rk_5 : F.idx (rk 5)
    = true) (h_rk_6 : F.idx (rk 6) = true) (h_rk_7 : F.idx (rk 7) = true) (hk : Kept F org s) : Kept F org (State.rxIdle s c) :=
    by
  unfold State.rxIdle
  simp [hk, h_rx, h_rk_5, h_rk_6, h_rk_7]

@[simp ↓] theorem State.feedEngine_kept {F : Foot} {org : State} (s : State) (e : Nat) (h_rx : F.rx = true) (h_rk_5 : F.idx
    (rk 5) = true) (h_rk_6 : F.idx (rk 6) = true) (h_rk_7 : F.idx (rk 7) = true) (hk : Kept F org s) : Kept F org
    (State.feedEngine s e) := by
  unfold State.feedEngine
  (repeat' split) <;> simp (contextual := true) (maxDischargeDepth := 60) [hk, h_rx, h_rk_5, h_rk_6, h_rk_7]

@[simp ↓] theorem State.schedule_kept {F : Foot} {org : State} (s : State) (h_rx : F.rx = true) (h_rk_5 : F.idx (rk 5) = true)
    (h_rk_6 : F.idx (rk 6) = true) (h_rk_7 : F.idx (rk 7) = true) (hk : Kept F org s) : Kept F org (State.schedule s) := by
  unfold State.schedule
  simp (contextual := true) (maxDischargeDepth := 60) [hk, h_rx, h_rk_5, h_rk_6, h_rk_7]

@[simp ↓] theorem State.addWork_kept {F : Foot} {org : State} (s : State) (l : List AcqItem) (h_rx : F.rx = true) (h_rk_5 :
    F.idx (rk 5) = true) (h_rk_6 : F.idx (rk 6) = true) (h_rk_7 : F.idx (rk 7) = true) (hk : Kept F org s) : Kept F org
    (State.addWork s l) := by
  unfold State.addWork
  simp [hk, h_rx, h_rk_5, h_rk_6, h_rk_7]

@[simp ↓] theorem State.rxStart_kept {F : Foot} {org : State} (s : State) (directed : List SvSig) (known : Nat) (hot : Bool)
    (h_rx : F.rx = true) (h_23 : F.grp 35) (hk : Kept F org s) : Kept F org (State.rxStart s directed known hot) := by
  unfold State.rxStart
  simp (contextual := true) (maxDischargeDepth := 60) [hk, h_rx, h_23]

@[simp ↓] theorem State.enterPullIn_kept {F : Foot} {org : State} (s : State) (c : Nat) (h_rx : F.rx = true) (h_rk_5 : F.idx
    (rk 5) = true) (h_rk_6 : F.idx (rk 6) = true) (h_rk_7 : F.idx (rk 7) = true) (hk : Kept F org s) : Kept F org
    (State.enterPullIn s c) := by
  unfold State.enterPullIn
  simp [hk, h_rx, h_rk_5, h_rk_6, h_rk_7]

@[simp ↓] theorem acqDone_kept {F : Foot} {org : State} (e : Nat) (above : Bool) (hits : Nat) (s : State) (h_rx : F.rx = true)
    (h_rk_5 : F.idx (rk 5) = true) (h_rk_6 : F.idx (rk 6) = true) (h_rk_7 : F.idx (rk 7) = true) (hk : Kept F org s) : Kept F org
    (acqDone e above hits s) := by
  unfold acqDone
  (repeat' split) <;> simp (contextual := true) (maxDischargeDepth := 60) [hk, h_rx, h_rk_5, h_rk_6, h_rk_7]

@[simp ↓] theorem State.toReacq_kept {F : Foot} {org : State} (s : State) (c : Nat) (h_rx : F.rx = true) (h_rk_5 : F.idx (rk
    5) = true) (h_rk_6 : F.idx (rk 6) = true) (h_rk_7 : F.idx (rk 7) = true) (hk : Kept F org s) : Kept F org (State.toReacq s c)
    := by
  unfold State.toReacq
  simp [hk, h_rx, h_rk_5, h_rk_6, h_rk_7]

@[simp ↓] theorem State.toCoast_kept {F : Foot} {org : State} (s : State) (c : Nat) (h_rx : F.rx = true) (h_rk_5 : F.idx (rk
    5) = true) (h_rk_6 : F.idx (rk 6) = true) (h_rk_7 : F.idx (rk 7) = true) (hk : Kept F org s) : Kept F org (State.toCoast s c)
    := by
  unfold State.toCoast
  simp [hk, h_rx, h_rk_5, h_rk_6, h_rk_7]

@[simp ↓] theorem pullInTimeout_kept {F : Foot} {org : State} (c : Nat) (s : State) (h_rx : F.rx = true) (h_rk_5 : F.idx (rk
    5) = true) (h_rk_6 : F.idx (rk 6) = true) (h_rk_7 : F.idx (rk 7) = true) (hk : Kept F org s) : Kept F org (pullInTimeout c s)
    := by
  unfold pullInTimeout
  simp [hk, h_rx, h_rk_5, h_rk_6, h_rk_7]

@[simp ↓] theorem coastTimeout_kept {F : Foot} {org : State} (c : Nat) (s : State) (h_rx : F.rx = true) (h_rk_5 : F.idx (rk 5)
    = true) (h_rk_6 : F.idx (rk 6) = true) (h_rk_7 : F.idx (rk 7) = true) (hk : Kept F org s) : Kept F org (coastTimeout c s) :=
    by
  unfold coastTimeout
  simp [hk, h_rx, h_rk_5, h_rk_6, h_rk_7]

@[simp ↓] theorem reacqTimeout_kept {F : Foot} {org : State} (c : Nat) (s : State) (h_rx : F.rx = true) (h_rk_5 : F.idx (rk 5)
    = true) (h_rk_6 : F.idx (rk 6) = true) (h_rk_7 : F.idx (rk 7) = true) (hk : Kept F org s) : Kept F org (reacqTimeout c s) :=
    by
  unfold reacqTimeout
  simp (contextual := true) (maxDischargeDepth := 60) [hk, h_rx, h_rk_5, h_rk_6, h_rk_7]

@[simp ↓] theorem carrierLoss_kept {F : Foot} {org : State} (c : Nat) (s : State) (h_rx : F.rx = true) (h_rk_5 : F.idx (rk 5)
    = true) (h_rk_6 : F.idx (rk 6) = true) (h_rk_7 : F.idx (rk 7) = true) (hk : Kept F org s) : Kept F org (carrierLoss c s) := by
  unfold carrierLoss
  simp [hk, h_rx, h_rk_5, h_rk_6, h_rk_7]

@[simp ↓] theorem carrierRestore_kept {F : Foot} {org : State} (c : Nat) (s : State) (h_rx : F.rx = true) (h_rk_5 : F.idx (rk
    5) = true) (h_rk_6 : F.idx (rk 6) = true) (h_rk_7 : F.idx (rk 7) = true) (hk : Kept F org s) : Kept F org (carrierRestore c s)
    := by
  unfold carrierRestore
  simp [hk, h_rx, h_rk_5, h_rk_6, h_rk_7]

@[simp ↓] theorem codeLost_kept {F : Foot} {org : State} (c : Nat) (s : State) (h_rx : F.rx = true) (h_rk_5 : F.idx (rk 5) =
    true) (h_rk_6 : F.idx (rk 6) = true) (h_rk_7 : F.idx (rk 7) = true) (hk : Kept F org s) : Kept F org (codeLost c s) := by
  unfold codeLost
  simp [hk, h_rx, h_rk_5, h_rk_6, h_rk_7]

@[simp ↓] theorem coastRecover_kept {F : Foot} {org : State} (c : Nat) (s : State) (h_rx : F.rx = true) (h_rk_5 : F.idx (rk 5)
    = true) (h_rk_6 : F.idx (rk 6) = true) (h_rk_7 : F.idx (rk 7) = true) (hk : Kept F org s) : Kept F org (coastRecover c s) :=
    by
  unfold coastRecover
  simp [hk, h_rx, h_rk_5, h_rk_6, h_rk_7]

@[simp ↓] theorem State.aidReversion_kept {F : Foot} {org : State} (s : State) (h_flt : F.flt = true) (h_rcd : F.rcd = true)
    (h_rx : F.rx = true) (h_ucp : F.ucp = true) (h_28 : F.grp 40) (h_ob_11776_10 : F.idx (ob 11776 10) = true) (h_recLostCount :
    F.idx (recLostCount) = true) (h_rk_53 : F.idx (rk 53) = true) (hk : Kept F org s) : Kept F org (State.aidReversion s) := by
  unfold State.aidReversion
  simp [hk, h_flt, h_rcd, h_rx, h_ucp, h_28, h_ob_11776_10, h_recLostCount, h_rk_53]

@[simp ↓] theorem State.applyAid_kept {F : Foot} {org : State} (s : State) (c : Nat) (d : Dump) (h_flt : F.flt = true) (h_rcd
    : F.rcd = true) (h_rx : F.rx = true) (h_ucp : F.ucp = true) (h_28 : F.grp 40) (h_ob_11776_10 : F.idx (ob 11776 10) = true)
    (h_recLostCount : F.idx (recLostCount) = true) (h_rk_5 : F.idx (rk 5) = true) (h_rk_53 : F.idx (rk 53) = true) (h_rk_6 : F.idx
    (rk 6) = true) (h_rk_7 : F.idx (rk 7) = true) (hk : Kept F org s) : Kept F org (State.applyAid s c d) := by
  unfold State.applyAid
  simp only []
  (repeat' split) <;> simp (contextual := true) (maxDischargeDepth := 60) [hk, h_flt, h_rcd, h_rx, h_ucp, h_28, h_ob_11776_10, h_recLostCount, h_rk_5, h_rk_53, h_rk_6, h_rk_7]

@[simp ↓] theorem aidingTimeout_kept {F : Foot} {org : State} (c : Nat) (s : State) (h_flt : F.flt = true) (h_rcd : F.rcd =
    true) (h_rx : F.rx = true) (h_ucp : F.ucp = true) (h_28 : F.grp 40) (h_ob_11776_10 : F.idx (ob 11776 10) = true)
    (h_recLostCount : F.idx (recLostCount) = true) (h_rk_5 : F.idx (rk 5) = true) (h_rk_53 : F.idx (rk 53) = true) (h_rk_6 : F.idx
    (rk 6) = true) (h_rk_7 : F.idx (rk 7) = true) (hk : Kept F org s) : Kept F org (aidingTimeout c s) := by
  unfold aidingTimeout
  simp [hk, h_flt, h_rcd, h_rx, h_ucp, h_28, h_ob_11776_10, h_recLostCount, h_rk_5, h_rk_53, h_rk_6, h_rk_7]

@[simp ↓] theorem aidingIssue_kept {F : Foot} {org : State} (sets : List AidSet) (s : State) (h_flt : F.flt = true) (h_rcd :
    F.rcd = true) (h_rx : F.rx = true) (h_ucp : F.ucp = true) (h_28 : F.grp 40) (h_ob_11776_10 : F.idx (ob 11776 10) = true)
    (h_recLostCount : F.idx (recLostCount) = true) (h_rk_5 : F.idx (rk 5) = true) (h_rk_6 : F.idx (rk 6) = true) (h_rk_7 : F.idx
    (rk 7) = true) (hk : Kept F org s) : Kept F org (aidingIssue sets s) := by
  unfold aidingIssue
  simp (contextual := true) (maxDischargeDepth := 60) [hk, h_flt, h_rcd, h_rx, h_ucp, h_28, h_ob_11776_10, h_recLostCount, h_rk_5, h_rk_6, h_rk_7]

@[simp ↓] theorem State.spoofState_kept {F : Foot} {org : State} (s : State) (h_flt : F.flt = true) (h_rcd : F.rcd = true)
    (h_ucp : F.ucp = true) (h_28 : F.grp 40) (h_ob_11776_10 : F.idx (ob 11776 10) = true) (h_recLostCount : F.idx (recLostCount) =
    true) (h_rk_37 : F.idx (rk 37) = true) (hk : Kept F org s) : Kept F org (State.spoofState s) := by
  unfold State.spoofState
  simp [hk, h_flt, h_rcd, h_ucp, h_28, h_ob_11776_10, h_recLostCount, h_rk_37]

@[simp ↓] theorem State.checkFail_kept {F : Foot} {org : State} (s : State) (c : Nat) (k : Nat) (h_flt : F.flt = true) (h_rcd
    : F.rcd = true) (h_rx : F.rx = true) (h_ucp : F.ucp = true) (h_28 : F.grp 40) (h_ob_11776_10 : F.idx (ob 11776 10) = true)
    (h_recLostCount : F.idx (recLostCount) = true) (h_rk_37 : F.idx (rk 37) = true) (h_rk_5 : F.idx (rk 5) = true) (h_rk_6 : F.idx
    (rk 6) = true) (h_rk_7 : F.idx (rk 7) = true) (hk : Kept F org s) : Kept F org (State.checkFail s c k) := by
  unfold State.checkFail
  simp [hk, h_flt, h_rcd, h_rx, h_ucp, h_28, h_ob_11776_10, h_recLostCount, h_rk_37, h_rk_5, h_rk_6, h_rk_7]

@[simp ↓] theorem falseSignalClear_kept {F : Foot} {org : State} (c : Nat) (s : State) (h_flt : F.flt = true) (h_rcd : F.rcd =
    true) (h_rx : F.rx = true) (h_ucp : F.ucp = true) (h_28 : F.grp 40) (h_ob_11776_10 : F.idx (ob 11776 10) = true)
    (h_recLostCount : F.idx (recLostCount) = true) (h_rk_37 : F.idx (rk 37) = true) (h_rk_5 : F.idx (rk 5) = true) (h_rk_6 : F.idx
    (rk 6) = true) (h_rk_7 : F.idx (rk 7) = true) (hk : Kept F org s) : Kept F org (falseSignalClear c s) := by
  unfold falseSignalClear
  simp [hk, h_flt, h_rcd, h_rx, h_ucp, h_28, h_ob_11776_10, h_recLostCount, h_rk_37, h_rk_5, h_rk_6, h_rk_7]

@[simp ↓] theorem multipeakCheck_kept {F : Foot} {org : State} (c : Nat) (second : Bool) (s : State) (h_flt : F.flt = true)
    (h_rcd : F.rcd = true) (h_rx : F.rx = true) (h_ucp : F.ucp = true) (h_28 : F.grp 40) (h_ob_11776_10 : F.idx (ob 11776 10) =
    true) (h_recLostCount : F.idx (recLostCount) = true) (h_rk_37 : F.idx (rk 37) = true) (h_rk_5 : F.idx (rk 5) = true) (h_rk_6 :
    F.idx (rk 6) = true) (h_rk_7 : F.idx (rk 7) = true) (hk : Kept F org s) : Kept F org (multipeakCheck c second s) := by
  unfold multipeakCheck
  simp [hk, h_flt, h_rcd, h_rx, h_ucp, h_28, h_ob_11776_10, h_recLostCount, h_rk_37, h_rk_5, h_rk_6, h_rk_7]

@[simp ↓] theorem State.clockCheck_kept {F : Foot} {org : State} (s : State) (need : Int) (h_flt : F.flt = true) (h_rcd :
    F.rcd = true) (h_rx : F.rx = true) (h_ucp : F.ucp = true) (h_28 : F.grp 40) (h_ob_11776_10 : F.idx (ob 11776 10) = true)
    (h_recLostCount : F.idx (recLostCount) = true) (h_rk_37 : F.idx (rk 37) = true) (h_rk_5 : F.idx (rk 5) = true) (h_rk_6 : F.idx
    (rk 6) = true) (h_rk_7 : F.idx (rk 7) = true) (hk : Kept F org s) : Kept F org (State.clockCheck s need) := by
  unfold State.clockCheck
  simp (contextual := true) (maxDischargeDepth := 60) [hk, h_flt, h_rcd, h_rx, h_ucp, h_28, h_ob_11776_10, h_recLostCount, h_rk_37, h_rk_5, h_rk_6, h_rk_7]

@[simp ↓] theorem timeDelivery_kept {F : Foot} {org : State} (b : Int) (d : Int) (sigma : Nat) (sf : Nat) (sats : Nat) (s :
    State) (h_flt : F.flt = true) (h_rcd : F.rcd = true) (h_rx : F.rx = true) (h_tm : F.tm = true) (h_ucp : F.ucp = true) (h_28 :
    F.grp 40) (h_ob_11776_10 : F.idx (ob 11776 10) = true) (h_recLostCount : F.idx (recLostCount) = true) (h_rk_37 : F.idx (rk 37)
    = true) (h_rk_5 : F.idx (rk 5) = true) (h_rk_6 : F.idx (rk 6) = true) (h_rk_7 : F.idx (rk 7) = true) (h_tk_4 : F.idx (tk 4) =
    true) (h_tk_9 : F.idx (tk 9) = true) (hk : Kept F org s) : Kept F org (timeDelivery b d sigma sf sats s) := by
  unfold timeDelivery
  simp [hk, h_flt, h_rcd, h_rx, h_tm, h_ucp, h_28, h_ob_11776_10, h_recLostCount, h_rk_37, h_rk_5, h_rk_6, h_rk_7, h_tk_4, h_tk_9]

@[simp ↓] theorem State.bankFaulty_kept {F : Foot} {org : State} (s : State) (b : Nat) (h_flt : F.flt = true) (h_rcd : F.rcd =
    true) (h_sp : F.sp = true) (h_ucp : F.ucp = true) (h_28 : F.grp 40) (h_ob_11776_10 : F.idx (ob 11776 10) = true)
    (h_recLostCount : F.idx (recLostCount) = true) (h_rk_50 : F.idx (rk 50) = true) (hk : Kept F org s) : Kept F org
    (State.bankFaulty s b) := by
  unfold State.bankFaulty
  simp (contextual := true) (maxDischargeDepth := 60) [hk, h_flt, h_rcd, h_sp, h_ucp, h_28, h_ob_11776_10, h_recLostCount, h_rk_50]

@[simp ↓] theorem State.enterTrack_kept {F : Foot} {org : State} (s : State) (c : Nat) (h_rx : F.rx = true) (h_rk_5 : F.idx
    (rk 5) = true) (h_rk_6 : F.idx (rk 6) = true) (h_rk_7 : F.idx (rk 7) = true) (hk : Kept F org s) : Kept F org
    (State.enterTrack s c) := by
  unfold State.enterTrack
  simp [hk, h_rx, h_rk_5, h_rk_6, h_rk_7]

@[simp ↓] theorem correlatorDump_kept {F : Foot} {org : State} (d : Dump) (s : State) (h_flt : F.flt = true) (h_rcd : F.rcd =
    true) (h_rx : F.rx = true) (h_sp : F.sp = true) (h_ucp : F.ucp = true) (h_28 : F.grp 40) (h_ob_11776_10 : F.idx (ob 11776 10)
    = true) (h_recLostCount : F.idx (recLostCount) = true) (h_rk_37 : F.idx (rk 37) = true) (h_rk_5 : F.idx (rk 5) = true)
    (h_rk_50 : F.idx (rk 50) = true) (h_rk_53 : F.idx (rk 53) = true) (h_rk_6 : F.idx (rk 6) = true) (h_rk_7 : F.idx (rk 7) =
    true) (hk : Kept F org s) : Kept F org (correlatorDump d s) := by
  unfold correlatorDump
  simp (contextual := true) (maxDischargeDepth := 60) [hk, h_flt, h_rcd, h_rx, h_sp, h_ucp, h_28, h_ob_11776_10, h_recLostCount, h_rk_37, h_rk_5, h_rk_50, h_rk_53, h_rk_6, h_rk_7]

@[simp ↓] theorem bankSwap_kept {F : Foot} {org : State} (e : Nat) (verify : List Bool) (dur : Nat) (s : State) (h_flt : F.flt
    = true) (h_rcd : F.rcd = true) (h_rx : F.rx = true) (h_sp : F.sp = true) (h_timers : F.timers = true) (h_ucp : F.ucp = true)
    (h_28 : F.grp 40) (h_29 : F.grp 41) (h_ob_11776_10 : F.idx (ob 11776 10) = true) (h_recLostCount : F.idx (recLostCount) =
    true) (h_rk_5 : F.idx (rk 5) = true) (h_rk_51 : F.idx (rk 51) = true) (h_rk_6 : F.idx (rk 6) = true) (h_rk_7 : F.idx (rk 7) =
    true) (hk : Kept F org s) : Kept F org (bankSwap e verify dur s) := by
  have ht : Kept F org (s.doRequested 5 e verify dur).1 := by simp [*]
  unfold bankSwap
  split
  · split <;> rename_i heq <;> rw [heq] at ht <;> dsimp only at ht
    · simp (maxDischargeDepth := 60) [*]
    · split
      · exact ht
      · simp only []
        split <;> simp (contextual := true) (maxDischargeDepth := 60) [*]
  · exact hk

@[simp ↓] theorem blankingWindow_kept {F : Foot} {org : State} (c : Nat) (share : Nat) (n : Nat) (s : State) (h_rx : F.rx =
    true) (h_23 : F.grp 35) (hk : Kept F org s) : Kept F org (blankingWindow c share n s) := by
  unfold blankingWindow
  simp (contextual := true) (maxDischargeDepth := 60) [hk, h_rx, h_23]

@[simp ↓] theorem detectorEpoch_kept {F : Foot} {org : State} (c : Nat) (l : List Interferer) (s : State) (h_rx : F.rx = true)
    (h_23 : F.grp 35) (hk : Kept F org s) : Kept F org (detectorEpoch c l s) := by
  unfold detectorEpoch
  simp (contextual := true) (maxDischargeDepth := 60) [hk, h_rx, h_23]

@[simp ↓] theorem State.chainUse_kept {F : Foot} {org : State} (s : State) (c : Nat) (use : Bool) (h_flt : F.flt = true)
    (h_rcd : F.rcd = true) (h_rx : F.rx = true) (h_ucp : F.ucp = true) (h_23 : F.grp 35) (h_28 : F.grp 40) (h_ob_11776_10 : F.idx
    (ob 11776 10) = true) (h_recLostCount : F.idx (recLostCount) = true) (hk : Kept F org s) : Kept F org (State.chainUse s c use)
    := by
  unfold State.chainUse
  simp (contextual := true) (maxDischargeDepth := 60) [hk, h_flt, h_rcd, h_rx, h_ucp, h_23, h_28, h_ob_11776_10, h_recLostCount]

@[simp ↓] theorem jammingMeasure_kept {F : Foot} {org : State} (c : Nat) (jn : Nat) (agc : Nat) (limit : Bool) (pll : Bool) (s
    : State) (h_flt : F.flt = true) (h_rcd : F.rcd = true) (h_rx : F.rx = true) (h_ucp : F.ucp = true) (h_23 : F.grp 35) (h_28 :
    F.grp 40) (h_ob_11776_10 : F.idx (ob 11776 10) = true) (h_recLostCount : F.idx (recLostCount) = true) (hk : Kept F org s) :
    Kept F org (jammingMeasure c jn agc limit pll s) := by
  unfold jammingMeasure
  simp (contextual := true) (maxDischargeDepth := 60) [hk, h_flt, h_rcd, h_rx, h_ucp, h_23, h_28, h_ob_11776_10, h_recLostCount]

@[simp ↓] theorem gnssJamRaise_kept {F : Foot} {org : State} (c : Nat) (s : State) (h_flt : F.flt = true) (h_rcd : F.rcd =
    true) (h_ucp : F.ucp = true) (h_28 : F.grp 40) (h_ob_11776_10 : F.idx (ob 11776 10) = true) (h_recLostCount : F.idx
    (recLostCount) = true) (hk : Kept F org s) : Kept F org (gnssJamRaise c s) := by
  unfold gnssJamRaise
  simp [hk, h_flt, h_rcd, h_ucp, h_28, h_ob_11776_10, h_recLostCount]

@[simp ↓] theorem chainOut_kept {F : Foot} {org : State} (c : Nat) (s : State) (h_flt : F.flt = true) (h_rcd : F.rcd = true)
    (h_rx : F.rx = true) (h_ucp : F.ucp = true) (h_23 : F.grp 35) (h_28 : F.grp 40) (h_ob_11776_10 : F.idx (ob 11776 10) = true)
    (h_recLostCount : F.idx (recLostCount) = true) (hk : Kept F org s) : Kept F org (chainOut c s) := by
  unfold chainOut
  simp [hk, h_flt, h_rcd, h_rx, h_ucp, h_23, h_28, h_ob_11776_10, h_recLostCount]

@[simp ↓] theorem chainBack_kept {F : Foot} {org : State} (c : Nat) (s : State) (h_flt : F.flt = true) (h_rcd : F.rcd = true)
    (h_rx : F.rx = true) (h_ucp : F.ucp = true) (h_23 : F.grp 35) (h_28 : F.grp 40) (h_ob_11776_10 : F.idx (ob 11776 10) = true)
    (h_recLostCount : F.idx (recLostCount) = true) (hk : Kept F org s) : Kept F org (chainBack c s) := by
  unfold chainBack
  simp [hk, h_flt, h_rcd, h_rx, h_ucp, h_23, h_28, h_ob_11776_10, h_recLostCount]

@[simp ↓] theorem State.formEpoch_kept {F : Foot} {org : State} (s : State) (l : List Meas) (h_flt : F.flt = true) (h_rcd :
    F.rcd = true) (h_rx : F.rx = true) (h_ucp : F.ucp = true) (h_28 : F.grp 40) (h_ob_11776_10 : F.idx (ob 11776 10) = true)
    (h_recLostCount : F.idx (recLostCount) = true) (h_rk_45 : F.idx (rk 45) = true) (h_rk_5 : F.idx (rk 5) = true) (h_rk_6 : F.idx
    (rk 6) = true) (h_rk_7 : F.idx (rk 7) = true) (hk : Kept F org s) : Kept F org (State.formEpoch s l) := by
  unfold State.formEpoch
  simp (contextual := true) (maxDischargeDepth := 60) [hk, h_flt, h_rcd, h_rx, h_ucp, h_28, h_ob_11776_10, h_recLostCount, h_rk_45, h_rk_5, h_rk_6, h_rk_7]

@[simp ↓] theorem nmeaOutput_kept {F : Foot} {org : State} (bytes : List Byte) (s : State) (h_flt : F.flt = true) (h_rcd :
    F.rcd = true) (h_rx : F.rx = true) (h_ucp : F.ucp = true) (h_28 : F.grp 40) (h_ob_11776_10 : F.idx (ob 11776 10) = true)
    (h_recLostCount : F.idx (recLostCount) = true) (hk : Kept F org s) : Kept F org (nmeaOutput bytes s) := by
  unfold nmeaOutput
  simp [hk, h_flt, h_rcd, h_rx, h_ucp, h_28, h_ob_11776_10, h_recLostCount]

@[simp ↓] theorem State.rtcmMessage_kept {F : Foot} {org : State} (s : State) (m : List Byte) (h_rx : F.rx = true) (h_rk_40 :
    F.idx (rk 40) = true) (h_rk_41 : F.idx (rk 41) = true) (h_rk_43 : F.idx (rk 43) = true) (hk : Kept F org s) : Kept F org
    (State.rtcmMessage s m) := by
  unfold State.rtcmMessage
  simp only []
  (repeat' split) <;> simp (contextual := true) (maxDischargeDepth := 60) [hk, h_rx, h_rk_40, h_rk_41, h_rk_43]

@[simp ↓] theorem State.rtcmParse_kept {F : Foot} {org : State} (x0 : Nat) (x1 : State) (h_rx : F.rx = true) (h_rk_40 : F.idx
    (rk 40) = true) (h_rk_41 : F.idx (rk 41) = true) (h_rk_42 : F.idx (rk 42) = true) (h_rk_43 : F.idx (rk 43) = true) (hk : Kept
    F org x1) : Kept F org (State.rtcmParse x0 x1) := by
  induction x0 generalizing x1 with
  | zero => exact hk
  | succ n ih =>
    unfold State.rtcmParse
    split
    · exact hk
    · simp only []
      (repeat' split) <;> first | exact hk | exact ih _ (by simp (contextual := true) (maxDischargeDepth := 60) [*])

@[simp ↓] theorem hCorrection_kept {F : Foot} (h_rx : F.rx = true) (h_rk_40 : F.idx (rk 40) = true) (h_rk_41 : F.idx (rk 41) =
    true) (h_rk_42 : F.idx (rk 42) = true) (h_rk_43 : F.idx (rk 43) = true) (h_rk_55 : F.idx (rk 55) = true) : (hCorrection).Stays
    F := by
  refine Handler.simple_stays _ fun m s w v hk => ?_
  simp only []
  (repeat' split) <;> simp (contextual := true) (maxDischargeDepth := 60) [*]

@[simp ↓] theorem correctionPass_kept {F : Foot} {org : State} (age : Nat) (usable : Bool) (carrier : Bool) (s : State) (h_flt
    : F.flt = true) (h_nav : F.nav = true) (h_rcd : F.rcd = true) (h_rx : F.rx = true) (h_ucp : F.ucp = true) (h_28 : F.grp 40)
    (h_ob_11776_10 : F.idx (ob 11776 10) = true) (h_recLostCount : F.idx (recLostCount) = true) (hk : Kept F org s) : Kept F org
    (correctionPass age usable carrier s) := by
  unfold correctionPass
  (repeat' split) <;> simp (contextual := true) (maxDischargeDepth := 60) [hk, h_flt, h_nav, h_rcd, h_rx, h_ucp, h_28, h_ob_11776_10, h_recLostCount]

@[simp ↓] theorem corrTimeout_kept {F : Foot} {org : State} (s : State) (h_flt : F.flt = true) (h_rcd : F.rcd = true) (h_ucp :
    F.ucp = true) (h_28 : F.grp 40) (h_ob_11776_10 : F.idx (ob 11776 10) = true) (h_recLostCount : F.idx (recLostCount) = true)
    (hk : Kept F org s) : Kept F org (corrTimeout s) := by
  unfold corrTimeout
  simp [hk, h_flt, h_rcd, h_ucp, h_28, h_ob_11776_10, h_recLostCount]

@[simp ↓] theorem receiverStore_kept {F : Foot} {org : State} (mask : Nat) (sats : List Nat) (s : State) (h_rx : F.rx = true)
    (h_rk_54 : F.idx (rk 54) = true) (hk : Kept F org s) : Kept F org (receiverStore mask sats s) := by
  unfold receiverStore
  simp [hk, h_rx, h_rk_54]

@[simp ↓] theorem hRxStart_kept {F : Foot} (directed : List SvSig) (known : Nat) (near : Bool) (h_rx : F.rx = true) (h_23 :
    F.grp 35) : (hRxStart directed known near).Stays F := by
  unfold hRxStart
  refine Handler.simple_stays _ fun m s w v hk => ?_
  (repeat' split) <;> simp (contextual := true) (maxDischargeDepth := 60) [hk, h_rx, h_23]

@[simp ↓] theorem hBaseline_kept {F : Foot} (sub : Nat) (h_23 : F.grp 35) : (hBaseline sub).Stays F := by
  intro m s w v hk
  unfold hBaseline
  simp (contextual := true) (maxDischargeDepth := 60) [hk, h_23]

end Sys2Proof.Machine
end

