-- ==== Sys2Proof/Laws/KeptFusion.lean ====
section
/-! SUPPORT. Footprints of fusion. -/

set_option linter.unusedSimpArgs false
set_option linter.unusedVariables false

namespace Sys2Proof.Machine

open Sys2Proof

@[simp] theorem nk_grp (a : Nat) : nk a / 65536 = 0x24 := by unfold nk; rw [ob_grp]
@[simp] theorem nk_idx {F : Foot} (h : F.grp 0x24) (a : Nat) : F.idx (nk a) = true := h _ (nk_grp _)
@[simp] theorem wk_grp (a b : Nat) : wk a b / 65536 = 0x24 := by unfold wk; rw [nk_grp]
@[simp] theorem wk_idx {F : Foot} (h : F.grp 0x24) (a b : Nat) : F.idx (wk a b) = true := h _ (wk_grp _ _)
@[simp] theorem ek_grp (a b : Nat) : ek a b / 65536 = 0x24 := by unfold ek; rw [nk_grp]
@[simp] theorem ek_idx {F : Foot} (h : F.grp 0x24) (a b : Nat) : F.idx (ek a b) = true := h _ (ek_grp _ _)
@[simp] theorem imk_grp (a b : Nat) : imk a b / 65536 = 0x24 := by unfold imk; rw [nk_grp]
@[simp] theorem imk_idx {F : Foot} (h : F.grp 0x24) (a b : Nat) : F.idx (imk a b) = true := h _ (imk_grp _ _)
@[simp] theorem lateKey_grp (a : Nat) : lateKey a / 65536 = 0x24 := by unfold lateKey; (repeat' split) <;> simp
@[simp] theorem lateKey_idx {F : Foot} (h : F.grp 0x24) (a : Nat) : F.idx (lateKey a) = true := h _ (lateKey_grp _)
@[simp] theorem discKey_grp (a : Nat) : discKey a / 65536 = 0x24 := by unfold discKey; (repeat' split) <;> simp
@[simp] theorem discKey_idx {F : Foot} (h : F.grp 0x24) (a : Nat) : F.idx (discKey a) = true := h _ (discKey_grp _)
@[simp] theorem admKey_grp (a : Nat) : admKey a / 65536 = 0x24 := by unfold admKey; (repeat' split) <;> simp
@[simp] theorem admKey_idx {F : Foot} (h : F.grp 0x24) (a : Nat) : F.idx (admKey a) = true := h _ (admKey_grp _)

theorem degKey_grp {i k : Nat} (h : degKey i = some k) : k / 65536 = 0x24 := by
  unfold degKey at h
  split at h
  · simp [← Option.some.inj h]
  · split at h
    · simp [← Option.some.inj h]
    · split at h <;> simp at h <;> simp [← h]

@[simp ↓] theorem State.setNav_kept {F : Foot} {org : State} (s : State) (f : NavSt → NavSt) (h_nav : F.nav = true) (hk : Kept
    F org s) : Kept F org (State.setNav s f) := by
  unfold State.setNav
  simp [hk, h_nav]

@[simp ↓] theorem State.snapNav_kept {F : Foot} {org : State} (s : State) (h_nav : F.nav = true) (hk : Kept F org s) : Kept F
    org (State.snapNav s) := by
  unfold State.snapNav
  simp [hk, h_nav]

@[simp ↓] theorem State.navTick_kept {F : Foot} {org : State} (s : State) (h_nav : F.nav = true) (hk : Kept F org s) : Kept F
    org (State.navTick s) := by
  unfold State.navTick
  simp [hk, h_nav]

@[simp ↓] theorem State.countSample_kept {F : Foot} {org : State} (s : State) (sensor : Nat) (n : Nat) (late : Nat) (h_nav :
    F.nav = true) (hk : Kept F org s) : Kept F org (State.countSample s sensor n late) := by
  unfold State.countSample
  simp [hk, h_nav]

@[simp ↓] theorem State.lateSample_kept {F : Foot} {org : State} (s : State) (l : LateSample) (h_nav : F.nav = true) (h_24 :
    F.grp 36) (hk : Kept F org s) : Kept F org (State.lateSample s l) := by
  unfold State.lateSample
  simp (contextual := true) (maxDischargeDepth := 60) [hk, h_nav, h_24]

@[simp ↓] theorem State.ingest_kept {F : Foot} {org : State} (s : State) (l : LateSample) (h_nav : F.nav = true) (h_24 : F.grp
    36) (hk : Kept F org s) : Kept F org (State.ingest s l) := by
  unfold State.ingest
  simp [hk, h_nav, h_24]

@[simp ↓] theorem repropagationDone_kept {F : Foot} {org : State} (s : State) (h_nav : F.nav = true) (h_nk_35 : F.idx (nk 35)
    = true) (hk : Kept F org s) : Kept F org (repropagationDone s) := by
  unfold repropagationDone
  simp [hk, h_nav, h_nk_35]

@[simp ↓] theorem lateEvaluation_kept {F : Foot} {org : State} (s : State) (h_flt : F.flt = true) (h_nav : F.nav = true)
    (h_rcd : F.rcd = true) (h_ucp : F.ucp = true) (h_24 : F.grp 36) (h_28 : F.grp 40) (h_ob_11776_10 : F.idx (ob 11776 10) = true)
    (h_recLostCount : F.idx (recLostCount) = true) (hk : Kept F org s) : Kept F org (lateEvaluation s) := by
  unfold lateEvaluation
  refine State.follow_kept _ _ _ _ (by assumption) (by assumption) (by assumption) (by assumption) (by assumption) (by assumption)
    (kept_foldl _ _ (fun t i ht => ?_) (by simp (maxDischargeDepth := 60) [*]))
  simp only []
  split
  · rename_i h
    have hx := h_24 _ (degKey_grp h)
    simp (maxDischargeDepth := 60) [*]
  · simp (maxDischargeDepth := 60) [*]

@[simp ↓] theorem State.comparePair_kept {F : Foot} {org : State} (s : State) (p : Nat × Nat × Nat) (h_nav : F.nav = true) (hk
    : Kept F org s) : Kept F org (State.comparePair s p) := by
  unfold State.comparePair
  simp (contextual := true) (maxDischargeDepth := 60) [hk, h_nav]

@[simp ↓] theorem State.compareUnit_kept {F : Foot} {org : State} (s : State) (n : Nat) (h_nav : F.nav = true) (hk : Kept F
    org s) : Kept F org (State.compareUnit s n) := by
  unfold State.compareUnit
  simp [hk, h_nav]

@[simp ↓] theorem State.imuTake_kept {F : Foot} {org : State} (s : State) (x : ImuSample) (h_nav : F.nav = true) (h_24 : F.grp
    36) (hk : Kept F org s) : Kept F org (State.imuTake s x) := by
  unfold State.imuTake
  simp (contextual := true) (maxDischargeDepth := 60) [hk, h_nav, h_24]

@[simp ↓] theorem imuSample_kept {F : Foot} {org : State} (l : List ImuSample) (s : State) (h_nav : F.nav = true) (h_24 :
    F.grp 36) (hk : Kept F org s) : Kept F org (imuSample l s) := by
  unfold imuSample
  simp (contextual := true) (maxDischargeDepth := 60) [hk, h_nav, h_24]

@[simp ↓] theorem imuExclude_kept {F : Foot} {org : State} (n : Nat) (s : State) (h_flt : F.flt = true) (h_nav : F.nav = true)
    (h_rcd : F.rcd = true) (h_sp : F.sp = true) (h_ucp : F.ucp = true) (h_24 : F.grp 36) (h_28 : F.grp 40) (h_29 : F.grp 41)
    (h_ob_11776_10 : F.idx (ob 11776 10) = true) (h_recLostCount : F.idx (recLostCount) = true) (hk : Kept F org s) : Kept F org
    (imuExclude n s) := by
  unfold imuExclude
  simp (contextual := true) (maxDischargeDepth := 60) [hk, h_flt, h_nav, h_rcd, h_sp, h_ucp, h_24, h_28, h_29, h_ob_11776_10, h_recLostCount]

@[simp ↓] theorem imuSwap_kept {F : Foot} {org : State} (n : Nat) (verify : List Bool) (dur : Nat) (s : State) (h_flt : F.flt
    = true) (h_rcd : F.rcd = true) (h_sp : F.sp = true) (h_timers : F.timers = true) (h_ucp : F.ucp = true) (h_24 : F.grp 36)
    (h_28 : F.grp 40) (h_29 : F.grp 41) (h_ob_11776_10 : F.idx (ob 11776 10) = true) (h_recLostCount : F.idx (recLostCount) =
    true) (hk : Kept F org s) : Kept F org (imuSwap n verify dur s) := by
  have ht : Kept F org (s.doRequested 7 n verify dur).1 := by simp [*]
  unfold imuSwap
  split
  · split <;> rename_i heq <;> rw [heq] at ht <;> dsimp only at ht <;>
      simp (contextual := true) (maxDischargeDepth := 60) [*]
  · exact hk

@[simp ↓] theorem inertialVoteLost_kept {F : Foot} {org : State} (s : State) (h_flt : F.flt = true) (h_nav : F.nav = true)
    (h_rcd : F.rcd = true) (h_ucp : F.ucp = true) (h_28 : F.grp 40) (h_ob_11776_10 : F.idx (ob 11776 10) = true) (h_recLostCount :
    F.idx (recLostCount) = true) (hk : Kept F org s) : Kept F org (inertialVoteLost s) := by
  unfold inertialVoteLost
  (repeat' split) <;> simp (contextual := true) (maxDischargeDepth := 60) [hk, h_flt, h_nav, h_rcd, h_ucp, h_28, h_ob_11776_10, h_recLostCount]

@[simp ↓] theorem inertialRestore_kept {F : Foot} {org : State} (s : State) (h_flt : F.flt = true) (h_nav : F.nav = true)
    (h_rcd : F.rcd = true) (h_ucp : F.ucp = true) (h_28 : F.grp 40) (h_ob_11776_10 : F.idx (ob 11776 10) = true) (h_recLostCount :
    F.idx (recLostCount) = true) (hk : Kept F org s) : Kept F org (inertialRestore s) := by
  unfold inertialRestore
  simp [hk, h_flt, h_nav, h_rcd, h_ucp, h_28, h_ob_11776_10, h_recLostCount]

@[simp ↓] theorem imuReadmit_kept {F : Foot} {org : State} (n : Nat) (s : State) (h_flt : F.flt = true) (h_rcd : F.rcd = true)
    (h_sp : F.sp = true) (h_ucp : F.ucp = true) (h_24 : F.grp 36) (h_28 : F.grp 40) (h_29 : F.grp 41) (h_ob_11776_10 : F.idx (ob
    11776 10) = true) (h_recLostCount : F.idx (recLostCount) = true) (hk : Kept F org s) : Kept F org (imuReadmit n s) := by
  unfold imuReadmit
  simp (contextual := true) (maxDischargeDepth := 60) [hk, h_flt, h_rcd, h_sp, h_ucp, h_24, h_28, h_29, h_ob_11776_10, h_recLostCount]

@[simp ↓] theorem State.setSpeed_kept {F : Foot} {org : State} (s : State) (a : Nat) (f : SpeedSrc → SpeedSrc) (h_nav : F.nav
    = true) (hk : Kept F org s) : Kept F org (State.setSpeed s a f) := by
  unfold State.setSpeed
  simp [hk, h_nav]

@[simp ↓] theorem State.readSpeeds_kept {F : Foot} {org : State} (s : State) (g : Option GnssMeas) (h_flt : F.flt = true)
    (h_nav : F.nav = true) (h_rcd : F.rcd = true) (h_ucp : F.ucp = true) (h_28 : F.grp 40) (h_ob_11776_10 : F.idx (ob 11776 10) =
    true) (h_recLostCount : F.idx (recLostCount) = true) (hk : Kept F org s) : Kept F org (State.readSpeeds s g) := by
  unfold State.readSpeeds
  (repeat' split) <;> simp (contextual := true) (maxDischargeDepth := 60) [hk, h_flt, h_nav, h_rcd, h_ucp, h_28, h_ob_11776_10, h_recLostCount]

@[simp ↓] theorem State.revote_kept {F : Foot} {org : State} (s : State) (h_24 : F.grp 36) (hk : Kept F org s) : Kept F org
    (State.revote s) := by
  unfold State.revote
  simp (contextual := true) (maxDischargeDepth := 60) [hk, h_24]

@[simp ↓] theorem State.decideGs_kept {F : Foot} {org : State} (s : State) (h_flt : F.flt = true) (h_nav : F.nav = true)
    (h_rcd : F.rcd = true) (h_ucp : F.ucp = true) (h_28 : F.grp 40) (h_nk_33 : F.idx (nk 33) = true) (h_ob_11776_10 : F.idx (ob
    11776 10) = true) (h_recLostCount : F.idx (recLostCount) = true) (hk : Kept F org s) : Kept F org (State.decideGs s) := by
  unfold State.decideGs
  simp (contextual := true) (maxDischargeDepth := 60) [hk, h_flt, h_nav, h_rcd, h_ucp, h_28, h_nk_33, h_ob_11776_10, h_recLostCount]

@[simp ↓] theorem State.compareSpeeds_kept {F : Foot} {org : State} (s : State) (h_nav : F.nav = true) (hk : Kept F org s) :
    Kept F org (State.compareSpeeds s) := by
  unfold State.compareSpeeds
  refine kept_foldl _ _ (fun t a ht => by simp (maxDischargeDepth := 60) [*]) ?_
  refine kept_foldl _ _ (fun t a ht => by simp (maxDischargeDepth := 60) [*]) ?_
  refine kept_foldl _ _ (fun t a ht => ?_) hk
  split <;> simp (maxDischargeDepth := 60) [*]

@[simp ↓] theorem State.countContra_kept {F : Foot} {org : State} (s : State) (a : Nat) (h_24 : F.grp 36) (hk : Kept F org s)
    : Kept F org (State.countContra s a) := by
  unfold State.countContra
  simp [hk, h_24]

@[simp ↓] theorem speedContradiction_kept {F : Foot} {org : State} (s : State) (h_flt : F.flt = true) (h_nav : F.nav = true)
    (h_rcd : F.rcd = true) (h_ucp : F.ucp = true) (h_24 : F.grp 36) (h_28 : F.grp 40) (h_ob_11776_10 : F.idx (ob 11776 10) = true)
    (h_recLostCount : F.idx (recLostCount) = true) (hk : Kept F org s) : Kept F org (speedContradiction s) := by
  unfold speedContradiction
  simp only []
  (repeat' split) <;> simp (contextual := true) (maxDischargeDepth := 60) [hk, h_flt, h_nav, h_rcd, h_ucp, h_24, h_28, h_ob_11776_10, h_recLostCount]

@[simp ↓] theorem speedReadmit_kept {F : Foot} {org : State} (a : Nat) (s : State) (h_flt : F.flt = true) (h_nav : F.nav =
    true) (h_rcd : F.rcd = true) (h_ucp : F.ucp = true) (h_24 : F.grp 36) (h_28 : F.grp 40) (h_ob_11776_10 : F.idx (ob 11776 10) =
    true) (h_recLostCount : F.idx (recLostCount) = true) (hk : Kept F org s) : Kept F org (speedReadmit a s) := by
  unfold speedReadmit
  (repeat' split) <;> simp (contextual := true) (maxDischargeDepth := 60) [hk, h_flt, h_nav, h_rcd, h_ucp, h_24, h_28, h_ob_11776_10, h_recLostCount]

@[simp ↓] theorem wheelNoEdge_kept {F : Foot} {org : State} (k : Nat) (s : State) (h_flt : F.flt = true) (h_nav : F.nav =
    true) (h_rcd : F.rcd = true) (h_ucp : F.ucp = true) (h_24 : F.grp 36) (h_28 : F.grp 40) (h_ob_11776_10 : F.idx (ob 11776 10) =
    true) (h_recLostCount : F.idx (recLostCount) = true) (hk : Kept F org s) : Kept F org (wheelNoEdge k s) := by
  unfold wheelNoEdge
  simp (contextual := true) (maxDischargeDepth := 60) [hk, h_flt, h_nav, h_rcd, h_ucp, h_24, h_28, h_ob_11776_10, h_recLostCount]

@[simp ↓] theorem zeroVelocity_kept {F : Foot} {org : State} (s : State) (h_nav : F.nav = true) (hk : Kept F org s) : Kept F
    org (zeroVelocity s) := by
  unfold zeroVelocity
  simp [hk, h_nav]

@[simp ↓] theorem inertialOnlyLimit_kept {F : Foot} {org : State} (s : State) (h_nav : F.nav = true) (h_nk_33 : F.idx (nk 33)
    = true) (hk : Kept F org s) : Kept F org (inertialOnlyLimit s) := by
  unfold inertialOnlyLimit
  simp [hk, h_nav, h_nk_33]

@[simp ↓] theorem State.wheelOutputs_kept {F : Foot} {org : State} (s : State) (h_24 : F.grp 36) (hk : Kept F org s) : Kept F
    org (State.wheelOutputs s) := by
  unfold State.wheelOutputs
  refine kept_foldl _ _ (fun t a ht => ?_) hk
  split <;> simp (maxDischargeDepth := 60) [*]

@[simp ↓] theorem State.innovation_kept {F : Foot} {org : State} (s : State) (t : Nat × F32) (h_flt : F.flt = true) (h_rcd :
    F.rcd = true) (h_rx : F.rx = true) (h_ucp : F.ucp = true) (h_28 : F.grp 40) (h_ob_11776_10 : F.idx (ob 11776 10) = true)
    (h_recLostCount : F.idx (recLostCount) = true) (h_rk_37 : F.idx (rk 37) = true) (h_rk_5 : F.idx (rk 5) = true) (h_rk_6 : F.idx
    (rk 6) = true) (h_rk_7 : F.idx (rk 7) = true) (hk : Kept F org s) : Kept F org (State.innovation s t) := by
  unfold State.innovation
  simp (contextual := true) (maxDischargeDepth := 60) [hk, h_flt, h_rcd, h_rx, h_ucp, h_28, h_ob_11776_10, h_recLostCount, h_rk_37, h_rk_5, h_rk_6, h_rk_7]

@[simp ↓] theorem channelReadmit_kept {F : Foot} {org : State} (c : Nat) (s : State) (h_rx : F.rx = true) (h_rk_5 : F.idx (rk
    5) = true) (h_rk_6 : F.idx (rk 6) = true) (h_rk_7 : F.idx (rk 7) = true) (hk : Kept F org s) : Kept F org (channelReadmit c s)
    := by
  unfold channelReadmit
  simp [hk, h_rx, h_rk_5, h_rk_6, h_rk_7]

@[simp ↓] theorem State.putType_kept {F : Foot} {org : State} (s : State) (h_nk_32 : F.idx (nk 32) = true) (hk : Kept F org s)
    : Kept F org (State.putType s) := by
  unfold State.putType
  simp [hk, h_nk_32]

@[simp ↓] theorem State.satellites_kept {F : Foot} {org : State} (s : State) (g : Option GnssMeas) (h_flt : F.flt = true)
    (h_nav : F.nav = true) (h_rcd : F.rcd = true) (h_ucp : F.ucp = true) (h_28 : F.grp 40) (h_ob_11776_10 : F.idx (ob 11776 10) =
    true) (h_recLostCount : F.idx (recLostCount) = true) (hk : Kept F org s) : Kept F org (State.satellites s g) := by
  unfold State.satellites
  (repeat' split) <;> simp (contextual := true) (maxDischargeDepth := 60) [hk, h_flt, h_nav, h_rcd, h_ucp, h_28, h_ob_11776_10, h_recLostCount]

@[simp ↓] theorem drEntry_kept {F : Foot} {org : State} (s : State) (h_nav : F.nav = true) (h_nk_32 : F.idx (nk 32) = true)
    (hk : Kept F org s) : Kept F org (drEntry s) := by
  unfold drEntry
  simp [hk, h_nav, h_nk_32]

@[simp ↓] theorem drLimit_kept {F : Foot} {org : State} (s : State) (h_flt : F.flt = true) (h_nav : F.nav = true) (h_rcd :
    F.rcd = true) (h_ucp : F.ucp = true) (h_28 : F.grp 40) (h_nk_32 : F.idx (nk 32) = true) (h_ob_11776_10 : F.idx (ob 11776 10) =
    true) (h_recLostCount : F.idx (recLostCount) = true) (hk : Kept F org s) : Kept F org (drLimit s) := by
  unfold drLimit
  simp (contextual := true) (maxDischargeDepth := 60) [hk, h_flt, h_nav, h_rcd, h_ucp, h_28, h_nk_32, h_ob_11776_10, h_recLostCount]

@[simp ↓] theorem fuseStep_kept {F : Foot} {org : State} (est : NavEst) (gnss : Option GnssMeas) (tests : List (Nat × F32))
    (late : List LateSample) (s : State) (h_flt : F.flt = true) (h_img : F.img = true) (h_nav : F.nav = true) (h_rcd : F.rcd =
    true) (h_rx : F.rx = true) (h_ucp : F.ucp = true) (h_24 : F.grp 36) (h_28 : F.grp 40) (h_ob_11776_10 : F.idx (ob 11776 10) =
    true) (h_recLostCount : F.idx (recLostCount) = true) (h_rk_37 : F.idx (rk 37) = true) (h_rk_5 : F.idx (rk 5) = true) (h_rk_6 :
    F.idx (rk 6) = true) (h_rk_7 : F.idx (rk 7) = true) (hk : Kept F org s) : Kept F org (fuseStep est gnss tests late s) := by
  unfold fuseStep
  simp (contextual := true) (maxDischargeDepth := 60) [hk, h_flt, h_img, h_nav, h_rcd, h_rx, h_ucp, h_24, h_28, h_ob_11776_10, h_recLostCount, h_rk_37, h_rk_5, h_rk_6, h_rk_7]

@[simp ↓] theorem navSolutionIssue_kept {F : Foot} {org : State} (s : State) (h_nav : F.nav = true) (h_nk_32 : F.idx (nk 32) =
    true) (h_nk_34 : F.idx (nk 34) = true) (h_nk_39 : F.idx (nk 39) = true) (hk : Kept F org s) : Kept F org (navSolutionIssue s)
    := by
  unfold navSolutionIssue
  simp (contextual := true) (maxDischargeDepth := 60) [hk, h_nav, h_nk_32, h_nk_34, h_nk_39]

@[simp ↓] theorem rtkEpoch_kept {F : Foot} {org : State} (held : Bool) (ratio : F32) (sats : Nat) (near : Bool) (s : State)
    (h_nav : F.nav = true) (h_nk_32 : F.idx (nk 32) = true) (h_nk_37 : F.idx (nk 37) = true) (hk : Kept F org s) : Kept F org
    (rtkEpoch held ratio sats near s) := by
  unfold rtkEpoch
  simp [hk, h_nav, h_nk_32, h_nk_37]

@[simp ↓] theorem ambiguityDiscard_kept {F : Foot} {org : State} (s : State) (h_nav : F.nav = true) (h_nk_32 : F.idx (nk 32) =
    true) (hk : Kept F org s) : Kept F org (ambiguityDiscard s) := by
  unfold ambiguityDiscard
  simp [hk, h_nav, h_nk_32]

@[simp ↓] theorem measurementEpoch_kept {F : Foot} {org : State} (l : List Meas) (aoa : List Nat) (h : Option HeadingRes) (s :
    State) (h_flt : F.flt = true) (h_nav : F.nav = true) (h_rcd : F.rcd = true) (h_rx : F.rx = true) (h_ucp : F.ucp = true) (h_28
    : F.grp 40) (h_nk_30 : F.idx (nk 30) = true) (h_ob_11776_10 : F.idx (ob 11776 10) = true) (h_recLostCount : F.idx
    (recLostCount) = true) (h_rk_37 : F.idx (rk 37) = true) (h_rk_45 : F.idx (rk 45) = true) (h_rk_5 : F.idx (rk 5) = true)
    (h_rk_6 : F.idx (rk 6) = true) (h_rk_7 : F.idx (rk 7) = true) (hk : Kept F org s) : Kept F org (measurementEpoch l aoa h s) :=
    by
  unfold measurementEpoch
  (repeat' split) <;> simp (contextual := true) (maxDischargeDepth := 60) [hk, h_flt, h_nav, h_rcd, h_rx, h_ucp, h_28, h_nk_30, h_ob_11776_10, h_recLostCount, h_rk_37, h_rk_45, h_rk_5, h_rk_6, h_rk_7]

@[simp ↓] theorem navHeadingRaise_kept {F : Foot} {org : State} (s : State) (h_flt : F.flt = true) (h_rcd : F.rcd = true)
    (h_ucp : F.ucp = true) (h_28 : F.grp 40) (h_ob_11776_10 : F.idx (ob 11776 10) = true) (h_recLostCount : F.idx (recLostCount) =
    true) (hk : Kept F org s) : Kept F org (navHeadingRaise s) := by
  unfold navHeadingRaise
  simp [hk, h_flt, h_rcd, h_ucp, h_28, h_ob_11776_10, h_recLostCount]

@[simp ↓] theorem lineBiasStore_kept {F : Foot} {org : State} (l1 : F32) (l5 : F32) (s : State) (h_nk_28 : F.idx (nk 28) =
    true) (h_nk_29 : F.idx (nk 29) = true) (h_nk_30 : F.idx (nk 30) = true) (hk : Kept F org s) : Kept F org (lineBiasStore l1 l5
    s) := by
  unfold lineBiasStore
  simp (contextual := true) (maxDischargeDepth := 60) [hk, h_nk_28, h_nk_29, h_nk_30]

@[simp ↓] theorem hLineBiasReset_kept {F : Foot} (h_nav : F.nav = true) (h_nk_28 : F.idx (nk 28) = true) (h_nk_29 : F.idx (nk
    29) = true) (h_nk_30 : F.idx (nk 30) = true) : (hLineBiasReset).Stays F := by
  unfold hLineBiasReset
  refine Handler.simple_stays _ fun m s w v hk => ?_
  (repeat' split) <;> simp (contextual := true) (maxDischargeDepth := 60) [hk, h_nav, h_nk_28, h_nk_29, h_nk_30]

@[simp ↓] theorem alignLevel_kept {F : Foot} {org : State} (s : State) (h_nk_40 : F.idx (nk 40) = true) (hk : Kept F org s) :
    Kept F org (alignLevel s) := by
  unfold alignLevel
  simp [hk, h_nk_40]

@[simp ↓] theorem alignHeading_kept {F : Foot} {org : State} (s : State) (h_nk_32 : F.idx (nk 32) = true) (h_nk_40 : F.idx (nk
    40) = true) (hk : Kept F org s) : Kept F org (alignHeading s) := by
  unfold alignHeading
  simp [hk, h_nk_32, h_nk_40]

@[simp ↓] theorem headingFixTimeout_kept {F : Foot} {org : State} (s : State) (h_nav : F.nav = true) (hk : Kept F org s) :
    Kept F org (headingFixTimeout s) := by
  unfold headingFixTimeout
  simp [hk, h_nav]

@[simp ↓] theorem hExtSample_kept {F : Foot} (j : Nat) (h_nav : F.nav = true) (h_24 : F.grp 36) : (hExtSample j).Stays F := by
  intro m s w v hk
  unfold hExtSample
  simp (contextual := true) (maxDischargeDepth := 60) [hk, h_nav, h_24]

end Sys2Proof.Machine
end

