-- ==== Sys2Proof/Laws/KeptCrop.lean ====
section
/-! SUPPORT. Footprints of crop measurement. -/

set_option linter.unusedSimpArgs false
set_option linter.unusedVariables false

namespace Sys2Proof.Machine

open Sys2Proof

@[simp] theorem hk_grp (a : Nat) : hk a / 65536 = 0x22 := by unfold hk; rw [ob_grp]
@[simp] theorem hk_idx {F : Foot} (h : F.grp 0x22) (a : Nat) : F.idx (hk a) = true := h _ (hk_grp _)
@[simp] theorem lsk_grp (a b : Nat) : lsk a b / 65536 = 0x22 := by unfold lsk; rw [ob_grp]
@[simp] theorem lsk_idx {F : Foot} (h : F.grp 0x22) (a b : Nat) : F.idx (lsk a b) = true := h _ (lsk_grp _ _)

@[simp ↓] theorem State.setCrop_kept {F : Foot} {org : State} (s : State) (f : CropSt → CropSt) (h_crop : F.crop = true) (hk :
    Kept F org s) : Kept F org (State.setCrop s f) := by
  unfold State.setCrop
  simp [hk, h_crop]

@[simp ↓] theorem State.cropBit_kept {F : Foot} {org : State} (s : State) (i : Nat) (b : Bool) (h_hk_43 : F.idx (hk 43) =
    true) (hk : Kept F org s) : Kept F org (State.cropBit s i b) := by
  unfold State.cropBit
  simp [hk, h_hk_43]

@[simp ↓] theorem State.lossFrame_kept {F : Foot} {org : State} (s : State) (due : Bool) (k : Nat) (h_crop : F.crop = true)
    (h_22 : F.grp 34) (hk : Kept F org s) : Kept F org (State.lossFrame s due k) := by
  unfold State.lossFrame
  simp (contextual := true) (maxDischargeDepth := 60) [hk, h_crop, h_22]

@[simp ↓] theorem State.lossMark_kept {F : Foot} {org : State} (s : State) (k : Nat) (i : Nat) (on : Bool) (h_flt : F.flt =
    true) (h_rcd : F.rcd = true) (h_ucp : F.ucp = true) (h_22 : F.grp 34) (h_28 : F.grp 40) (h_ob_11776_10 : F.idx (ob 11776 10) =
    true) (h_recLostCount : F.idx (recLostCount) = true) (hk : Kept F org s) : Kept F org (State.lossMark s k i on) := by
  unfold State.lossMark
  simp (contextual := true) (maxDischargeDepth := 60) [hk, h_flt, h_rcd, h_ucp, h_22, h_28, h_ob_11776_10, h_recLostCount]

@[simp ↓] theorem lossQuiet_kept {F : Foot} {org : State} (k : Nat) (s : State) (h_flt : F.flt = true) (h_rcd : F.rcd = true)
    (h_ucp : F.ucp = true) (h_22 : F.grp 34) (h_28 : F.grp 40) (h_ob_11776_10 : F.idx (ob 11776 10) = true) (h_recLostCount :
    F.idx (recLostCount) = true) (hk : Kept F org s) : Kept F org (lossQuiet k s) := by
  unfold lossQuiet
  simp [hk, h_flt, h_rcd, h_ucp, h_22, h_28, h_ob_11776_10, h_recLostCount]

@[simp ↓] theorem lossNoisy_kept {F : Foot} {org : State} (k : Nat) (s : State) (h_flt : F.flt = true) (h_rcd : F.rcd = true)
    (h_ucp : F.ucp = true) (h_22 : F.grp 34) (h_28 : F.grp 40) (h_ob_11776_10 : F.idx (ob 11776 10) = true) (h_recLostCount :
    F.idx (recLostCount) = true) (hk : Kept F org s) : Kept F org (lossNoisy k s) := by
  unfold lossNoisy
  simp [hk, h_flt, h_rcd, h_ucp, h_22, h_28, h_ob_11776_10, h_recLostCount]

@[simp ↓] theorem lossClear_kept {F : Foot} {org : State} (k : Nat) (noisy : Bool) (s : State) (h_flt : F.flt = true) (h_rcd :
    F.rcd = true) (h_ucp : F.ucp = true) (h_22 : F.grp 34) (h_28 : F.grp 40) (h_ob_11776_10 : F.idx (ob 11776 10) = true)
    (h_recLostCount : F.idx (recLostCount) = true) (hk : Kept F org s) : Kept F org (lossClear k noisy s) := by
  unfold lossClear
  simp [hk, h_flt, h_rcd, h_ucp, h_22, h_28, h_ob_11776_10, h_recLostCount]

@[simp ↓] theorem hZero_kept {F : Foot} (h_crop : F.crop = true) (h_hk_11 : F.idx (hk 11) = true) (h_hk_43 : F.idx (hk 43) =
    true) : (hZero).Stays F := by
  unfold hZero
  refine Handler.simple_stays _ fun m s w v hk => ?_
  (repeat' split) <;> simp (contextual := true) (maxDischargeDepth := 60) [hk, h_crop, h_hk_11, h_hk_43]

@[simp ↓] theorem State.zeroFrame_kept {F : Foot} {org : State} (s : State) (h_crop : F.crop = true) (h_hk_11 : F.idx (hk 11)
    = true) (h_hk_43 : F.idx (hk 43) = true) (hk : Kept F org s) : Kept F org (State.zeroFrame s) := by
  unfold State.zeroFrame
  simp [hk, h_crop, h_hk_11, h_hk_43]

@[simp ↓] theorem zeroDone_kept {F : Foot} {org : State} (s : State) (h_hk_11 : F.idx (hk 11) = true) (h_hk_43 : F.idx (hk 43)
    = true) (h_hk_9 : F.idx (hk 9) = true) (hk : Kept F org s) : Kept F org (zeroDone s) := by
  unfold zeroDone
  simp (contextual := true) (maxDischargeDepth := 60) [hk, h_hk_11, h_hk_43, h_hk_9]

@[simp ↓] theorem State.flowFrame_kept {F : Foot} {org : State} (s : State) (h_crop : F.crop = true) (h_flt : F.flt = true)
    (h_rcd : F.rcd = true) (h_ucp : F.ucp = true) (h_28 : F.grp 40) (h_hk_43 : F.idx (hk 43) = true) (h_ob_11776_10 : F.idx (ob
    11776 10) = true) (h_recLostCount : F.idx (recLostCount) = true) (hk : Kept F org s) : Kept F org (State.flowFrame s) := by
  unfold State.flowFrame
  simp (contextual := true) (maxDischargeDepth := 60) [hk, h_crop, h_flt, h_rcd, h_ucp, h_28, h_hk_43, h_ob_11776_10, h_recLostCount]

@[simp ↓] theorem flowTimeout_kept {F : Foot} {org : State} (s : State) (h_flt : F.flt = true) (h_rcd : F.rcd = true) (h_ucp :
    F.ucp = true) (h_28 : F.grp 40) (h_ob_11776_10 : F.idx (ob 11776 10) = true) (h_recLostCount : F.idx (recLostCount) = true)
    (hk : Kept F org s) : Kept F org (flowTimeout s) := by
  unfold flowTimeout
  simp [hk, h_flt, h_rcd, h_ucp, h_28, h_ob_11776_10, h_recLostCount]

@[simp ↓] theorem State.moistFrame_kept {F : Foot} {org : State} (s : State) (h_crop : F.crop = true) (h_flt : F.flt = true)
    (h_rcd : F.rcd = true) (h_ucp : F.ucp = true) (h_28 : F.grp 40) (h_hk_43 : F.idx (hk 43) = true) (h_ob_11776_10 : F.idx (ob
    11776 10) = true) (h_recLostCount : F.idx (recLostCount) = true) (hk : Kept F org s) : Kept F org (State.moistFrame s) := by
  unfold State.moistFrame
  simp (contextual := true) (maxDischargeDepth := 60) [hk, h_crop, h_flt, h_rcd, h_ucp, h_28, h_hk_43, h_ob_11776_10, h_recLostCount]

@[simp ↓] theorem moistTimeout_kept {F : Foot} {org : State} (s : State) (h_flt : F.flt = true) (h_rcd : F.rcd = true) (h_ucp
    : F.ucp = true) (h_28 : F.grp 40) (h_hk_43 : F.idx (hk 43) = true) (h_ob_11776_10 : F.idx (ob 11776 10) = true)
    (h_recLostCount : F.idx (recLostCount) = true) (hk : Kept F org s) : Kept F org (moistTimeout s) := by
  unfold moistTimeout
  simp [hk, h_flt, h_rcd, h_ucp, h_28, h_hk_43, h_ob_11776_10, h_recLostCount]

@[simp ↓] theorem State.openCut_kept {F : Foot} {org : State} (s : State) (h_crop : F.crop = true) (hk : Kept F org s) : Kept
    F org (State.openCut s) := by
  unfold State.openCut
  (repeat' split) <;> simp (contextual := true) (maxDischargeDepth := 60) [hk, h_crop]

@[simp ↓] theorem State.writeYield_kept {F : Foot} {org : State} (s : State) (x : CutInt) (h_crop : F.crop = true) (h_flt :
    F.flt = true) (h_free : F.free = true) (h_rcd : F.rcd = true) (h_ucp : F.ucp = true) (h_28 : F.grp 40) (h_hk_35 : F.idx (hk
    35) = true) (h_hk_36 : F.idx (hk 36) = true) (h_hk_38 : F.idx (hk 38) = true) (h_hk_39 : F.idx (hk 39) = true) (h_hk_40 :
    F.idx (hk 40) = true) (h_hk_43 : F.idx (hk 43) = true) (h_hk_44 : F.idx (hk 44) = true) (h_ob_11776_10 : F.idx (ob 11776 10) =
    true) (h_recLostCount : F.idx (recLostCount) = true) (hk : Kept F org s) : Kept F org (State.writeYield s x) := by
  unfold State.writeYield
  simp (contextual := true) (maxDischargeDepth := 60) [hk, h_crop, h_flt, h_free, h_rcd, h_ucp, h_28, h_hk_35, h_hk_36, h_hk_38, h_hk_39, h_hk_40, h_hk_43, h_hk_44, h_ob_11776_10, h_recLostCount]

@[simp ↓] theorem recordClose_kept {F : Foot} {org : State} (s : State) (h_crop : F.crop = true) (h_flt : F.flt = true)
    (h_free : F.free = true) (h_rcd : F.rcd = true) (h_ucp : F.ucp = true) (h_28 : F.grp 40) (h_hk_35 : F.idx (hk 35) = true)
    (h_hk_36 : F.idx (hk 36) = true) (h_hk_38 : F.idx (hk 38) = true) (h_hk_39 : F.idx (hk 39) = true) (h_hk_40 : F.idx (hk 40) =
    true) (h_hk_43 : F.idx (hk 43) = true) (h_hk_44 : F.idx (hk 44) = true) (h_ob_11776_10 : F.idx (ob 11776 10) = true)
    (h_recLostCount : F.idx (recLostCount) = true) (hk : Kept F org s) : Kept F org (recordClose s) := by
  unfold recordClose
  (repeat' split) <;> simp (contextual := true) (maxDischargeDepth := 60) [hk, h_crop, h_flt, h_free, h_rcd, h_ucp, h_28, h_hk_35, h_hk_36, h_hk_38, h_hk_39, h_hk_40, h_hk_43, h_hk_44, h_ob_11776_10, h_recLostCount]

@[simp ↓] theorem State.closeAllCuts_kept {F : Foot} {org : State} (s : State) (h_crop : F.crop = true) (h_flt : F.flt = true)
    (h_free : F.free = true) (h_rcd : F.rcd = true) (h_ucp : F.ucp = true) (h_28 : F.grp 40) (h_hk_35 : F.idx (hk 35) = true)
    (h_hk_36 : F.idx (hk 36) = true) (h_hk_38 : F.idx (hk 38) = true) (h_hk_39 : F.idx (hk 39) = true) (h_hk_40 : F.idx (hk 40) =
    true) (h_hk_43 : F.idx (hk 43) = true) (h_hk_44 : F.idx (hk 44) = true) (h_ob_11776_10 : F.idx (ob 11776 10) = true)
    (h_recLostCount : F.idx (recLostCount) = true) (hk : Kept F org s) : Kept F org (State.closeAllCuts s) := by
  unfold State.closeAllCuts
  simp (contextual := true) (maxDischargeDepth := 60) [hk, h_crop, h_flt, h_free, h_rcd, h_ucp, h_28, h_hk_35, h_hk_36, h_hk_38, h_hk_39, h_hk_40, h_hk_43, h_hk_44, h_ob_11776_10, h_recLostCount]

@[simp ↓] theorem State.cropOff_kept {F : Foot} {org : State} (s : State) (h_crop : F.crop = true) (h_hk_43 : F.idx (hk 43) =
    true) (hk : Kept F org s) : Kept F org (State.cropOff s) := by
  unfold State.cropOff
  simp [hk, h_crop, h_hk_43]

@[simp ↓] theorem State.normFrame_kept {F : Foot} {org : State} (s : State) (v : Q) (w : Q) (q : Q) (ok : Bool) (h_crop :
    F.crop = true) (h_free : F.free = true) (h_hk_43 : F.idx (hk 43) = true) (hk : Kept F org s) : Kept F org (State.normFrame s v
    w q ok) := by
  unfold State.normFrame
  simp (contextual := true) (maxDischargeDepth := 60) [hk, h_crop, h_free, h_hk_43]

@[simp ↓] theorem cropPhase_kept {F : Foot} {org : State} (s : State) (h_crop : F.crop = true) (h_flt : F.flt = true) (h_free
    : F.free = true) (h_rcd : F.rcd = true) (h_ucp : F.ucp = true) (h_22 : F.grp 34) (h_28 : F.grp 40) (h_ob_11776_10 : F.idx (ob
    11776 10) = true) (h_recLostCount : F.idx (recLostCount) = true) (hk : Kept F org s) : Kept F org (cropPhase s) := by
  unfold cropPhase
  simp (contextual := true) (maxDischargeDepth := 60) [hk, h_crop, h_flt, h_free, h_rcd, h_ucp, h_22, h_28, h_ob_11776_10, h_recLostCount]

@[simp ↓] theorem State.cropRestart_kept {F : Foot} {org : State} (s : State) (h_crop : F.crop = true) (hk : Kept F org s) :
    Kept F org (State.cropRestart s) := by
  unfold State.cropRestart
  simp [hk, h_crop]

@[simp ↓] theorem State.cropChipReset_kept {F : Foot} {org : State} (s : State) (h_crop : F.crop = true) (h_hk_36 : F.idx (hk
    36) = true) (hk : Kept F org s) : Kept F org (State.cropChipReset s) := by
  unfold State.cropChipReset
  simp [hk, h_crop, h_hk_36]

@[simp ↓] theorem hBufferClear_kept {F : Foot} (h_flt : F.flt = true) (h_rcd : F.rcd = true) (h_ucp : F.ucp = true) (h_28 :
    F.grp 40) (h_hk_43 : F.idx (hk 43) = true) (h_hk_44 : F.idx (hk 44) = true) (h_ob_11776_10 : F.idx (ob 11776 10) = true)
    (h_recLostCount : F.idx (recLostCount) = true) : (hBufferClear).Stays F := by
  unfold hBufferClear
  refine Handler.simple_stays _ fun m s w v hk => ?_
  (repeat' split) <;> simp (contextual := true) (maxDischargeDepth := 60) [hk, h_flt, h_rcd, h_ucp, h_28, h_hk_43, h_hk_44, h_ob_11776_10, h_recLostCount]

@[simp ↓] theorem hTotalsReset_kept {F : Foot} (h_crop : F.crop = true) (h_hk_38 : F.idx (hk 38) = true) (h_hk_39 : F.idx (hk
    39) = true) (h_hk_40 : F.idx (hk 40) = true) : (hTotalsReset).Stays F := by
  unfold hTotalsReset
  refine Handler.simple_stays _ fun m s w v hk => ?_
  (repeat' split) <;> simp (contextual := true) (maxDischargeDepth := 60) [hk, h_crop, h_hk_38, h_hk_39, h_hk_40]

end Sys2Proof.Machine
end

