-- ==== Sys2Proof/Laws/KeptSlots.lean ====
section
/-! SUPPORT. Footprints of the loop slots. -/

set_option linter.unusedSimpArgs false
set_option linter.unusedVariables false

namespace Sys2Proof.Machine

open Sys2Proof

@[simp] theorem sk_grp (a b : Nat) : sk a b / 65536 = 0x25 := by unfold sk; rw [ob_grp]; omega
@[simp] theorem sk_idx {F : Foot} (h : F.grp 0x25) (a b : Nat) : F.idx (sk a b) = true := h _ (sk_grp _ _)
@[simp] theorem bk_grp (a b c : Nat) : bk a b c / 65536 = 0x25 := by unfold bk; rw [sk_grp]
@[simp] theorem bk_idx {F : Foot} (h : F.grp 0x25) (a b c : Nat) : F.idx (bk a b c) = true := h _ (bk_grp _ _ _)
@[simp] theorem supStat_grp (a : Nat) : supStat a / 65536 = 0x25 := by unfold supStat; rw [sk_grp]
@[simp] theorem supStat_idx {F : Foot} (h : F.grp 0x25) (a : Nat) : F.idx (supStat a) = true := h _ (supStat_grp _)

@[simp ↓] theorem State.setSlot_kept {F : Foot} {org : State} (s : State) (n : Nat) (f : SlotSt → SlotSt) (h_lark : F.lark =
    true) (hk : Kept F org s) : Kept F org (State.setSlot s n f) := by
  unfold State.setSlot
  simp [hk, h_lark]

@[simp ↓] theorem State.setLark_kept {F : Foot} {org : State} (s : State) (f : LarkSt → LarkSt) (h_lark : F.lark = true) (hk :
    Kept F org s) : Kept F org (State.setLark s f) := by
  unfold State.setLark
  simp [hk, h_lark]

@[simp ↓] theorem State.cond_kept {F : Foot} {org : State} (s : State) (n : Nat) (code : Nat) (on : Bool) (h_lark : F.lark =
    true) (hk : Kept F org s) : Kept F org (State.cond s n code on) := by
  unfold State.cond
  simp [hk, h_lark]

@[simp ↓] theorem State.testEnd_kept {F : Foot} {org : State} (s : State) (n : Nat) (st : Nat) (cause : Nat) (h_lark : F.lark
    = true) (h_sk138 : ∀ p, F.idx (sk p 138) = true) (h_sk139 : ∀ p, F.idx (sk p 139) = true) (h_sk140 : ∀ p, F.idx (sk p 140) =
    true) (hk : Kept F org s) : Kept F org (State.testEnd s n st cause) := by
  unfold State.testEnd
  simp (contextual := true) (maxDischargeDepth := 60) [hk, h_lark, h_sk138, h_sk139, h_sk140]

@[simp ↓] theorem State.settleSlot_kept {F : Foot} {org : State} (s : State) (n : Nat) (h_lark : F.lark = true) (h_25 : F.grp
    37) (hk : Kept F org s) : Kept F org (State.settleSlot s n) := by
  unfold State.settleSlot
  simp only []
  (repeat' split) <;> simp (contextual := true) (maxDischargeDepth := 60) [hk, h_lark, h_25]

@[simp ↓] theorem State.faultOut_kept {F : Foot} {org : State} (s : State) (n : Nat) (h_lark : F.lark = true) (hk : Kept F org
    s) : Kept F org (State.faultOut s n) := by
  unfold State.faultOut
  simp [hk, h_lark]

@[simp ↓] theorem State.capEvent_kept {F : Foot} {org : State} (s : State) (n : Nat) (trip : Bool) (h_lark : F.lark = true)
    (hk : Kept F org s) : Kept F org (State.capEvent s n trip) := by
  unfold State.capEvent
  simp [hk, h_lark]

@[simp ↓] theorem State.tripSlot_kept {F : Foot} {org : State} (s : State) (n : Nat) (code : Nat) (h_flt : F.flt = true)
    (h_lark : F.lark = true) (h_rcd : F.rcd = true) (h_ucp : F.ucp = true) (h_25 : F.grp 37) (h_28 : F.grp 40) (h_ob_11776_10 :
    F.idx (ob 11776 10) = true) (h_recLostCount : F.idx (recLostCount) = true) (hk : Kept F org s) : Kept F org (State.tripSlot s
    n code) := by
  unfold State.tripSlot
  simp (contextual := true) (maxDischargeDepth := 60) [hk, h_flt, h_lark, h_rcd, h_ucp, h_25, h_28, h_ob_11776_10, h_recLostCount]

@[simp ↓] theorem State.untrip_kept {F : Foot} {org : State} (s : State) (n : Nat) (h_flt : F.flt = true) (h_lark : F.lark =
    true) (h_rcd : F.rcd = true) (h_ucp : F.ucp = true) (h_25 : F.grp 37) (h_28 : F.grp 40) (h_ob_11776_10 : F.idx (ob 11776 10) =
    true) (h_recLostCount : F.idx (recLostCount) = true) (hk : Kept F org s) : Kept F org (State.untrip s n) := by
  unfold State.untrip
  simp (contextual := true) (maxDischargeDepth := 60) [hk, h_flt, h_lark, h_rcd, h_ucp, h_25, h_28, h_ob_11776_10, h_recLostCount]

@[simp ↓] theorem State.applyCmd_kept {F : Foot} {org : State} (s : State) (n : Nat) (new : Nat) (clear : Bool) (h_flt : F.flt
    = true) (h_lark : F.lark = true) (h_rcd : F.rcd = true) (h_ucp : F.ucp = true) (h_25 : F.grp 37) (h_28 : F.grp 40)
    (h_ob_11776_10 : F.idx (ob 11776 10) = true) (h_recLostCount : F.idx (recLostCount) = true) (hk : Kept F org s) : Kept F org
    (State.applyCmd s n new clear) := by
  unfold State.applyCmd
  simp (contextual := true) (maxDischargeDepth := 60) [hk, h_flt, h_lark, h_rcd, h_ucp, h_25, h_28, h_ob_11776_10, h_recLostCount]

@[simp ↓] theorem hSlotCmd_kept {F : Foot} (n : Nat) (h_lark : F.lark = true) (h_sk31 : ∀ p, F.idx (sk p 31) = true)
    (h_ob_4608_4 : F.idx (ob 4608 4) = true) (h_ob_4608_5 : F.idx (ob 4608 5) = true) (h_ob_4608_6 : F.idx (ob 4608 6) = true)
    (h_ob_4608_7 : F.idx (ob 4608 7) = true) (h_ob_4608_8 : F.idx (ob 4608 8) = true) : (hSlotCmd n).Stays F := by
  unfold hSlotCmd
  refine Handler.simple_stays _ fun m s w v hk => ?_
  (repeat' split) <;> simp (contextual := true) (maxDischargeDepth := 60) [hk, h_lark, h_sk31, h_ob_4608_4, h_ob_4608_5, h_ob_4608_6, h_ob_4608_7, h_ob_4608_8]

@[simp ↓] theorem hBank_kept {F : Foot} (n : Nat) (h_lark : F.lark = true) (h_sk25 : ∀ p, F.idx (sk p 25) = true) (h_ob_4608_4
    : F.idx (ob 4608 4) = true) (h_ob_4608_5 : F.idx (ob 4608 5) = true) (h_ob_4608_6 : F.idx (ob 4608 6) = true) (h_ob_4608_7 :
    F.idx (ob 4608 7) = true) (h_ob_4608_8 : F.idx (ob 4608 8) = true) : (hBank n).Stays F := by
  intro m s w v hk
  unfold hBank
  simp (contextual := true) (maxDischargeDepth := 60) [hk, h_lark, h_sk25, h_ob_4608_4, h_ob_4608_5, h_ob_4608_6, h_ob_4608_7, h_ob_4608_8]

@[simp ↓] theorem State.rescale_kept {F : Foot} {org : State} (s : State) (n : Nat) (h_lark : F.lark = true) (h_sk28 : ∀ p,
    F.idx (sk p 28) = true) (hk : Kept F org s) : Kept F org (State.rescale s n) := by
  unfold State.rescale
  simp [hk, h_lark, h_sk28]

@[simp ↓] theorem State.selectBank_kept {F : Foot} {org : State} (s : State) (n : Nat) (h_lark : F.lark = true) (h_snap :
    F.snap = true) (h_sk25 : ∀ p, F.idx (sk p 25) = true) (h_sk28 : ∀ p, F.idx (sk p 28) = true) (h_sk31 : ∀ p, F.idx (sk p 31) =
    true) (h_ob_4608_4 : F.idx (ob 4608 4) = true) (h_ob_4608_5 : F.idx (ob 4608 5) = true) (h_ob_4608_6 : F.idx (ob 4608 6) =
    true) (h_ob_4608_7 : F.idx (ob 4608 7) = true) (h_ob_4608_8 : F.idx (ob 4608 8) = true) (h_ob_4864_7 : F.idx (ob 4864 7) =
    true) (h_ob_4864_8 : F.idx (ob 4864 8) = true) (hk : Kept F org s) : Kept F org (State.selectBank s n) := by
  unfold State.selectBank
  simp only []
  (repeat' split) <;> simp (contextual := true) (maxDischargeDepth := 60) [hk, h_lark, h_snap, h_sk25, h_sk28, h_sk31, h_ob_4608_4, h_ob_4608_5, h_ob_4608_6, h_ob_4608_7, h_ob_4608_8, h_ob_4864_7, h_ob_4864_8]

@[simp ↓] theorem setLim_kept {F : Foot} {org : State} (s : State) (n : Nat) (r : F32) (v : F32) (st : Nat) (h_sk100 : ∀ p,
    F.idx (sk p 100) = true) (h_sk101 : ∀ p, F.idx (sk p 101) = true) (h_sk102 : ∀ p, F.idx (sk p 102) = true) (hk : Kept F org s)
    : Kept F org (setLim s n r v st) := by
  unfold setLim
  simp (contextual := true) (maxDischargeDepth := 60) [hk, h_sk100, h_sk101, h_sk102]

@[simp ↓] theorem State.limiter_kept {F : Foot} {org : State} (s : State) (n : Nat) (w : F32) (ts : F32) (h_sk100 : ∀ p, F.idx
    (sk p 100) = true) (h_sk101 : ∀ p, F.idx (sk p 101) = true) (h_sk102 : ∀ p, F.idx (sk p 102) = true) (hk : Kept F org s) :
    Kept F org (State.limiter s n w ts).1 := by
  unfold State.limiter
  simp [hk, h_sk100, h_sk101, h_sk102]

@[simp ↓] theorem State.testStep_kept {F : Foot} {org : State} (s : State) (n : Nat) (h_lark : F.lark = true) (h_sk138 : ∀ p,
    F.idx (sk p 138) = true) (h_sk139 : ∀ p, F.idx (sk p 139) = true) (h_sk140 : ∀ p, F.idx (sk p 140) = true) (hk : Kept F org s)
    : Kept F org (State.testStep s n).1 := by
  unfold State.testStep
  simp only []
  split <;> split <;> (try split) <;> simp (contextual := true) (maxDischargeDepth := 60) [*]

@[simp ↓] theorem State.slotInputs_kept {F : Foot} {org : State} (s : State) (n : Nat) (h_lark : F.lark = true) (h_sk99 : ∀ p,
    F.idx (sk p 99) = true) (hk : Kept F org s) : Kept F org (State.slotInputs s n).1 := by
  unfold State.slotInputs
  simp (contextual := true) (maxDischargeDepth := 60) [hk, h_lark, h_sk99]

@[simp ↓] theorem State.supervise_kept {F : Foot} {org : State} (s : State) (n : Nat) (rt : F32) (h_flt : F.flt = true)
    (h_lark : F.lark = true) (h_rcd : F.rcd = true) (h_ucp : F.ucp = true) (h_25 : F.grp 37) (h_28 : F.grp 40) (h_ob_11776_10 :
    F.idx (ob 11776 10) = true) (h_recLostCount : F.idx (recLostCount) = true) (hk : Kept F org s) : Kept F org (State.supervise s
    n rt) := by
  unfold State.supervise
  simp (contextual := true) (maxDischargeDepth := 60) [hk, h_flt, h_lark, h_rcd, h_ucp, h_25, h_28, h_ob_11776_10, h_recLostCount]

@[simp ↓] theorem State.putIntegral_kept {F : Foot} {org : State} (s : State) (n : Nat) (h_sk29 : ∀ p, F.idx (sk p 29) = true)
    (hk : Kept F org s) : Kept F org (State.putIntegral s n) := by
  unfold State.putIntegral
  simp [hk, h_sk29]

@[simp ↓] theorem State.putFlags_kept {F : Foot} {org : State} (s : State) (n : Nat) (fl : Nat) (bump : Option Bool) (h_sk28 :
    ∀ p, F.idx (sk p 28) = true) (hk : Kept F org s) : Kept F org (State.putFlags s n fl bump) := by
  unfold State.putFlags
  simp [hk, h_sk28]

@[simp ↓] theorem State.openOut_kept {F : Foot} {org : State} (s : State) (n : Nat) (ts : F32) (test : F32) (h_lark : F.lark =
    true) (hk : Kept F org s) : Kept F org (State.openOut s n ts test).1 := by
  unfold State.openOut
  simp [hk, h_lark]

@[simp ↓] theorem State.primeSlot_kept {F : Foot} {org : State} (s : State) (n : Nat) (h_lark : F.lark = true) (h_sk100 : ∀ p,
    F.idx (sk p 100) = true) (h_sk101 : ∀ p, F.idx (sk p 101) = true) (h_sk102 : ∀ p, F.idx (sk p 102) = true) (hk : Kept F org s)
    : Kept F org (State.primeSlot s n) := by
  unfold State.primeSlot
  simp [hk, h_lark, h_sk100, h_sk101, h_sk102]

@[simp ↓] theorem State.closedLaw_kept {F : Foot} {org : State} (s : State) (n : Nat) (fl : Nat) (ok : Bool) (test : F32) (ts
    : F32) (h_flt : F.flt = true) (h_lark : F.lark = true) (h_rcd : F.rcd = true) (h_ucp : F.ucp = true) (h_25 : F.grp 37) (h_28 :
    F.grp 40) (h_ob_11776_10 : F.idx (ob 11776 10) = true) (h_recLostCount : F.idx (recLostCount) = true) (hk : Kept F org s) :
    Kept F org (State.closedLaw s n fl ok test ts) := by
  unfold State.closedLaw
  simp (contextual := true) (maxDischargeDepth := 60) [hk, h_flt, h_lark, h_rcd, h_ucp, h_25, h_28, h_ob_11776_10, h_recLostCount]

@[simp ↓] theorem State.actState_kept {F : Foot} {org : State} (s : State) (n : Nat) (fl : Nat) (test : F32) (ts : F32) (h_flt
    : F.flt = true) (h_lark : F.lark = true) (h_rcd : F.rcd = true) (h_ucp : F.ucp = true) (h_25 : F.grp 37) (h_28 : F.grp 40)
    (h_ob_11776_10 : F.idx (ob 11776 10) = true) (h_recLostCount : F.idx (recLostCount) = true) (hk : Kept F org s) : Kept F org
    (State.actState s n fl test ts) := by
  unfold State.actState
  simp (contextual := true) (maxDischargeDepth := 60) [hk, h_flt, h_lark, h_rcd, h_ucp, h_25, h_28, h_ob_11776_10, h_recLostCount]

@[simp ↓] theorem State.evalSlot_kept {F : Foot} {org : State} (s : State) (n : Nat) (h_flt : F.flt = true) (h_lark : F.lark =
    true) (h_rcd : F.rcd = true) (h_ucp : F.ucp = true) (h_25 : F.grp 37) (h_28 : F.grp 40) (h_ob_11776_10 : F.idx (ob 11776 10) =
    true) (h_recLostCount : F.idx (recLostCount) = true) (hk : Kept F org s) : Kept F org (State.evalSlot s n) := by
  unfold State.evalSlot
  simp (contextual := true) (maxDischargeDepth := 60) [hk, h_flt, h_lark, h_rcd, h_ucp, h_25, h_28, h_ob_11776_10, h_recLostCount]

@[simp ↓] theorem State.setLaneRole_kept {F : Foot} {org : State} (s : State) (l : Nat) (r : Nat) (h_ob_9568_2 : F.idx (ob
    9568 2) = true) (hk : Kept F org s) : Kept F org (State.setLaneRole s l r) := by
  unfold State.setLaneRole
  simp [hk, h_ob_9568_2]

@[simp ↓] theorem State.capMark_kept {F : Foot} {org : State} (s : State) (i : Nat) (h_lark : F.lark = true) (hk : Kept F org
    s) : Kept F org (State.capMark s i) := by
  unfold State.capMark
  simp [hk, h_lark]

@[simp ↓] theorem State.excludeLane_kept {F : Foot} {org : State} (s : State) (l : Nat) (h_flt : F.flt = true) (h_lark :
    F.lark = true) (h_rcd : F.rcd = true) (h_sp : F.sp = true) (h_timers : F.timers = true) (h_ucp : F.ucp = true) (h_28 : F.grp
    40) (h_29 : F.grp 41) (h_ob_11776_10 : F.idx (ob 11776 10) = true) (h_ob_9568_2 : F.idx (ob 9568 2) = true) (h_ob_9568_5 :
    F.idx (ob 9568 5) = true) (h_recLostCount : F.idx (recLostCount) = true) (hk : Kept F org s) : Kept F org (State.excludeLane s
    l) := by
  unfold State.excludeLane
  simp only []
  (repeat' split) <;> simp (contextual := true) (maxDischargeDepth := 60) [hk, h_flt, h_lark, h_rcd, h_sp, h_timers, h_ucp, h_28, h_29, h_ob_11776_10, h_ob_9568_2, h_ob_9568_5, h_recLostCount]

@[simp ↓] theorem State.vote_kept {F : Foot} {org : State} (s : State) (n : Nat) (mask : Nat) (h_flt : F.flt = true) (h_lark :
    F.lark = true) (h_rcd : F.rcd = true) (h_sp : F.sp = true) (h_timers : F.timers = true) (h_ucp : F.ucp = true) (h_25 : F.grp
    37) (h_28 : F.grp 40) (h_29 : F.grp 41) (h_ob_11776_10 : F.idx (ob 11776 10) = true) (h_recLostCount : F.idx (recLostCount) =
    true) (hk : Kept F org s) : Kept F org (State.vote s n mask) := by
  unfold State.vote
  simp (contextual := true) (maxDischargeDepth := 60) [hk, h_flt, h_lark, h_rcd, h_sp, h_timers, h_ucp, h_25, h_28, h_29, h_ob_11776_10, h_recLostCount]

@[simp ↓] theorem laneTestDone_kept {F : Foot} {org : State} (l : Nat) (pass : Bool) (s : State) (h_flt : F.flt = true) (h_rcd
    : F.rcd = true) (h_sp : F.sp = true) (h_timers : F.timers = true) (h_ucp : F.ucp = true) (h_28 : F.grp 40) (h_29 : F.grp 41)
    (h_ob_11776_10 : F.idx (ob 11776 10) = true) (h_ob_9568_2 : F.idx (ob 9568 2) = true) (h_recLostCount : F.idx (recLostCount) =
    true) (hk : Kept F org s) : Kept F org (laneTestDone l pass s) := by
  unfold laneTestDone
  simp (contextual := true) (maxDischargeDepth := 60) [hk, h_flt, h_rcd, h_sp, h_timers, h_ucp, h_28, h_29, h_ob_11776_10, h_ob_9568_2, h_recLostCount]

@[simp ↓] theorem State.larkSeal_kept {F : Foot} {org : State} (s : State) (h_lark : F.lark = true) (hk : Kept F org s) : Kept
    F org (State.larkSeal s) := by
  unfold State.larkSeal
  simp [hk, h_lark]

@[simp ↓] theorem State.cmdByte_kept {F : Foot} {org : State} (s : State) (n : Nat) (h_flt : F.flt = true) (h_lark : F.lark =
    true) (h_rcd : F.rcd = true) (h_ucp : F.ucp = true) (h_25 : F.grp 37) (h_28 : F.grp 40) (h_ob_11776_10 : F.idx (ob 11776 10) =
    true) (h_ob_4608_4 : F.idx (ob 4608 4) = true) (h_ob_4608_5 : F.idx (ob 4608 5) = true) (h_ob_4608_6 : F.idx (ob 4608 6) =
    true) (h_ob_4608_7 : F.idx (ob 4608 7) = true) (h_ob_4608_8 : F.idx (ob 4608 8) = true) (h_recLostCount : F.idx (recLostCount)
    = true) (hk : Kept F org s) : Kept F org (State.cmdByte s n) := by
  unfold State.cmdByte
  simp (contextual := true) (maxDischargeDepth := 60) [hk, h_flt, h_lark, h_rcd, h_ucp, h_25, h_28, h_ob_11776_10, h_ob_4608_4, h_ob_4608_5, h_ob_4608_6, h_ob_4608_7, h_ob_4608_8, h_recLostCount]

@[simp ↓] theorem State.preSlot_kept {F : Foot} {org : State} (entered : Bool) (s : State) (n : Nat) (h_flt : F.flt = true)
    (h_lark : F.lark = true) (h_rcd : F.rcd = true) (h_snap : F.snap = true) (h_ucp : F.ucp = true) (h_25 : F.grp 37) (h_28 :
    F.grp 40) (h_ob_11776_10 : F.idx (ob 11776 10) = true) (h_ob_4608_4 : F.idx (ob 4608 4) = true) (h_ob_4608_5 : F.idx (ob 4608
    5) = true) (h_ob_4608_6 : F.idx (ob 4608 6) = true) (h_ob_4608_7 : F.idx (ob 4608 7) = true) (h_ob_4608_8 : F.idx (ob 4608 8)
    = true) (h_ob_4864_7 : F.idx (ob 4864 7) = true) (h_ob_4864_8 : F.idx (ob 4864 8) = true) (h_recLostCount : F.idx
    (recLostCount) = true) (hk : Kept F org s) : Kept F org (State.preSlot entered s n) := by
  unfold State.preSlot
  simp only []
  (repeat' split) <;> simp (contextual := true) (maxDischargeDepth := 60) [hk, h_flt, h_lark, h_rcd, h_snap, h_ucp, h_25, h_28, h_ob_11776_10, h_ob_4608_4, h_ob_4608_5, h_ob_4608_6, h_ob_4608_7, h_ob_4608_8, h_ob_4864_7, h_ob_4864_8, h_recLostCount]

@[simp ↓] theorem controlPhase_kept {F : Foot} {org : State} (upsets : List (Nat × Nat)) (s : State) (h_flt : F.flt = true)
    (h_lark : F.lark = true) (h_rcd : F.rcd = true) (h_snap : F.snap = true) (h_sp : F.sp = true) (h_timers : F.timers = true)
    (h_ucp : F.ucp = true) (h_25 : F.grp 37) (h_28 : F.grp 40) (h_29 : F.grp 41) (h_ob_11776_10 : F.idx (ob 11776 10) = true)
    (h_ob_4608_4 : F.idx (ob 4608 4) = true) (h_ob_4608_5 : F.idx (ob 4608 5) = true) (h_ob_4608_6 : F.idx (ob 4608 6) = true)
    (h_ob_4608_7 : F.idx (ob 4608 7) = true) (h_ob_4608_8 : F.idx (ob 4608 8) = true) (h_ob_4864_7 : F.idx (ob 4864 7) = true)
    (h_ob_4864_8 : F.idx (ob 4864 8) = true) (h_recLostCount : F.idx (recLostCount) = true) (hk : Kept F org s) : Kept F org
    (controlPhase upsets s) := by
  unfold controlPhase
  simp (contextual := true) (maxDischargeDepth := 60) [hk, h_flt, h_lark, h_rcd, h_snap, h_sp, h_timers, h_ucp, h_25, h_28, h_29, h_ob_11776_10, h_ob_4608_4, h_ob_4608_5, h_ob_4608_6, h_ob_4608_7, h_ob_4608_8, h_ob_4864_7, h_ob_4864_8, h_recLostCount]

@[simp ↓] theorem State.larkRestart_kept {F : Foot} {org : State} (s : State) (pass : Nat) (h_flt : F.flt = true) (h_lark :
    F.lark = true) (h_rcd : F.rcd = true) (h_sp : F.sp = true) (h_timers : F.timers = true) (h_ucp : F.ucp = true) (h_25 : F.grp
    37) (h_28 : F.grp 40) (h_29 : F.grp 41) (h_ob_11776_10 : F.idx (ob 11776 10) = true) (h_recLostCount : F.idx (recLostCount) =
    true) (hk : Kept F org s) : Kept F org (State.larkRestart s pass) := by
  unfold State.larkRestart
  dsimp only
  refine State.spareLow_kept _ _ _ (by assumption) (by assumption) (by assumption) (by assumption) (by assumption) (by assumption)
    (State.follow_kept _ _ _ _ (by assumption) (by assumption) (by assumption) (by assumption) (by assumption) (by assumption) ?_)
  refine kept_foldl _ _ (fun t a ht => ?_) ?_
  · split <;> simp (maxDischargeDepth := 60) [*]
  · refine kept_foldl _ _ (fun t a ht => ?_) ?_
    · simp (maxDischargeDepth := 60) [*]
    · refine kept_foldl _ _ (fun t a ht => ?_) hk
      simp (maxDischargeDepth := 60) [*]

@[simp ↓] theorem hSlotCfg_kept {F : Foot} (n : Nat) (sub : Nat) (h_lark : F.lark = true) (h_25 : F.grp 37) : (hSlotCfg n
    sub).Stays F := by
  intro m s w v hk
  unfold hSlotCfg
  simp (contextual := true) (maxDischargeDepth := 60) [hk, h_lark, h_25]

@[simp ↓] theorem hBankPar_kept {F : Foot} (n : Nat) (b : Nat) (i : Nat) (h_25 : F.grp 37) : (hBankPar n b i).Stays F := by
  intro m s w v hk
  unfold hBankPar
  simp (contextual := true) (maxDischargeDepth := 60) [hk, h_25]

@[simp ↓] theorem hSupSet_kept {F : Foot} (n : Nat) (sub : Nat) (h_25 : F.grp 37) : (hSupSet n sub).Stays F := by
  intro m s w v hk
  unfold hSupSet
  simp (contextual := true) (maxDischargeDepth := 60) [hk, h_25]

end Sys2Proof.Machine
end

