-- ==== Sys2Proof/Laws/KeptOutputs.lean ====
section
/-! SUPPORT. Footprints of the output channels. -/

set_option linter.unusedSimpArgs false
set_option linter.unusedVariables false

namespace Sys2Proof.Machine

open Sys2Proof

@[simp] theorem xk_grp (a b : Nat) : xk a b / 65536 = 0x26 := by unfold xk; rw [ob_grp]; omega
@[simp] theorem xk_idx {F : Foot} (h : F.grp 0x26) (a b : Nat) : F.idx (xk a b) = true := h _ (xk_grp _ _)
@[simp] theorem gk_grp (a b : Nat) : gk a b / 65536 = 0x26 := by unfold gk; rw [ob_grp]; omega
@[simp] theorem gk_idx {F : Foot} (h : F.grp 0x26) (a b : Nat) : F.idx (gk a b) = true := h _ (gk_grp _ _)

@[simp ↓] theorem State.setOch_kept {F : Foot} {org : State} (s : State) (c : Nat) (f : OutChan → OutChan) (h_outs : F.outs =
    true) (hk : Kept F org s) : Kept F org (State.setOch s c f) := by
  unfold State.setOch
  simp [hk, h_outs]

@[simp ↓] theorem State.setGrp_kept {F : Foot} {org : State} (s : State) (g : Nat) (f : GrpSt → GrpSt) (h_outs : F.outs =
    true) (hk : Kept F org s) : Kept F org (State.setGrp s g f) := by
  unfold State.setGrp
  simp [hk, h_outs]

@[simp ↓] theorem State.outFault_kept {F : Foot} {org : State} (s : State) (c : Nat) (h_flt : F.flt = true) (h_rcd : F.rcd =
    true) (h_ucp : F.ucp = true) (h_28 : F.grp 40) (h_ob_11776_10 : F.idx (ob 11776 10) = true) (h_recLostCount : F.idx
    (recLostCount) = true) (hk : Kept F org s) : Kept F org (State.outFault s c) := by
  unfold State.outFault
  simp [hk, h_flt, h_rcd, h_ucp, h_28, h_ob_11776_10, h_recLostCount]

@[simp ↓] theorem State.startCh_kept {F : Foot} {org : State} (s : State) (c : Nat) (again : Bool) (h_flt : F.flt = true)
    (h_outs : F.outs = true) (h_rcd : F.rcd = true) (h_ucp : F.ucp = true) (h_xk31 : ∀ p, F.idx (xk p 31) = true) (h_28 : F.grp
    40) (h_ob_11776_10 : F.idx (ob 11776 10) = true) (h_recLostCount : F.idx (recLostCount) = true) (hk : Kept F org s) : Kept F
    org (State.startCh s c again) := by
  unfold State.startCh
  simp (contextual := true) (maxDischargeDepth := 60) [hk, h_flt, h_outs, h_rcd, h_ucp, h_xk31, h_28, h_ob_11776_10, h_recLostCount]

@[simp ↓] theorem State.kick_kept {F : Foot} {org : State} (s : State) (c : Nat) (h_flt : F.flt = true) (h_outs : F.outs =
    true) (h_rcd : F.rcd = true) (h_ucp : F.ucp = true) (h_xk31 : ∀ p, F.idx (xk p 31) = true) (h_28 : F.grp 40) (h_ob_11776_10 :
    F.idx (ob 11776 10) = true) (h_recLostCount : F.idx (recLostCount) = true) (hk : Kept F org s) : Kept F org (State.kick s c)
    := by
  unfold State.kick
  simp [hk, h_flt, h_outs, h_rcd, h_ucp, h_xk31, h_28, h_ob_11776_10, h_recLostCount]

@[simp ↓] theorem conductionEnd_kept {F : Foot} {org : State} (c : Nat) (s : State) (h_outs : F.outs = true) (hk : Kept F org
    s) : Kept F org (conductionEnd c s) := by
  unfold conductionEnd
  simp [hk, h_outs]

@[simp ↓] theorem inrushWindowClose_kept {F : Foot} {org : State} (c : Nat) (s : State) (h_outs : F.outs = true) (hk : Kept F
    org s) : Kept F org (inrushWindowClose c s) := by
  unfold inrushWindowClose
  simp [hk, h_outs]

@[simp ↓] theorem State.tripCh_kept {F : Foot} {org : State} (s : State) (c : Nat) (cause : Nat) (h_flt : F.flt = true)
    (h_outs : F.outs = true) (h_rcd : F.rcd = true) (h_ucp : F.ucp = true) (h_xk31 : ∀ p, F.idx (xk p 31) = true) (h_xk33 : ∀ p,
    F.idx (xk p 33) = true) (h_28 : F.grp 40) (h_ob_11776_10 : F.idx (ob 11776 10) = true) (h_recLostCount : F.idx (recLostCount)
    = true) (hk : Kept F org s) : Kept F org (State.tripCh s c cause) := by
  unfold State.tripCh
  simp (contextual := true) (maxDischargeDepth := 60) [hk, h_flt, h_outs, h_rcd, h_ucp, h_xk31, h_xk33, h_28, h_ob_11776_10, h_recLostCount]

@[simp ↓] theorem overcurrentTrip_kept {F : Foot} {org : State} (c : Nat) (s : State) (h_flt : F.flt = true) (h_outs : F.outs
    = true) (h_rcd : F.rcd = true) (h_ucp : F.ucp = true) (h_xk31 : ∀ p, F.idx (xk p 31) = true) (h_xk33 : ∀ p, F.idx (xk p 33) =
    true) (h_28 : F.grp 40) (h_ob_11776_10 : F.idx (ob 11776 10) = true) (h_recLostCount : F.idx (recLostCount) = true) (hk : Kept
    F org s) : Kept F org (overcurrentTrip c s) := by
  unfold overcurrentTrip
  simp [hk, h_flt, h_outs, h_rcd, h_ucp, h_xk31, h_xk33, h_28, h_ob_11776_10, h_recLostCount]

@[simp ↓] theorem shortTrip_kept {F : Foot} {org : State} (c : Nat) (collapse : Bool) (s : State) (h_flt : F.flt = true)
    (h_outs : F.outs = true) (h_rcd : F.rcd = true) (h_ucp : F.ucp = true) (h_xk31 : ∀ p, F.idx (xk p 31) = true) (h_xk33 : ∀ p,
    F.idx (xk p 33) = true) (h_28 : F.grp 40) (h_ob_11776_10 : F.idx (ob 11776 10) = true) (h_recLostCount : F.idx (recLostCount)
    = true) (hk : Kept F org s) : Kept F org (shortTrip c collapse s) := by
  unfold shortTrip
  simp [hk, h_flt, h_outs, h_rcd, h_ucp, h_xk31, h_xk33, h_28, h_ob_11776_10, h_recLostCount]

@[simp ↓] theorem lsOvercurrentTrip_kept {F : Foot} {org : State} (c : Nat) (s : State) (h_flt : F.flt = true) (h_outs :
    F.outs = true) (h_rcd : F.rcd = true) (h_ucp : F.ucp = true) (h_xk31 : ∀ p, F.idx (xk p 31) = true) (h_xk33 : ∀ p, F.idx (xk p
    33) = true) (h_28 : F.grp 40) (h_ob_11776_10 : F.idx (ob 11776 10) = true) (h_recLostCount : F.idx (recLostCount) = true) (hk
    : Kept F org s) : Kept F org (lsOvercurrentTrip c s) := by
  unfold lsOvercurrentTrip
  simp [hk, h_flt, h_outs, h_rcd, h_ucp, h_xk31, h_xk33, h_28, h_ob_11776_10, h_recLostCount]

@[simp ↓] theorem thermalAbsTrip_kept {F : Foot} {org : State} (c : Nat) (s : State) (h_flt : F.flt = true) (h_outs : F.outs =
    true) (h_rcd : F.rcd = true) (h_ucp : F.ucp = true) (h_xk31 : ∀ p, F.idx (xk p 31) = true) (h_xk33 : ∀ p, F.idx (xk p 33) =
    true) (h_28 : F.grp 40) (h_ob_11776_10 : F.idx (ob 11776 10) = true) (h_recLostCount : F.idx (recLostCount) = true) (hk : Kept
    F org s) : Kept F org (thermalAbsTrip c s) := by
  unfold thermalAbsTrip
  simp [hk, h_flt, h_outs, h_rcd, h_ucp, h_xk31, h_xk33, h_28, h_ob_11776_10, h_recLostCount]

@[simp ↓] theorem thermalDeltaTrip_kept {F : Foot} {org : State} (c : Nat) (s : State) (h_flt : F.flt = true) (h_outs : F.outs
    = true) (h_rcd : F.rcd = true) (h_ucp : F.ucp = true) (h_xk31 : ∀ p, F.idx (xk p 31) = true) (h_xk33 : ∀ p, F.idx (xk p 33) =
    true) (h_28 : F.grp 40) (h_ob_11776_10 : F.idx (ob 11776 10) = true) (h_recLostCount : F.idx (recLostCount) = true) (hk : Kept
    F org s) : Kept F org (thermalDeltaTrip c s) := by
  unfold thermalDeltaTrip
  simp [hk, h_flt, h_outs, h_rcd, h_ucp, h_xk31, h_xk33, h_28, h_ob_11776_10, h_recLostCount]

@[simp ↓] theorem thermalLatchClear_kept {F : Foot} {org : State} (c : Nat) (s : State) (h_flt : F.flt = true) (h_outs :
    F.outs = true) (h_rcd : F.rcd = true) (h_ucp : F.ucp = true) (h_xk31 : ∀ p, F.idx (xk p 31) = true) (h_28 : F.grp 40)
    (h_ob_11776_10 : F.idx (ob 11776 10) = true) (h_recLostCount : F.idx (recLostCount) = true) (hk : Kept F org s) : Kept F org
    (thermalLatchClear c s) := by
  unfold thermalLatchClear
  simp [hk, h_flt, h_outs, h_rcd, h_ucp, h_xk31, h_28, h_ob_11776_10, h_recLostCount]

@[simp ↓] theorem retryCh_kept {F : Foot} {org : State} (c : Nat) (s : State) (h_flt : F.flt = true) (h_outs : F.outs = true)
    (h_rcd : F.rcd = true) (h_ucp : F.ucp = true) (h_xk31 : ∀ p, F.idx (xk p 31) = true) (h_xk32 : ∀ p, F.idx (xk p 32) = true)
    (h_28 : F.grp 40) (h_ob_11776_10 : F.idx (ob 11776 10) = true) (h_recLostCount : F.idx (recLostCount) = true) (hk : Kept F org
    s) : Kept F org (retryCh c s) := by
  unfold retryCh
  simp (contextual := true) (maxDischargeDepth := 60) [hk, h_flt, h_outs, h_rcd, h_ucp, h_xk31, h_xk32, h_28, h_ob_11776_10, h_recLostCount]

@[simp ↓] theorem retryCounterReload_kept {F : Foot} {org : State} (c : Nat) (s : State) (h_outs : F.outs = true) (h_xk32 : ∀
    p, F.idx (xk p 32) = true) (hk : Kept F org s) : Kept F org (retryCounterReload c s) := by
  unfold retryCounterReload
  simp [hk, h_outs, h_xk32]

@[simp ↓] theorem hOutRestart_kept {F : Foot} (c : Nat) (h_flt : F.flt = true) (h_outs : F.outs = true) (h_rcd : F.rcd = true)
    (h_ucp : F.ucp = true) (h_xk31 : ∀ p, F.idx (xk p 31) = true) (h_xk32 : ∀ p, F.idx (xk p 32) = true) (h_28 : F.grp 40)
    (h_ob_11776_10 : F.idx (ob 11776 10) = true) (h_recLostCount : F.idx (recLostCount) = true) : (hOutRestart c).Stays F := by
  unfold hOutRestart
  refine Handler.simple_stays _ fun m s w v hk => ?_
  (repeat' split) <;> simp (contextual := true) (maxDischargeDepth := 60) [hk, h_flt, h_outs, h_rcd, h_ucp, h_xk31, h_xk32, h_28, h_ob_11776_10, h_recLostCount]

@[simp ↓] theorem State.setTaken_kept {F : Foot} {org : State} (s : State) (off : Nat) (bs : List Byte) (h_img : F.img = true)
    (hk : Kept F org s) : Kept F org (State.setTaken s off bs) := by
  unfold State.setTaken
  simp [hk, h_img]

@[simp ↓] theorem State.larkLoads_kept {F : Foot} {org : State} (s : State) (h_img : F.img = true) (h_lark : F.lark = true)
    (hk : Kept F org s) : Kept F org (State.larkLoads s) := by
  unfold State.larkLoads
  split
  · exact hk
  · refine kept_foldl _ _ (fun t n ht => ?_) ?_
    · split <;> simp [*]
    · simp (contextual := true) (maxDischargeDepth := 60) [*]

@[simp ↓] theorem State.loadCh_kept {F : Foot} {org : State} (s : State) (c : Nat) (h_flt : F.flt = true) (h_free : F.free =
    true) (h_outs : F.outs = true) (h_rcd : F.rcd = true) (h_ucp : F.ucp = true) (h_xk29 : ∀ p, F.idx (xk p 29) = true) (h_xk30 :
    ∀ p, F.idx (xk p 30) = true) (h_xk31 : ∀ p, F.idx (xk p 31) = true) (h_xk36 : ∀ p, F.idx (xk p 36) = true) (h_28 : F.grp 40)
    (h_ob_11776_10 : F.idx (ob 11776 10) = true) (h_recLostCount : F.idx (recLostCount) = true) (hk : Kept F org s) : Kept F org
    (State.loadCh s c) := by
  unfold State.loadCh
  simp (contextual := true) (maxDischargeDepth := 60) [hk, h_flt, h_free, h_outs, h_rcd, h_ucp, h_xk29, h_xk30, h_xk31, h_xk36, h_28, h_ob_11776_10, h_recLostCount]

@[simp ↓] theorem loadPhase_kept {F : Foot} {org : State} (bad : Nat) (s : State) (h_flt : F.flt = true) (h_free : F.free =
    true) (h_img : F.img = true) (h_lark : F.lark = true) (h_outs : F.outs = true) (h_rcd : F.rcd = true) (h_ucp : F.ucp = true)
    (h_xk29 : ∀ p, F.idx (xk p 29) = true) (h_xk30 : ∀ p, F.idx (xk p 30) = true) (h_xk31 : ∀ p, F.idx (xk p 31) = true) (h_xk36 :
    ∀ p, F.idx (xk p 36) = true) (h_28 : F.grp 40) (h_ob_11776_10 : F.idx (ob 11776 10) = true) (h_recLostCount : F.idx
    (recLostCount) = true) (hk : Kept F org s) : Kept F org (loadPhase bad s) := by
  unfold loadPhase
  simp (contextual := true) (maxDischargeDepth := 60) [hk, h_flt, h_free, h_img, h_lark, h_outs, h_rcd, h_ucp, h_xk29, h_xk30, h_xk31, h_xk36, h_28, h_ob_11776_10, h_recLostCount]

@[simp ↓] theorem State.sealDuty_kept {F : Foot} {org : State} (s : State) (c : Nat) (h_xk28 : ∀ p, F.idx (xk p 28) = true)
    (hk : Kept F org s) : Kept F org (State.sealDuty s c) := by
  unfold State.sealDuty
  simp only []
  (repeat' split) <;> simp (contextual := true) (maxDischargeDepth := 60) [hk, h_xk28]

@[simp ↓] theorem State.sealOutputs_kept {F : Foot} {org : State} (s : State) (h_outs : F.outs = true) (h_xk28 : ∀ p, F.idx
    (xk p 28) = true) (hk : Kept F org s) : Kept F org (State.sealOutputs s) := by
  unfold State.sealOutputs
  simp (contextual := true) (maxDischargeDepth := 60) [hk, h_outs, h_xk28]

@[simp ↓] theorem State.senseChan_kept {F : Foot} {org : State} (s : State) (c : Nat) (d : SenseCh) (h_outs : F.outs = true)
    (h_xk27 : ∀ p, F.idx (xk p 27) = true) (h_xk34 : ∀ p, F.idx (xk p 34) = true) (h_xk35 : ∀ p, F.idx (xk p 35) = true) (h_xk37 :
    ∀ p, F.idx (xk p 37) = true) (h_xk38 : ∀ p, F.idx (xk p 38) = true) (h_xk42 : ∀ p, F.idx (xk p 42) = true) (hk : Kept F org s)
    : Kept F org (State.senseChan s c d) := by
  unfold State.senseChan
  (repeat' split) <;> simp (contextual := true) (maxDischargeDepth := 60) [hk, h_outs, h_xk27, h_xk34, h_xk35, h_xk37, h_xk38, h_xk42]

@[simp ↓] theorem State.senseGood_kept {F : Foot} {org : State} (s : State) (g : Nat) (bad : Bool) (h_flt : F.flt = true)
    (h_outs : F.outs = true) (h_rcd : F.rcd = true) (h_ucp : F.ucp = true) (h_gk3 : ∀ p, F.idx (gk p 3) = true) (h_28 : F.grp 40)
    (h_ob_11776_10 : F.idx (ob 11776 10) = true) (h_recLostCount : F.idx (recLostCount) = true) (hk : Kept F org s) : Kept F org
    (State.senseGood s g bad) := by
  unfold State.senseGood
  simp (contextual := true) (maxDischargeDepth := 60) [hk, h_flt, h_outs, h_rcd, h_ucp, h_gk3, h_28, h_ob_11776_10, h_recLostCount]

@[simp ↓] theorem State.senseGrp_kept {F : Foot} {org : State} (s : State) (b : SenseBlk) (h_flt : F.flt = true) (h_outs :
    F.outs = true) (h_rcd : F.rcd = true) (h_ucp : F.ucp = true) (h_26 : F.grp 38) (h_28 : F.grp 40) (h_ob_11776_10 : F.idx (ob
    11776 10) = true) (h_recLostCount : F.idx (recLostCount) = true) (hk : Kept F org s) : Kept F org (State.senseGrp s b) := by
  unfold State.senseGrp
  split
  · exact hk
  · have h1 : Kept F org ((List.range 8).foldl (fun (t : State) p =>
        match b.chans[p]? with | some d => t.senseChan (8 * b.g + p) d | none => t) s) := by
      refine kept_foldl _ _ (fun t p ht => ?_) hk
      split <;> simp [*]
    revert h1
    generalize (List.range 8).foldl (fun (t : State) p =>
        match b.chans[p]? with | some d => t.senseChan (8 * b.g + p) d | none => t) s = u
    intro h1
    simp (maxDischargeDepth := 60) [*]

@[simp ↓] theorem scaleSense_kept {F : Foot} {org : State} (l : List SenseBlk) (s : State) (h_flt : F.flt = true) (h_outs :
    F.outs = true) (h_rcd : F.rcd = true) (h_ucp : F.ucp = true) (h_26 : F.grp 38) (h_28 : F.grp 40) (h_ob_11776_10 : F.idx (ob
    11776 10) = true) (h_recLostCount : F.idx (recLostCount) = true) (hk : Kept F org s) : Kept F org (scaleSense l s) := by
  unfold scaleSense
  simp (contextual := true) (maxDischargeDepth := 60) [hk, h_flt, h_outs, h_rcd, h_ucp, h_26, h_28, h_ob_11776_10, h_recLostCount]

@[simp ↓] theorem senseMissing_kept {F : Foot} {org : State} (g : Nat) (selfFail : Bool) (s : State) (h_flt : F.flt = true)
    (h_outs : F.outs = true) (h_rcd : F.rcd = true) (h_ucp : F.ucp = true) (h_gk3 : ∀ p, F.idx (gk p 3) = true) (h_gk5 : ∀ p,
    F.idx (gk p 5) = true) (h_28 : F.grp 40) (h_ob_11776_10 : F.idx (ob 11776 10) = true) (h_recLostCount : F.idx (recLostCount) =
    true) (hk : Kept F org s) : Kept F org (senseMissing g selfFail s) := by
  unfold senseMissing
  simp (contextual := true) (maxDischargeDepth := 60) [hk, h_flt, h_outs, h_rcd, h_ucp, h_gk3, h_gk5, h_28, h_ob_11776_10, h_recLostCount]

@[simp ↓] theorem openLoadOn_kept {F : Foot} {org : State} (c : Nat) (s : State) (h_flt : F.flt = true) (h_outs : F.outs =
    true) (h_rcd : F.rcd = true) (h_ucp : F.ucp = true) (h_xk40 : ∀ p, F.idx (xk p 40) = true) (h_28 : F.grp 40) (h_ob_11776_10 :
    F.idx (ob 11776 10) = true) (h_recLostCount : F.idx (recLostCount) = true) (hk : Kept F org s) : Kept F org (openLoadOn c s)
    := by
  unfold openLoadOn
  simp (contextual := true) (maxDischargeDepth := 60) [hk, h_flt, h_outs, h_rcd, h_ucp, h_xk40, h_28, h_ob_11776_10, h_recLostCount]

@[simp ↓] theorem openLoadClear_kept {F : Foot} {org : State} (c : Nat) (s : State) (h_flt : F.flt = true) (h_outs : F.outs =
    true) (h_rcd : F.rcd = true) (h_ucp : F.ucp = true) (h_28 : F.grp 40) (h_ob_11776_10 : F.idx (ob 11776 10) = true)
    (h_recLostCount : F.idx (recLostCount) = true) (hk : Kept F org s) : Kept F org (openLoadClear c s) := by
  unfold openLoadClear
  simp [hk, h_flt, h_outs, h_rcd, h_ucp, h_28, h_ob_11776_10, h_recLostCount]

@[simp ↓] theorem offStateTest_kept {F : Foot} {org : State} (c : Nat) (level : Nat) (s : State) (h_flt : F.flt = true)
    (h_outs : F.outs = true) (h_rcd : F.rcd = true) (h_ucp : F.ucp = true) (h_xk31 : ∀ p, F.idx (xk p 31) = true) (h_28 : F.grp
    40) (h_ob_11776_10 : F.idx (ob 11776 10) = true) (h_recLostCount : F.idx (recLostCount) = true) (hk : Kept F org s) : Kept F
    org (offStateTest c level s) := by
  unfold offStateTest
  simp (contextual := true) (maxDischargeDepth := 60) [hk, h_flt, h_outs, h_rcd, h_ucp, h_xk31, h_28, h_ob_11776_10, h_recLostCount]

@[simp ↓] theorem refDeviation_kept {F : Foot} {org : State} (c : Nat) (s : State) (h_flt : F.flt = true) (h_outs : F.outs =
    true) (h_rcd : F.rcd = true) (h_ucp : F.ucp = true) (h_28 : F.grp 40) (h_ob_11776_10 : F.idx (ob 11776 10) = true)
    (h_recLostCount : F.idx (recLostCount) = true) (hk : Kept F org s) : Kept F org (refDeviation c s) := by
  unfold refDeviation
  simp [hk, h_flt, h_outs, h_rcd, h_ucp, h_28, h_ob_11776_10, h_recLostCount]

@[simp ↓] theorem refDevClear_kept {F : Foot} {org : State} (c : Nat) (s : State) (h_flt : F.flt = true) (h_outs : F.outs =
    true) (h_rcd : F.rcd = true) (h_ucp : F.ucp = true) (h_28 : F.grp 40) (h_ob_11776_10 : F.idx (ob 11776 10) = true)
    (h_recLostCount : F.idx (recLostCount) = true) (hk : Kept F org s) : Kept F org (refDevClear c s) := by
  unfold refDevClear
  simp [hk, h_flt, h_outs, h_rcd, h_ucp, h_28, h_ob_11776_10, h_recLostCount]

@[simp ↓] theorem State.grpFault_kept {F : Foot} {org : State} (s : State) (g : Nat) (h_flt : F.flt = true) (h_rcd : F.rcd =
    true) (h_ucp : F.ucp = true) (h_gk3 : ∀ p, F.idx (gk p 3) = true) (h_28 : F.grp 40) (h_ob_11776_10 : F.idx (ob 11776 10) =
    true) (h_recLostCount : F.idx (recLostCount) = true) (hk : Kept F org s) : Kept F org (State.grpFault s g) := by
  unfold State.grpFault
  simp (contextual := true) (maxDischargeDepth := 60) [hk, h_flt, h_rcd, h_ucp, h_gk3, h_28, h_ob_11776_10, h_recLostCount]

@[simp ↓] theorem State.grpOff_kept {F : Foot} {org : State} (s : State) (g : Nat) (h_outs : F.outs = true) (hk : Kept F org
    s) : Kept F org (State.grpOff s g) := by
  unfold State.grpOff
  simp (contextual := true) (maxDischargeDepth := 60) [hk, h_outs]

@[simp ↓] theorem groupGuardOff_kept {F : Foot} {org : State} (g : Nat) (s : State) (h_flt : F.flt = true) (h_outs : F.outs =
    true) (h_rcd : F.rcd = true) (h_ucp : F.ucp = true) (h_gk3 : ∀ p, F.idx (gk p 3) = true) (h_gk4 : ∀ p, F.idx (gk p 4) = true)
    (h_28 : F.grp 40) (h_ob_11776_10 : F.idx (ob 11776 10) = true) (h_recLostCount : F.idx (recLostCount) = true) (hk : Kept F org
    s) : Kept F org (groupGuardOff g s) := by
  unfold groupGuardOff
  simp (contextual := true) (maxDischargeDepth := 60) [hk, h_flt, h_outs, h_rcd, h_ucp, h_gk3, h_gk4, h_28, h_ob_11776_10, h_recLostCount]

@[simp ↓] theorem State.grpNext_kept {F : Foot} {org : State} (s : State) (g : Nat) (h_flt : F.flt = true) (h_outs : F.outs =
    true) (h_rcd : F.rcd = true) (h_ucp : F.ucp = true) (h_xk31 : ∀ p, F.idx (xk p 31) = true) (h_28 : F.grp 40) (h_ob_11776_10 :
    F.idx (ob 11776 10) = true) (h_recLostCount : F.idx (recLostCount) = true) (hk : Kept F org s) : Kept F org (State.grpNext s
    g) := by
  unfold State.grpNext
  (repeat' split) <;> simp (contextual := true) (maxDischargeDepth := 60) [hk, h_flt, h_outs, h_rcd, h_ucp, h_xk31, h_28, h_ob_11776_10, h_recLostCount]

@[simp ↓] theorem groupRestore_kept {F : Foot} {org : State} (g : Nat) (s : State) (h_flt : F.flt = true) (h_outs : F.outs =
    true) (h_rcd : F.rcd = true) (h_ucp : F.ucp = true) (h_gk3 : ∀ p, F.idx (gk p 3) = true) (h_xk31 : ∀ p, F.idx (xk p 31) =
    true) (h_28 : F.grp 40) (h_ob_11776_10 : F.idx (ob 11776 10) = true) (h_recLostCount : F.idx (recLostCount) = true) (hk : Kept
    F org s) : Kept F org (groupRestore g s) := by
  unfold groupRestore
  simp (contextual := true) (maxDischargeDepth := 60) [hk, h_flt, h_outs, h_rcd, h_ucp, h_gk3, h_xk31, h_28, h_ob_11776_10, h_recLostCount]

@[simp ↓] theorem State.grpMean_kept {F : Foot} {org : State} (s : State) (g : Nat) (h_flt : F.flt = true) (h_outs : F.outs =
    true) (h_rcd : F.rcd = true) (h_ucp : F.ucp = true) (h_gk3 : ∀ p, F.idx (gk p 3) = true) (h_28 : F.grp 40) (h_ob_11776_10 :
    F.idx (ob 11776 10) = true) (h_recLostCount : F.idx (recLostCount) = true) (hk : Kept F org s) : Kept F org (State.grpMean s
    g) := by
  unfold State.grpMean
  simp [hk, h_flt, h_outs, h_rcd, h_ucp, h_gk3, h_28, h_ob_11776_10, h_recLostCount]

@[simp ↓] theorem dissipationEstimate_kept {F : Foot} {org : State} (base : Int) (clamp : Nat) (s : State) (h_flt : F.flt =
    true) (h_outs : F.outs = true) (h_rcd : F.rcd = true) (h_ucp : F.ucp = true) (h_gk3 : ∀ p, F.idx (gk p 3) = true) (h_28 :
    F.grp 40) (h_ob_11776_10 : F.idx (ob 11776 10) = true) (h_ob_9800_1 : F.idx (ob 9800 1) = true) (h_ob_9800_2 : F.idx (ob 9800
    2) = true) (h_ob_9800_3 : F.idx (ob 9800 3) = true) (h_ob_9800_4 : F.idx (ob 9800 4) = true) (h_recLostCount : F.idx
    (recLostCount) = true) (hk : Kept F org s) : Kept F org (dissipationEstimate base clamp s) := by
  unfold dissipationEstimate
  simp (contextual := true) (maxDischargeDepth := 60) [hk, h_flt, h_outs, h_rcd, h_ucp, h_gk3, h_28, h_ob_11776_10, h_ob_9800_1, h_ob_9800_2, h_ob_9800_3, h_ob_9800_4, h_recLostCount]

@[simp ↓] theorem cellSwap_kept {F : Foot} {org : State} (c : Nat) (side : Nat) (failed : Bool) (verify : List Bool) (dur :
    Nat) (s : State) (h_flt : F.flt = true) (h_rcd : F.rcd = true) (h_sp : F.sp = true) (h_timers : F.timers = true) (h_ucp :
    F.ucp = true) (h_xk39 : ∀ p, F.idx (xk p 39) = true) (h_28 : F.grp 40) (h_29 : F.grp 41) (h_ob_11776_10 : F.idx (ob 11776 10)
    = true) (h_recLostCount : F.idx (recLostCount) = true) (hk : Kept F org s) : Kept F org (cellSwap c side failed verify dur s)
    := by
  unfold cellSwap
  simp only []
  split <;> (try (rename_i heq; have e := congrArg Prod.fst heq; dsimp only at e; subst e)) <;>
    simp (contextual := true) (maxDischargeDepth := 60) [hk, h_flt, h_rcd, h_sp, h_timers, h_ucp, h_xk39, h_28, h_29, h_ob_11776_10, h_recLostCount]

@[simp ↓] theorem cellFaultTrip_kept {F : Foot} {org : State} (c : Nat) (side : Nat) (short : Bool) (s : State) (h_flt : F.flt
    = true) (h_outs : F.outs = true) (h_rcd : F.rcd = true) (h_sp : F.sp = true) (h_timers : F.timers = true) (h_ucp : F.ucp =
    true) (h_xk31 : ∀ p, F.idx (xk p 31) = true) (h_xk33 : ∀ p, F.idx (xk p 33) = true) (h_xk39 : ∀ p, F.idx (xk p 39) = true)
    (h_28 : F.grp 40) (h_29 : F.grp 41) (h_ob_11776_10 : F.idx (ob 11776 10) = true) (h_ob_9984_30 : F.idx (ob 9984 30) = true)
    (h_recLostCount : F.idx (recLostCount) = true) (hk : Kept F org s) : Kept F org (cellFaultTrip c side short s) := by
  unfold cellFaultTrip
  simp (contextual := true) (maxDischargeDepth := 60) [hk, h_flt, h_outs, h_rcd, h_sp, h_timers, h_ucp, h_xk31, h_xk33, h_xk39, h_28, h_29, h_ob_11776_10, h_ob_9984_30, h_recLostCount]

@[simp ↓] theorem permissionWithdraw_kept {F : Foot} {org : State} (c : Nat) (s : State) (h_flt : F.flt = true) (h_outs :
    F.outs = true) (h_rcd : F.rcd = true) (h_ucp : F.ucp = true) (h_xk31 : ∀ p, F.idx (xk p 31) = true) (h_28 : F.grp 40)
    (h_ob_11776_10 : F.idx (ob 11776 10) = true) (h_recLostCount : F.idx (recLostCount) = true) (hk : Kept F org s) : Kept F org
    (permissionWithdraw c s) := by
  unfold permissionWithdraw
  simp [hk, h_flt, h_outs, h_rcd, h_ucp, h_xk31, h_28, h_ob_11776_10, h_recLostCount]

@[simp ↓] theorem permissionReturn_kept {F : Foot} {org : State} (c : Nat) (s : State) (h_flt : F.flt = true) (h_outs : F.outs
    = true) (h_rcd : F.rcd = true) (h_ucp : F.ucp = true) (h_xk31 : ∀ p, F.idx (xk p 31) = true) (h_28 : F.grp 40) (h_ob_11776_10
    : F.idx (ob 11776 10) = true) (h_recLostCount : F.idx (recLostCount) = true) (hk : Kept F org s) : Kept F org
    (permissionReturn c s) := by
  unfold permissionReturn
  simp [hk, h_flt, h_outs, h_rcd, h_ucp, h_xk31, h_28, h_ob_11776_10, h_recLostCount]

@[simp ↓] theorem switchLinkLoss_kept {F : Foot} {org : State} (g : Nat) (s : State) (h_flt : F.flt = true) (h_outs : F.outs =
    true) (h_rcd : F.rcd = true) (h_ucp : F.ucp = true) (h_gk3 : ∀ p, F.idx (gk p 3) = true) (h_gk7 : ∀ p, F.idx (gk p 7) = true)
    (h_xk31 : ∀ p, F.idx (xk p 31) = true) (h_28 : F.grp 40) (h_ob_11776_10 : F.idx (ob 11776 10) = true) (h_recLostCount : F.idx
    (recLostCount) = true) (hk : Kept F org s) : Kept F org (switchLinkLoss g s) := by
  unfold switchLinkLoss
  simp (contextual := true) (maxDischargeDepth := 60) [hk, h_flt, h_outs, h_rcd, h_ucp, h_gk3, h_gk7, h_xk31, h_28, h_ob_11776_10, h_recLostCount]

@[simp ↓] theorem switchLinkRestore_kept {F : Foot} {org : State} (g : Nat) (s : State) (h_flt : F.flt = true) (h_outs :
    F.outs = true) (h_rcd : F.rcd = true) (h_ucp : F.ucp = true) (h_gk3 : ∀ p, F.idx (gk p 3) = true) (h_xk31 : ∀ p, F.idx (xk p
    31) = true) (h_28 : F.grp 40) (h_ob_11776_10 : F.idx (ob 11776 10) = true) (h_recLostCount : F.idx (recLostCount) = true) (hk
    : Kept F org s) : Kept F org (switchLinkRestore g s) := by
  unfold switchLinkRestore
  simp (contextual := true) (maxDischargeDepth := 60) [hk, h_flt, h_outs, h_rcd, h_ucp, h_gk3, h_xk31, h_28, h_ob_11776_10, h_recLostCount]

@[simp ↓] theorem State.outputsOff_kept {F : Foot} {org : State} (s : State) (h_flt : F.flt = true) (h_outs : F.outs = true)
    (h_rcd : F.rcd = true) (h_ucp : F.ucp = true) (h_xk31 : ∀ p, F.idx (xk p 31) = true) (h_28 : F.grp 40) (h_ob_11776_10 : F.idx
    (ob 11776 10) = true) (h_recLostCount : F.idx (recLostCount) = true) (hk : Kept F org s) : Kept F org (State.outputsOff s) :=
    by
  unfold State.outputsOff
  simp (contextual := true) (maxDischargeDepth := 60) [hk, h_flt, h_outs, h_rcd, h_ucp, h_xk31, h_28, h_ob_11776_10, h_recLostCount]

@[simp ↓] theorem hOutCfg_kept {F : Foot} (c : Nat) (sub : Nat) (h_26 : F.grp 38) : (hOutCfg c sub).Stays F := by
  intro m s w v hk
  unfold hOutCfg
  simp (contextual := true) (maxDischargeDepth := 60) [hk, h_26]

@[simp ↓] theorem State.releaseOverrides_kept {F : Foot} {org : State} (s : State) (h_xk22 : ∀ p, F.idx (xk p 22) = true) (hk
    : Kept F org s) : Kept F org (State.releaseOverrides s) := by
  unfold State.releaseOverrides
  simp (contextual := true) (maxDischargeDepth := 60) [hk, h_xk22]

end Sys2Proof.Machine
end

