-- ==== Sys2Proof/Laws/KeptTuning.lean ====
section
/-! SUPPORT. Footprints of test signals and captures. -/

set_option linter.unusedSimpArgs false
set_option linter.unusedVariables false

namespace Sys2Proof.Machine

open Sys2Proof

@[simp] theorem ck_grp (a b : Nat) : ck a b / 65536 = 0x25 := by unfold ck; rw [ob_grp]; omega
@[simp] theorem ck_idx {F : Foot} (h : F.grp 0x25) (a b : Nat) : F.idx (ck a b) = true := h _ (ck_grp _ _)

@[simp ↓] theorem hTest_kept {F : Foot} (n : Nat) (h_lark : F.lark = true) (h_ob_4608_4 : F.idx (ob 4608 4) = true)
    (h_ob_4608_5 : F.idx (ob 4608 5) = true) (h_ob_4608_6 : F.idx (ob 4608 6) = true) (h_ob_4608_7 : F.idx (ob 4608 7) = true)
    (h_ob_4608_8 : F.idx (ob 4608 8) = true) : (hTest n).Stays F := by
  unfold hTest
  refine Handler.simple_stays _ fun m s w v hk => ?_
  (repeat' split) <;> simp (contextual := true) (maxDischargeDepth := 60) [hk, h_lark, h_ob_4608_4, h_ob_4608_5, h_ob_4608_6, h_ob_4608_7, h_ob_4608_8]

@[simp ↓] theorem hTestPar_kept {F : Foot} (n : Nat) (sub : Nat) (h_25 : F.grp 37) : (hTestPar n sub).Stays F := by
  unfold hTestPar
  refine Handler.simple_stays _ fun m s w v hk => ?_
  (repeat' split) <;> simp (contextual := true) (maxDischargeDepth := 60) [hk, h_25]

@[simp ↓] theorem State.abortTests_kept {F : Foot} {org : State} (s : State) (gone : Who → Bool) (h_lark : F.lark = true) (hk
    : Kept F org s) : Kept F org (State.abortTests s gone) := by
  unfold State.abortTests
  refine kept_foldl _ _ (fun t n ht => ?_) hk
  split
  · split <;> simp [*]
  · exact ht

@[simp ↓] theorem testComplete_kept {F : Foot} {org : State} (n : Nat) (s : State) (h_lark : F.lark = true) (h_sk138 : ∀ p,
    F.idx (sk p 138) = true) (h_sk139 : ∀ p, F.idx (sk p 139) = true) (h_sk140 : ∀ p, F.idx (sk p 140) = true) (hk : Kept F org s)
    : Kept F org (testComplete n s) := by
  unfold testComplete
  (repeat' split) <;> simp (contextual := true) (maxDischargeDepth := 60) [hk, h_lark, h_sk138, h_sk139, h_sk140]

@[simp ↓] theorem hPeakReset_kept {F : Foot} (n : Nat) (h_sk118 : ∀ p, F.idx (sk p 118) = true) : (hPeakReset n).Stays F := by
  unfold hPeakReset
  refine Handler.simple_stays _ fun m s w v hk => ?_
  (repeat' split) <;> simp (contextual := true) (maxDischargeDepth := 60) [hk, h_sk118]

@[simp ↓] theorem State.setCap_kept {F : Foot} {org : State} (s : State) (k : Nat) (f : CapSt → CapSt) (h_lark : F.lark =
    true) (hk : Kept F org s) : Kept F org (State.setCap s k f) := by
  unfold State.setCap
  simp [hk, h_lark]

@[simp ↓] theorem State.capShow_kept {F : Foot} {org : State} (s : State) (k : Nat) (st : Nat) (h_ck10 : ∀ p, F.idx (ck p 10)
    = true) (h_ck9 : ∀ p, F.idx (ck p 9) = true) (hk : Kept F org s) : Kept F org (State.capShow s k st) := by
  unfold State.capShow
  simp [hk, h_ck10, h_ck9]

@[simp ↓] theorem captureRow_kept {F : Foot} {org : State} (k : Nat) (s : State) (h_lark : F.lark = true) (h_ck10 : ∀ p, F.idx
    (ck p 10) = true) (h_ck9 : ∀ p, F.idx (ck p 9) = true) (hk : Kept F org s) : Kept F org (captureRow k s) := by
  unfold captureRow
  simp [hk, h_lark, h_ck10, h_ck9]

@[simp ↓] theorem hCapCmd_kept {F : Foot} (k : Nat) (h_lark : F.lark = true) (h_ck10 : ∀ p, F.idx (ck p 10) = true) (h_ck11 :
    ∀ p, F.idx (ck p 11) = true) (h_ck9 : ∀ p, F.idx (ck p 9) = true) : (hCapCmd k).Stays F := by
  unfold hCapCmd
  refine Handler.simple_stays _ fun m s w v hk => ?_
  (repeat' split) <;> simp (contextual := true) (maxDischargeDepth := 60) [hk, h_lark, h_ck10, h_ck11, h_ck9]

@[simp ↓] theorem hCapSet_kept {F : Foot} (k : Nat) (sub : Nat) (h_25 : F.grp 37) : (hCapSet k sub).Stays F := by
  intro m s w v hk
  unfold hCapSet
  simp (contextual := true) (maxDischargeDepth := 60) [hk, h_25]

@[simp ↓] theorem State.capsTruncate_kept {F : Foot} {org : State} (s : State) (h_lark : F.lark = true) (h_ck10 : ∀ p, F.idx
    (ck p 10) = true) (h_ck9 : ∀ p, F.idx (ck p 9) = true) (hk : Kept F org s) : Kept F org (State.capsTruncate s) := by
  unfold State.capsTruncate
  simp (contextual := true) (maxDischargeDepth := 60) [hk, h_lark, h_ck10, h_ck9]

@[simp ↓] theorem State.capsEmpty_kept {F : Foot} {org : State} (s : State) (h_lark : F.lark = true) (h_ck10 : ∀ p, F.idx (ck
    p 10) = true) (h_ck9 : ∀ p, F.idx (ck p 9) = true) (hk : Kept F org s) : Kept F org (State.capsEmpty s) := by
  unfold State.capsEmpty
  simp (contextual := true) (maxDischargeDepth := 60) [hk, h_lark, h_ck10, h_ck9]

end Sys2Proof.Machine
end

