-- ==== Sys2Proof/Laws/KeptTrust.lean ====
section
/-! SUPPORT. Footprints of trust. -/

set_option linter.unusedSimpArgs false
set_option linter.unusedVariables false

namespace Sys2Proof.Machine

open Sys2Proof

@[simp ↓] theorem State.secRecord_kept {F : Foot} {org : State} (s : State) (subject : Nat) (code : Nat) (role : Nat) (serial
    : Nat) (sess : Nat) (more : List Cont) (h_flt : F.flt = true) (h_rcd : F.rcd = true) (h_ucp : F.ucp = true) (h_28 : F.grp 40)
    (h_ob_11776_10 : F.idx (ob 11776 10) = true) (h_recLostCount : F.idx (recLostCount) = true) (hk : Kept F org s) : Kept F org
    (State.secRecord s subject code role serial sess more) := by
  unfold State.secRecord
  simp [hk, h_flt, h_rcd, h_ucp, h_28, h_ob_11776_10, h_recLostCount]

@[simp ↓] theorem State.authRefused_kept {F : Foot} {org : State} (s : State) (reason : Nat) (role : Nat) (serial : Nat) (sess
    : Nat) (h_flt : F.flt = true) (h_rcd : F.rcd = true) (h_ucp : F.ucp = true) (h_28 : F.grp 40) (h_ob_11776_10 : F.idx (ob 11776
    10) = true) (h_ob_12032_28 : F.idx (ob 12032 28) = true) (h_ob_4352_6 : F.idx (ob 4352 6) = true) (h_recLostCount : F.idx
    (recLostCount) = true) (hk : Kept F org s) : Kept F org (State.authRefused s reason role serial sess) := by
  unfold State.authRefused
  simp (contextual := true) (maxDischargeDepth := 60) [hk, h_flt, h_rcd, h_ucp, h_28, h_ob_11776_10, h_ob_12032_28, h_ob_4352_6, h_recLostCount]

end Sys2Proof.Machine
end

