-- ==== Sys2Proof/Laws/KeptVersions.lean ====
section
/-! SUPPORT. Footprints of configuration versions. -/

set_option linter.unusedSimpArgs false
set_option linter.unusedVariables false

namespace Sys2Proof.Machine

open Sys2Proof

@[simp ↓] theorem State.writeVersion_kept {F : Foot} {org : State} (s : State) (origin : Nat) (parent : Nat) (vals : Tbl Nat)
    (blobs : Tbl (List Byte)) (prof : Tbl Nat) (profVer : Nat) (cred : Nat × Nat) (h_conf : F.conf = true) (h_flt : F.flt = true)
    (h_rcd : F.rcd = true) (h_ucp : F.ucp = true) (h_28 : F.grp 40) (h_ob_11776_10 : F.idx (ob 11776 10) = true) (h_ob_12288_1 :
    F.idx (ob 12288 1) = true) (h_ob_12288_14 : F.idx (ob 12288 14) = true) (h_ob_12288_2 : F.idx (ob 12288 2) = true)
    (h_ob_12288_7 : F.idx (ob 12288 7) = true) (h_recLostCount : F.idx (recLostCount) = true) (hk : Kept F org s) : Kept F org
    (State.writeVersion s origin parent vals blobs prof profVer cred) := by
  unfold State.writeVersion
  simp (contextual := true) (maxDischargeDepth := 60) [hk, h_conf, h_flt, h_rcd, h_ucp, h_28, h_ob_11776_10, h_ob_12288_1, h_ob_12288_14, h_ob_12288_2, h_ob_12288_7, h_recLostCount]

end Sys2Proof.Machine
end

