-- ==== Sys2Proof/Laws/KeptFoxglove.lean ====
section
/-! SUPPORT. Footprints of Foxglove. -/

set_option linter.unusedSimpArgs false
set_option linter.unusedVariables false

namespace Sys2Proof.Machine

open Sys2Proof

@[simp] theorem fx_grp (a : Nat) : fx a / 65536 = 0x27 := by unfold fx; rw [ob_grp]
@[simp] theorem fx_idx {F : Foot} (h : F.grp 0x27) (a : Nat) : F.idx (fx a) = true := h _ (fx_grp _)

@[simp ↓] theorem State.setFox_kept {F : Foot} {org : State} (s : State) (f : FoxSt → FoxSt) (h_fox : F.fox = true) (hk : Kept
    F org s) : Kept F org (State.setFox s f) := by
  unfold State.setFox
  simp [hk, h_fox]

@[simp ↓] theorem State.setPair_kept {F : Foot} {org : State} (s : State) (p : Nat) (f : FoxPair → FoxPair) (h_fox : F.fox =
    true) (hk : Kept F org s) : Kept F org (State.setPair s p f) := by
  unfold State.setPair
  simp [hk, h_fox]

@[simp ↓] theorem State.setFoxIn_kept {F : Foot} {org : State} (s : State) (n : Nat) (f : FoxIn → FoxIn) (h_fox : F.fox =
    true) (hk : Kept F org s) : Kept F org (State.setFoxIn s n f) := by
  unfold State.setFoxIn
  simp [hk, h_fox]

@[simp ↓] theorem State.pairUpdate_kept {F : Foot} {org : State} (s : State) (p : Nat) (h_fox : F.fox = true) (hk : Kept F org
    s) : Kept F org (State.pairUpdate s p) := by
  unfold State.pairUpdate
  simp [hk, h_fox]

@[simp ↓] theorem State.pairInit_kept {F : Foot} {org : State} (s : State) (p : Nat) (h_fox : F.fox = true) (hk : Kept F org
    s) : Kept F org (State.pairInit s p) := by
  unfold State.pairInit
  simp [hk, h_fox]

@[simp ↓] theorem State.foxLevels_kept {F : Foot} {org : State} (s : State) (h_flt : F.flt = true) (h_rcd : F.rcd = true)
    (h_ucp : F.ucp = true) (h_28 : F.grp 40) (h_ob_11776_10 : F.idx (ob 11776 10) = true) (h_recLostCount : F.idx (recLostCount) =
    true) (hk : Kept F org s) : Kept F org (State.foxLevels s) := by
  unfold State.foxLevels
  simp (contextual := true) (maxDischargeDepth := 60) [hk, h_flt, h_rcd, h_ucp, h_28, h_ob_11776_10, h_recLostCount]

@[simp ↓] theorem State.foxShow_kept {F : Foot} {org : State} (s : State) (h_27 : F.grp 39) (hk : Kept F org s) : Kept F org
    (State.foxShow s) := by
  unfold State.foxShow
  simp (contextual := true) (maxDischargeDepth := 60) [hk, h_27]

@[simp ↓] theorem State.foxSettle_kept {F : Foot} {org : State} (s : State) (h_flt : F.flt = true) (h_fox : F.fox = true)
    (h_rcd : F.rcd = true) (h_ucp : F.ucp = true) (h_27 : F.grp 39) (h_28 : F.grp 40) (h_ob_11776_10 : F.idx (ob 11776 10) = true)
    (h_recLostCount : F.idx (recLostCount) = true) (hk : Kept F org s) : Kept F org (State.foxSettle s) := by
  unfold State.foxSettle
  simp (contextual := true) (maxDischargeDepth := 60) [hk, h_flt, h_fox, h_rcd, h_ucp, h_27, h_28, h_ob_11776_10, h_recLostCount]

@[simp ↓] theorem State.fnRestart_kept {F : Foot} {org : State} (s : State) (mask : Nat) (h_fox : F.fox = true) (hk : Kept F
    org s) : Kept F org (State.fnRestart s mask) := by
  unfold State.fnRestart
  simp [hk, h_fox]

@[simp ↓] theorem State.foxEnter_kept {F : Foot} {org : State} (s : State) (st : Nat) (cause : Nat) (h_flt : F.flt = true)
    (h_fox : F.fox = true) (h_rcd : F.rcd = true) (h_ucp : F.ucp = true) (h_27 : F.grp 39) (h_28 : F.grp 40) (h_ob_11776_10 :
    F.idx (ob 11776 10) = true) (h_recLostCount : F.idx (recLostCount) = true) (hk : Kept F org s) : Kept F org (State.foxEnter s
    st cause) := by
  unfold State.foxEnter
  simp (contextual := true) (maxDischargeDepth := 60) [hk, h_flt, h_fox, h_rcd, h_ucp, h_27, h_28, h_ob_11776_10, h_recLostCount]

@[simp ↓] theorem State.foxSafe_kept {F : Foot} {org : State} (s : State) (cause : Nat) (h_flt : F.flt = true) (h_fox : F.fox
    = true) (h_rcd : F.rcd = true) (h_ucp : F.ucp = true) (h_27 : F.grp 39) (h_28 : F.grp 40) (h_ob_11776_10 : F.idx (ob 11776 10)
    = true) (h_recLostCount : F.idx (recLostCount) = true) (hk : Kept F org s) : Kept F org (State.foxSafe s cause) := by
  unfold State.foxSafe
  simp [hk, h_flt, h_fox, h_rcd, h_ucp, h_27, h_28, h_ob_11776_10, h_recLostCount]

@[simp ↓] theorem railDisagreement_kept {F : Foot} {org : State} (s : State) (h_flt : F.flt = true) (h_fox : F.fox = true)
    (h_rcd : F.rcd = true) (h_ucp : F.ucp = true) (h_27 : F.grp 39) (h_28 : F.grp 40) (h_ob_11776_10 : F.idx (ob 11776 10) = true)
    (h_recLostCount : F.idx (recLostCount) = true) (hk : Kept F org s) : Kept F org (railDisagreement s) := by
  unfold railDisagreement
  simp [hk, h_flt, h_fox, h_rcd, h_ucp, h_27, h_28, h_ob_11776_10, h_recLostCount]

@[simp ↓] theorem foxRegulatorFault_kept {F : Foot} {org : State} (dropout : Bool) (s : State) (h_flt : F.flt = true) (h_fox :
    F.fox = true) (h_rcd : F.rcd = true) (h_ucp : F.ucp = true) (h_27 : F.grp 39) (h_28 : F.grp 40) (h_ob_11776_10 : F.idx (ob
    11776 10) = true) (h_recLostCount : F.idx (recLostCount) = true) (hk : Kept F org s) : Kept F org (foxRegulatorFault dropout
    s) := by
  unfold foxRegulatorFault
  simp (contextual := true) (maxDischargeDepth := 60) [hk, h_flt, h_fox, h_rcd, h_ucp, h_27, h_28, h_ob_11776_10, h_recLostCount]

@[simp ↓] theorem State.foxPowerUp_kept {F : Foot} {org : State} (s : State) (vl : Bool) (h_flt : F.flt = true) (h_fox : F.fox
    = true) (h_rcd : F.rcd = true) (h_ucp : F.ucp = true) (h_21 : F.grp 33) (h_27 : F.grp 39) (h_28 : F.grp 40) (h_ob_11776_10 :
    F.idx (ob 11776 10) = true) (h_recLostCount : F.idx (recLostCount) = true) (hk : Kept F org s) : Kept F org (State.foxPowerUp
    s vl) := by
  unfold State.foxPowerUp
  simp (contextual := true) (maxDischargeDepth := 60) [hk, h_flt, h_fox, h_rcd, h_ucp, h_21, h_27, h_28, h_ob_11776_10, h_recLostCount]

@[simp ↓] theorem foxRegulatorRecover_kept {F : Foot} {org : State} (s : State) (h_flt : F.flt = true) (h_fox : F.fox = true)
    (h_rcd : F.rcd = true) (h_ucp : F.ucp = true) (h_21 : F.grp 33) (h_27 : F.grp 39) (h_28 : F.grp 40) (h_ob_11776_10 : F.idx (ob
    11776 10) = true) (h_recLostCount : F.idx (recLostCount) = true) (hk : Kept F org s) : Kept F org (foxRegulatorRecover s) :=
    by
  unfold foxRegulatorRecover
  simp [hk, h_flt, h_fox, h_rcd, h_ucp, h_21, h_27, h_28, h_ob_11776_10, h_recLostCount]

@[simp ↓] theorem foxSelftest_kept {F : Foot} {org : State} (pass : Bool) (s : State) (h_flt : F.flt = true) (h_fox : F.fox =
    true) (h_rcd : F.rcd = true) (h_ucp : F.ucp = true) (h_27 : F.grp 39) (h_28 : F.grp 40) (h_ob_11776_10 : F.idx (ob 11776 10) =
    true) (h_recLostCount : F.idx (recLostCount) = true) (hk : Kept F org s) : Kept F org (foxSelftest pass s) := by
  unfold foxSelftest
  simp [hk, h_flt, h_fox, h_rcd, h_ucp, h_27, h_28, h_ob_11776_10, h_recLostCount]

@[simp ↓] theorem foxProfileVerified_kept {F : Foot} {org : State} (crcOk : Bool) (s : State) (h_flt : F.flt = true) (h_fox :
    F.fox = true) (h_rcd : F.rcd = true) (h_ucp : F.ucp = true) (h_27 : F.grp 39) (h_28 : F.grp 40) (h_ob_11776_10 : F.idx (ob
    11776 10) = true) (h_recLostCount : F.idx (recLostCount) = true) (hk : Kept F org s) : Kept F org (foxProfileVerified crcOk s)
    := by
  unfold foxProfileVerified
  simp (contextual := true) (maxDischargeDepth := 60) [hk, h_flt, h_fox, h_rcd, h_ucp, h_27, h_28, h_ob_11776_10, h_recLostCount]

@[simp ↓] theorem State.safeExit_kept {F : Foot} {org : State} (s : State) (h_flt : F.flt = true) (h_fox : F.fox = true)
    (h_rcd : F.rcd = true) (h_ucp : F.ucp = true) (h_27 : F.grp 39) (h_28 : F.grp 40) (h_ob_11776_10 : F.idx (ob 11776 10) = true)
    (h_recLostCount : F.idx (recLostCount) = true) (hk : Kept F org s) : Kept F org (State.safeExit s) := by
  unfold State.safeExit
  simp [hk, h_flt, h_fox, h_rcd, h_ucp, h_27, h_28, h_ob_11776_10, h_recLostCount]

@[simp ↓] theorem timebaseDeviation_kept {F : Foot} {org : State} (beyond : Bool) (s : State) (h_flt : F.flt = true) (h_fox :
    F.fox = true) (h_rcd : F.rcd = true) (h_ucp : F.ucp = true) (h_27 : F.grp 39) (h_28 : F.grp 40) (h_ob_11776_10 : F.idx (ob
    11776 10) = true) (h_recLostCount : F.idx (recLostCount) = true) (hk : Kept F org s) : Kept F org (timebaseDeviation beyond s)
    := by
  unfold timebaseDeviation
  simp [hk, h_flt, h_fox, h_rcd, h_ucp, h_27, h_28, h_ob_11776_10, h_recLostCount]

@[simp ↓] theorem State.foxChip_kept {F : Foot} {org : State} (s : State) (on : Bool) (h_flt : F.flt = true) (h_fox : F.fox =
    true) (h_rcd : F.rcd = true) (h_ucp : F.ucp = true) (h_27 : F.grp 39) (h_28 : F.grp 40) (h_ob_11776_10 : F.idx (ob 11776 10) =
    true) (h_recLostCount : F.idx (recLostCount) = true) (hk : Kept F org s) : Kept F org (State.foxChip s on) := by
  unfold State.foxChip
  simp [hk, h_flt, h_fox, h_rcd, h_ucp, h_27, h_28, h_ob_11776_10, h_recLostCount]

@[simp ↓] theorem safetyInputChange_kept {F : Foot} {org : State} (n : Nat) (high : Bool) (s : State) (h_flt : F.flt = true)
    (h_fox : F.fox = true) (h_rcd : F.rcd = true) (h_ucp : F.ucp = true) (h_27 : F.grp 39) (h_28 : F.grp 40) (h_ob_11776_10 :
    F.idx (ob 11776 10) = true) (h_recLostCount : F.idx (recLostCount) = true) (hk : Kept F org s) : Kept F org (safetyInputChange
    n high s) := by
  unfold safetyInputChange
  simp (contextual := true) (maxDischargeDepth := 60) [hk, h_flt, h_fox, h_rcd, h_ucp, h_27, h_28, h_ob_11776_10, h_recLostCount]

@[simp ↓] theorem State.setInCode_kept {F : Foot} {org : State} (s : State) (n : Nat) (code : Nat) (h_fox : F.fox = true)
    (h_27 : F.grp 39) (hk : Kept F org s) : Kept F org (State.setInCode s n code) := by
  unfold State.setInCode
  simp (contextual := true) (maxDischargeDepth := 60) [hk, h_fox, h_27]

@[simp ↓] theorem inputPulseCheck_kept {F : Foot} {org : State} (n : Nat) (k : Nat) (fail : Bool) (s : State) (h_flt : F.flt =
    true) (h_fox : F.fox = true) (h_rcd : F.rcd = true) (h_ucp : F.ucp = true) (h_27 : F.grp 39) (h_28 : F.grp 40) (h_ob_11776_10
    : F.idx (ob 11776 10) = true) (h_recLostCount : F.idx (recLostCount) = true) (hk : Kept F org s) : Kept F org (inputPulseCheck
    n k fail s) := by
  unfold inputPulseCheck
  simp (contextual := true) (maxDischargeDepth := 60) [hk, h_flt, h_fox, h_rcd, h_ucp, h_27, h_28, h_ob_11776_10, h_recLostCount]

@[simp ↓] theorem supplyPulseCheck_kept {F : Foot} {org : State} (k : Nat) (fail : Bool) (s : State) (h_flt : F.flt = true)
    (h_fox : F.fox = true) (h_rcd : F.rcd = true) (h_ucp : F.ucp = true) (h_21 : F.grp 33) (h_27 : F.grp 39) (h_28 : F.grp 40)
    (h_ob_11776_10 : F.idx (ob 11776 10) = true) (h_recLostCount : F.idx (recLostCount) = true) (hk : Kept F org s) : Kept F org
    (supplyPulseCheck k fail s) := by
  unfold supplyPulseCheck
  simp (contextual := true) (maxDischargeDepth := 60) [hk, h_flt, h_fox, h_rcd, h_ucp, h_21, h_27, h_28, h_ob_11776_10, h_recLostCount]

@[simp ↓] theorem discrepancy_kept {F : Foot} {org : State} (p : Nat) (s : State) (h_flt : F.flt = true) (h_fox : F.fox =
    true) (h_rcd : F.rcd = true) (h_ucp : F.ucp = true) (h_27 : F.grp 39) (h_28 : F.grp 40) (h_ob_11776_10 : F.idx (ob 11776 10) =
    true) (h_recLostCount : F.idx (recLostCount) = true) (hk : Kept F org s) : Kept F org (discrepancy p s) := by
  unfold discrepancy
  simp [hk, h_flt, h_fox, h_rcd, h_ucp, h_27, h_28, h_ob_11776_10, h_recLostCount]

@[simp ↓] theorem stopDelayExpire_kept {F : Foot} {org : State} (f : Nat) (s : State) (h_flt : F.flt = true) (h_fox : F.fox =
    true) (h_rcd : F.rcd = true) (h_ucp : F.ucp = true) (h_27 : F.grp 39) (h_28 : F.grp 40) (h_ob_11776_10 : F.idx (ob 11776 10) =
    true) (h_recLostCount : F.idx (recLostCount) = true) (hk : Kept F org s) : Kept F org (stopDelayExpire f s) := by
  unfold stopDelayExpire
  simp [hk, h_flt, h_fox, h_rcd, h_ucp, h_27, h_28, h_ob_11776_10, h_recLostCount]

@[simp ↓] theorem State.resetAccepted_kept {F : Foot} {org : State} (s : State) (n : Nat) (h_flt : F.flt = true) (h_fox :
    F.fox = true) (h_rcd : F.rcd = true) (h_ucp : F.ucp = true) (h_21 : F.grp 33) (h_27 : F.grp 39) (h_28 : F.grp 40)
    (h_ob_11776_10 : F.idx (ob 11776 10) = true) (h_recLostCount : F.idx (recLostCount) = true) (hk : Kept F org s) : Kept F org
    (State.resetAccepted s n) := by
  unfold State.resetAccepted
  simp (contextual := true) (maxDischargeDepth := 60) [hk, h_flt, h_fox, h_rcd, h_ucp, h_21, h_27, h_28, h_ob_11776_10, h_recLostCount]

@[simp ↓] theorem resetPress_kept {F : Foot} {org : State} (n : Nat) (ms : Nat) (s : State) (h_flt : F.flt = true) (h_fox :
    F.fox = true) (h_rcd : F.rcd = true) (h_ucp : F.ucp = true) (h_21 : F.grp 33) (h_27 : F.grp 39) (h_28 : F.grp 40)
    (h_ob_11776_10 : F.idx (ob 11776 10) = true) (h_recLostCount : F.idx (recLostCount) = true) (hk : Kept F org s) : Kept F org
    (resetPress n ms s) := by
  unfold resetPress
  simp [hk, h_flt, h_fox, h_rcd, h_ucp, h_21, h_27, h_28, h_ob_11776_10, h_recLostCount]

@[simp ↓] theorem resetStuck_kept {F : Foot} {org : State} (n : Nat) (s : State) (h_flt : F.flt = true) (h_fox : F.fox = true)
    (h_rcd : F.rcd = true) (h_ucp : F.ucp = true) (h_27 : F.grp 39) (h_28 : F.grp 40) (h_ob_11776_10 : F.idx (ob 11776 10) = true)
    (h_recLostCount : F.idx (recLostCount) = true) (hk : Kept F org s) : Kept F org (resetStuck n s) := by
  unfold resetStuck
  simp (contextual := true) (maxDischargeDepth := 60) [hk, h_flt, h_fox, h_rcd, h_ucp, h_27, h_28, h_ob_11776_10, h_recLostCount]

@[simp ↓] theorem resetUnblock_kept {F : Foot} {org : State} (n : Nat) (s : State) (h_flt : F.flt = true) (h_fox : F.fox =
    true) (h_rcd : F.rcd = true) (h_ucp : F.ucp = true) (h_27 : F.grp 39) (h_28 : F.grp 40) (h_ob_11776_10 : F.idx (ob 11776 10) =
    true) (h_recLostCount : F.idx (recLostCount) = true) (hk : Kept F org s) : Kept F org (resetUnblock n s) := by
  unfold resetUnblock
  simp (contextual := true) (maxDischargeDepth := 60) [hk, h_flt, h_fox, h_rcd, h_ucp, h_27, h_28, h_ob_11776_10, h_recLostCount]

@[simp ↓] theorem darkPulse_kept {F : Foot} {org : State} (g : Nat) (ok : Bool) (counts : Bool) (s : State) (h_flt : F.flt =
    true) (h_fox : F.fox = true) (h_outs : F.outs = true) (h_rcd : F.rcd = true) (h_ucp : F.ucp = true) (h_27 : F.grp 39) (h_28 :
    F.grp 40) (h_ob_11776_10 : F.idx (ob 11776 10) = true) (h_recLostCount : F.idx (recLostCount) = true) (hk : Kept F org s) :
    Kept F org (darkPulse g ok counts s) := by
  unfold darkPulse
  simp (contextual := true) (maxDischargeDepth := 60) [hk, h_flt, h_fox, h_outs, h_rcd, h_ucp, h_27, h_28, h_ob_11776_10, h_recLostCount]

@[simp ↓] theorem State.procEval_kept {F : Foot} {org : State} (s : State) (resets : Nat) (h_fox : F.fox = true) (h_fx_11 :
    F.idx (fx 11) = true) (hk : Kept F org s) : Kept F org (State.procEval s resets) := by
  unfold State.procEval
  simp [hk, h_fox, h_fx_11]

@[simp ↓] theorem State.foxReceive_kept {F : Foot} {org : State} (s : State) (h_flt : F.flt = true) (h_fox : F.fox = true)
    (h_rcd : F.rcd = true) (h_ucp : F.ucp = true) (h_27 : F.grp 39) (h_28 : F.grp 40) (h_ob_11776_10 : F.idx (ob 11776 10) = true)
    (h_recLostCount : F.idx (recLostCount) = true) (hk : Kept F org s) : Kept F org (State.foxReceive s) := by
  unfold State.foxReceive
  simp (contextual := true) (maxDischargeDepth := 60) [hk, h_flt, h_fox, h_rcd, h_ucp, h_27, h_28, h_ob_11776_10, h_recLostCount]

@[simp ↓] theorem State.sysReceive_kept {F : Foot} {org : State} (s : State) (h_flt : F.flt = true) (h_fox : F.fox = true)
    (h_rcd : F.rcd = true) (h_ucp : F.ucp = true) (h_28 : F.grp 40) (h_fx_11 : F.idx (fx 11) = true) (h_ob_11776_10 : F.idx (ob
    11776 10) = true) (h_recLostCount : F.idx (recLostCount) = true) (hk : Kept F org s) : Kept F org (State.sysReceive s) := by
  unfold State.sysReceive
  simp (contextual := true) (maxDischargeDepth := 60) [hk, h_flt, h_fox, h_rcd, h_ucp, h_28, h_fx_11, h_ob_11776_10, h_recLostCount]

@[simp ↓] theorem exchange_kept {F : Foot} {org : State} (ok : Bool) (sched : Bool) (s : State) (h_flt : F.flt = true) (h_fox
    : F.fox = true) (h_inp : F.inp = true) (h_rcd : F.rcd = true) (h_ucp : F.ucp = true) (h_27 : F.grp 39) (h_28 : F.grp 40)
    (h_ob_11776_10 : F.idx (ob 11776 10) = true) (h_recLostCount : F.idx (recLostCount) = true) (hk : Kept F org s) : Kept F org
    (exchange ok sched s) := by
  unfold exchange
  simp only []
  (repeat' split) <;> simp (contextual := true) (maxDischargeDepth := 60) [hk, h_flt, h_fox, h_inp, h_rcd, h_ucp, h_27, h_28, h_ob_11776_10, h_recLostCount]

@[simp ↓] theorem crossCheckLinkLost_kept {F : Foot} {org : State} (s : State) (h_flt : F.flt = true) (h_fox : F.fox = true)
    (h_rcd : F.rcd = true) (h_ucp : F.ucp = true) (h_27 : F.grp 39) (h_28 : F.grp 40) (h_ob_11776_10 : F.idx (ob 11776 10) = true)
    (h_recLostCount : F.idx (recLostCount) = true) (hk : Kept F org s) : Kept F org (crossCheckLinkLost s) := by
  unfold crossCheckLinkLost
  simp [hk, h_flt, h_fox, h_rcd, h_ucp, h_27, h_28, h_ob_11776_10, h_recLostCount]

@[simp ↓] theorem hDemand_kept {F : Foot} (h_fx_15 : F.idx (fx 15) = true) : (hDemand).Stays F := by
  intro m s w v hk
  unfold hDemand
  simp (contextual := true) (maxDischargeDepth := 60) [hk, h_fx_15]

@[simp ↓] theorem safeSnsSample_kept {F : Foot} {org : State} (high : Bool) (counts : Bool) (s : State) (h_flt : F.flt = true)
    (h_fox : F.fox = true) (h_rcd : F.rcd = true) (h_ucp : F.ucp = true) (h_28 : F.grp 40) (h_fx_7 : F.idx (fx 7) = true)
    (h_ob_11776_10 : F.idx (ob 11776 10) = true) (h_recLostCount : F.idx (recLostCount) = true) (hk : Kept F org s) : Kept F org
    (safeSnsSample high counts s) := by
  unfold safeSnsSample
  simp (contextual := true) (maxDischargeDepth := 60) [hk, h_flt, h_fox, h_rcd, h_ucp, h_28, h_fx_7, h_ob_11776_10, h_recLostCount]

@[simp ↓] theorem State.sealJudge_kept {F : Foot} {org : State} (s : State) (h_flt : F.flt = true) (h_fox : F.fox = true)
    (h_rcd : F.rcd = true) (h_ucp : F.ucp = true) (h_27 : F.grp 39) (h_28 : F.grp 40) (h_ob_11776_10 : F.idx (ob 11776 10) = true)
    (h_recLostCount : F.idx (recLostCount) = true) (hk : Kept F org s) : Kept F org (State.sealJudge s) := by
  unfold State.sealJudge
  simp [hk, h_flt, h_fox, h_rcd, h_ucp, h_27, h_28, h_ob_11776_10, h_recLostCount]

@[simp ↓] theorem sealRead_kept {F : Foot} {org : State} (reading : Nat) (s : State) (h_flt : F.flt = true) (h_fox : F.fox =
    true) (h_rcd : F.rcd = true) (h_ucp : F.ucp = true) (h_27 : F.grp 39) (h_28 : F.grp 40) (h_ob_11776_10 : F.idx (ob 11776 10) =
    true) (h_recLostCount : F.idx (recLostCount) = true) (hk : Kept F org s) : Kept F org (sealRead reading s) := by
  unfold sealRead
  simp (contextual := true) (maxDischargeDepth := 60) [hk, h_flt, h_fox, h_rcd, h_ucp, h_27, h_28, h_ob_11776_10, h_recLostCount]

@[simp ↓] theorem State.chRecord_kept {F : Foot} {org : State} (s : State) (step : Nat) (code : Nat) (flags : Nat) (w : Option
    Who) (h_flt : F.flt = true) (h_rcd : F.rcd = true) (h_ucp : F.ucp = true) (h_28 : F.grp 40) (h_ob_11776_10 : F.idx (ob 11776
    10) = true) (h_recLostCount : F.idx (recLostCount) = true) (hk : Kept F org s) : Kept F org (State.chRecord s step code flags
    w) := by
  unfold State.chRecord
  simp [hk, h_flt, h_rcd, h_ucp, h_28, h_ob_11776_10, h_recLostCount]

@[simp ↓] theorem State.dropStaged_kept {F : Foot} {org : State} (s : State) (status : Nat) (h_conf : F.conf = true) (h_flt :
    F.flt = true) (h_fox : F.fox = true) (h_rcd : F.rcd = true) (h_ucp : F.ucp = true) (h_27 : F.grp 39) (h_28 : F.grp 40)
    (h_ob_11776_10 : F.idx (ob 11776 10) = true) (h_ob_12288_8 : F.idx (ob 12288 8) = true) (h_recLostCount : F.idx (recLostCount)
    = true) (hk : Kept F org s) : Kept F org (State.dropStaged s status) := by
  unfold State.dropStaged
  simp only []
  (repeat' split) <;> simp (contextual := true) (maxDischargeDepth := 60) [hk, h_conf, h_flt, h_fox, h_rcd, h_ucp, h_27, h_28, h_ob_11776_10, h_ob_12288_8, h_recLostCount]

@[simp ↓] theorem State.openStaged_kept {F : Foot} {org : State} (s : State) (w : Who) (vals : Tbl Nat) (ret : Option Nat)
    (h_flt : F.flt = true) (h_fox : F.fox = true) (h_rcd : F.rcd = true) (h_ucp : F.ucp = true) (h_28 : F.grp 40) (h_fx_16 : F.idx
    (fx 16) = true) (h_ob_11776_10 : F.idx (ob 11776 10) = true) (h_recLostCount : F.idx (recLostCount) = true) (hk : Kept F org
    s) : Kept F org (State.openStaged s w vals ret) := by
  unfold State.openStaged
  simp (contextual := true) (maxDischargeDepth := 60) [hk, h_flt, h_fox, h_rcd, h_ucp, h_28, h_fx_16, h_ob_11776_10, h_recLostCount]

@[simp ↓] theorem hStaging_kept {F : Foot} (h_conf : F.conf = true) (h_flt : F.flt = true) (h_fox : F.fox = true) (h_rcd :
    F.rcd = true) (h_ucp : F.ucp = true) (h_27 : F.grp 39) (h_28 : F.grp 40) (h_ob_11776_10 : F.idx (ob 11776 10) = true)
    (h_ob_12288_8 : F.idx (ob 12288 8) = true) (h_recLostCount : F.idx (recLostCount) = true) : (hStaging).Stays F := by
  unfold hStaging
  refine Handler.simple_stays _ fun m s w v hk => ?_
  (repeat' split) <;> simp (contextual := true) (maxDischargeDepth := 60) [hk, h_conf, h_flt, h_fox, h_rcd, h_ucp, h_27, h_28, h_ob_11776_10, h_ob_12288_8, h_recLostCount]

@[simp ↓] theorem hRws_kept {F : Foot} (i : Nat) (sub : Nat) (h_flt : F.flt = true) (h_fox : F.fox = true) (h_rcd : F.rcd =
    true) (h_ucp : F.ucp = true) (h_28 : F.grp 40) (h_ob_11776_10 : F.idx (ob 11776 10) = true) (h_recLostCount : F.idx
    (recLostCount) = true) : (hRws i sub).Stays F := by
  unfold hRws
  refine Handler.simple_stays _ fun m s w v hk => ?_
  (repeat' split) <;> simp (contextual := true) (maxDischargeDepth := 60) [hk, h_flt, h_fox, h_rcd, h_ucp, h_28, h_ob_11776_10, h_recLostCount]

@[simp ↓] theorem hSign_kept {F : Foot} (h_flt : F.flt = true) (h_fox : F.fox = true) (h_rcd : F.rcd = true) (h_ucp : F.ucp =
    true) (h_28 : F.grp 40) (h_fx_16 : F.idx (fx 16) = true) (h_fx_18 : F.idx (fx 18) = true) (h_fx_23 : F.idx (fx 23) = true)
    (h_ob_11776_10 : F.idx (ob 11776 10) = true) (h_ob_12032_28 : F.idx (ob 12032 28) = true) (h_ob_4352_6 : F.idx (ob 4352 6) =
    true) (h_recLostCount : F.idx (recLostCount) = true) : (hSign).Stays F := by
  unfold hSign
  refine Handler.simple_stays _ fun m s w v hk => ?_
  (repeat' split) <;> simp (contextual := true) (maxDischargeDepth := 60) [hk, h_flt, h_fox, h_rcd, h_ucp, h_28, h_fx_16, h_fx_18, h_fx_23, h_ob_11776_10, h_ob_12032_28, h_ob_4352_6, h_recLostCount]

@[simp ↓] theorem State.commitStaged_kept {F : Foot} {org : State} (s : State) (g : StagedProf) (w : Who) (h_conf : F.conf =
    true) (h_flt : F.flt = true) (h_fox : F.fox = true) (h_rcd : F.rcd = true) (h_ucp : F.ucp = true) (h_28 : F.grp 40) (h_fx_16 :
    F.idx (fx 16) = true) (h_ob_11776_10 : F.idx (ob 11776 10) = true) (h_ob_12288_1 : F.idx (ob 12288 1) = true) (h_ob_12288_14 :
    F.idx (ob 12288 14) = true) (h_ob_12288_2 : F.idx (ob 12288 2) = true) (h_ob_12288_7 : F.idx (ob 12288 7) = true)
    (h_ob_12288_8 : F.idx (ob 12288 8) = true) (h_recLostCount : F.idx (recLostCount) = true) (hk : Kept F org s) : Kept F org
    (State.commitStaged s g w) := by
  unfold State.commitStaged
  simp only []
  (repeat' split) <;> simp (contextual := true) (maxDischargeDepth := 60) [hk, h_conf, h_flt, h_fox, h_rcd, h_ucp, h_28, h_fx_16, h_ob_11776_10, h_ob_12288_1, h_ob_12288_14, h_ob_12288_2, h_ob_12288_7, h_ob_12288_8, h_recLostCount]

@[simp ↓] theorem hCounter_kept {F : Foot} (h_conf : F.conf = true) (h_flt : F.flt = true) (h_fox : F.fox = true) (h_rcd :
    F.rcd = true) (h_ucp : F.ucp = true) (h_27 : F.grp 39) (h_28 : F.grp 40) (h_ob_11776_10 : F.idx (ob 11776 10) = true)
    (h_ob_12032_28 : F.idx (ob 12032 28) = true) (h_ob_12288_1 : F.idx (ob 12288 1) = true) (h_ob_12288_14 : F.idx (ob 12288 14) =
    true) (h_ob_12288_2 : F.idx (ob 12288 2) = true) (h_ob_12288_7 : F.idx (ob 12288 7) = true) (h_ob_12288_8 : F.idx (ob 12288 8)
    = true) (h_ob_4352_6 : F.idx (ob 4352 6) = true) (h_recLostCount : F.idx (recLostCount) = true) : (hCounter).Stays F := by
  unfold hCounter
  refine Handler.simple_stays _ fun m s w v hk => ?_
  (repeat' split) <;> simp (contextual := true) (maxDischargeDepth := 60) [hk, h_conf, h_flt, h_fox, h_rcd, h_ucp, h_27, h_28, h_ob_11776_10, h_ob_12032_28, h_ob_12288_1, h_ob_12288_14, h_ob_12288_2, h_ob_12288_7, h_ob_12288_8, h_ob_4352_6, h_recLostCount]

@[simp ↓] theorem changeExpire_kept {F : Foot} {org : State} (s : State) (h_conf : F.conf = true) (h_flt : F.flt = true)
    (h_fox : F.fox = true) (h_rcd : F.rcd = true) (h_ucp : F.ucp = true) (h_27 : F.grp 39) (h_28 : F.grp 40) (h_ob_11776_10 :
    F.idx (ob 11776 10) = true) (h_ob_12288_8 : F.idx (ob 12288 8) = true) (h_recLostCount : F.idx (recLostCount) = true) (hk :
    Kept F org s) : Kept F org (changeExpire s) := by
  unfold changeExpire
  (repeat' split) <;> simp (contextual := true) (maxDischargeDepth := 60) [hk, h_conf, h_flt, h_fox, h_rcd, h_ucp, h_27, h_28, h_ob_11776_10, h_ob_12288_8, h_recLostCount]

@[simp ↓] theorem State.loseChange_kept {F : Foot} {org : State} (s : State) (standby : Bool) (h_conf : F.conf = true) (h_flt
    : F.flt = true) (h_fox : F.fox = true) (h_rcd : F.rcd = true) (h_ucp : F.ucp = true) (h_27 : F.grp 39) (h_28 : F.grp 40)
    (h_ob_11776_10 : F.idx (ob 11776 10) = true) (h_ob_12288_8 : F.idx (ob 12288 8) = true) (h_recLostCount : F.idx (recLostCount)
    = true) (hk : Kept F org s) : Kept F org (State.loseChange s standby) := by
  unfold State.loseChange
  (repeat' split) <;> simp (contextual := true) (maxDischargeDepth := 60) [hk, h_conf, h_flt, h_fox, h_rcd, h_ucp, h_27, h_28, h_ob_11776_10, h_ob_12288_8, h_recLostCount]

@[simp ↓] theorem State.applyProfile_kept {F : Foot} {org : State} (s : State) (vals : Tbl Nat) (ver : Nat) (h_flt : F.flt =
    true) (h_fox : F.fox = true) (h_rcd : F.rcd = true) (h_ucp : F.ucp = true) (h_all : ∀ i, F.idx i = true) (hk : Kept F org s) :
    Kept F org (State.applyProfile s vals ver) := by
  unfold State.applyProfile
  simp (contextual := true) (maxDischargeDepth := 60) [hk, h_flt, h_fox, h_rcd, h_ucp, h_all]

@[simp ↓] theorem profileTransferDone_kept {F : Foot} {org : State} (crcOk : Bool) (s : State) (h_flt : F.flt = true) (h_fox :
    F.fox = true) (h_rcd : F.rcd = true) (h_ucp : F.ucp = true) (h_all : ∀ i, F.idx i = true) (hk : Kept F org s) : Kept F org
    (profileTransferDone crcOk s) := by
  unfold profileTransferDone
  (repeat' split) <;> simp (contextual := true) (maxDischargeDepth := 60) [hk, h_flt, h_fox, h_rcd, h_ucp, h_all]

end Sys2Proof.Machine
end

