-- ==== Sys2Proof/Laws/KeptDictionary.lean ====
section
/-! SUPPORT. Footprints of the tables of the dictionary. -/

set_option linter.unusedSimpArgs false
set_option linter.unusedVariables false

namespace Sys2Proof.Machine

open Sys2Proof

@[simp ↓] theorem hMapApply_kept {F : Foot} (h_img : F.img = true) (h_ob_12288_4 : F.idx (ob 12288 4) = true) (h_ob_4864_3 :
    F.idx (ob 4864 3) = true) (h_ob_4864_6 : F.idx (ob 4864 6) = true) : (hMapApply).Stays F := by
  unfold hMapApply
  refine Handler.simple_stays _ fun m s w v hk => ?_
  simp only []
  (repeat' split) <;> simp (contextual := true) (maxDischargeDepth := 60) [hk, h_img, h_ob_12288_4, h_ob_4864_3, h_ob_4864_6]

@[simp ↓] theorem State.putMap_kept {F : Foot} {org : State} (s : State) (m : List Byte) (h_img : F.img = true) (h_ob_4864_131
    : F.idx (ob 4864 131) = true) (h_ob_4864_4 : F.idx (ob 4864 4) = true) (h_ob_4864_7 : F.idx (ob 4864 7) = true) (hk : Kept F
    org s) : Kept F org (State.putMap s m) := by
  unfold State.putMap
  simp (contextual := true) (maxDischargeDepth := 60) [hk, h_img, h_ob_4864_131, h_ob_4864_4, h_ob_4864_7]

@[simp ↓] theorem hAppApply_kept {F : Foot} (h_img : F.img = true) (h_ob_12288_4 : F.idx (ob 12288 4) = true) (h_ob_4864_6 :
    F.idx (ob 4864 6) = true) (h_ob_4864_9 : F.idx (ob 4864 9) = true) : (hAppApply).Stays F := by
  unfold hAppApply
  refine Handler.simple_stays _ fun m s w v hk => ?_
  simp only []
  (repeat' split) <;> simp (contextual := true) (maxDischargeDepth := 60) [hk, h_img, h_ob_12288_4, h_ob_4864_6, h_ob_4864_9]

@[simp ↓] theorem State.putApps_kept {F : Foot} {org : State} (s : State) (t : List Byte) (h_apps : F.apps = true) (h_img :
    F.img = true) (h_all : ∀ i, F.idx i = true) (hk : Kept F org s) : Kept F org (State.putApps s t) := by
  unfold State.putApps
  simp (contextual := true) (maxDischargeDepth := 60) [hk, h_apps, h_img, h_all]

@[simp ↓] theorem State.mapSeal_kept {F : Foot} {org : State} (s : State) (h_apps : F.apps = true) (h_img : F.img = true)
    (h_all : ∀ i, F.idx i = true) (hk : Kept F org s) : Kept F org (State.mapSeal s) := by
  unfold State.mapSeal
  simp only []
  (repeat' split) <;> simp (contextual := true) (maxDischargeDepth := 60) [hk, h_apps, h_img, h_all]

@[simp ↓] theorem hPortRole_kept {F : Foot} (sub : Nat) (h_14 : F.grp 20) : (hPortRole sub).Stays F := by
  intro m s w v hk
  unfold hPortRole
  simp (contextual := true) (maxDischargeDepth := 60) [hk, h_14]

end Sys2Proof.Machine
end

