-- ==== Sys2Proof/Laws/KeptSecurity.lean ====
section
/-! SUPPORT. Footprints of security. -/

set_option linter.unusedSimpArgs false
set_option linter.unusedVariables false

namespace Sys2Proof.Machine

open Sys2Proof

@[simp] theorem sk2F_grp (a : Nat) : sk2F a / 65536 = 0x2F := by unfold sk2F; rw [ob_grp]
@[simp] theorem sk2F_idx {F : Foot} (h : F.grp 0x2F) (a : Nat) : F.idx (sk2F a) = true := h _ (sk2F_grp _)

@[simp ↓] theorem State.endSession_kept {F : Foot} {org : State} (s : State) (n : Nat) (code : Nat) (h_flt : F.flt = true)
    (h_lark : F.lark = true) (h_rcd : F.rcd = true) (h_sec : F.sec = true) (h_ucp : F.ucp = true) (h_28 : F.grp 40) (h_ob_11776_10
    : F.idx (ob 11776 10) = true) (h_ob_11776_14 : F.idx (ob 11776 14) = true) (h_ob_4352_1 : F.idx (ob 4352 1) = true)
    (h_recLostCount : F.idx (recLostCount) = true) (hk : Kept F org s) : Kept F org (State.endSession s n code) := by
  unfold State.endSession
  (repeat' split) <;> simp (contextual := true) (maxDischargeDepth := 60) [hk, h_flt, h_lark, h_rcd, h_sec, h_ucp, h_28, h_ob_11776_10, h_ob_11776_14, h_ob_4352_1, h_recLostCount]

@[simp ↓] theorem State.endSessions_kept {F : Foot} {org : State} (s : State) (which : Session → Bool) (code : Nat) (h_flt :
    F.flt = true) (h_lark : F.lark = true) (h_rcd : F.rcd = true) (h_sec : F.sec = true) (h_ucp : F.ucp = true) (h_28 : F.grp 40)
    (h_ob_11776_10 : F.idx (ob 11776 10) = true) (h_ob_11776_14 : F.idx (ob 11776 14) = true) (h_ob_4352_1 : F.idx (ob 4352 1) =
    true) (h_recLostCount : F.idx (recLostCount) = true) (hk : Kept F org s) : Kept F org (State.endSessions s which code) := by
  unfold State.endSessions
  simp (contextual := true) (maxDischargeDepth := 60) [hk, h_flt, h_lark, h_rcd, h_sec, h_ucp, h_28, h_ob_11776_10, h_ob_11776_14, h_ob_4352_1, h_recLostCount]

@[simp ↓] theorem State.dropSessions_kept {F : Foot} {org : State} (s : State) (h_flt : F.flt = true) (h_lark : F.lark = true)
    (h_rcd : F.rcd = true) (h_sec : F.sec = true) (h_ucp : F.ucp = true) (h_28 : F.grp 40) (h_ob_11776_10 : F.idx (ob 11776 10) =
    true) (h_ob_11776_14 : F.idx (ob 11776 14) = true) (h_ob_4352_1 : F.idx (ob 4352 1) = true) (h_recLostCount : F.idx
    (recLostCount) = true) (hk : Kept F org s) : Kept F org (State.dropSessions s) := by
  unfold State.dropSessions
  simp [hk, h_flt, h_lark, h_rcd, h_sec, h_ucp, h_28, h_ob_11776_10, h_ob_11776_14, h_ob_4352_1, h_recLostCount]

@[simp ↓] theorem State.shakeRefused_kept {F : Foot} {org : State} (s : State) (r : Route) (reason : Nat) (role : Nat) (serial
    : Nat) (h_flt : F.flt = true) (h_rcd : F.rcd = true) (h_sec : F.sec = true) (h_ucp : F.ucp = true) (h_28 : F.grp 40)
    (h_ob_11776_10 : F.idx (ob 11776 10) = true) (h_ob_12032_28 : F.idx (ob 12032 28) = true) (h_ob_4352_6 : F.idx (ob 4352 6) =
    true) (h_ob_4352_7 : F.idx (ob 4352 7) = true) (h_recLostCount : F.idx (recLostCount) = true) (hk : Kept F org s) : Kept F org
    (State.shakeRefused s r reason role serial) := by
  unfold State.shakeRefused
  simp (contextual := true) (maxDischargeDepth := 60) [hk, h_flt, h_rcd, h_sec, h_ucp, h_28, h_ob_11776_10, h_ob_12032_28, h_ob_4352_6, h_ob_4352_7, h_recLostCount]

@[simp ↓] theorem State.hello_kept {F : Foot} {org : State} (s : State) (r : Route) (src : Nat) (data : List Byte) (h_flt :
    F.flt = true) (h_free : F.free = true) (h_rcd : F.rcd = true) (h_sec : F.sec = true) (h_ucp : F.ucp = true) (h_28 : F.grp 40)
    (h_ob_11776_10 : F.idx (ob 11776 10) = true) (h_ob_12032_28 : F.idx (ob 12032 28) = true) (h_ob_4352_6 : F.idx (ob 4352 6) =
    true) (h_ob_4352_7 : F.idx (ob 4352 7) = true) (h_recLostCount : F.idx (recLostCount) = true) (hk : Kept F org s) : Kept F org
    (State.hello s r src data).1 := by
  unfold State.hello
  simp (contextual := true) (maxDischargeDepth := 60) [hk, h_flt, h_free, h_rcd, h_sec, h_ucp, h_28, h_ob_11776_10, h_ob_12032_28, h_ob_4352_6, h_ob_4352_7, h_recLostCount]

@[simp ↓] theorem State.finish_kept {F : Foot} {org : State} (s : State) (n : Nat) (data : List Byte) (h_flt : F.flt = true)
    (h_rcd : F.rcd = true) (h_sec : F.sec = true) (h_ucp : F.ucp = true) (h_28 : F.grp 40) (h_ob_11776_10 : F.idx (ob 11776 10) =
    true) (h_ob_12032_28 : F.idx (ob 12032 28) = true) (h_ob_4352_1 : F.idx (ob 4352 1) = true) (h_ob_4352_6 : F.idx (ob 4352 6) =
    true) (h_ob_4352_7 : F.idx (ob 4352 7) = true) (h_recLostCount : F.idx (recLostCount) = true) (hk : Kept F org s) : Kept F org
    (State.finish s n data).1 := by
  unfold State.finish
  (repeat' split) <;> simp (contextual := true) (maxDischargeDepth := 60) [hk, h_flt, h_rcd, h_sec, h_ucp, h_28, h_ob_11776_10, h_ob_12032_28, h_ob_4352_1, h_ob_4352_6, h_ob_4352_7, h_recLostCount]

@[simp ↓] theorem State.close_kept {F : Foot} {org : State} (s : State) (n : Nat) (h_flt : F.flt = true) (h_lark : F.lark =
    true) (h_rcd : F.rcd = true) (h_sec : F.sec = true) (h_ucp : F.ucp = true) (h_28 : F.grp 40) (h_ob_11776_10 : F.idx (ob 11776
    10) = true) (h_ob_11776_14 : F.idx (ob 11776 14) = true) (h_ob_4352_1 : F.idx (ob 4352 1) = true) (h_recLostCount : F.idx
    (recLostCount) = true) (hk : Kept F org s) : Kept F org (State.close s n).1 := by
  unfold State.close
  (repeat' split) <;> simp (contextual := true) (maxDischargeDepth := 60) [hk, h_flt, h_lark, h_rcd, h_sec, h_ucp, h_28, h_ob_11776_10, h_ob_11776_14, h_ob_4352_1, h_recLostCount]

@[simp ↓] theorem State.attest_kept {F : Foot} {org : State} (s : State) (nonce : List Byte) (hk : Kept F org s) : Kept F org
    (State.attest s nonce).1 := by
  unfold State.attest
  simp [hk]

@[simp ↓] theorem State.reply_kept {F : Foot} {org : State} (s : State) (f : State → State × Nat × Nat × List Byte) (h_ucp :
    F.ucp = true) (h_f : Kept F org (f s).1) (hk : Kept F org s) : Kept F org (State.reply s f) := by
  unfold State.reply
  split <;> simp [*]

@[simp ↓] theorem handshakeTimeout_kept {F : Foot} {org : State} (n : Nat) (s : State) (h_sec : F.sec = true) (hk : Kept F org
    s) : Kept F org (handshakeTimeout n s) := by
  unfold handshakeTimeout
  simp [hk, h_sec]

@[simp ↓] theorem sessionIdle_kept {F : Foot} {org : State} (n : Nat) (s : State) (h_flt : F.flt = true) (h_lark : F.lark =
    true) (h_rcd : F.rcd = true) (h_sec : F.sec = true) (h_ucp : F.ucp = true) (h_28 : F.grp 40) (h_ob_11776_10 : F.idx (ob 11776
    10) = true) (h_ob_11776_14 : F.idx (ob 11776 14) = true) (h_ob_4352_1 : F.idx (ob 4352 1) = true) (h_recLostCount : F.idx
    (recLostCount) = true) (hk : Kept F org s) : Kept F org (sessionIdle n s) := by
  unfold sessionIdle
  (repeat' split) <;> simp (contextual := true) (maxDischargeDepth := 60) [hk, h_flt, h_lark, h_rcd, h_sec, h_ucp, h_28, h_ob_11776_10, h_ob_11776_14, h_ob_4352_1, h_recLostCount]

@[simp ↓] theorem sessionLifetime_kept {F : Foot} {org : State} (n : Nat) (s : State) (h_flt : F.flt = true) (h_lark : F.lark
    = true) (h_rcd : F.rcd = true) (h_sec : F.sec = true) (h_ucp : F.ucp = true) (h_28 : F.grp 40) (h_ob_11776_10 : F.idx (ob
    11776 10) = true) (h_ob_11776_14 : F.idx (ob 11776 14) = true) (h_ob_4352_1 : F.idx (ob 4352 1) = true) (h_recLostCount :
    F.idx (recLostCount) = true) (hk : Kept F org s) : Kept F org (sessionLifetime n s) := by
  unfold sessionLifetime
  (repeat' split) <;> simp (contextual := true) (maxDischargeDepth := 60) [hk, h_flt, h_lark, h_rcd, h_sec, h_ucp, h_28, h_ob_11776_10, h_ob_11776_14, h_ob_4352_1, h_recLostCount]

@[simp ↓] theorem State.raiseFloor_kept {F : Foot} {org : State} (s : State) (h_ob_4352_8 : F.idx (ob 4352 8) = true) (hk :
    Kept F org s) : Kept F org (State.raiseFloor s) := by
  unfold State.raiseFloor
  simp [hk, h_ob_4352_8]

@[simp ↓] theorem expiryCheck_kept {F : Foot} {org : State} (s : State) (h_flt : F.flt = true) (h_lark : F.lark = true) (h_rcd
    : F.rcd = true) (h_sec : F.sec = true) (h_timers : F.timers = true) (h_ucp : F.ucp = true) (h_28 : F.grp 40) (h_ob_11776_10 :
    F.idx (ob 11776 10) = true) (h_ob_11776_14 : F.idx (ob 11776 14) = true) (h_ob_4352_1 : F.idx (ob 4352 1) = true) (h_ob_4352_8
    : F.idx (ob 4352 8) = true) (h_recLostCount : F.idx (recLostCount) = true) (hk : Kept F org s) : Kept F org (expiryCheck s) :=
    by
  unfold expiryCheck
  simp (contextual := true) (maxDischargeDepth := 60) [hk, h_flt, h_lark, h_rcd, h_sec, h_timers, h_ucp, h_28, h_ob_11776_10, h_ob_11776_14, h_ob_4352_1, h_ob_4352_8, h_recLostCount]

@[simp ↓] theorem hEndSession_kept {F : Foot} (h_flt : F.flt = true) (h_lark : F.lark = true) (h_rcd : F.rcd = true) (h_sec :
    F.sec = true) (h_ucp : F.ucp = true) (h_28 : F.grp 40) (h_ob_11776_10 : F.idx (ob 11776 10) = true) (h_ob_11776_14 : F.idx (ob
    11776 14) = true) (h_ob_4352_1 : F.idx (ob 4352 1) = true) (h_recLostCount : F.idx (recLostCount) = true) :
    (hEndSession).Stays F := by
  intro m s w v hk
  unfold hEndSession
  simp (contextual := true) (maxDischargeDepth := 60) [hk, h_flt, h_lark, h_rcd, h_sec, h_ucp, h_28, h_ob_11776_10, h_ob_11776_14, h_ob_4352_1, h_recLostCount]

@[simp ↓] theorem lockoutEnd_kept {F : Foot} {org : State} (r : Route) (s : State) (h_sec : F.sec = true) (hk : Kept F org s)
    : Kept F org (lockoutEnd r s) := by
  unfold lockoutEnd
  simp [hk, h_sec]

@[simp ↓] theorem State.applyRefused_kept {F : Foot} {org : State} (s : State) (w : Who) (reason : Nat) (entry : Nat) (h_flt :
    F.flt = true) (h_rcd : F.rcd = true) (h_ucp : F.ucp = true) (h_28 : F.grp 40) (h_ob_11776_10 : F.idx (ob 11776 10) = true)
    (h_ob_12032_28 : F.idx (ob 12032 28) = true) (h_ob_4352_6 : F.idx (ob 4352 6) = true) (h_recLostCount : F.idx (recLostCount) =
    true) (h_sk2F_11 : F.idx (sk2F 11) = true) (hk : Kept F org s) : Kept F org (State.applyRefused s w reason entry).1 := by
  unfold State.applyRefused
  simp [hk, h_flt, h_rcd, h_ucp, h_28, h_ob_11776_10, h_ob_12032_28, h_ob_4352_6, h_recLostCount, h_sk2F_11]

@[simp ↓] theorem hRevocation_kept {F : Foot} (h_conf : F.conf = true) (h_flt : F.flt = true) (h_fox : F.fox = true) (h_lark :
    F.lark = true) (h_rcd : F.rcd = true) (h_sec : F.sec = true) (h_ucp : F.ucp = true) (h_27 : F.grp 39) (h_28 : F.grp 40)
    (h_ob_11776_10 : F.idx (ob 11776 10) = true) (h_ob_11776_14 : F.idx (ob 11776 14) = true) (h_ob_12032_28 : F.idx (ob 12032 28)
    = true) (h_ob_12288_8 : F.idx (ob 12288 8) = true) (h_ob_4352_1 : F.idx (ob 4352 1) = true) (h_ob_4352_6 : F.idx (ob 4352 6) =
    true) (h_recLostCount : F.idx (recLostCount) = true) (h_sk2F_11 : F.idx (sk2F 11) = true) (h_sk2F_9 : F.idx (sk2F 9) = true) :
    (hRevocation).Stays F := by
  unfold hRevocation
  refine Handler.simple_stays _ fun m s w v hk => ?_
  simp only []
  (repeat' split) <;> simp (contextual := true) (maxDischargeDepth := 60) [hk, h_conf, h_flt, h_fox, h_lark, h_rcd, h_sec, h_ucp, h_27, h_28, h_ob_11776_10, h_ob_11776_14, h_ob_12032_28, h_ob_12288_8, h_ob_4352_1, h_ob_4352_6, h_recLostCount, h_sk2F_11, h_sk2F_9]

@[simp ↓] theorem hAnchors_kept {F : Foot} (h_flt : F.flt = true) (h_lark : F.lark = true) (h_rcd : F.rcd = true) (h_sec :
    F.sec = true) (h_ucp : F.ucp = true) (h_28 : F.grp 40) (h_ob_11776_10 : F.idx (ob 11776 10) = true) (h_ob_11776_14 : F.idx (ob
    11776 14) = true) (h_ob_12032_28 : F.idx (ob 12032 28) = true) (h_ob_4352_1 : F.idx (ob 4352 1) = true) (h_ob_4352_6 : F.idx
    (ob 4352 6) = true) (h_recLostCount : F.idx (recLostCount) = true) (h_sk2F_11 : F.idx (sk2F 11) = true) (h_sk2F_131 : F.idx
    (sk2F 131) = true) (h_sk2F_3 : F.idx (sk2F 3) = true) : (hAnchors).Stays F := by
  unfold hAnchors
  refine Handler.simple_stays _ fun m s w v hk => ?_
  dsimp only
  (repeat' split) <;> simp (maxDischargeDepth := 60) [*]

@[simp ↓] theorem hMembers_kept {F : Foot} (h_flt : F.flt = true) (h_rcd : F.rcd = true) (h_sec : F.sec = true) (h_ucp : F.ucp
    = true) (h_28 : F.grp 40) (h_ob_11776_10 : F.idx (ob 11776 10) = true) (h_ob_12032_28 : F.idx (ob 12032 28) = true)
    (h_ob_4352_6 : F.idx (ob 4352 6) = true) (h_recLostCount : F.idx (recLostCount) = true) (h_sk2F_11 : F.idx (sk2F 11) = true)
    (h_sk2F_133 : F.idx (sk2F 133) = true) (h_sk2F_5 : F.idx (sk2F 5) = true) : (hMembers).Stays F := by
  unfold hMembers
  refine Handler.simple_stays _ fun m s w v hk => ?_
  simp only []
  (repeat' split) <;> simp (contextual := true) (maxDischargeDepth := 60) [hk, h_flt, h_rcd, h_sec, h_ucp, h_28, h_ob_11776_10, h_ob_12032_28, h_ob_4352_6, h_recLostCount, h_sk2F_11, h_sk2F_133, h_sk2F_5]

@[simp ↓] theorem State.drawChallenge_kept {F : Foot} {org : State} (s : State) (h_free : F.free = true) (h_sec : F.sec =
    true) (hk : Kept F org s) : Kept F org (State.drawChallenge s) := by
  unfold State.drawChallenge
  simp [hk, h_free, h_sec]

@[simp ↓] theorem challengeRenew_kept {F : Foot} {org : State} (s : State) (h_free : F.free = true) (h_sec : F.sec = true) (hk
    : Kept F org s) : Kept F org (challengeRenew s) := by
  unfold challengeRenew
  simp [hk, h_free, h_sec]

@[simp ↓] theorem State.drawDebug_kept {F : Foot} {org : State} (s : State) (h_free : F.free = true) (h_sec : F.sec = true)
    (hk : Kept F org s) : Kept F org (State.drawDebug s) := by
  unfold State.drawDebug
  simp [hk, h_free, h_sec]

@[simp ↓] theorem State.debugClose_kept {F : Foot} {org : State} (s : State) (role : Nat) (serial : Nat) (sess : Nat) (h_flt :
    F.flt = true) (h_rcd : F.rcd = true) (h_sec : F.sec = true) (h_ucp : F.ucp = true) (h_28 : F.grp 40) (h_ob_11776_10 : F.idx
    (ob 11776 10) = true) (h_recLostCount : F.idx (recLostCount) = true) (h_sk2F_24 : F.idx (sk2F 24) = true) (hk : Kept F org s)
    : Kept F org (State.debugClose s role serial sess) := by
  unfold State.debugClose
  simp (contextual := true) (maxDischargeDepth := 60) [hk, h_flt, h_rcd, h_sec, h_ucp, h_28, h_ob_11776_10, h_recLostCount, h_sk2F_24]

@[simp ↓] theorem hDebugOpen_kept {F : Foot} (h_flt : F.flt = true) (h_free : F.free = true) (h_rcd : F.rcd = true) (h_sec :
    F.sec = true) (h_ucp : F.ucp = true) (h_28 : F.grp 40) (h_ob_11776_10 : F.idx (ob 11776 10) = true) (h_ob_12032_28 : F.idx (ob
    12032 28) = true) (h_ob_4352_6 : F.idx (ob 4352 6) = true) (h_recLostCount : F.idx (recLostCount) = true) (h_sk2F_24 : F.idx
    (sk2F 24) = true) : (hDebugOpen).Stays F := by
  unfold hDebugOpen
  refine Handler.simple_stays _ fun m s w v hk => ?_
  (repeat' split) <;> simp (contextual := true) (maxDischargeDepth := 60) [hk, h_flt, h_free, h_rcd, h_sec, h_ucp, h_28, h_ob_11776_10, h_ob_12032_28, h_ob_4352_6, h_recLostCount, h_sk2F_24]

@[simp ↓] theorem hDebugClose_kept {F : Foot} (h_flt : F.flt = true) (h_rcd : F.rcd = true) (h_sec : F.sec = true) (h_ucp :
    F.ucp = true) (h_28 : F.grp 40) (h_ob_11776_10 : F.idx (ob 11776 10) = true) (h_recLostCount : F.idx (recLostCount) = true)
    (h_sk2F_24 : F.idx (sk2F 24) = true) : (hDebugClose).Stays F := by
  unfold hDebugClose
  refine Handler.simple_stays _ fun m s w v hk => ?_
  (repeat' split) <;> simp (contextual := true) (maxDischargeDepth := 60) [hk, h_flt, h_rcd, h_sec, h_ucp, h_28, h_ob_11776_10, h_recLostCount, h_sk2F_24]

@[simp ↓] theorem debugTimeout_kept {F : Foot} {org : State} (s : State) (h_flt : F.flt = true) (h_rcd : F.rcd = true) (h_sec
    : F.sec = true) (h_ucp : F.ucp = true) (h_28 : F.grp 40) (h_ob_11776_10 : F.idx (ob 11776 10) = true) (h_recLostCount : F.idx
    (recLostCount) = true) (h_sk2F_24 : F.idx (sk2F 24) = true) (hk : Kept F org s) : Kept F org (debugTimeout s) := by
  unfold debugTimeout
  simp [hk, h_flt, h_rcd, h_sec, h_ucp, h_28, h_ob_11776_10, h_recLostCount, h_sk2F_24]

@[simp ↓] theorem hDebugLock_kept {F : Foot} (h_flt : F.flt = true) (h_rcd : F.rcd = true) (h_ucp : F.ucp = true) (h_28 :
    F.grp 40) (h_ob_11776_10 : F.idx (ob 11776 10) = true) (h_ob_4096_9 : F.idx (ob 4096 9) = true) (h_recLostCount : F.idx
    (recLostCount) = true) (h_sk2F_24 : F.idx (sk2F 24) = true) : (hDebugLock).Stays F := by
  intro m s w v hk
  unfold hDebugLock
  simp (contextual := true) (maxDischargeDepth := 60) [hk, h_flt, h_rcd, h_ucp, h_28, h_ob_11776_10, h_ob_4096_9, h_recLostCount, h_sk2F_24]

@[simp ↓] theorem randomFail_kept {F : Foot} {org : State} (s : State) (h_flt : F.flt = true) (h_rcd : F.rcd = true) (h_ucp :
    F.ucp = true) (h_28 : F.grp 40) (h_ob_11776_10 : F.idx (ob 11776 10) = true) (h_recLostCount : F.idx (recLostCount) = true)
    (h_sk2F_29 : F.idx (sk2F 29) = true) (hk : Kept F org s) : Kept F org (randomFail s) := by
  unfold randomFail
  simp [hk, h_flt, h_rcd, h_ucp, h_28, h_ob_11776_10, h_recLostCount, h_sk2F_29]

end Sys2Proof.Machine
end

