-- ==== Sys2Proof/Laws/KeptUpdate.lean ====
section
/-! SUPPORT. Footprints of firmware update. -/

set_option linter.unusedSimpArgs false
set_option linter.unusedVariables false

namespace Sys2Proof.Machine

open Sys2Proof

@[simp] theorem uk_grp (a : Nat) : uk a / 65536 = 0x31 := by unfold uk; rw [ob_grp]
@[simp] theorem uk_idx {F : Foot} (h : F.grp 0x31) (a : Nat) : F.idx (uk a) = true := h _ (uk_grp _)

@[simp ↓] theorem State.updRecord_kept {F : Foot} {org : State} (s : State) (subject : Nat) (code : Nat) (w : Option Who)
    (more : List Cont) (h_flt : F.flt = true) (h_rcd : F.rcd = true) (h_ucp : F.ucp = true) (h_28 : F.grp 40) (h_ob_11776_10 :
    F.idx (ob 11776 10) = true) (h_recLostCount : F.idx (recLostCount) = true) (hk : Kept F org s) : Kept F org (State.updRecord s
    subject code w more) := by
  unfold State.updRecord
  simp [hk, h_flt, h_rcd, h_ucp, h_28, h_ob_11776_10, h_recLostCount]

@[simp ↓] theorem hCommit_kept {F : Foot} (h_conf : F.conf = true) (h_flt : F.flt = true) (h_rcd : F.rcd = true) (h_ucp :
    F.ucp = true) (h_28 : F.grp 40) (h_ob_11776_10 : F.idx (ob 11776 10) = true) (h_ob_12288_1 : F.idx (ob 12288 1) = true)
    (h_ob_12288_14 : F.idx (ob 12288 14) = true) (h_ob_12288_2 : F.idx (ob 12288 2) = true) (h_ob_12288_3 : F.idx (ob 12288 3) =
    true) (h_ob_12288_4 : F.idx (ob 12288 4) = true) (h_ob_12288_7 : F.idx (ob 12288 7) = true) (h_recLostCount : F.idx
    (recLostCount) = true) : (hCommit).Stays F := by
  unfold hCommit
  refine Handler.simple_stays _ fun m s w v hk => ?_
  (repeat' split) <;> simp (contextual := true) (maxDischargeDepth := 60) [hk, h_conf, h_flt, h_rcd, h_ucp, h_28, h_ob_11776_10, h_ob_12288_1, h_ob_12288_14, h_ob_12288_2, h_ob_12288_3, h_ob_12288_4, h_ob_12288_7, h_recLostCount]

@[simp ↓] theorem State.bring_kept {F : Foot} {org : State} (s : State) (w : Who) (origin : Nat) (parent : Nat) (vals : Tbl
    Nat) (blobs : Tbl (List Byte)) (prof : Tbl Nat) (profVer : Nat) (target : Nat) (h_conf : F.conf = true) (h_flt : F.flt = true)
    (h_fox : F.fox = true) (h_rcd : F.rcd = true) (h_ucp : F.ucp = true) (h_28 : F.grp 40) (h_fx_16 : F.idx (fx 16) = true)
    (h_ob_11776_10 : F.idx (ob 11776 10) = true) (h_ob_12288_1 : F.idx (ob 12288 1) = true) (h_ob_12288_14 : F.idx (ob 12288 14) =
    true) (h_ob_12288_2 : F.idx (ob 12288 2) = true) (h_ob_12288_7 : F.idx (ob 12288 7) = true) (h_ob_12288_8 : F.idx (ob 12288 8)
    = true) (h_recLostCount : F.idx (recLostCount) = true) (hk : Kept F org s) : Kept F org (State.bring s w origin parent vals
    blobs prof profVer target).1 := by
  unfold State.bring
  simp (contextual := true) (maxDischargeDepth := 60) [hk, h_conf, h_flt, h_fox, h_rcd, h_ucp, h_28, h_fx_16, h_ob_11776_10, h_ob_12288_1, h_ob_12288_14, h_ob_12288_2, h_ob_12288_7, h_ob_12288_8, h_recLostCount]

@[simp ↓] theorem hReturn_kept {F : Foot} (h_conf : F.conf = true) (h_flt : F.flt = true) (h_fox : F.fox = true) (h_rcd :
    F.rcd = true) (h_ucp : F.ucp = true) (h_28 : F.grp 40) (h_fx_16 : F.idx (fx 16) = true) (h_ob_11776_10 : F.idx (ob 11776 10) =
    true) (h_ob_12288_1 : F.idx (ob 12288 1) = true) (h_ob_12288_14 : F.idx (ob 12288 14) = true) (h_ob_12288_2 : F.idx (ob 12288
    2) = true) (h_ob_12288_7 : F.idx (ob 12288 7) = true) (h_ob_12288_8 : F.idx (ob 12288 8) = true) (h_recLostCount : F.idx
    (recLostCount) = true) : (hReturn).Stays F := by
  unfold hReturn
  refine Handler.simple_stays _ fun m s w v hk => ?_
  (repeat' split) <;> simp (contextual := true) (maxDischargeDepth := 60) [hk, h_conf, h_flt, h_fox, h_rcd, h_ucp, h_28, h_fx_16, h_ob_11776_10, h_ob_12288_1, h_ob_12288_14, h_ob_12288_2, h_ob_12288_7, h_ob_12288_8, h_recLostCount]

@[simp ↓] theorem State.countBlocks_kept {F : Foot} {org : State} (s : State) (h_uk_11 : F.idx (uk 11) = true) (h_uk_2 : F.idx
    (uk 2) = true) (hk : Kept F org s) : Kept F org (State.countBlocks s) := by
  unfold State.countBlocks
  simp [hk, h_uk_11, h_uk_2]

@[simp ↓] theorem State.dropDelivery_kept {F : Foot} {org : State} (s : State) (h_upd : F.upd = true) (h_uk_10 : F.idx (uk 10)
    = true) (h_uk_11 : F.idx (uk 11) = true) (h_uk_14 : F.idx (uk 14) = true) (h_uk_2 : F.idx (uk 2) = true) (h_uk_4 : F.idx (uk
    4) = true) (hk : Kept F org s) : Kept F org (State.dropDelivery s) := by
  unfold State.dropDelivery
  simp (contextual := true) (maxDischargeDepth := 60) [hk, h_upd, h_uk_10, h_uk_11, h_uk_14, h_uk_2, h_uk_4]

@[simp ↓] theorem imageBlock_kept {F : Foot} {org : State} (s : State) (w : Who) (v : Val) (h_flt : F.flt = true) (h_rcd :
    F.rcd = true) (h_ucp : F.ucp = true) (h_upd : F.upd = true) (h_28 : F.grp 40) (h_ob_11776_10 : F.idx (ob 11776 10) = true)
    (h_ob_4128_2 : F.idx (ob 4128 2) = true) (h_recLostCount : F.idx (recLostCount) = true) (h_uk_10 : F.idx (uk 10) = true)
    (h_uk_11 : F.idx (uk 11) = true) (h_uk_12 : F.idx (uk 12) = true) (h_uk_14 : F.idx (uk 14) = true) (h_uk_2 : F.idx (uk 2) =
    true) (h_uk_4 : F.idx (uk 4) = true) (hk : Kept F org s) : Kept F org (imageBlock s w v).1 := by
  unfold imageBlock
  (repeat' split) <;> simp (contextual := true) (maxDischargeDepth := 60) [hk, h_flt, h_rcd, h_ucp, h_upd, h_28, h_ob_11776_10, h_ob_4128_2, h_recLostCount, h_uk_10, h_uk_11, h_uk_12, h_uk_14, h_uk_2, h_uk_4]

@[simp ↓] theorem hImageBlock_kept {F : Foot} (h_flt : F.flt = true) (h_rcd : F.rcd = true) (h_ucp : F.ucp = true) (h_upd :
    F.upd = true) (h_28 : F.grp 40) (h_ob_11776_10 : F.idx (ob 11776 10) = true) (h_ob_4128_2 : F.idx (ob 4128 2) = true)
    (h_recLostCount : F.idx (recLostCount) = true) (h_uk_10 : F.idx (uk 10) = true) (h_uk_11 : F.idx (uk 11) = true) (h_uk_12 :
    F.idx (uk 12) = true) (h_uk_14 : F.idx (uk 14) = true) (h_uk_2 : F.idx (uk 2) = true) (h_uk_4 : F.idx (uk 4) = true) :
    (hImageBlock).Stays F := by
  intro m s w v hk
  change Kept F m (imageBlock s w v).1
  simp [*]

@[simp ↓] theorem State.showSlot_kept {F : Foot} {org : State} (s : State) (i : Nat) (h_10 : F.grp 16) (hk : Kept F org s) :
    Kept F org (State.showSlot s i) := by
  unfold State.showSlot
  simp (contextual := true) (maxDischargeDepth := 60) [hk, h_10]

@[simp ↓] theorem verifyImage_kept {F : Foot} {org : State} (built : Bool) (s : State) (w : Who) (h_flt : F.flt = true) (h_rcd
    : F.rcd = true) (h_ucp : F.ucp = true) (h_upd : F.upd = true) (h_10 : F.grp 16) (h_28 : F.grp 40) (h_ob_11776_10 : F.idx (ob
    11776 10) = true) (h_recLostCount : F.idx (recLostCount) = true) (h_uk_12 : F.idx (uk 12) = true) (h_uk_4 : F.idx (uk 4) =
    true) (hk : Kept F org s) : Kept F org (verifyImage built s w).1 := by
  unfold verifyImage
  simp (contextual := true) (maxDischargeDepth := 60) [hk, h_flt, h_rcd, h_ucp, h_upd, h_10, h_28, h_ob_11776_10, h_recLostCount, h_uk_12, h_uk_4]

@[simp ↓] theorem hVerify_kept {F : Foot} (built : Bool) (h_flt : F.flt = true) (h_rcd : F.rcd = true) (h_ucp : F.ucp = true)
    (h_upd : F.upd = true) (h_10 : F.grp 16) (h_28 : F.grp 40) (h_ob_11776_10 : F.idx (ob 11776 10) = true) (h_recLostCount :
    F.idx (recLostCount) = true) (h_uk_12 : F.idx (uk 12) = true) (h_uk_4 : F.idx (uk 4) = true) : (hVerify built).Stays F := by
  intro m s w v hk
  change Kept F m (verifyImage built s w).1
  simp [*]

@[simp ↓] theorem State.commitTrial_kept {F : Foot} {org : State} (s : State) (w : Option Who) (h_flt : F.flt = true) (h_rcd :
    F.rcd = true) (h_ucp : F.ucp = true) (h_upd : F.upd = true) (h_10 : F.grp 16) (h_28 : F.grp 40) (h_ob_11776_10 : F.idx (ob
    11776 10) = true) (h_recLostCount : F.idx (recLostCount) = true) (h_uk_10 : F.idx (uk 10) = true) (h_uk_11 : F.idx (uk 11) =
    true) (h_uk_14 : F.idx (uk 14) = true) (h_uk_2 : F.idx (uk 2) = true) (h_uk_4 : F.idx (uk 4) = true) (hk : Kept F org s) :
    Kept F org (State.commitTrial s w) := by
  unfold State.commitTrial
  simp (contextual := true) (maxDischargeDepth := 60) [hk, h_flt, h_rcd, h_ucp, h_upd, h_10, h_28, h_ob_11776_10, h_recLostCount, h_uk_10, h_uk_11, h_uk_14, h_uk_2, h_uk_4]

@[simp ↓] theorem hArm_kept {F : Foot} (h_flt : F.flt = true) (h_rcd : F.rcd = true) (h_ucp : F.ucp = true) (h_upd : F.upd =
    true) (h_28 : F.grp 40) (h_ob_11776_10 : F.idx (ob 11776 10) = true) (h_recLostCount : F.idx (recLostCount) = true) (h_uk_10 :
    F.idx (uk 10) = true) (h_uk_11 : F.idx (uk 11) = true) (h_uk_12 : F.idx (uk 12) = true) (h_uk_14 : F.idx (uk 14) = true)
    (h_uk_2 : F.idx (uk 2) = true) (h_uk_4 : F.idx (uk 4) = true) (h_uk_6 : F.idx (uk 6) = true) : (hArm).Stays F := by
  unfold hArm
  refine Handler.simple_stays _ fun m s w v hk => ?_
  (repeat' split) <;> simp (contextual := true) (maxDischargeDepth := 60) [hk, h_flt, h_rcd, h_ucp, h_upd, h_28, h_ob_11776_10, h_recLostCount, h_uk_10, h_uk_11, h_uk_12, h_uk_14, h_uk_2, h_uk_4, h_uk_6]

@[simp ↓] theorem hConfirm_kept {F : Foot} (h_flt : F.flt = true) (h_rcd : F.rcd = true) (h_ucp : F.ucp = true) (h_upd : F.upd
    = true) (h_10 : F.grp 16) (h_28 : F.grp 40) (h_ob_11776_10 : F.idx (ob 11776 10) = true) (h_recLostCount : F.idx
    (recLostCount) = true) (h_uk_10 : F.idx (uk 10) = true) (h_uk_11 : F.idx (uk 11) = true) (h_uk_14 : F.idx (uk 14) = true)
    (h_uk_2 : F.idx (uk 2) = true) (h_uk_4 : F.idx (uk 4) = true) : (hConfirm).Stays F := by
  unfold hConfirm
  refine Handler.simple_stays _ fun m s w v hk => ?_
  (repeat' split) <;> simp (contextual := true) (maxDischargeDepth := 60) [hk, h_flt, h_rcd, h_ucp, h_upd, h_10, h_28, h_ob_11776_10, h_recLostCount, h_uk_10, h_uk_11, h_uk_14, h_uk_2, h_uk_4]

@[simp ↓] theorem trialHealthy_kept {F : Foot} {org : State} (s : State) (h_flt : F.flt = true) (h_rcd : F.rcd = true) (h_ucp
    : F.ucp = true) (h_upd : F.upd = true) (h_10 : F.grp 16) (h_28 : F.grp 40) (h_ob_11776_10 : F.idx (ob 11776 10) = true)
    (h_recLostCount : F.idx (recLostCount) = true) (h_uk_10 : F.idx (uk 10) = true) (h_uk_11 : F.idx (uk 11) = true) (h_uk_14 :
    F.idx (uk 14) = true) (h_uk_2 : F.idx (uk 2) = true) (h_uk_4 : F.idx (uk 4) = true) (hk : Kept F org s) : Kept F org
    (trialHealthy s) := by
  unfold trialHealthy
  simp [hk, h_flt, h_rcd, h_ucp, h_upd, h_10, h_28, h_ob_11776_10, h_recLostCount, h_uk_10, h_uk_11, h_uk_14, h_uk_2, h_uk_4]

@[simp ↓] theorem State.healthTick_kept {F : Foot} {org : State} (s : State) (ns : Nat) (h_upd : F.upd = true) (h_uk_10 :
    F.idx (uk 10) = true) (hk : Kept F org s) : Kept F org (State.healthTick s ns) := by
  unfold State.healthTick
  simp [hk, h_upd, h_uk_10]

@[simp ↓] theorem State.takeSlot_kept {F : Foot} {org : State} (s : State) (i : Nat) (h_ob_4096_7 : F.idx (ob 4096 7) = true)
    (h_ob_4096_8 : F.idx (ob 4096 8) = true) (h_ob_4128_1 : F.idx (ob 4128 1) = true) (h_ob_4128_2 : F.idx (ob 4128 2) = true) (hk
    : Kept F org s) : Kept F org (State.takeSlot s i) := by
  unfold State.takeSlot
  simp (contextual := true) (maxDischargeDepth := 60) [hk, h_ob_4096_7, h_ob_4096_8, h_ob_4128_1, h_ob_4128_2]

@[simp ↓] theorem classNActivate_kept {F : Foot} {org : State} (s : State) (h_flt : F.flt = true) (h_rcd : F.rcd = true)
    (h_ucp : F.ucp = true) (h_upd : F.upd = true) (h_28 : F.grp 40) (h_ob_11776_10 : F.idx (ob 11776 10) = true) (h_ob_4096_7 :
    F.idx (ob 4096 7) = true) (h_ob_4096_8 : F.idx (ob 4096 8) = true) (h_ob_4128_1 : F.idx (ob 4128 1) = true) (h_ob_4128_2 :
    F.idx (ob 4128 2) = true) (h_recLostCount : F.idx (recLostCount) = true) (h_uk_10 : F.idx (uk 10) = true) (h_uk_4 : F.idx (uk
    4) = true) (hk : Kept F org s) : Kept F org (classNActivate s) := by
  unfold classNActivate
  simp (contextual := true) (maxDischargeDepth := 60) [hk, h_flt, h_rcd, h_ucp, h_upd, h_28, h_ob_11776_10, h_ob_4096_7, h_ob_4096_8, h_ob_4128_1, h_ob_4128_2, h_recLostCount, h_uk_10, h_uk_4]

@[simp ↓] theorem activationMissed_kept {F : Foot} {org : State} (s : State) (h_flt : F.flt = true) (h_rcd : F.rcd = true)
    (h_ucp : F.ucp = true) (h_28 : F.grp 40) (h_ob_11776_10 : F.idx (ob 11776 10) = true) (h_recLostCount : F.idx (recLostCount) =
    true) (hk : Kept F org s) : Kept F org (activationMissed s) := by
  unfold activationMissed
  simp [hk, h_flt, h_rcd, h_ucp, h_28, h_ob_11776_10, h_recLostCount]

@[simp ↓] theorem State.spoil_kept {F : Foot} {org : State} (s : State) (i : Nat) (pass : Nat) (h_upd : F.upd = true) (hk :
    Kept F org s) : Kept F org (State.spoil s i pass) := by
  unfold State.spoil
  simp [hk, h_upd]

@[simp ↓] theorem State.fallBack_kept {F : Foot} {org : State} (s : State) (i : Nat) (cause : Nat) (h_flt : F.flt = true)
    (h_rcd : F.rcd = true) (h_ucp : F.ucp = true) (h_upd : F.upd = true) (h_28 : F.grp 40) (h_ob_11776_10 : F.idx (ob 11776 10) =
    true) (h_ob_4096_7 : F.idx (ob 4096 7) = true) (h_ob_4096_8 : F.idx (ob 4096 8) = true) (h_ob_4128_1 : F.idx (ob 4128 1) =
    true) (h_ob_4128_2 : F.idx (ob 4128 2) = true) (h_recLostCount : F.idx (recLostCount) = true) (h_uk_13 : F.idx (uk 13) = true)
    (hk : Kept F org s) : Kept F org (State.fallBack s i cause) := by
  unfold State.fallBack
  simp (contextual := true) (maxDischargeDepth := 60) [hk, h_flt, h_rcd, h_ucp, h_upd, h_28, h_ob_11776_10, h_ob_4096_7, h_ob_4096_8, h_ob_4128_1, h_ob_4128_2, h_recLostCount, h_uk_13]

@[simp ↓] theorem State.bootSlot_kept {F : Foot} {org : State} (s : State) (pass : Nat) (h_flt : F.flt = true) (h_pwr : F.pwr
    = true) (h_rcd : F.rcd = true) (h_ucp : F.ucp = true) (h_upd : F.upd = true) (h_28 : F.grp 40) (h_ob_11776_10 : F.idx (ob
    11776 10) = true) (h_ob_4096_7 : F.idx (ob 4096 7) = true) (h_ob_4096_8 : F.idx (ob 4096 8) = true) (h_ob_4128_1 : F.idx (ob
    4128 1) = true) (h_ob_4128_2 : F.idx (ob 4128 2) = true) (h_recLostCount : F.idx (recLostCount) = true) (h_uk_10 : F.idx (uk
    10) = true) (h_uk_11 : F.idx (uk 11) = true) (h_uk_13 : F.idx (uk 13) = true) (h_uk_14 : F.idx (uk 14) = true) (h_uk_2 : F.idx
    (uk 2) = true) (h_uk_4 : F.idx (uk 4) = true) (hk : Kept F org s) : Kept F org (State.bootSlot s pass) := by
  unfold State.bootSlot
  simp (contextual := true) (maxDischargeDepth := 60) [hk, h_flt, h_pwr, h_rcd, h_ucp, h_upd, h_28, h_ob_11776_10, h_ob_4096_7, h_ob_4096_8, h_ob_4128_1, h_ob_4128_2, h_recLostCount, h_uk_10, h_uk_11, h_uk_13, h_uk_14, h_uk_2, h_uk_4]

end Sys2Proof.Machine
end

