-- ==== Sys2Proof/Laws/KeptUcp.lean ====
section
/-! SUPPORT. Footprints of UCP. -/

set_option linter.unusedSimpArgs false
set_option linter.unusedVariables false

namespace Sys2Proof.Machine

open Sys2Proof

@[simp] theorem uc_grp (a : Nat) : uc a / 65536 = 0x2E := by unfold uc; rw [ob_grp]
@[simp] theorem uc_idx {F : Foot} (h : F.grp 0x2E) (a : Nat) : F.idx (uc a) = true := h _ (uc_grp _)

@[simp ↓] theorem State.setSpace_kept {F : Foot} {org : State} (s : State) (t : TagSpace) (h_ucp : F.ucp = true) (hk : Kept F
    org s) : Kept F org (State.setSpace s t) := by
  unfold State.setSpace
  simp [hk, h_ucp]

@[simp ↓] theorem State.modSpace_kept {F : Foot} {org : State} (s : State) (sp : Space) (f : TagSpace → TagSpace) (h_ucp :
    F.ucp = true) (hk : Kept F org s) : Kept F org (State.modSpace s sp f) := by
  unfold State.modSpace
  simp [hk, h_ucp]

@[simp ↓] theorem State.useTag_kept {F : Foot} {org : State} (s : State) (sp : Space) (p : Packet) (h_ucp : F.ucp = true) (hk
    : Kept F org s) : Kept F org (State.useTag s sp p) := by
  unfold State.useTag
  simp [hk, h_ucp]

@[simp ↓] theorem State.quarantine_kept {F : Foot} {org : State} (s : State) (sp : Space) (p : Packet) (lost : Bool) (h_ucp :
    F.ucp = true) (hk : Kept F org s) : Kept F org (State.quarantine s sp p lost) := by
  unfold State.quarantine
  simp [hk, h_ucp]

@[simp ↓] theorem State.advanceEpoch_kept {F : Foot} {org : State} (s : State) (t : TagSpace) (e : Nat) (h_ucp : F.ucp = true)
    (h_uc_5 : F.idx (uc 5) = true) (hk : Kept F org s) : Kept F org (State.advanceEpoch s t e) := by
  unfold State.advanceEpoch
  simp (contextual := true) (maxDischargeDepth := 60) [hk, h_ucp, h_uc_5]

@[simp ↓] theorem State.enqueue_kept {F : Foot} {org : State} (s : State) (r : Route) (p : Packet) (sp : Option Space) (h_ucp
    : F.ucp = true) (hk : Kept F org s) : Kept F org (State.enqueue s r p sp) := by
  unfold State.enqueue
  simp [hk, h_ucp]

@[simp ↓] theorem State.respond_kept {F : Foot} {org : State} (s : State) (r : Route) (p : Packet) (prot : Bool) (sp : Option
    Space) (st : Nat) (aux : Nat) (data : List Byte) (h_ucp : F.ucp = true) (hk : Kept F org s) : Kept F org (State.respond s r p
    prot sp st aux data) := by
  unfold State.respond
  simp [hk, h_ucp]

@[simp ↓] theorem State.notice_kept {F : Foot} {org : State} (s : State) (r : Route) (p : Packet) (st : Nat) (aux : Nat)
    (h_ucp : F.ucp = true) (hk : Kept F org s) : Kept F org (State.notice s r p st aux) := by
  unfold State.notice
  simp [hk, h_ucp]

@[simp ↓] theorem State.setSession_kept {F : Foot} {org : State} (s : State) (x : Session) (h_sec : F.sec = true) (hk : Kept F
    org s) : Kept F org (State.setSession s x) := by
  unfold State.setSession
  simp [hk, h_sec]

@[simp ↓] theorem State.admit_kept {F : Foot} {org : State} (s : State) (r : Route) (p : Packet) (t : TagSpace) (h_ucp : F.ucp
    = true) (h_uc_6 : F.idx (uc 6) = true) (h_uc_7 : F.idx (uc 7) = true) (hk : Kept F org s) : Kept F org (State.intake s r p t)
    := by
  unfold State.intake
  (repeat' split) <;> simp (contextual := true) (maxDischargeDepth := 60) [hk, h_ucp, h_uc_6, h_uc_7]

@[simp ↓] theorem State.epochCheck_kept {F : Foot} {org : State} (s : State) (r : Route) (p : Packet) (h_ucp : F.ucp = true)
    (h_uc_5 : F.idx (uc 5) = true) (h_uc_6 : F.idx (uc 6) = true) (h_uc_7 : F.idx (uc 7) = true) (hk : Kept F org s) : Kept F org
    (State.epochCheck s r p) := by
  unfold State.epochCheck
  simp only []
  (repeat' split) <;> simp (contextual := true) (maxDischargeDepth := 60) [hk, h_ucp, h_uc_5, h_uc_6, h_uc_7]

@[simp ↓] theorem State.peerAnnounce_kept {F : Foot} {org : State} (s : State) (p : Packet) (h_eth : F.eth = true) (h_flt :
    F.flt = true) (h_rcd : F.rcd = true) (h_ucp : F.ucp = true) (h_28 : F.grp 40) (h_ob_11776_10 : F.idx (ob 11776 10) = true)
    (h_recLostCount : F.idx (recLostCount) = true) (hk : Kept F org s) : Kept F org (State.peerAnnounce s p) := by
  unfold State.peerAnnounce
  simp [hk, h_eth, h_flt, h_rcd, h_ucp, h_28, h_ob_11776_10, h_recLostCount]

@[simp ↓] theorem State.badIcv_kept {F : Foot} {org : State} (s : State) (h_flt : F.flt = true) (h_rcd : F.rcd = true) (h_ucp
    : F.ucp = true) (h_28 : F.grp 40) (h_ob_11776_10 : F.idx (ob 11776 10) = true) (h_recLostCount : F.idx (recLostCount) = true)
    (h_uc_8 : F.idx (uc 8) = true) (hk : Kept F org s) : Kept F org (State.badIcv s) := by
  unfold State.badIcv
  simp (contextual := true) (maxDischargeDepth := 60) [hk, h_flt, h_rcd, h_ucp, h_28, h_ob_11776_10, h_recLostCount, h_uc_8]

@[simp ↓] theorem packetReceive_kept {F : Foot} {org : State} (r : Route) (b : List Byte) (s : State) (h_eth : F.eth = true)
    (h_flt : F.flt = true) (h_rcd : F.rcd = true) (h_sec : F.sec = true) (h_ucp : F.ucp = true) (h_28 : F.grp 40) (h_ob_11776_10 :
    F.idx (ob 11776 10) = true) (h_recLostCount : F.idx (recLostCount) = true) (h_uc_15 : F.idx (uc 15) = true) (h_uc_5 : F.idx
    (uc 5) = true) (h_uc_6 : F.idx (uc 6) = true) (h_uc_7 : F.idx (uc 7) = true) (h_uc_8 : F.idx (uc 8) = true) (h_uc_9 : F.idx
    (uc 9) = true) (hk : Kept F org s) : Kept F org (packetReceive r b s) := by
  unfold packetReceive
  dsimp only
  (repeat' split) <;> simp (maxDischargeDepth := 60) [*]

@[simp ↓] theorem quarantineEnd_kept {F : Foot} {org : State} (sp : Space) (epoch : Nat) (tag : Nat) (s : State) (h_ucp :
    F.ucp = true) (hk : Kept F org s) : Kept F org (quarantineEnd sp epoch tag s) := by
  unfold quarantineEnd
  simp [hk, h_ucp]

@[simp ↓] theorem State.ucpBlock_kept {F : Foot} {org : State} (s : State) (h_ucp : F.ucp = true) (hk : Kept F org s) : Kept F
    org (State.ucpBlock s) := by
  have h1 : Kept F org (s.ucp.inq.foldl (fun (t : State) i => t.quarantine (i.pkt.space i.route) i.pkt true) s) :=
    kept_foldl _ _ (fun t i ht => by simp [*]) hk
  unfold State.ucpBlock
  revert h1
  generalize s.ucp.inq.foldl (fun (t : State) i => t.quarantine (i.pkt.space i.route) i.pkt true) s = u
  intro h1
  refine Kept.set_ucp (kept_foldl _ _ (fun t i ht => ?_) h1) (by assumption)
  split <;> simp [*]

@[simp ↓] theorem State.ucpDrop_kept {F : Foot} {org : State} (s : State) (h_ucp : F.ucp = true) (hk : Kept F org s) : Kept F
    org (State.ucpDrop s) := by
  unfold State.ucpDrop
  simp [hk, h_ucp]

@[simp ↓] theorem State.subscribe_kept {F : Foot} {org : State} (s : State) (w : Who) (r : Route) (cls : Nat) (aux : Nat)
    (h_ucp : F.ucp = true) (h_uc_14 : F.idx (uc 14) = true) (hk : Kept F org s) : Kept F org (State.subscribe s w r cls aux).1 :=
    by
  unfold State.subscribe
  simp [hk, h_ucp, h_uc_14]

@[simp ↓] theorem State.unsubscribe_kept {F : Foot} {org : State} (s : State) (w : Who) (r : Route) (cls : Nat) (h_ucp : F.ucp
    = true) (h_uc_14 : F.idx (uc 14) = true) (hk : Kept F org s) : Kept F org (State.unsubscribe s w r cls).1 := by
  unfold State.unsubscribe
  simp [hk, h_ucp, h_uc_14]

@[simp ↓] theorem State.nop_kept {F : Foot} {org : State} (s : State) (data : List Byte) (hk : Kept F org s) : Kept F org
    (State.nop s data).1 := by
  unfold State.nop
  simp [hk]

@[simp ↓] theorem State.sealPacket_kept {F : Foot} {org : State} (s : State) (i : OutItem) (h_flt : F.flt = true) (h_lark :
    F.lark = true) (h_rcd : F.rcd = true) (h_sec : F.sec = true) (h_ucp : F.ucp = true) (h_28 : F.grp 40) (h_ob_11776_10 : F.idx
    (ob 11776 10) = true) (h_ob_11776_14 : F.idx (ob 11776 14) = true) (h_ob_4352_1 : F.idx (ob 4352 1) = true) (h_recLostCount :
    F.idx (recLostCount) = true) (hk : Kept F org s) : Kept F org (State.sealPacket s i).1 := by
  unfold State.sealPacket
  simp only []
  (repeat' split) <;> simp (contextual := true) (maxDischargeDepth := 60) [hk, h_flt, h_lark, h_rcd, h_sec, h_ucp, h_28, h_ob_11776_10, h_ob_11776_14, h_ob_4352_1, h_recLostCount]

@[simp ↓] theorem State.setCanPort_kept {F : Foot} {org : State} (s : State) (p : Nat) (f : PortSt → PortSt) (h_can : F.can =
    true) (hk : Kept F org s) : Kept F org (State.setCanPort s p f) := by
  unfold State.setCanPort
  simp [hk, h_can]

@[simp ↓] theorem State.handOver_kept {F : Foot} {org : State} (s : State) (port : Nat) (i : OutItem) (p : Packet) (h_can :
    F.can = true) (h_parts : F.parts = true) (h_ucp : F.ucp = true) (hk : Kept F org s) : Kept F org (State.handOver s port i p)
    := by
  unfold State.handOver
  simp (contextual := true) (maxDischargeDepth := 60) [hk, h_can, h_parts, h_ucp]

@[simp ↓] theorem outbound_kept {F : Foot} {org : State} (port : Nat) (s : State) (h_can : F.can = true) (h_flt : F.flt =
    true) (h_lark : F.lark = true) (h_parts : F.parts = true) (h_rcd : F.rcd = true) (h_sec : F.sec = true) (h_ucp : F.ucp = true)
    (h_28 : F.grp 40) (h_ob_11776_10 : F.idx (ob 11776 10) = true) (h_ob_11776_14 : F.idx (ob 11776 14) = true) (h_ob_4352_1 :
    F.idx (ob 4352 1) = true) (h_recLostCount : F.idx (recLostCount) = true) (hk : Kept F org s) : Kept F org (outbound port s) :=
    by
  unfold outbound
  simp only []
  (repeat' split) <;> simp (contextual := true) (maxDischargeDepth := 60) [hk, h_can, h_flt, h_lark, h_parts, h_rcd, h_sec, h_ucp, h_28, h_ob_11776_10, h_ob_11776_14, h_ob_4352_1, h_recLostCount]

@[simp ↓] theorem State.dropStream_kept {F : Foot} {org : State} (s : State) (p : Nat) (node : Nat) (st : Nat) (h_ucp : F.ucp
    = true) (hk : Kept F org s) : Kept F org (State.dropStream s p node st) := by
  unfold State.dropStream
  simp [hk, h_ucp]

@[simp ↓] theorem segmentReceive_kept {F : Foot} {org : State} (p : Nat) (node : Nat) (d : List Byte) (s : State) (h_eth :
    F.eth = true) (h_flt : F.flt = true) (h_rcd : F.rcd = true) (h_sec : F.sec = true) (h_ucp : F.ucp = true) (h_28 : F.grp 40)
    (h_ob_11776_10 : F.idx (ob 11776 10) = true) (h_recLostCount : F.idx (recLostCount) = true) (h_uc_11 : F.idx (uc 11) = true)
    (h_uc_15 : F.idx (uc 15) = true) (h_uc_5 : F.idx (uc 5) = true) (h_uc_6 : F.idx (uc 6) = true) (h_uc_7 : F.idx (uc 7) = true)
    (h_uc_8 : F.idx (uc 8) = true) (h_uc_9 : F.idx (uc 9) = true) (hk : Kept F org s) : Kept F org (segmentReceive p node d s) :=
    by
  unfold segmentReceive
  simp only []
  (repeat' split) <;> simp (contextual := true) (maxDischargeDepth := 60) [hk, h_eth, h_flt, h_rcd, h_sec, h_ucp, h_28, h_ob_11776_10, h_recLostCount, h_uc_11, h_uc_15, h_uc_5, h_uc_6, h_uc_7, h_uc_8, h_uc_9]

@[simp ↓] theorem streamTimeout_kept {F : Foot} {org : State} (p : Nat) (node : Nat) (st : Nat) (s : State) (h_ucp : F.ucp =
    true) (h_uc_11 : F.idx (uc 11) = true) (hk : Kept F org s) : Kept F org (streamTimeout p node st s) := by
  unfold streamTimeout
  simp [hk, h_ucp, h_uc_11]

@[simp ↓] theorem announce_kept {F : Foot} {org : State} (s : State) (h_eth : F.eth = true) (h_ucp : F.ucp = true) (hk : Kept
    F org s) : Kept F org (announce s) := by
  unfold announce
  simp (contextual := true) (maxDischargeDepth := 60) [hk, h_eth, h_ucp]

@[simp ↓] theorem dupaddrClear_kept {F : Foot} {org : State} (s : State) (h_eth : F.eth = true) (h_flt : F.flt = true) (h_rcd
    : F.rcd = true) (h_ucp : F.ucp = true) (h_28 : F.grp 40) (h_ob_11776_10 : F.idx (ob 11776 10) = true) (h_recLostCount : F.idx
    (recLostCount) = true) (hk : Kept F org s) : Kept F org (dupaddrClear s) := by
  unfold dupaddrClear
  simp [hk, h_eth, h_flt, h_rcd, h_ucp, h_28, h_ob_11776_10, h_recLostCount]

@[simp ↓] theorem hFleetSend_kept {F : Foot} (h_flt : F.flt = true) (h_free : F.free = true) (h_rcd : F.rcd = true) (h_ucp :
    F.ucp = true) (h_28 : F.grp 40) (h_ob_11776_10 : F.idx (ob 11776 10) = true) (h_recLostCount : F.idx (recLostCount) = true)
    (h_uc_128 : F.idx (uc 128) = true) (h_uc_130 : F.idx (uc 130) = true) (h_uc_132 : F.idx (uc 132) = true) : (hFleetSend).Stays
    F := by
  unfold hFleetSend
  refine Handler.simple_stays _ fun m s w v hk => ?_
  (repeat' split) <;> simp (contextual := true) (maxDischargeDepth := 60) [hk, h_flt, h_free, h_rcd, h_ucp, h_28, h_ob_11776_10, h_recLostCount, h_uc_128, h_uc_130, h_uc_132]

@[simp ↓] theorem State.fleetReject_kept {F : Foot} {org : State} (s : State) (st : Nat) (h_flt : F.flt = true) (h_rcd : F.rcd
    = true) (h_ucp : F.ucp = true) (h_28 : F.grp 40) (h_ob_11776_10 : F.idx (ob 11776 10) = true) (h_recLostCount : F.idx
    (recLostCount) = true) (h_uc_138 : F.idx (uc 138) = true) (hk : Kept F org s) : Kept F org (State.fleetReject s st).1 := by
  unfold State.fleetReject
  simp [hk, h_flt, h_rcd, h_ucp, h_28, h_ob_11776_10, h_recLostCount, h_uc_138]

@[simp ↓] theorem hFleetDeliver_kept {F : Foot} (h_flt : F.flt = true) (h_rcd : F.rcd = true) (h_sec : F.sec = true) (h_ucp :
    F.ucp = true) (h_28 : F.grp 40) (h_ob_11776_10 : F.idx (ob 11776 10) = true) (h_recLostCount : F.idx (recLostCount) = true)
    (h_uc_133 : F.idx (uc 133) = true) (h_uc_136 : F.idx (uc 136) = true) (h_uc_138 : F.idx (uc 138) = true) :
    (hFleetDeliver).Stays F := by
  unfold hFleetDeliver
  refine Handler.simple_stays _ fun m s w v hk => ?_
  simp only []
  (repeat' split) <;> simp (contextual := true) (maxDischargeDepth := 60) [hk, h_flt, h_rcd, h_sec, h_ucp, h_28, h_ob_11776_10, h_recLostCount, h_uc_133, h_uc_136, h_uc_138]

end Sys2Proof.Machine
end

