-- ==== Sys2Proof/Laws/KeptEthernet.lean ====
section
/-! SUPPORT. Footprints of Ethernet. -/

set_option linter.unusedSimpArgs false
set_option linter.unusedVariables false

namespace Sys2Proof.Machine

open Sys2Proof

@[simp] theorem ethk_grp (a b : Nat) : ethk a b / 65536 = 0x2E := by unfold ethk; rw [uc_grp]
@[simp] theorem ethk_idx {F : Foot} (h : F.grp 0x2E) (a b : Nat) : F.idx (ethk a b) = true := h _ (ethk_grp _ _)

@[simp ↓] theorem State.learnAddr_kept {F : Foot} {org : State} (s : State) (a : Nat) (p : Nat) (h_eth : F.eth = true) (hk :
    Kept F org s) : Kept F org (State.learnAddr s a p) := by
  unfold State.learnAddr
  simp [hk, h_eth]

@[simp ↓] theorem State.bcastPass_kept {F : Foot} {org : State} (s : State) (p : Nat) (h_eth : F.eth = true) (h_2E : F.grp 46)
    (hk : Kept F org s) : Kept F org (State.bcastPass s p).1 := by
  unfold State.bcastPass
  simp [hk, h_eth, h_2E]

@[simp ↓] theorem frameForward_kept {F : Foot} {org : State} (p : Nat) (f : EthFrame) (s : State) (h_eth : F.eth = true) (h_2E
    : F.grp 46) (hk : Kept F org s) : Kept F org (frameForward p f s) := by
  unfold frameForward
  simp (contextual := true) (maxDischargeDepth := 60) [hk, h_eth, h_2E]

@[simp ↓] theorem State.ringSend_kept {F : Foot} {org : State} (s : State) (ports : List Nat) (kind : Nat) (h_eth : F.eth =
    true) (h_2E : F.grp 46) (hk : Kept F org s) : Kept F org (State.ringSend s ports kind) := by
  unfold State.ringSend
  simp (contextual := true) (maxDischargeDepth := 60) [hk, h_eth, h_2E]

@[simp ↓] theorem State.ringElect_kept {F : Foot} {org : State} (s : State) (h_eth : F.eth = true) (h_flt : F.flt = true)
    (h_rcd : F.rcd = true) (h_ucp : F.ucp = true) (h_28 : F.grp 40) (h_ob_11776_10 : F.idx (ob 11776 10) = true) (h_recLostCount :
    F.idx (recLostCount) = true) (h_uc_17 : F.idx (uc 17) = true) (h_uc_18 : F.idx (uc 18) = true) (hk : Kept F org s) : Kept F
    org (State.ringElect s) := by
  unfold State.ringElect
  simp (contextual := true) (maxDischargeDepth := 60) [hk, h_eth, h_flt, h_rcd, h_ucp, h_28, h_ob_11776_10, h_recLostCount, h_uc_17, h_uc_18]

@[simp ↓] theorem State.ringBlock_kept {F : Foot} {org : State} (s : State) (h_2E : F.grp 46) (hk : Kept F org s) : Kept F org
    (State.ringBlock s) := by
  unfold State.ringBlock
  simp (contextual := true) (maxDischargeDepth := 60) [hk, h_2E]

@[simp ↓] theorem State.ringClose_kept {F : Foot} {org : State} (s : State) (h_eth : F.eth = true) (h_flt : F.flt = true)
    (h_rcd : F.rcd = true) (h_ucp : F.ucp = true) (h_28 : F.grp 40) (h_2E : F.grp 46) (h_recLostCount : F.idx (recLostCount) =
    true) (hk : Kept F org s) : Kept F org (State.ringClose s) := by
  unfold State.ringClose
  simp (contextual := true) (maxDischargeDepth := 60) [hk, h_eth, h_flt, h_rcd, h_ucp, h_28, h_2E, h_recLostCount]

@[simp ↓] theorem State.ringOpen_kept {F : Foot} {org : State} (s : State) (h_eth : F.eth = true) (h_flt : F.flt = true)
    (h_rcd : F.rcd = true) (h_ucp : F.ucp = true) (h_28 : F.grp 40) (h_2E : F.grp 46) (h_recLostCount : F.idx (recLostCount) =
    true) (hk : Kept F org s) : Kept F org (State.ringOpen s) := by
  unfold State.ringOpen
  simp (contextual := true) (maxDischargeDepth := 60) [hk, h_eth, h_flt, h_rcd, h_ucp, h_28, h_2E, h_recLostCount]

@[simp ↓] theorem ringTest_kept {F : Foot} {org : State} (s : State) (h_eth : F.eth = true) (h_flt : F.flt = true) (h_rcd :
    F.rcd = true) (h_timers : F.timers = true) (h_ucp : F.ucp = true) (h_28 : F.grp 40) (h_2E : F.grp 46) (h_recLostCount : F.idx
    (recLostCount) = true) (hk : Kept F org s) : Kept F org (ringTest s) := by
  unfold ringTest
  simp (contextual := true) (maxDischargeDepth := 60) [hk, h_eth, h_flt, h_rcd, h_timers, h_ucp, h_28, h_2E, h_recLostCount]

@[simp ↓] theorem ringFrame_kept {F : Foot} {org : State} (p : Nat) (kind : Nat) (node : Nat) (s : State) (h_eth : F.eth =
    true) (h_flt : F.flt = true) (h_rcd : F.rcd = true) (h_ucp : F.ucp = true) (h_24 : F.grp 36) (h_28 : F.grp 40) (h_2E : F.grp
    46) (h_recLostCount : F.idx (recLostCount) = true) (hk : Kept F org s) : Kept F org (ringFrame p kind node s) := by
  unfold ringFrame
  simp (contextual := true) (maxDischargeDepth := 60) [hk, h_eth, h_flt, h_rcd, h_ucp, h_24, h_28, h_2E, h_recLostCount]

@[simp ↓] theorem ringTestTimeout_kept {F : Foot} {org : State} (s : State) (h_eth : F.eth = true) (h_flt : F.flt = true)
    (h_rcd : F.rcd = true) (h_ucp : F.ucp = true) (h_28 : F.grp 40) (h_2E : F.grp 46) (h_recLostCount : F.idx (recLostCount) =
    true) (hk : Kept F org s) : Kept F org (ringTestTimeout s) := by
  unfold ringTestTimeout
  simp [hk, h_eth, h_flt, h_rcd, h_ucp, h_28, h_2E, h_recLostCount]

@[simp ↓] theorem ringManagerTimeout_kept {F : Foot} {org : State} (s : State) (h_eth : F.eth = true) (h_flt : F.flt = true)
    (h_rcd : F.rcd = true) (h_ucp : F.ucp = true) (h_28 : F.grp 40) (h_ob_11776_10 : F.idx (ob 11776 10) = true) (h_recLostCount :
    F.idx (recLostCount) = true) (h_uc_17 : F.idx (uc 17) = true) (h_uc_18 : F.idx (uc 18) = true) (hk : Kept F org s) : Kept F
    org (ringManagerTimeout s) := by
  unfold ringManagerTimeout
  simp [hk, h_eth, h_flt, h_rcd, h_ucp, h_28, h_ob_11776_10, h_recLostCount, h_uc_17, h_uc_18]

@[simp ↓] theorem linkDown_kept {F : Foot} {org : State} (p : Nat) (s : State) (h_eth : F.eth = true) (h_flt : F.flt = true)
    (h_rcd : F.rcd = true) (h_ucp : F.ucp = true) (h_28 : F.grp 40) (h_2E : F.grp 46) (h_recLostCount : F.idx (recLostCount) =
    true) (hk : Kept F org s) : Kept F org (linkDown p s) := by
  unfold linkDown
  simp (contextual := true) (maxDischargeDepth := 60) [hk, h_eth, h_flt, h_rcd, h_ucp, h_28, h_2E, h_recLostCount]

@[simp ↓] theorem linkUp_kept {F : Foot} {org : State} (p : Nat) (quality : Nat) (s : State) (h_eth : F.eth = true) (h_flt :
    F.flt = true) (h_rcd : F.rcd = true) (h_ucp : F.ucp = true) (h_28 : F.grp 40) (h_2E : F.grp 46) (h_recLostCount : F.idx
    (recLostCount) = true) (hk : Kept F org s) : Kept F org (linkUp p quality s) := by
  unfold linkUp
  simp (contextual := true) (maxDischargeDepth := 60) [hk, h_eth, h_flt, h_rcd, h_ucp, h_28, h_2E, h_recLostCount]

@[simp ↓] theorem State.ethSeal_kept {F : Foot} {org : State} (s : State) (h_eth : F.eth = true) (h_flt : F.flt = true) (h_rcd
    : F.rcd = true) (h_timers : F.timers = true) (h_ucp : F.ucp = true) (h_28 : F.grp 40) (h_2E : F.grp 46) (h_recLostCount :
    F.idx (recLostCount) = true) (hk : Kept F org s) : Kept F org (State.ethSeal s) := by
  unfold State.ethSeal
  simp (contextual := true) (maxDischargeDepth := 60) [hk, h_eth, h_flt, h_rcd, h_timers, h_ucp, h_28, h_2E, h_recLostCount]

@[simp ↓] theorem icmpReceive_kept {F : Foot} {org : State} (p : Nat) (typ : Nat) (src : Nat) (target : Nat) (data : List
    Byte) (s : State) (h_eth : F.eth = true) (h_2E : F.grp 46) (hk : Kept F org s) : Kept F org (icmpReceive p typ src target data
    s) := by
  unfold icmpReceive
  (repeat' split) <;> simp (contextual := true) (maxDischargeDepth := 60) [hk, h_eth, h_2E]

@[simp ↓] theorem syncSend_kept {F : Foot} {org : State} (p : Nat) (s : State) (h_eth : F.eth = true) (h_timers : F.timers =
    true) (h_2E : F.grp 46) (hk : Kept F org s) : Kept F org (syncSend p s) := by
  unfold syncSend
  simp (contextual := true) (maxDischargeDepth := 60) [hk, h_eth, h_timers, h_2E]

@[simp ↓] theorem State.gptpAnnounce_kept {F : Foot} {org : State} (s : State) (p : Nat) (m : GptpMsg) (h_eth : F.eth = true)
    (hk : Kept F org s) : Kept F org (State.gptpAnnounce s p m) := by
  unfold State.gptpAnnounce
  simp [hk, h_eth]

@[simp ↓] theorem gptpReceive_kept {F : Foot} {org : State} (p : Nat) (m : GptpMsg) (s : State) (h_eth : F.eth = true) (h_tm :
    F.tm = true) (h_2E : F.grp 46) (hk : Kept F org s) : Kept F org (gptpReceive p m s) := by
  unfold gptpReceive
  simp (contextual := true) (maxDischargeDepth := 60) [hk, h_eth, h_tm, h_2E]

@[simp ↓] theorem State.ethBlock_kept {F : Foot} {org : State} (s : State) (h_eth : F.eth = true) (hk : Kept F org s) : Kept F
    org (State.ethBlock s) := by
  unfold State.ethBlock
  simp [hk, h_eth]

@[simp ↓] theorem State.ethDrop_kept {F : Foot} {org : State} (s : State) (h_eth : F.eth = true) (h_timers : F.timers = true)
    (h_2E : F.grp 46) (hk : Kept F org s) : Kept F org (State.ethDrop s) := by
  unfold State.ethDrop
  simp (contextual := true) (maxDischargeDepth := 60) [hk, h_eth, h_timers, h_2E]

end Sys2Proof.Machine
end

