-- ==== Sys2Proof/Laws/KeptCan.lean ====
section
/-! SUPPORT. Footprints of CAN. -/

set_option linter.unusedSimpArgs false
set_option linter.unusedVariables false

namespace Sys2Proof.Machine

open Sys2Proof

@[simp] theorem cank_grp (a b : Nat) : cank a b / 65536 = 0x2B := by unfold cank; rw [ob_grp]; omega
@[simp] theorem cank_idx {F : Foot} (h : F.grp 0x2B) (a b : Nat) : F.idx (cank a b) = true := h _ (cank_grp _ _)

@[simp ↓] theorem State.followAny_kept {F : Foot} {org : State} (s : State) (src : Nat) (cond : Nat → Bool) (p : Nat) (h_flt :
    F.flt = true) (h_rcd : F.rcd = true) (h_ucp : F.ucp = true) (h_28 : F.grp 40) (h_ob_11776_10 : F.idx (ob 11776 10) = true)
    (h_recLostCount : F.idx (recLostCount) = true) (hk : Kept F org s) : Kept F org (State.followAny s src cond p) := by
  unfold State.followAny
  simp [hk, h_flt, h_rcd, h_ucp, h_28, h_ob_11776_10, h_recLostCount]

@[simp ↓] theorem State.busFollow_kept {F : Foot} {org : State} (s : State) (p : Nat) (h_flt : F.flt = true) (h_rcd : F.rcd =
    true) (h_ucp : F.ucp = true) (h_28 : F.grp 40) (h_ob_11776_10 : F.idx (ob 11776 10) = true) (h_recLostCount : F.idx
    (recLostCount) = true) (hk : Kept F org s) : Kept F org (State.busFollow s p) := by
  unfold State.busFollow
  simp [hk, h_flt, h_rcd, h_ucp, h_28, h_ob_11776_10, h_recLostCount]

@[simp ↓] theorem State.setCanState_kept {F : Foot} {org : State} (s : State) (p : Nat) (st : Nat) (h_flt : F.flt = true)
    (h_rcd : F.rcd = true) (h_ucp : F.ucp = true) (h_cank20 : ∀ p, F.idx (cank p 20) = true) (h_28 : F.grp 40) (h_ob_11776_10 :
    F.idx (ob 11776 10) = true) (h_recLostCount : F.idx (recLostCount) = true) (hk : Kept F org s) : Kept F org (State.setCanState
    s p st) := by
  unfold State.setCanState
  simp [hk, h_flt, h_rcd, h_ucp, h_cank20, h_28, h_ob_11776_10, h_recLostCount]

@[simp ↓] theorem State.addrFollow_kept {F : Foot} {org : State} (s : State) (p : Nat) (h_flt : F.flt = true) (h_rcd : F.rcd =
    true) (h_ucp : F.ucp = true) (h_28 : F.grp 40) (h_ob_11776_10 : F.idx (ob 11776 10) = true) (h_recLostCount : F.idx
    (recLostCount) = true) (hk : Kept F org s) : Kept F org (State.addrFollow s p) := by
  unfold State.addrFollow
  simp [hk, h_flt, h_rcd, h_ucp, h_28, h_ob_11776_10, h_recLostCount]

@[simp ↓] theorem State.startClaim_kept {F : Foot} {org : State} (s : State) (p : Nat) (h_can : F.can = true) (h_flt : F.flt =
    true) (h_rcd : F.rcd = true) (h_ucp : F.ucp = true) (h_cank53 : ∀ p, F.idx (cank p 53) = true) (h_cank54 : ∀ p, F.idx (cank p
    54) = true) (h_28 : F.grp 40) (h_ob_11776_10 : F.idx (ob 11776 10) = true) (h_recLostCount : F.idx (recLostCount) = true) (hk
    : Kept F org s) : Kept F org (State.startClaim s p) := by
  unfold State.startClaim
  simp (contextual := true) (maxDischargeDepth := 60) [hk, h_can, h_flt, h_rcd, h_ucp, h_cank53, h_cank54, h_28, h_ob_11776_10, h_recLostCount]

@[simp ↓] theorem State.enterNormal_kept {F : Foot} {org : State} (s : State) (p : Nat) (h_can : F.can = true) (h_flt : F.flt
    = true) (h_rcd : F.rcd = true) (h_ucp : F.ucp = true) (h_cank20 : ∀ p, F.idx (cank p 20) = true) (h_cank53 : ∀ p, F.idx (cank
    p 53) = true) (h_cank54 : ∀ p, F.idx (cank p 54) = true) (h_28 : F.grp 40) (h_ob_11776_10 : F.idx (ob 11776 10) = true)
    (h_recLostCount : F.idx (recLostCount) = true) (hk : Kept F org s) : Kept F org (State.enterNormal s p) := by
  unfold State.enterNormal
  simp [hk, h_can, h_flt, h_rcd, h_ucp, h_cank20, h_cank53, h_cank54, h_28, h_ob_11776_10, h_recLostCount]

@[simp ↓] theorem State.integrate_kept {F : Foot} {org : State} (s : State) (p : Nat) (h_can : F.can = true) (h_flt : F.flt =
    true) (h_rcd : F.rcd = true) (h_ucp : F.ucp = true) (h_cank20 : ∀ p, F.idx (cank p 20) = true) (h_28 : F.grp 40)
    (h_ob_11776_10 : F.idx (ob 11776 10) = true) (h_recLostCount : F.idx (recLostCount) = true) (hk : Kept F org s) : Kept F org
    (State.integrate s p) := by
  unfold State.integrate
  simp [hk, h_can, h_flt, h_rcd, h_ucp, h_cank20, h_28, h_ob_11776_10, h_recLostCount]

@[simp ↓] theorem State.settlePort_kept {F : Foot} {org : State} (s : State) (p : Nat) (h_can : F.can = true) (h_flt : F.flt =
    true) (h_rcd : F.rcd = true) (h_ucp : F.ucp = true) (h_cank20 : ∀ p, F.idx (cank p 20) = true) (h_cank53 : ∀ p, F.idx (cank p
    53) = true) (h_cank54 : ∀ p, F.idx (cank p 54) = true) (h_28 : F.grp 40) (h_ob_11776_10 : F.idx (ob 11776 10) = true)
    (h_recLostCount : F.idx (recLostCount) = true) (hk : Kept F org s) : Kept F org (State.settlePort s p) := by
  unfold State.settlePort
  simp [hk, h_can, h_flt, h_rcd, h_ucp, h_cank20, h_cank53, h_cank54, h_28, h_ob_11776_10, h_recLostCount]

@[simp ↓] theorem State.noteError_kept {F : Foot} {org : State} (s : State) (p : Nat) (err : Nat) (h_can : F.can = true)
    (h_flt : F.flt = true) (h_rcd : F.rcd = true) (h_ucp : F.ucp = true) (h_cank24 : ∀ p, F.idx (cank p 24) = true) (h_cank25 : ∀
    p, F.idx (cank p 25) = true) (h_28 : F.grp 40) (h_ob_11776_10 : F.idx (ob 11776 10) = true) (h_recLostCount : F.idx
    (recLostCount) = true) (hk : Kept F org s) : Kept F org (State.noteError s p err) := by
  unfold State.noteError
  simp (contextual := true) (maxDischargeDepth := 60) [hk, h_can, h_flt, h_rcd, h_ucp, h_cank24, h_cank25, h_28, h_ob_11776_10, h_recLostCount]

@[simp ↓] theorem State.rxError_kept {F : Foot} {org : State} (s : State) (p : Nat) (err : Nat) (h_can : F.can = true) (h_flt
    : F.flt = true) (h_rcd : F.rcd = true) (h_ucp : F.ucp = true) (h_cank20 : ∀ p, F.idx (cank p 20) = true) (h_cank22 : ∀ p,
    F.idx (cank p 22) = true) (h_cank24 : ∀ p, F.idx (cank p 24) = true) (h_cank25 : ∀ p, F.idx (cank p 25) = true) (h_28 : F.grp
    40) (h_ob_11776_10 : F.idx (ob 11776 10) = true) (h_recLostCount : F.idx (recLostCount) = true) (hk : Kept F org s) : Kept F
    org (State.rxError s p err) := by
  unfold State.rxError
  simp (contextual := true) (maxDischargeDepth := 60) [hk, h_can, h_flt, h_rcd, h_ucp, h_cank20, h_cank22, h_cank24, h_cank25, h_28, h_ob_11776_10, h_recLostCount]

@[simp ↓] theorem State.recGood_kept {F : Foot} {org : State} (s : State) (p : Nat) (h_flt : F.flt = true) (h_free : F.free =
    true) (h_rcd : F.rcd = true) (h_ucp : F.ucp = true) (h_cank20 : ∀ p, F.idx (cank p 20) = true) (h_cank22 : ∀ p, F.idx (cank p
    22) = true) (h_28 : F.grp 40) (h_ob_11776_10 : F.idx (ob 11776 10) = true) (h_recLostCount : F.idx (recLostCount) = true) (hk
    : Kept F org s) : Kept F org (State.recGood s p) := by
  unfold State.recGood
  simp (contextual := true) (maxDischargeDepth := 60) [hk, h_flt, h_free, h_rcd, h_ucp, h_cank20, h_cank22, h_28, h_ob_11776_10, h_recLostCount]

@[simp ↓] theorem hTableApply_kept {F : Foot} (h_can : F.can = true) (h_2C : F.grp 44) (h_ob_12288_4 : F.idx (ob 12288 4) =
    true) : (hTableApply).Stays F := by
  unfold hTableApply
  refine Handler.simple_stays _ fun m s w v hk => ?_
  simp only []
  (repeat' split) <;> simp (contextual := true) (maxDischargeDepth := 60) [hk, h_can, h_2C, h_ob_12288_4]

@[simp ↓] theorem State.showObj_kept {F : Foot} {org : State} (s : State) (o : CanObj) (x : CanObjSt) (h_can : F.can = true)
    (hk : Kept F org s) : Kept F org (State.showObj s o x) := by
  unfold State.showObj
  simp [hk, h_can]

@[simp ↓] theorem State.showAll_kept {F : Foot} {org : State} (s : State) (h_can : F.can = true) (hk : Kept F org s) : Kept F
    org (State.showAll s) := by
  unfold State.showAll
  simp (contextual := true) (maxDischargeDepth := 60) [hk, h_can]

@[simp ↓] theorem State.putTable_kept {F : Foot} {org : State} (s : State) (p : Nat) (b : List Byte) (h_can : F.can = true)
    (h_2C : F.grp 44) (hk : Kept F org s) : Kept F org (State.putTable s p b) := by
  unfold State.putTable
  simp (contextual := true) (maxDischargeDepth := 60) [hk, h_can, h_2C]

@[simp ↓] theorem State.logEntry_kept {F : Foot} {org : State} (s : State) (p : Nat) (kind : Nat) (obj : Nat) (len : Nat) (mt
    : Nat) (idw : Nat) (w14 : Nat) (data : List Byte) (h_can : F.can = true) (h_cank65 : ∀ p, F.idx (cank p 65) = true) (hk : Kept
    F org s) : Kept F org (State.logEntry s p kind obj len mt idw w14 data) := by
  unfold State.logEntry
  simp [hk, h_can, h_cank65]

@[simp ↓] theorem State.logFrame_kept {F : Foot} {org : State} (s : State) (p : Nat) (obj : Nat) (f : CanFrame) (h_can : F.can
    = true) (h_cank65 : ∀ p, F.idx (cank p 65) = true) (hk : Kept F org s) : Kept F org (State.logFrame s p obj f) := by
  unfold State.logFrame
  simp [hk, h_can, h_cank65]

@[simp ↓] theorem State.logMore_kept {F : Foot} {org : State} (s : State) (p : Nat) (mt : Nat) (idw : Nat) (w14 : Nat) (x5 :
    Nat) (x6 : List Byte) (h_can : F.can = true) (h_cank65 : ∀ p, F.idx (cank p 65) = true) (hk : Kept F org s) : Kept F org
    (State.logMore s p mt idw w14 x5 x6) := by
  induction x5 generalizing s x6 with
  | zero => exact hk
  | succ n ih => unfold State.logMore; split; exacts [hk, ih _ _ (by simp [*])]

@[simp ↓] theorem State.logMessage_kept {F : Foot} {org : State} (s : State) (p : Nat) (mt : Nat) (pgn : Nat) (sa : Nat) (da :
    Nat) (prio : Nat) (d : List Byte) (h_can : F.can = true) (h_cank65 : ∀ p, F.idx (cank p 65) = true) (hk : Kept F org s) : Kept
    F org (State.logMessage s p mt pgn sa da prio d) := by
  unfold State.logMessage
  simp [hk, h_can, h_cank65]

@[simp ↓] theorem State.txPush_kept {F : Foot} {org : State} (s : State) (p : Nat) (i : TxInst) (h_can : F.can = true) (hk :
    Kept F org s) : Kept F org (State.txPush s p i) := by
  unfold State.txPush
  simp [hk, h_can]

@[simp ↓] theorem State.isoPush_kept {F : Foot} {org : State} (s : State) (p : Nat) (kind : Nat) (prio : Nat) (pf : Nat) (ps :
    Nat) (d : List Byte) (h_can : F.can = true) (hk : Kept F org s) : Kept F org (State.isoPush s p kind prio pf ps d) := by
  unfold State.isoPush
  simp [hk, h_can]

@[simp ↓] theorem State.claimFrame_kept {F : Foot} {org : State} (s : State) (p : Nat) (sa : Nat) (h_can : F.can = true) (hk :
    Kept F org s) : Kept F org (State.claimFrame s p sa) := by
  unfold State.claimFrame
  simp [hk, h_can]

@[simp ↓] theorem State.contend_kept {F : Foot} {org : State} (s : State) (p : Nat) (sa : Nat) (name : Nat) (h_can : F.can =
    true) (h_cank53 : ∀ p, F.idx (cank p 53) = true) (h_cank54 : ∀ p, F.idx (cank p 54) = true) (hk : Kept F org s) : Kept F org
    (State.contend s p sa name) := by
  unfold State.contend
  simp only []
  (repeat' split) <;> simp (contextual := true) (maxDischargeDepth := 60) [hk, h_can, h_cank53, h_cank54]

@[simp ↓] theorem claimSend_kept {F : Foot} {org : State} (p : Nat) (s : State) (h_can : F.can = true) (hk : Kept F org s) :
    Kept F org (claimSend p s) := by
  unfold claimSend
  simp [hk, h_can]

@[simp ↓] theorem addressHeld_kept {F : Foot} {org : State} (p : Nat) (s : State) (h_cank53 : ∀ p, F.idx (cank p 53) = true)
    (h_cank54 : ∀ p, F.idx (cank p 54) = true) (hk : Kept F org s) : Kept F org (addressHeld p s) := by
  unfold addressHeld
  simp [hk, h_cank53, h_cank54]

@[simp ↓] theorem cannotClaim_kept {F : Foot} {org : State} (p : Nat) (s : State) (h_can : F.can = true) (h_flt : F.flt =
    true) (h_rcd : F.rcd = true) (h_ucp : F.ucp = true) (h_cank54 : ∀ p, F.idx (cank p 54) = true) (h_28 : F.grp 40)
    (h_ob_11776_10 : F.idx (ob 11776 10) = true) (h_recLostCount : F.idx (recLostCount) = true) (hk : Kept F org s) : Kept F org
    (cannotClaim p s) := by
  unfold cannotClaim
  simp (contextual := true) (maxDischargeDepth := 60) [hk, h_can, h_flt, h_rcd, h_ucp, h_cank54, h_28, h_ob_11776_10, h_recLostCount]

@[simp ↓] theorem State.answerClaim_kept {F : Foot} {org : State} (s : State) (p : Nat) (h_can : F.can = true) (hk : Kept F
    org s) : Kept F org (State.answerClaim s p) := by
  unfold State.answerClaim
  simp [hk, h_can]

@[simp ↓] theorem State.setSess_kept {F : Foot} {org : State} (s : State) (p : Nat) (l : List TpSess) (h_can : F.can = true)
    (h_cank61 : ∀ p, F.idx (cank p 61) = true) (hk : Kept F org s) : Kept F org (State.setSess s p l) := by
  unfold State.setSess
  simp [hk, h_can, h_cank61]

@[simp ↓] theorem State.dropSess_kept {F : Foot} {org : State} (s : State) (p : Nat) (tx : Bool) (bam : Bool) (peer : Nat)
    (h_can : F.can = true) (h_cank61 : ∀ p, F.idx (cank p 61) = true) (hk : Kept F org s) : Kept F org (State.dropSess s p tx bam
    peer) := by
  unfold State.dropSess
  simp [hk, h_can, h_cank61]

@[simp ↓] theorem State.putSess_kept {F : Foot} {org : State} (s : State) (p : Nat) (x : TpSess) (h_can : F.can = true)
    (h_cank61 : ∀ p, F.idx (cank p 61) = true) (hk : Kept F org s) : Kept F org (State.putSess s p x) := by
  unfold State.putSess
  simp [hk, h_can, h_cank61]

@[simp ↓] theorem State.tpAbort_kept {F : Foot} {org : State} (s : State) (p : Nat) (etp : Bool) (peer : Nat) (pgn : Nat)
    (reason : Nat) (h_can : F.can = true) (hk : Kept F org s) : Kept F org (State.tpAbort s p etp peer pgn reason) := by
  unfold State.tpAbort
  simp [hk, h_can]

@[simp ↓] theorem State.tpGrant_kept {F : Foot} {org : State} (s : State) (p : Nat) (x : TpSess) (h_can : F.can = true)
    (h_cank61 : ∀ p, F.idx (cank p 61) = true) (hk : Kept F org s) : Kept F org (State.tpGrant s p x) := by
  unfold State.tpGrant
  simp [hk, h_can, h_cank61]

@[simp ↓] theorem State.tpRts_kept {F : Foot} {org : State} (s : State) (p : Nat) (etp : Bool) (peer : Nat) (pgn : Nat) (prio
    : Nat) (total : Nat) (h_can : F.can = true) (h_cank61 : ∀ p, F.idx (cank p 61) = true) (hk : Kept F org s) : Kept F org
    (State.tpRts s p etp peer pgn prio total) := by
  unfold State.tpRts
  simp [hk, h_can, h_cank61]

@[simp ↓] theorem State.tpDone_kept {F : Foot} {org : State} (s : State) (p : Nat) (sof : Nat) (x : TpSess) (h_can : F.can =
    true) (h_cank61 : ∀ p, F.idx (cank p 61) = true) (h_cank65 : ∀ p, F.idx (cank p 65) = true) (hk : Kept F org s) : Kept F org
    (State.tpDone s p sof x) := by
  unfold State.tpDone
  simp [hk, h_can, h_cank61, h_cank65]

@[simp ↓] theorem State.tpData_kept {F : Foot} {org : State} (s : State) (p : Nat) (sof : Nat) (x : TpSess) (d : List Byte)
    (h_can : F.can = true) (h_cank61 : ∀ p, F.idx (cank p 61) = true) (h_cank65 : ∀ p, F.idx (cank p 65) = true) (hk : Kept F org
    s) : Kept F org (State.tpData s p sof x d) := by
  unfold State.tpData
  simp [hk, h_can, h_cank61, h_cank65]

@[simp ↓] theorem State.isoEnds_kept {F : Foot} {org : State} (s : State) (p : Nat) (reason : Nat) (h_can : F.can = true) (hk
    : Kept F org s) : Kept F org (State.isoEnds s p reason) := by
  unfold State.isoEnds
  simp [hk, h_can]

@[simp ↓] theorem State.tpSend_kept {F : Foot} {org : State} (s : State) (p : Nat) (x : TpSess) (seq : Nat) (x4 : Nat) (x5 :
    Nat) (h_can : F.can = true) (hk : Kept F org s) : Kept F org (State.tpSend s p x seq x4 x5) := by
  induction x4 generalizing s x5 seq with
  | zero => exact hk
  | succ n ih => unfold State.tpSend; exact ih _ _ _ (by simp [*])

@[simp ↓] theorem State.tpCleared_kept {F : Foot} {org : State} (s : State) (p : Nat) (x : TpSess) (n : Nat) (next : Nat)
    (h_can : F.can = true) (h_cank61 : ∀ p, F.idx (cank p 61) = true) (hk : Kept F org s) : Kept F org (State.tpCleared s p x n
    next) := by
  unfold State.tpCleared
  simp (contextual := true) (maxDischargeDepth := 60) [hk, h_can, h_cank61]

@[simp ↓] theorem State.tpControl_kept {F : Foot} {org : State} (s : State) (p : Nat) (etp : Bool) (sa : Nat) (da : Nat) (prio
    : Nat) (d : List Byte) (h_can : F.can = true) (h_cank61 : ∀ p, F.idx (cank p 61) = true) (hk : Kept F org s) : Kept F org
    (State.tpControl s p etp sa da prio d) := by
  unfold State.tpControl
  simp only []
  (repeat' split) <;> simp (contextual := true) (maxDischargeDepth := 60) [hk, h_can, h_cank61]

@[simp ↓] theorem transportTimeout_kept {F : Foot} {org : State} (p : Nat) (tx : Bool) (bam : Bool) (peer : Nat) (s : State)
    (h_can : F.can = true) (h_cank61 : ∀ p, F.idx (cank p 61) = true) (hk : Kept F org s) : Kept F org (transportTimeout p tx bam
    peer s) := by
  unfold transportTimeout
  (repeat' split) <;> simp (contextual := true) (maxDischargeDepth := 60) [hk, h_can, h_cank61]

@[simp ↓] theorem State.isoTake_kept {F : Foot} {org : State} (s : State) (p : Nat) (f : CanFrame) (h_can : F.can = true)
    (h_cank53 : ∀ p, F.idx (cank p 53) = true) (h_cank54 : ∀ p, F.idx (cank p 54) = true) (h_cank61 : ∀ p, F.idx (cank p 61) =
    true) (h_cank65 : ∀ p, F.idx (cank p 65) = true) (hk : Kept F org s) : Kept F org (State.isoTake s p f).1 := by
  unfold State.isoTake
  simp only []
  (repeat' split) <;> simp (contextual := true) (maxDischargeDepth := 60) [hk, h_can, h_cank53, h_cank54, h_cank61, h_cank65]

@[simp ↓] theorem State.timeFollow_kept {F : Foot} {org : State} (s : State) (p : Nat) (h_flt : F.flt = true) (h_rcd : F.rcd =
    true) (h_ucp : F.ucp = true) (h_28 : F.grp 40) (h_ob_11776_10 : F.idx (ob 11776 10) = true) (h_recLostCount : F.idx
    (recLostCount) = true) (hk : Kept F org s) : Kept F org (State.timeFollow s p) := by
  unfold State.timeFollow
  simp [hk, h_flt, h_rcd, h_ucp, h_28, h_ob_11776_10, h_recLostCount]

@[simp ↓] theorem State.refReceive_kept {F : Foot} {org : State} (s : State) (p : Nat) (f : CanFrame) (h_can : F.can = true)
    (h_flt : F.flt = true) (h_rcd : F.rcd = true) (h_ucp : F.ucp = true) (h_cank44 : ∀ p, F.idx (cank p 44) = true) (h_cank45 : ∀
    p, F.idx (cank p 45) = true) (h_cank46 : ∀ p, F.idx (cank p 46) = true) (h_cank47 : ∀ p, F.idx (cank p 47) = true) (h_28 :
    F.grp 40) (h_ob_11776_10 : F.idx (ob 11776 10) = true) (h_recLostCount : F.idx (recLostCount) = true) (hk : Kept F org s) :
    Kept F org (State.refReceive s p f) := by
  unfold State.refReceive
  (repeat' split) <;> simp (contextual := true) (maxDischargeDepth := 60) [hk, h_can, h_flt, h_rcd, h_ucp, h_cank44, h_cank45, h_cank46, h_cank47, h_28, h_ob_11776_10, h_recLostCount]

@[simp ↓] theorem canTimeLost_kept {F : Foot} {org : State} (p : Nat) (s : State) (h_flt : F.flt = true) (h_rcd : F.rcd =
    true) (h_ucp : F.ucp = true) (h_cank45 : ∀ p, F.idx (cank p 45) = true) (h_28 : F.grp 40) (h_ob_11776_10 : F.idx (ob 11776 10)
    = true) (h_recLostCount : F.idx (recLostCount) = true) (hk : Kept F org s) : Kept F org (canTimeLost p s) := by
  unfold canTimeLost
  simp [hk, h_flt, h_rcd, h_ucp, h_cank45, h_28, h_ob_11776_10, h_recLostCount]

@[simp ↓] theorem protocolException_kept {F : Foot} {org : State} (p : Nat) (s : State) (h_can : F.can = true) (h_flt : F.flt
    = true) (h_rcd : F.rcd = true) (h_ucp : F.ucp = true) (h_cank20 : ∀ p, F.idx (cank p 20) = true) (h_cank28 : ∀ p, F.idx (cank
    p 28) = true) (h_28 : F.grp 40) (h_ob_11776_10 : F.idx (ob 11776 10) = true) (h_recLostCount : F.idx (recLostCount) = true)
    (hk : Kept F org s) : Kept F org (protocolException p s) := by
  unfold protocolException
  simp [hk, h_can, h_flt, h_rcd, h_ucp, h_cank20, h_cank28, h_28, h_ob_11776_10, h_recLostCount]

@[simp ↓] theorem State.objReceive_kept {F : Foot} {org : State} (s : State) (p : Nat) (n : Nat) (o : CanObj) (f : CanFrame)
    (h_can : F.can = true) (h_cank65 : ∀ p, F.idx (cank p 65) = true) (hk : Kept F org s) : Kept F org (State.objReceive s p n o
    f) := by
  unfold State.objReceive
  simp (contextual := true) (maxDischargeDepth := 60) [hk, h_can, h_cank65]

@[simp ↓] theorem State.foreign_kept {F : Foot} {org : State} (s : State) (p : Nat) (f : CanFrame) (h_can : F.can = true)
    (h_cank30 : ∀ p, F.idx (cank p 30) = true) (hk : Kept F org s) : Kept F org (State.foreign s p f) := by
  unfold State.foreign
  simp (contextual := true) (maxDischargeDepth := 60) [hk, h_can, h_cank30]

@[simp ↓] theorem State.offer_kept {F : Foot} {org : State} (s : State) (p : Nat) (f : CanFrame) (h_can : F.can = true) (h_eth
    : F.eth = true) (h_flt : F.flt = true) (h_rcd : F.rcd = true) (h_sec : F.sec = true) (h_ucp : F.ucp = true) (h_28 : F.grp 40)
    (h_2B : F.grp 43) (h_ob_11776_10 : F.idx (ob 11776 10) = true) (h_recLostCount : F.idx (recLostCount) = true) (h_uc_11 : F.idx
    (uc 11) = true) (h_uc_15 : F.idx (uc 15) = true) (h_uc_5 : F.idx (uc 5) = true) (h_uc_6 : F.idx (uc 6) = true) (h_uc_7 : F.idx
    (uc 7) = true) (h_uc_8 : F.idx (uc 8) = true) (h_uc_9 : F.idx (uc 9) = true) (hk : Kept F org s) : Kept F org (State.offer s p
    f) := by
  unfold State.offer
  simp only []
  (repeat' split) <;> simp (contextual := true) (maxDischargeDepth := 60) [hk, h_can, h_eth, h_flt, h_rcd, h_sec, h_ucp, h_28, h_2B, h_ob_11776_10, h_recLostCount, h_uc_11, h_uc_15, h_uc_5, h_uc_6, h_uc_7, h_uc_8, h_uc_9]

@[simp ↓] theorem State.leaveJoin_kept {F : Foot} {org : State} (s : State) (p : Nat) (h_can : F.can = true) (h_flt : F.flt =
    true) (h_rcd : F.rcd = true) (h_ucp : F.ucp = true) (h_cank20 : ∀ p, F.idx (cank p 20) = true) (h_cank53 : ∀ p, F.idx (cank p
    53) = true) (h_cank54 : ∀ p, F.idx (cank p 54) = true) (h_28 : F.grp 40) (h_ob_11776_10 : F.idx (ob 11776 10) = true)
    (h_recLostCount : F.idx (recLostCount) = true) (hk : Kept F org s) : Kept F org (State.leaveJoin s p) := by
  unfold State.leaveJoin
  simp (contextual := true) (maxDischargeDepth := 60) [hk, h_can, h_flt, h_rcd, h_ucp, h_cank20, h_cank53, h_cank54, h_28, h_ob_11776_10, h_recLostCount]

@[simp ↓] theorem frameReceive_kept {F : Foot} {org : State} (p : Nat) (f : CanFrame) (err : Nat) (s : State) (h_can : F.can =
    true) (h_eth : F.eth = true) (h_flt : F.flt = true) (h_free : F.free = true) (h_rcd : F.rcd = true) (h_sec : F.sec = true)
    (h_ucp : F.ucp = true) (h_28 : F.grp 40) (h_2B : F.grp 43) (h_ob_11776_10 : F.idx (ob 11776 10) = true) (h_recLostCount :
    F.idx (recLostCount) = true) (h_uc_11 : F.idx (uc 11) = true) (h_uc_15 : F.idx (uc 15) = true) (h_uc_5 : F.idx (uc 5) = true)
    (h_uc_6 : F.idx (uc 6) = true) (h_uc_7 : F.idx (uc 7) = true) (h_uc_8 : F.idx (uc 8) = true) (h_uc_9 : F.idx (uc 9) = true)
    (hk : Kept F org s) : Kept F org (frameReceive p f err s) := by
  unfold frameReceive
  simp (contextual := true) (maxDischargeDepth := 60) [hk, h_can, h_eth, h_flt, h_free, h_rcd, h_sec, h_ucp, h_28, h_2B, h_ob_11776_10, h_recLostCount, h_uc_11, h_uc_15, h_uc_5, h_uc_6, h_uc_7, h_uc_8, h_uc_9]

@[simp ↓] theorem rxTimeout_kept {F : Foot} {org : State} (p : Nat) (n : Nat) (s : State) (h_can : F.can = true) (hk : Kept F
    org s) : Kept F org (rxTimeout p n s) := by
  unfold rxTimeout
  simp [hk, h_can]

@[simp ↓] theorem State.rxAssemble_kept {F : Foot} {org : State} (s : State) (h_can : F.can = true) (hk : Kept F org s) : Kept
    F org (State.rxAssemble s).1 := by
  unfold State.rxAssemble
  have step : ∀ (l : List (Nat × CanObj)) (p : Nat) (b : State × List (Nat × List Byte)), Kept F org b.1 →
      Kept F org (l.foldl (fun b e =>
        let x := (b.1.canPort p).ost e.1
        (b.1.setCanPort p (fun q => q.setOst e.1 (fun y => { y with consumed := true, lostAsm := false })),
          b.2 ++ [(0x1000 + e.2.mapOff, rxEntry e.2 x)])) b).1 := by
    intro l p
    induction l with
    | nil => exact fun b hb => hb
    | cons e l ih => exact fun b hb => ih _ (by simp [*])
  have all : ∀ (l : List Nat) (b : State × List (Nat × List Byte)), Kept F org b.1 →
      Kept F org (l.foldl (fun a p => ((a.1.canPort p).tbl.filter (fun e => decide (e.2.kind = 1) && e.2.mapped)).foldl (fun b e =>
        let x := (b.1.canPort p).ost e.1
        (b.1.setCanPort p (fun q => q.setOst e.1 (fun y => { y with consumed := true, lostAsm := false })),
          b.2 ++ [(0x1000 + e.2.mapOff, rxEntry e.2 x)])) a) b).1 := by
    intro l
    induction l with
    | nil => exact fun b hb => hb
    | cons p l ih => exact fun b hb => ih _ (step _ p b hb)
  exact all _ (s, []) hk

@[simp ↓] theorem State.queueObj_kept {F : Foot} {org : State} (s : State) (p : Nat) (n : Nat) (o : CanObj) (h_can : F.can =
    true) (hk : Kept F org s) : Kept F org (State.queueObj s p n o) := by
  unfold State.queueObj
  simp [hk, h_can]

@[simp ↓] theorem State.objDue_kept {F : Foot} {org : State} (s : State) (p : Nat) (n : Nat) (o : CanObj) (h_can : F.can =
    true) (hk : Kept F org s) : Kept F org (State.objDue s p n o) := by
  unfold State.objDue
  simp [hk, h_can]

@[simp ↓] theorem State.bamStep_kept {F : Foot} {org : State} (s : State) (p : Nat) (h_can : F.can = true) (h_cank61 : ∀ p,
    F.idx (cank p 61) = true) (hk : Kept F org s) : Kept F org (State.bamStep s p) := by
  unfold State.bamStep
  (repeat' split) <;> simp (contextual := true) (maxDischargeDepth := 60) [hk, h_can, h_cank61]

@[simp ↓] theorem State.dueSync_kept {F : Foot} {org : State} (s : State) (p : Nat) (h_can : F.can = true) (hk : Kept F org s)
    : Kept F org (State.dueSync s p) := by
  unfold State.dueSync
  simp (contextual := true) (maxDischargeDepth := 60) [hk, h_can]

@[simp ↓] theorem txDue_kept {F : Foot} {org : State} (s : State) (h_can : F.can = true) (h_cank61 : ∀ p, F.idx (cank p 61) =
    true) (hk : Kept F org s) : Kept F org (txDue s) := by
  unfold txDue
  simp (contextual := true) (maxDischargeDepth := 60) [hk, h_can, h_cank61]

@[simp ↓] theorem State.collFollow_kept {F : Foot} {org : State} (s : State) (p : Nat) (n : Nat) (h_flt : F.flt = true) (h_rcd
    : F.rcd = true) (h_ucp : F.ucp = true) (h_28 : F.grp 40) (h_ob_11776_10 : F.idx (ob 11776 10) = true) (h_recLostCount : F.idx
    (recLostCount) = true) (hk : Kept F org s) : Kept F org (State.collFollow s p n) := by
  unfold State.collFollow
  simp [hk, h_flt, h_rcd, h_ucp, h_28, h_ob_11776_10, h_recLostCount]

@[simp ↓] theorem State.txSent_kept {F : Foot} {org : State} (s : State) (p : Nat) (i : TxInst) (sof : Nat) (delay : Nat)
    (h_can : F.can = true) (h_flt : F.flt = true) (h_rcd : F.rcd = true) (h_ucp : F.ucp = true) (h_cank20 : ∀ p, F.idx (cank p 20)
    = true) (h_cank21 : ∀ p, F.idx (cank p 21) = true) (h_cank27 : ∀ p, F.idx (cank p 27) = true) (h_cank33 : ∀ p, F.idx (cank p
    33) = true) (h_cank61 : ∀ p, F.idx (cank p 61) = true) (h_28 : F.grp 40) (h_ob_11776_10 : F.idx (ob 11776 10) = true)
    (h_recLostCount : F.idx (recLostCount) = true) (hk : Kept F org s) : Kept F org (State.txSent s p i sof delay) := by
  unfold State.txSent
  (repeat' split) <;> simp (contextual := true) (maxDischargeDepth := 60) [hk, h_can, h_flt, h_rcd, h_ucp, h_cank20, h_cank21, h_cank27, h_cank33, h_cank61, h_28, h_ob_11776_10, h_recLostCount]

@[simp ↓] theorem State.countTx_kept {F : Foot} {org : State} (s : State) (p : Nat) (keep : Bool) (h_cank21 : ∀ p, F.idx (cank
    p 21) = true) (hk : Kept F org s) : Kept F org (State.countTx s p keep) := by
  unfold State.countTx
  simp [hk, h_cank21]

@[simp ↓] theorem State.collide_kept {F : Foot} {org : State} (s : State) (p : Nat) (i : TxInst) (err : Nat) (afterArb : Bool)
    (h_can : F.can = true) (h_flt : F.flt = true) (h_rcd : F.rcd = true) (h_ucp : F.ucp = true) (h_cank29 : ∀ p, F.idx (cank p 29)
    = true) (h_28 : F.grp 40) (h_ob_11776_10 : F.idx (ob 11776 10) = true) (h_recLostCount : F.idx (recLostCount) = true) (hk :
    Kept F org s) : Kept F org (State.collide s p i err afterArb) := by
  unfold State.collide
  (repeat' split) <;> simp (contextual := true) (maxDischargeDepth := 60) [hk, h_can, h_flt, h_rcd, h_ucp, h_cank29, h_28, h_ob_11776_10, h_recLostCount]

@[simp ↓] theorem State.txError_kept {F : Foot} {org : State} (s : State) (p : Nat) (i : TxInst) (err : Nat) (afterArb : Bool)
    (h_can : F.can = true) (h_flt : F.flt = true) (h_rcd : F.rcd = true) (h_ucp : F.ucp = true) (h_cank20 : ∀ p, F.idx (cank p 20)
    = true) (h_cank21 : ∀ p, F.idx (cank p 21) = true) (h_cank24 : ∀ p, F.idx (cank p 24) = true) (h_cank25 : ∀ p, F.idx (cank p
    25) = true) (h_cank29 : ∀ p, F.idx (cank p 29) = true) (h_28 : F.grp 40) (h_ob_11776_10 : F.idx (ob 11776 10) = true)
    (h_recLostCount : F.idx (recLostCount) = true) (hk : Kept F org s) : Kept F org (State.txError s p i err afterArb) := by
  have h1 : ∀ keep : Bool, Kept F org (((s.noteError p err).countTx p keep).collide p i err afterArb) := fun keep => by
    simp (maxDischargeDepth := 60) [*]
  unfold State.txError
  dsimp only
  split <;> simp (maxDischargeDepth := 60) [h1, *]

@[simp ↓] theorem frameTransmit_kept {F : Foot} {org : State} (p : Nat) (err : Nat) (afterArb : Bool) (sof : Nat) (delay :
    Nat) (s : State) (h_can : F.can = true) (h_flt : F.flt = true) (h_rcd : F.rcd = true) (h_ucp : F.ucp = true) (h_28 : F.grp 40)
    (h_2B : F.grp 43) (h_ob_11776_10 : F.idx (ob 11776 10) = true) (h_recLostCount : F.idx (recLostCount) = true) (hk : Kept F org
    s) : Kept F org (frameTransmit p err afterArb sof delay s) := by
  unfold frameTransmit
  simp only []
  (repeat' split) <;> simp (contextual := true) (maxDischargeDepth := 60) [hk, h_can, h_flt, h_rcd, h_ucp, h_28, h_2B, h_ob_11776_10, h_recLostCount]

@[simp ↓] theorem busOff_kept {F : Foot} {org : State} (p : Nat) (s : State) (h_flt : F.flt = true) (h_rcd : F.rcd = true)
    (h_ucp : F.ucp = true) (h_cank20 : ∀ p, F.idx (cank p 20) = true) (h_cank23 : ∀ p, F.idx (cank p 23) = true) (h_28 : F.grp 40)
    (h_ob_11776_10 : F.idx (ob 11776 10) = true) (h_recLostCount : F.idx (recLostCount) = true) (hk : Kept F org s) : Kept F org
    (busOff p s) := by
  unfold busOff
  simp [hk, h_flt, h_rcd, h_ucp, h_cank20, h_cank23, h_28, h_ob_11776_10, h_recLostCount]

@[simp ↓] theorem hRecovery_kept {F : Foot} (p : Nat) (h_flt : F.flt = true) (h_rcd : F.rcd = true) (h_ucp : F.ucp = true)
    (h_cank20 : ∀ p, F.idx (cank p 20) = true) (h_28 : F.grp 40) (h_ob_11776_10 : F.idx (ob 11776 10) = true) (h_recLostCount :
    F.idx (recLostCount) = true) : (hRecovery p).Stays F := by
  unfold hRecovery
  refine Handler.simple_stays _ fun m s w v hk => ?_
  (repeat' split) <;> simp (contextual := true) (maxDischargeDepth := 60) [hk, h_flt, h_rcd, h_ucp, h_cank20, h_28, h_ob_11776_10, h_recLostCount]

@[simp ↓] theorem recoveryDone_kept {F : Foot} {org : State} (p : Nat) (s : State) (h_flt : F.flt = true) (h_rcd : F.rcd =
    true) (h_ucp : F.ucp = true) (h_cank20 : ∀ p, F.idx (cank p 20) = true) (h_cank21 : ∀ p, F.idx (cank p 21) = true) (h_cank22 :
    ∀ p, F.idx (cank p 22) = true) (h_28 : F.grp 40) (h_ob_11776_10 : F.idx (ob 11776 10) = true) (h_recLostCount : F.idx
    (recLostCount) = true) (hk : Kept F org s) : Kept F org (recoveryDone p s) := by
  unfold recoveryDone
  simp (contextual := true) (maxDischargeDepth := 60) [hk, h_flt, h_rcd, h_ucp, h_cank20, h_cank21, h_cank22, h_28, h_ob_11776_10, h_recLostCount]

@[simp ↓] theorem State.loadTiming_kept {F : Foot} {org : State} (s : State) (p : Nat) (h_can : F.can = true) (h_cank13 : ∀ p,
    F.idx (cank p 13) = true) (h_cank14 : ∀ p, F.idx (cank p 14) = true) (hk : Kept F org s) : Kept F org (State.loadTiming s p)
    := by
  unfold State.loadTiming
  simp (contextual := true) (maxDischargeDepth := 60) [hk, h_can, h_cank13, h_cank14]

@[simp ↓] theorem hTiming_kept {F : Foot} (p : Nat) (h_can : F.can = true) (h_flt : F.flt = true) (h_rcd : F.rcd = true)
    (h_ucp : F.ucp = true) (h_cank13 : ∀ p, F.idx (cank p 13) = true) (h_cank14 : ∀ p, F.idx (cank p 14) = true) (h_cank20 : ∀ p,
    F.idx (cank p 20) = true) (h_28 : F.grp 40) (h_ob_11776_10 : F.idx (ob 11776 10) = true) (h_recLostCount : F.idx
    (recLostCount) = true) : (hTiming p).Stays F := by
  intro m s w v hk
  unfold hTiming
  simp (contextual := true) (maxDischargeDepth := 60) [hk, h_can, h_flt, h_rcd, h_ucp, h_cank13, h_cank14, h_cank20, h_28, h_ob_11776_10, h_recLostCount]

@[simp ↓] theorem joinEnd_kept {F : Foot} {org : State} (p : Nat) (s : State) (h_can : F.can = true) (h_flt : F.flt = true)
    (h_rcd : F.rcd = true) (h_ucp : F.ucp = true) (h_cank20 : ∀ p, F.idx (cank p 20) = true) (h_cank53 : ∀ p, F.idx (cank p 53) =
    true) (h_cank54 : ∀ p, F.idx (cank p 54) = true) (h_28 : F.grp 40) (h_ob_11776_10 : F.idx (ob 11776 10) = true)
    (h_recLostCount : F.idx (recLostCount) = true) (hk : Kept F org s) : Kept F org (joinEnd p s) := by
  unfold joinEnd
  simp [hk, h_can, h_flt, h_rcd, h_ucp, h_cank20, h_cank53, h_cank54, h_28, h_ob_11776_10, h_recLostCount]

@[simp ↓] theorem txdTimeout_kept {F : Foot} {org : State} (p : Nat) (s : State) (h_flt : F.flt = true) (h_rcd : F.rcd = true)
    (h_ucp : F.ucp = true) (h_cank32 : ∀ p, F.idx (cank p 32) = true) (h_28 : F.grp 40) (h_ob_11776_10 : F.idx (ob 11776 10) =
    true) (h_recLostCount : F.idx (recLostCount) = true) (hk : Kept F org s) : Kept F org (txdTimeout p s) := by
  unfold txdTimeout
  simp [hk, h_flt, h_rcd, h_ucp, h_cank32, h_28, h_ob_11776_10, h_recLostCount]

@[simp ↓] theorem referenceSend_kept {F : Foot} {org : State} (p : Nat) (s : State) (h_can : F.can = true) (hk : Kept F org s)
    : Kept F org (referenceSend p s) := by
  unfold referenceSend
  simp [hk, h_can]

@[simp ↓] theorem hIsoSend_kept {F : Foot} (p : Nat) (h_can : F.can = true) (h_cank57 : ∀ p, F.idx (cank p 57) = true)
    (h_cank59 : ∀ p, F.idx (cank p 59) = true) (h_cank61 : ∀ p, F.idx (cank p 61) = true) : (hIsoSend p).Stays F := by
  intro m s w v hk
  unfold hIsoSend
  simp (contextual := true) (maxDischargeDepth := 60) [hk, h_can, h_cank57, h_cank59, h_cank61]

@[simp ↓] theorem isoDone_kept {F : Foot} {org : State} (p : Nat) (s : State) (h_can : F.can = true) (h_cank59 : ∀ p, F.idx
    (cank p 59) = true) (h_cank60 : ∀ p, F.idx (cank p 60) = true) (hk : Kept F org s) : Kept F org (isoDone p s) := by
  unfold isoDone
  (repeat' split) <;> simp (contextual := true) (maxDischargeDepth := 60) [hk, h_can, h_cank59, h_cank60]

@[simp ↓] theorem hCanSet_kept {F : Foot} (p : Nat) (sub : Nat) (h_can : F.can = true) (h_2B : F.grp 43) : (hCanSet p
    sub).Stays F := by
  intro m s w v hk
  unfold hCanSet
  simp (contextual := true) (maxDischargeDepth := 60) [hk, h_can, h_2B]

@[simp ↓] theorem State.sealMode_kept {F : Foot} {org : State} (s : State) (p : Nat) (h_can : F.can = true) (h_flt : F.flt =
    true) (h_rcd : F.rcd = true) (h_ucp : F.ucp = true) (h_cank20 : ∀ p, F.idx (cank p 20) = true) (h_28 : F.grp 40)
    (h_ob_11776_10 : F.idx (ob 11776 10) = true) (h_recLostCount : F.idx (recLostCount) = true) (hk : Kept F org s) : Kept F org
    (State.sealMode s p) := by
  unfold State.sealMode
  simp [hk, h_can, h_flt, h_rcd, h_ucp, h_cank20, h_28, h_ob_11776_10, h_recLostCount]

@[simp ↓] theorem State.sealRole_kept {F : Foot} {org : State} (s : State) (p : Nat) (h_can : F.can = true) (h_flt : F.flt =
    true) (h_rcd : F.rcd = true) (h_ucp : F.ucp = true) (h_cank45 : ∀ p, F.idx (cank p 45) = true) (h_28 : F.grp 40)
    (h_ob_11776_10 : F.idx (ob 11776 10) = true) (h_recLostCount : F.idx (recLostCount) = true) (hk : Kept F org s) : Kept F org
    (State.sealRole s p) := by
  unfold State.sealRole
  simp (contextual := true) (maxDischargeDepth := 60) [hk, h_can, h_flt, h_rcd, h_ucp, h_cank45, h_28, h_ob_11776_10, h_recLostCount]

@[simp ↓] theorem State.sealIso_kept {F : Foot} {org : State} (s : State) (p : Nat) (h_can : F.can = true) (h_flt : F.flt =
    true) (h_rcd : F.rcd = true) (h_ucp : F.ucp = true) (h_cank53 : ∀ p, F.idx (cank p 53) = true) (h_cank54 : ∀ p, F.idx (cank p
    54) = true) (h_cank61 : ∀ p, F.idx (cank p 61) = true) (h_28 : F.grp 40) (h_ob_11776_10 : F.idx (ob 11776 10) = true)
    (h_recLostCount : F.idx (recLostCount) = true) (hk : Kept F org s) : Kept F org (State.sealIso s p) := by
  unfold State.sealIso
  simp (contextual := true) (maxDischargeDepth := 60) [hk, h_can, h_flt, h_rcd, h_ucp, h_cank53, h_cank54, h_cank61, h_28, h_ob_11776_10, h_recLostCount]

@[simp ↓] theorem State.sealClaim_kept {F : Foot} {org : State} (s : State) (p : Nat) (h_can : F.can = true) (h_flt : F.flt =
    true) (h_rcd : F.rcd = true) (h_ucp : F.ucp = true) (h_cank53 : ∀ p, F.idx (cank p 53) = true) (h_cank54 : ∀ p, F.idx (cank p
    54) = true) (h_28 : F.grp 40) (h_ob_11776_10 : F.idx (ob 11776 10) = true) (h_recLostCount : F.idx (recLostCount) = true) (hk
    : Kept F org s) : Kept F org (State.sealClaim s p) := by
  unfold State.sealClaim
  simp [hk, h_can, h_flt, h_rcd, h_ucp, h_cank53, h_cank54, h_28, h_ob_11776_10, h_recLostCount]

@[simp ↓] theorem State.canSealPort_kept {F : Foot} {org : State} (s : State) (p : Nat) (h_can : F.can = true) (h_flt : F.flt
    = true) (h_rcd : F.rcd = true) (h_ucp : F.ucp = true) (h_cank20 : ∀ p, F.idx (cank p 20) = true) (h_cank45 : ∀ p, F.idx (cank
    p 45) = true) (h_cank53 : ∀ p, F.idx (cank p 53) = true) (h_cank54 : ∀ p, F.idx (cank p 54) = true) (h_cank61 : ∀ p, F.idx
    (cank p 61) = true) (h_28 : F.grp 40) (h_2C : F.grp 44) (h_ob_11776_10 : F.idx (ob 11776 10) = true) (h_recLostCount : F.idx
    (recLostCount) = true) (hk : Kept F org s) : Kept F org (State.canSealPort s p) := by
  unfold State.canSealPort
  (repeat' split) <;> simp (contextual := true) (maxDischargeDepth := 60) [hk, h_can, h_flt, h_rcd, h_ucp, h_cank20, h_cank45, h_cank53, h_cank54, h_cank61, h_28, h_2C, h_ob_11776_10, h_recLostCount]

@[simp ↓] theorem State.canSeal_kept {F : Foot} {org : State} (s : State) (h_can : F.can = true) (h_flt : F.flt = true) (h_rcd
    : F.rcd = true) (h_ucp : F.ucp = true) (h_cank20 : ∀ p, F.idx (cank p 20) = true) (h_cank45 : ∀ p, F.idx (cank p 45) = true)
    (h_cank53 : ∀ p, F.idx (cank p 53) = true) (h_cank54 : ∀ p, F.idx (cank p 54) = true) (h_cank61 : ∀ p, F.idx (cank p 61) =
    true) (h_28 : F.grp 40) (h_2C : F.grp 44) (h_ob_11776_10 : F.idx (ob 11776 10) = true) (h_recLostCount : F.idx (recLostCount)
    = true) (hk : Kept F org s) : Kept F org (State.canSeal s) := by
  unfold State.canSeal
  simp (contextual := true) (maxDischargeDepth := 60) [hk, h_can, h_flt, h_rcd, h_ucp, h_cank20, h_cank45, h_cank53, h_cank54, h_cank61, h_28, h_2C, h_ob_11776_10, h_recLostCount]

@[simp ↓] theorem shadowCompare_kept {F : Foot} {org : State} (c : Nat) (differs : Bool) (hard : Bool) (s : State) (h_can :
    F.can = true) (h_sp : F.sp = true) (hk : Kept F org s) : Kept F org (shadowCompare c differs hard s) := by
  unfold shadowCompare
  simp (contextual := true) (maxDischargeDepth := 60) [hk, h_can, h_sp]

@[simp ↓] theorem shadowRotate_kept {F : Foot} {org : State} (c : Nat) (s : State) (h_can : F.can = true) (hk : Kept F org s)
    : Kept F org (shadowRotate c s) := by
  unfold shadowRotate
  simp [hk, h_can]

@[simp ↓] theorem controllerSwap_kept {F : Foot} {org : State} (p : Nat) (verify : List Bool) (dur : Nat) (transmitting :
    Bool) (s : State) (h_can : F.can = true) (h_flt : F.flt = true) (h_rcd : F.rcd = true) (h_sp : F.sp = true) (h_timers :
    F.timers = true) (h_ucp : F.ucp = true) (h_cank19 : ∀ p, F.idx (cank p 19) = true) (h_28 : F.grp 40) (h_29 : F.grp 41)
    (h_ob_11776_10 : F.idx (ob 11776 10) = true) (h_recLostCount : F.idx (recLostCount) = true) (hk : Kept F org s) : Kept F org
    (controllerSwap p verify dur transmitting s) := by
  unfold controllerSwap
  simp only []
  split <;> (try split) <;> (try (rename_i heq; have e := congrArg Prod.fst heq; dsimp only at e; subst e)) <;>
    simp (contextual := true) (maxDischargeDepth := 60) [hk, h_can, h_flt, h_rcd, h_sp, h_timers, h_ucp, h_cank19, h_28, h_29, h_ob_11776_10, h_recLostCount]

@[simp ↓] theorem portFailed_kept {F : Foot} {org : State} (p : Nat) (s : State) (h_flt : F.flt = true) (h_rcd : F.rcd = true)
    (h_sp : F.sp = true) (h_timers : F.timers = true) (h_ucp : F.ucp = true) (h_cank19 : ∀ p, F.idx (cank p 19) = true) (h_cank20
    : ∀ p, F.idx (cank p 20) = true) (h_28 : F.grp 40) (h_29 : F.grp 41) (h_ob_11776_10 : F.idx (ob 11776 10) = true)
    (h_recLostCount : F.idx (recLostCount) = true) (hk : Kept F org s) : Kept F org (portFailed p s) := by
  unfold portFailed
  simp only []
  (repeat' split) <;> simp (contextual := true) (maxDischargeDepth := 60) [hk, h_flt, h_rcd, h_sp, h_timers, h_ucp, h_cank19, h_cank20, h_28, h_29, h_ob_11776_10, h_recLostCount]

@[simp ↓] theorem State.canBlockEnd_kept {F : Foot} {org : State} (s : State) (p : Nat) (h_can : F.can = true) (h_flt : F.flt
    = true) (h_rcd : F.rcd = true) (h_ucp : F.ucp = true) (h_cank20 : ∀ p, F.idx (cank p 20) = true) (h_28 : F.grp 40)
    (h_ob_11776_10 : F.idx (ob 11776 10) = true) (h_recLostCount : F.idx (recLostCount) = true) (hk : Kept F org s) : Kept F org
    (State.canBlockEnd s p) := by
  unfold State.canBlockEnd
  simp [hk, h_can, h_flt, h_rcd, h_ucp, h_cank20, h_28, h_ob_11776_10, h_recLostCount]

@[simp ↓] theorem State.canDrop_kept {F : Foot} {org : State} (s : State) (h_can : F.can = true) (hk : Kept F org s) : Kept F
    org (State.canDrop s) := by
  unfold State.canDrop
  simp [hk, h_can]

@[simp ↓] theorem State.canStart_kept {F : Foot} {org : State} (s : State) (h_can : F.can = true) (h_flt : F.flt = true)
    (h_rcd : F.rcd = true) (h_ucp : F.ucp = true) (h_cank13 : ∀ p, F.idx (cank p 13) = true) (h_cank14 : ∀ p, F.idx (cank p 14) =
    true) (h_cank20 : ∀ p, F.idx (cank p 20) = true) (h_28 : F.grp 40) (h_2C : F.grp 44) (h_ob_11776_10 : F.idx (ob 11776 10) =
    true) (h_recLostCount : F.idx (recLostCount) = true) (hk : Kept F org s) : Kept F org (State.canStart s) := by
  unfold State.canStart
  simp (contextual := true) (maxDischargeDepth := 60) [hk, h_can, h_flt, h_rcd, h_ucp, h_cank13, h_cank14, h_cank20, h_28, h_2C, h_ob_11776_10, h_recLostCount]

end Sys2Proof.Machine
end

