-- ==== Sys2Proof/Laws/KeptPower.lean ====
section
/-! SUPPORT. Footprints of resets, states and power. -/

set_option linter.unusedSimpArgs false
set_option linter.unusedVariables false

namespace Sys2Proof.Machine

open Sys2Proof

@[simp] theorem sk12_grp (a : Nat) : sk12 a / 65536 = 0x12 := by unfold sk12; rw [ob_grp]
@[simp] theorem sk12_idx {F : Foot} (h : F.grp 0x12) (a : Nat) : F.idx (sk12 a) = true := h _ (sk12_grp _)
@[simp] theorem ck10_grp (a : Nat) : ck10 a / 65536 = 0x10 := by unfold ck10; rw [ob_grp]
@[simp] theorem ck10_idx {F : Foot} (h : F.grp 0x10) (a : Nat) : F.idx (ck10 a) = true := h _ (ck10_grp _)

@[simp ↓] theorem State.setPwr_kept {F : Foot} {org : State} (s : State) (f : PwrSt → PwrSt) (h_pwr : F.pwr = true) (hk : Kept
    F org s) : Kept F org (State.setPwr s f) := by
  unfold State.setPwr
  simp [hk, h_pwr]

@[simp ↓] theorem State.blkRunning_kept {F : Foot} {org : State} (s : State) (b : Nat) (on : Bool) (h_28 : F.grp 40) (hk :
    Kept F org s) : Kept F org (State.blkRunning s b on) := by
  unfold State.blkRunning
  simp (contextual := true) (maxDischargeDepth := 60) [hk, h_28]

@[simp ↓] theorem State.blockLoses_kept {F : Foot} {org : State} (s : State) (b : Nat) (h_eth : F.eth = true) (h_lark : F.lark
    = true) (h_rx : F.rx = true) (h_ucp : F.ucp = true) (h_ck10 : ∀ p, F.idx (ck p 10) = true) (h_ck9 : ∀ p, F.idx (ck p 9) =
    true) (hk : Kept F org s) : Kept F org (State.blockLoses s b) := by
  unfold State.blockLoses
  simp [hk, h_eth, h_lark, h_rx, h_ucp, h_ck10, h_ck9]

@[simp ↓] theorem blockReset_kept {F : Foot} {org : State} (b : Nat) (s : State) (h_eth : F.eth = true) (h_flt : F.flt = true)
    (h_lark : F.lark = true) (h_rx : F.rx = true) (h_ucp : F.ucp = true) (h_ck10 : ∀ p, F.idx (ck p 10) = true) (h_ck9 : ∀ p,
    F.idx (ck p 9) = true) (h_28 : F.grp 40) (hk : Kept F org s) : Kept F org (blockReset b s) := by
  unfold blockReset
  simp (contextual := true) (maxDischargeDepth := 60) [hk, h_eth, h_flt, h_lark, h_rx, h_ucp, h_ck10, h_ck9, h_28]

@[simp ↓] theorem State.yarRestart_kept {F : Foot} {org : State} (s : State) (h_nav : F.nav = true) (h_nk_40 : F.idx (nk 40) =
    true) (hk : Kept F org s) : Kept F org (State.yarRestart s) := by
  unfold State.yarRestart
  simp [hk, h_nav, h_nk_40]

@[simp ↓] theorem State.blockResumes_kept {F : Foot} {org : State} (s : State) (b : Nat) (pass : Nat) (directed : List SvSig)
    (known : Nat) (near : Bool) (h_can : F.can = true) (h_crop : F.crop = true) (h_flt : F.flt = true) (h_inp : F.inp = true)
    (h_lark : F.lark = true) (h_nav : F.nav = true) (h_rcd : F.rcd = true) (h_rx : F.rx = true) (h_sp : F.sp = true) (h_timers :
    F.timers = true) (h_ucp : F.ucp = true) (h_cank20 : ∀ p, F.idx (cank p 20) = true) (h_23 : F.grp 35) (h_25 : F.grp 37) (h_28 :
    F.grp 40) (h_29 : F.grp 41) (h_nk_40 : F.idx (nk 40) = true) (h_ob_11776_10 : F.idx (ob 11776 10) = true) (h_recLostCount :
    F.idx (recLostCount) = true) (hk : Kept F org s) : Kept F org (State.blockResumes s b pass directed known near) := by
  unfold State.blockResumes
  simp [hk, h_can, h_crop, h_flt, h_inp, h_lark, h_nav, h_rcd, h_rx, h_sp, h_timers, h_ucp, h_cank20, h_23, h_25, h_28, h_29, h_nk_40, h_ob_11776_10, h_recLostCount]

@[simp ↓] theorem blockResetEnd_kept {F : Foot} {org : State} (b : Nat) (pass : Nat) (directed : List SvSig) (known : Nat)
    (near : Bool) (s : State) (h_can : F.can = true) (h_crop : F.crop = true) (h_flt : F.flt = true) (h_inp : F.inp = true)
    (h_lark : F.lark = true) (h_nav : F.nav = true) (h_rcd : F.rcd = true) (h_rx : F.rx = true) (h_sp : F.sp = true) (h_timers :
    F.timers = true) (h_ucp : F.ucp = true) (h_cank20 : ∀ p, F.idx (cank p 20) = true) (h_23 : F.grp 35) (h_25 : F.grp 37) (h_28 :
    F.grp 40) (h_29 : F.grp 41) (h_nk_40 : F.idx (nk 40) = true) (h_ob_11776_10 : F.idx (ob 11776 10) = true) (h_recLostCount :
    F.idx (recLostCount) = true) (hk : Kept F org s) : Kept F org (blockResetEnd b pass directed known near s) := by
  unfold blockResetEnd
  simp (contextual := true) (maxDischargeDepth := 60) [hk, h_can, h_crop, h_flt, h_inp, h_lark, h_nav, h_rcd, h_rx, h_sp, h_timers, h_ucp, h_cank20, h_23, h_25, h_28, h_29, h_nk_40, h_ob_11776_10, h_recLostCount]

@[simp ↓] theorem State.changeState_kept {F : Foot} {org : State} (s : State) (new : Nat) (cause : Nat) (cred : Option (Nat ×
    Nat)) (part : Nat) (h_conf : F.conf = true) (h_flt : F.flt = true) (h_fox : F.fox = true) (h_img : F.img = true) (h_pwr :
    F.pwr = true) (h_rcd : F.rcd = true) (h_sec : F.sec = true) (h_ucp : F.ucp = true) (h_xk22 : ∀ p, F.idx (xk p 22) = true)
    (h_27 : F.grp 39) (h_28 : F.grp 40) (h_ob_11776_10 : F.idx (ob 11776 10) = true) (h_ob_12288_8 : F.idx (ob 12288 8) = true)
    (h_ob_4608_1 : F.idx (ob 4608 1) = true) (h_ob_4608_2 : F.idx (ob 4608 2) = true) (h_ob_4608_9 : F.idx (ob 4608 9) = true)
    (h_recLostCount : F.idx (recLostCount) = true) (h_sk2F_24 : F.idx (sk2F 24) = true) (hk : Kept F org s) : Kept F org
    (State.changeState s new cause cred part) := by
  unfold State.changeState
  simp only []
  (repeat' split) <;> simp (contextual := true) (maxDischargeDepth := 60) [hk, h_conf, h_flt, h_fox, h_img, h_pwr, h_rcd, h_sec, h_ucp, h_xk22, h_27, h_28, h_ob_11776_10, h_ob_12288_8, h_ob_4608_1, h_ob_4608_2, h_ob_4608_9, h_recLostCount, h_sk2F_24]

@[simp ↓] theorem State.enterStandby_kept {F : Foot} {org : State} (s : State) (cause : Nat) (cred : Option (Nat × Nat)) (part
    : Nat) (h_conf : F.conf = true) (h_flt : F.flt = true) (h_fox : F.fox = true) (h_img : F.img = true) (h_pwr : F.pwr = true)
    (h_rcd : F.rcd = true) (h_sec : F.sec = true) (h_ucp : F.ucp = true) (h_xk22 : ∀ p, F.idx (xk p 22) = true) (h_27 : F.grp 39)
    (h_28 : F.grp 40) (h_ob_11776_10 : F.idx (ob 11776 10) = true) (h_ob_12288_8 : F.idx (ob 12288 8) = true) (h_ob_4608_1 : F.idx
    (ob 4608 1) = true) (h_ob_4608_2 : F.idx (ob 4608 2) = true) (h_ob_4608_9 : F.idx (ob 4608 9) = true) (h_recLostCount : F.idx
    (recLostCount) = true) (h_sk12_14 : F.idx (sk12 14) = true) (h_sk2F_24 : F.idx (sk2F 24) = true) (hk : Kept F org s) : Kept F
    org (State.enterStandby s cause cred part) := by
  unfold State.enterStandby
  simp (contextual := true) (maxDischargeDepth := 60) [hk, h_conf, h_flt, h_fox, h_img, h_pwr, h_rcd, h_sec, h_ucp, h_xk22, h_27, h_28, h_ob_11776_10, h_ob_12288_8, h_ob_4608_1, h_ob_4608_2, h_ob_4608_9, h_recLostCount, h_sk12_14, h_sk2F_24]

@[simp ↓] theorem State.enterRanked_kept {F : Foot} {org : State} (s : State) (cause : Nat) (cred : Option (Nat × Nat)) (part
    : Nat) (h_conf : F.conf = true) (h_flt : F.flt = true) (h_fox : F.fox = true) (h_img : F.img = true) (h_pwr : F.pwr = true)
    (h_rcd : F.rcd = true) (h_sec : F.sec = true) (h_ucp : F.ucp = true) (h_xk22 : ∀ p, F.idx (xk p 22) = true) (h_27 : F.grp 39)
    (h_28 : F.grp 40) (h_ob_11776_10 : F.idx (ob 11776 10) = true) (h_ob_12288_8 : F.idx (ob 12288 8) = true) (h_ob_4608_1 : F.idx
    (ob 4608 1) = true) (h_ob_4608_2 : F.idx (ob 4608 2) = true) (h_ob_4608_9 : F.idx (ob 4608 9) = true) (h_recLostCount : F.idx
    (recLostCount) = true) (h_sk2F_24 : F.idx (sk2F 24) = true) (hk : Kept F org s) : Kept F org (State.enterRanked s cause cred
    part) := by
  unfold State.enterRanked
  simp [hk, h_conf, h_flt, h_fox, h_img, h_pwr, h_rcd, h_sec, h_ucp, h_xk22, h_27, h_28, h_ob_11776_10, h_ob_12288_8, h_ob_4608_1, h_ob_4608_2, h_ob_4608_9, h_recLostCount, h_sk2F_24]

@[simp ↓] theorem State.autoCauses_kept {F : Foot} {org : State} (s : State) (h_conf : F.conf = true) (h_flt : F.flt = true)
    (h_fox : F.fox = true) (h_img : F.img = true) (h_pwr : F.pwr = true) (h_rcd : F.rcd = true) (h_sec : F.sec = true) (h_ucp :
    F.ucp = true) (h_xk22 : ∀ p, F.idx (xk p 22) = true) (h_27 : F.grp 39) (h_28 : F.grp 40) (h_ob_11776_10 : F.idx (ob 11776 10)
    = true) (h_ob_12288_8 : F.idx (ob 12288 8) = true) (h_ob_4608_1 : F.idx (ob 4608 1) = true) (h_ob_4608_2 : F.idx (ob 4608 2) =
    true) (h_ob_4608_9 : F.idx (ob 4608 9) = true) (h_recLostCount : F.idx (recLostCount) = true) (h_sk2F_24 : F.idx (sk2F 24) =
    true) (hk : Kept F org s) : Kept F org (State.autoCauses s) := by
  unfold State.autoCauses
  simp [hk, h_conf, h_flt, h_fox, h_img, h_pwr, h_rcd, h_sec, h_ucp, h_xk22, h_27, h_28, h_ob_11776_10, h_ob_12288_8, h_ob_4608_1, h_ob_4608_2, h_ob_4608_9, h_recLostCount, h_sk2F_24]

@[simp ↓] theorem hStateReq_kept {F : Foot} (h_pwr : F.pwr = true) (h_ob_4608_4 : F.idx (ob 4608 4) = true) (h_ob_4608_5 :
    F.idx (ob 4608 5) = true) (h_ob_4608_6 : F.idx (ob 4608 6) = true) (h_ob_4608_7 : F.idx (ob 4608 7) = true) (h_ob_4608_8 :
    F.idx (ob 4608 8) = true) : (hStateReq).Stays F := by
  intro m s w v hk
  unfold hStateReq
  simp (contextual := true) (maxDischargeDepth := 60) [hk, h_pwr, h_ob_4608_4, h_ob_4608_5, h_ob_4608_6, h_ob_4608_7, h_ob_4608_8]

@[simp ↓] theorem State.takeReq_kept {F : Foot} {org : State} (s : State) (h_conf : F.conf = true) (h_flt : F.flt = true)
    (h_fox : F.fox = true) (h_img : F.img = true) (h_pwr : F.pwr = true) (h_rcd : F.rcd = true) (h_sec : F.sec = true) (h_ucp :
    F.ucp = true) (h_xk22 : ∀ p, F.idx (xk p 22) = true) (h_27 : F.grp 39) (h_28 : F.grp 40) (h_ob_11776_10 : F.idx (ob 11776 10)
    = true) (h_ob_12288_8 : F.idx (ob 12288 8) = true) (h_ob_4608_1 : F.idx (ob 4608 1) = true) (h_ob_4608_2 : F.idx (ob 4608 2) =
    true) (h_ob_4608_9 : F.idx (ob 4608 9) = true) (h_recLostCount : F.idx (recLostCount) = true) (h_sk12_14 : F.idx (sk12 14) =
    true) (h_sk2F_24 : F.idx (sk2F 24) = true) (hk : Kept F org s) : Kept F org (State.takeReq s) := by
  unfold State.takeReq
  (repeat' split) <;> simp (contextual := true) (maxDischargeDepth := 60) [hk, h_conf, h_flt, h_fox, h_img, h_pwr, h_rcd, h_sec, h_ucp, h_xk22, h_27, h_28, h_ob_11776_10, h_ob_12288_8, h_ob_4608_1, h_ob_4608_2, h_ob_4608_9, h_recLostCount, h_sk12_14, h_sk2F_24]

@[simp ↓] theorem State.afterRunTick_kept {F : Foot} {org : State} (s : State) (h_pwr : F.pwr = true) (hk : Kept F org s) :
    Kept F org (State.afterRunTick s) := by
  unfold State.afterRunTick
  simp [hk, h_pwr]

@[simp ↓] theorem afterRunExpire_kept {F : Foot} {org : State} (s : State) (h_conf : F.conf = true) (h_flt : F.flt = true)
    (h_fox : F.fox = true) (h_img : F.img = true) (h_pwr : F.pwr = true) (h_rcd : F.rcd = true) (h_sec : F.sec = true) (h_ucp :
    F.ucp = true) (h_xk22 : ∀ p, F.idx (xk p 22) = true) (h_27 : F.grp 39) (h_28 : F.grp 40) (h_ob_11776_10 : F.idx (ob 11776 10)
    = true) (h_ob_12288_8 : F.idx (ob 12288 8) = true) (h_ob_4608_1 : F.idx (ob 4608 1) = true) (h_ob_4608_2 : F.idx (ob 4608 2) =
    true) (h_ob_4608_9 : F.idx (ob 4608 9) = true) (h_recLostCount : F.idx (recLostCount) = true) (h_sk12_14 : F.idx (sk12 14) =
    true) (h_sk2F_24 : F.idx (sk2F 24) = true) (hk : Kept F org s) : Kept F org (afterRunExpire s) := by
  unfold afterRunExpire
  simp [hk, h_conf, h_flt, h_fox, h_img, h_pwr, h_rcd, h_sec, h_ucp, h_xk22, h_27, h_28, h_ob_11776_10, h_ob_12288_8, h_ob_4608_1, h_ob_4608_2, h_ob_4608_9, h_recLostCount, h_sk12_14, h_sk2F_24]

@[simp ↓] theorem State.clearObjs_kept {F : Foot} {org : State} (s : State) (keep : Nat → Bool) (h_all : ∀ i, F.idx i = true)
    (hk : Kept F org s) : Kept F org (State.clearObjs s keep) := by
  unfold State.clearObjs
  exact { hk with
    tables := fun hm => by
      obtain ⟨a, b, c, d⟩ := hk.wfs hm
      simp [State.tablesOk, Tbl.wf_filter, a, b, c, d]
    get := fun k => .inl (h_all _)
    getB := fun k => .inl (h_all _) }

@[simp ↓] theorem State.clearDie_kept {F : Foot} {org : State} (s : State) (chip : Bool) (h_apps : F.apps = true) (h_conf :
    F.conf = true) (h_crop : F.crop = true) (h_img : F.img = true) (h_inp : F.inp = true) (h_lark : F.lark = true) (h_nav : F.nav
    = true) (h_outs : F.outs = true) (h_parts : F.parts = true) (h_rx : F.rx = true) (h_sp : F.sp = true) (h_timers : F.timers =
    true) (h_tm : F.tm = true) (h_ucp : F.ucp = true) (hk : Kept F org s) : Kept F org (State.clearDie s chip) := by
  unfold State.clearDie
  simp [hk, h_apps, h_conf, h_crop, h_img, h_inp, h_lark, h_nav, h_outs, h_parts, h_rx, h_sp, h_timers, h_tm, h_ucp]

@[simp ↓] theorem State.restoreSources_kept {F : Foot} {org : State} (s : State) (cause : Option Nat) (h_flt : F.flt = true)
    (h_28 : F.grp 40) (hk : Kept F org s) : Kept F org (State.restoreSources s cause) := by
  unfold State.restoreSources
  simp (contextual := true) (maxDischargeDepth := 60) [hk, h_flt, h_28]

@[simp ↓] theorem State.clearSources_kept {F : Foot} {org : State} (s : State) (h_flt : F.flt = true) (h_28 : F.grp 40) (hk :
    Kept F org s) : Kept F org (State.clearSources s) := by
  unfold State.clearSources
  refine State.drivePin_kept _ (by simp [*]) { hk with
    flt := .inl (by assumption)
    tables := fun hm => by
      obtain ⟨a, b, c, d⟩ := hk.wfs hm
      simp [State.tablesOk, Tbl.wf_filter, a, b, c, d]
    get := fun k => by
      by_cases hg : k / 65536 = 40
      · exact .inl (h_28 _ hg)
      · refine (hk.get k).imp_right fun e => (Tbl.get_filter _ _ (fun v => ?_) _).trans e
        have h1 : within 10256 10271 (k / 256) = false := by simp [within]; omega
        have h2 : decide (k / 256 = 10240) = false := by simp; omega
        simp [h1, h2] }

@[simp ↓] theorem State.poolUp_kept {F : Foot} {org : State} (s : State) (p : Nat) (h_sp : F.sp = true) (h_29 : F.grp 41) (hk
    : Kept F org s) : Kept F org (State.poolUp s p) := by
  unfold State.poolUp
  simp (contextual := true) (maxDischargeDepth := 60) [hk, h_sp, h_29]

@[simp ↓] theorem State.rolesUp_kept {F : Foot} {org : State} (s : State) (h_cank19 : ∀ p, F.idx (cank p 19) = true) (h_ik25 :
    ∀ p, F.idx (ik p 25) = true) (h_14 : F.grp 20) (h_ob_9568_2 : F.idx (ob 9568 2) = true) (hk : Kept F org s) : Kept F org
    (State.rolesUp s) := by
  unfold State.rolesUp
  dsimp only
  refine kept_foldl _ _ (fun t c ht => ?_) (kept_foldl _ _ (fun t c ht => ?_)
    (kept_foldl _ _ (fun t c ht => ?_) (kept_foldl _ _ (fun t c ht => ?_) hk)))
  all_goals
    split
    · simp (contextual := true) (maxDischargeDepth := 60) [*]
    · exact ht

@[simp ↓] theorem chipReset_kept {F : Foot} {org : State} (s : State) (h_apps : F.apps = true) (h_can : F.can = true) (h_conf
    : F.conf = true) (h_crop : F.crop = true) (h_eth : F.eth = true) (h_flt : F.flt = true) (h_fox : F.fox = true) (h_img : F.img
    = true) (h_inp : F.inp = true) (h_lark : F.lark = true) (h_nav : F.nav = true) (h_outs : F.outs = true) (h_parts : F.parts =
    true) (h_pwr : F.pwr = true) (h_rcd : F.rcd = true) (h_rx : F.rx = true) (h_sec : F.sec = true) (h_sp : F.sp = true) (h_timers
    : F.timers = true) (h_tm : F.tm = true) (h_ucp : F.ucp = true) (h_upd : F.upd = true) (h_all : ∀ i, F.idx i = true) (hk : Kept
    F org s) : Kept F org (chipReset s) := by
  unfold chipReset
  (repeat' split) <;> simp (contextual := true) (maxDischargeDepth := 60) [hk, h_apps, h_can, h_conf, h_crop, h_eth, h_flt, h_fox, h_img, h_inp, h_lark, h_nav, h_outs, h_parts, h_pwr, h_rcd, h_rx, h_sec, h_sp, h_timers, h_tm, h_ucp, h_upd, h_all]

@[simp ↓] theorem chipResetEnd_kept {F : Foot} {org : State} (s : State) (h_flt : F.flt = true) (h_fox : F.fox = true) (h_inp
    : F.inp = true) (h_pwr : F.pwr = true) (h_rcd : F.rcd = true) (h_ucp : F.ucp = true) (h_27 : F.grp 39) (h_28 : F.grp 40)
    (h_ob_11776_10 : F.idx (ob 11776 10) = true) (h_recLostCount : F.idx (recLostCount) = true) (hk : Kept F org s) : Kept F org
    (chipResetEnd s) := by
  unfold chipResetEnd
  simp (contextual := true) (maxDischargeDepth := 60) [hk, h_flt, h_fox, h_inp, h_pwr, h_rcd, h_ucp, h_27, h_28, h_ob_11776_10, h_recLostCount]

@[simp ↓] theorem State.clearFox_kept {F : Foot} {org : State} (s : State) (h_fox : F.fox = true) (h_27 : F.grp 39) (hk : Kept
    F org s) : Kept F org (State.clearFox s) := by
  unfold State.clearFox
  refine { hk with
    fox := .inl (by assumption)
    tables := fun hm => by
      obtain ⟨a, b, c, d⟩ := hk.wfs hm
      simp [State.tablesOk, Tbl.wf_filter, a, b, c, d]
    get := fun k => by
      by_cases hg : k / 65536 = 39
      · exact .inl (h_27 _ hg)
      · refine (hk.get k).imp_right fun e => (Tbl.get_filter _ _ (fun v => ?_) _).trans e
        have h1 : decide (k / 256 = 9984) = false := by simp; omega
        simp [h1] }

@[simp ↓] theorem State.beginStart_kept {F : Foot} {org : State} (s : State) (wake : Nat) (vl : Bool) (old : Option (Nat ×
    Nat)) (h_flt : F.flt = true) (h_fox : F.fox = true) (h_pwr : F.pwr = true) (h_rcd : F.rcd = true) (h_ucp : F.ucp = true) (h_21
    : F.grp 33) (h_27 : F.grp 39) (h_28 : F.grp 40) (h_ck10_10 : F.idx (ck10 10) = true) (h_ck10_4 : F.idx (ck10 4) = true)
    (h_ck10_5 : F.idx (ck10 5) = true) (h_ob_11776_10 : F.idx (ob 11776 10) = true) (h_ob_4112_5 : F.idx (ob 4112 5) = true)
    (h_ob_4608_1 : F.idx (ob 4608 1) = true) (h_ob_4608_2 : F.idx (ob 4608 2) = true) (h_recLostCount : F.idx (recLostCount) =
    true) (h_sk12_9 : F.idx (sk12 9) = true) (hk : Kept F org s) : Kept F org (State.beginStart s wake vl old) := by
  unfold State.beginStart
  simp (contextual := true) (maxDischargeDepth := 60) [hk, h_flt, h_fox, h_pwr, h_rcd, h_ucp, h_21, h_27, h_28, h_ck10_10, h_ck10_4, h_ck10_5, h_ob_11776_10, h_ob_4112_5, h_ob_4608_1, h_ob_4608_2, h_recLostCount, h_sk12_9]

@[simp ↓] theorem State.restoreMt_kept {F : Foot} {org : State} (s : State) (rtc : Nat) (h_tm : F.tm = true) (h_tk_2 : F.idx
    (tk 2) = true) (h_tk_20 : F.idx (tk 20) = true) (h_tk_9 : F.idx (tk 9) = true) (hk : Kept F org s) : Kept F org
    (State.restoreMt s rtc) := by
  unfold State.restoreMt
  simp (contextual := true) (maxDischargeDepth := 60) [hk, h_tm, h_tk_2, h_tk_20, h_tk_9]

@[simp ↓] theorem State.restoreCounters_kept {F : Foot} {org : State} (s : State) (h_rcd : F.rcd = true) (h_recArchived :
    F.idx (recArchived) = true) (h_recNextSeq : F.idx (recNextSeq) = true) (h_recOpms : F.idx (recOpms) = true) (h_recPcc : F.idx
    (recPcc) = true) (hk : Kept F org s) : Kept F org (State.restoreCounters s) := by
  unfold State.restoreCounters
  simp (contextual := true) (maxDischargeDepth := 60) [hk, h_rcd, h_recArchived, h_recNextSeq, h_recOpms, h_recPcc]

@[simp ↓] theorem State.powerUpRecord_kept {F : Foot} {org : State} (s : State) (noSave : Bool) (h_rcd : F.rcd = true) (hk :
    Kept F org s) : Kept F org (State.powerUpRecord s noSave) := by
  unfold State.powerUpRecord
  simp [hk, h_rcd]

@[simp ↓] theorem State.openCycle_kept {F : Foot} {org : State} (s : State) (rtc : Nat) (h_flt : F.flt = true) (h_nv : F.nv =
    true) (h_pwr : F.pwr = true) (h_rcd : F.rcd = true) (h_tm : F.tm = true) (h_ucp : F.ucp = true) (h_28 : F.grp 40)
    (h_ob_11776_10 : F.idx (ob 11776 10) = true) (h_recArchived : F.idx (recArchived) = true) (h_recLostCount : F.idx
    (recLostCount) = true) (h_recNextSeq : F.idx (recNextSeq) = true) (h_recOpms : F.idx (recOpms) = true) (h_recPcc : F.idx
    (recPcc) = true) (h_sk12_11 : F.idx (sk12 11) = true) (h_tk_2 : F.idx (tk 2) = true) (h_tk_20 : F.idx (tk 20) = true) (h_tk_9
    : F.idx (tk 9) = true) (hk : Kept F org s) : Kept F org (State.openCycle s rtc) := by
  unfold State.openCycle
  (repeat' split) <;> simp (contextual := true) (maxDischargeDepth := 60) [hk, h_flt, h_nv, h_pwr, h_rcd, h_tm, h_ucp, h_28, h_ob_11776_10, h_recArchived, h_recLostCount, h_recNextSeq, h_recOpms, h_recPcc, h_sk12_11, h_tk_2, h_tk_20, h_tk_9]

@[simp ↓] theorem State.loadValues_kept {F : Foot} {org : State} (s : State) (v : Ver) (h_apps : F.apps = true) (h_img : F.img
    = true) (h_all : ∀ i, F.idx i = true) (hk : Kept F org s) : Kept F org (State.loadValues s v) := by
  unfold State.loadValues
  simp (contextual := true) (maxDischargeDepth := 60) [hk, h_apps, h_img, h_all]

@[simp ↓] theorem State.loadProfile_kept {F : Foot} {org : State} (s : State) (v : Ver) (h_all : ∀ i, F.idx i = true) (hk :
    Kept F org s) : Kept F org (State.loadProfile s v) := by
  unfold State.loadProfile
  simp (contextual := true) (maxDischargeDepth := 60) [hk, h_all]

@[simp ↓] theorem State.loadConfig_kept {F : Foot} {org : State} (s : State) (bad : List Nat) (h_apps : F.apps = true) (h_conf
    : F.conf = true) (h_flt : F.flt = true) (h_fox : F.fox = true) (h_img : F.img = true) (h_rcd : F.rcd = true) (h_ucp : F.ucp =
    true) (h_all : ∀ i, F.idx i = true) (hk : Kept F org s) : Kept F org (State.loadConfig s bad) := by
  unfold State.loadConfig
  simp (contextual := true) (maxDischargeDepth := 60) [hk, h_apps, h_conf, h_flt, h_fox, h_img, h_rcd, h_ucp, h_all]

@[simp ↓] theorem State.testFailed_kept {F : Foot} {org : State} (s : State) (p : Nat) (e : Nat) (h_flt : F.flt = true) (h_rcd
    : F.rcd = true) (h_sp : F.sp = true) (h_ucp : F.ucp = true) (h_28 : F.grp 40) (h_29 : F.grp 41) (h_ob_11776_10 : F.idx (ob
    11776 10) = true) (h_recLostCount : F.idx (recLostCount) = true) (hk : Kept F org s) : Kept F org (State.testFailed s p e) :=
    by
  unfold State.testFailed
  simp [hk, h_flt, h_rcd, h_sp, h_ucp, h_28, h_29, h_ob_11776_10, h_recLostCount]

@[simp ↓] theorem State.startPairs_kept {F : Foot} {org : State} (s : State) (h_flt : F.flt = true) (h_rcd : F.rcd = true)
    (h_sp : F.sp = true) (h_timers : F.timers = true) (h_ucp : F.ucp = true) (h_14 : F.grp 20) (h_28 : F.grp 40) (h_29 : F.grp 41)
    (h_ob_11776_10 : F.idx (ob 11776 10) = true) (h_recLostCount : F.idx (recLostCount) = true) (hk : Kept F org s) : Kept F org
    (State.startPairs s) := by
  unfold State.startPairs
  split
  · refine kept_foldl _ _ (fun t r ht => ?_) hk
    have hs : Kept F org ((t.dropReq r.pool r.el).swap r.pool r.el r.cause r.mt [] 0).1 := by simp [*]
    dsimp only
    split <;> simp [*]
  · exact hk

@[simp ↓] theorem State.startCold_kept {F : Foot} {org : State} (s : State) (rtc : Nat) (h_apps : F.apps = true) (h_can :
    F.can = true) (h_conf : F.conf = true) (h_crop : F.crop = true) (h_eth : F.eth = true) (h_flt : F.flt = true) (h_img : F.img =
    true) (h_inp : F.inp = true) (h_lark : F.lark = true) (h_nav : F.nav = true) (h_nv : F.nv = true) (h_outs : F.outs = true)
    (h_parts : F.parts = true) (h_pwr : F.pwr = true) (h_rcd : F.rcd = true) (h_rx : F.rx = true) (h_sec : F.sec = true) (h_sp :
    F.sp = true) (h_timers : F.timers = true) (h_tm : F.tm = true) (h_ucp : F.ucp = true) (h_all : ∀ i, F.idx i = true) (hk : Kept
    F org s) : Kept F org (State.startCold s rtc) := by
  unfold State.startCold
  simp (contextual := true) (maxDischargeDepth := 60) [hk, h_apps, h_can, h_conf, h_crop, h_eth, h_flt, h_img, h_inp, h_lark, h_nav, h_nv, h_outs, h_parts, h_pwr, h_rcd, h_rx, h_sec, h_sp, h_timers, h_tm, h_ucp, h_all]

@[simp ↓] theorem State.startRoot_kept {F : Foot} {org : State} (s : State) (root : Nat) (h_flt : F.flt = true) (h_fox : F.fox
    = true) (h_pwr : F.pwr = true) (h_rcd : F.rcd = true) (h_ucp : F.ucp = true) (h_28 : F.grp 40) (h_ob_11776_10 : F.idx (ob
    11776 10) = true) (h_recLostCount : F.idx (recLostCount) = true) (h_sk2F_29 : F.idx (sk2F 29) = true) (hk : Kept F org s) :
    Kept F org (State.startRoot s root) := by
  unfold State.startRoot
  simp only []
  (repeat' split) <;> simp (contextual := true) (maxDischargeDepth := 60) [hk, h_flt, h_fox, h_pwr, h_rcd, h_ucp, h_28, h_ob_11776_10, h_recLostCount, h_sk2F_29]

@[simp ↓] theorem State.snapAll_kept {F : Foot} {org : State} (s : State) (h_snap : F.snap = true) (hk : Kept F org s) : Kept
    F org (State.snapAll s) := by
  unfold State.snapAll
  exact { hk with
    objs0 := .inl (by assumption)
    objsB := .inl (by assumption)
    tables := fun hm => by
      obtain ⟨a, b, c, d⟩ := hk.wfs hm
      simp [State.tablesOk, a, b] }

@[simp ↓] theorem State.startLoad_kept {F : Foot} {org : State} (s : State) (cold : Bool) (bad : List Nat) (fails : List (Nat
    × Nat)) (directed : List SvSig) (known : Nat) (near : Bool) (h_apps : F.apps = true) (h_can : F.can = true) (h_conf : F.conf =
    true) (h_eth : F.eth = true) (h_flt : F.flt = true) (h_fox : F.fox = true) (h_img : F.img = true) (h_rcd : F.rcd = true) (h_rx
    : F.rx = true) (h_snap : F.snap = true) (h_sp : F.sp = true) (h_timers : F.timers = true) (h_tm : F.tm = true) (h_ucp : F.ucp
    = true) (h_all : ∀ i, F.idx i = true) (hk : Kept F org s) : Kept F org (State.startLoad s cold bad fails directed known near)
    := by
  unfold State.startLoad
  simp (contextual := true) (maxDischargeDepth := 60) [hk, h_apps, h_can, h_conf, h_eth, h_flt, h_fox, h_img, h_rcd, h_rx, h_snap, h_sp, h_timers, h_tm, h_ucp, h_all]

@[simp ↓] theorem startWork_kept {F : Foot} {org : State} (rtc : Nat) (root : Nat) (slots : Nat) (pass0 : Bool) (pass1 : Bool)
    (bad : List Nat) (fails : List (Nat × Nat)) (directed : List SvSig) (known : Nat) (near : Bool) (s : State) (h_apps : F.apps =
    true) (h_can : F.can = true) (h_conf : F.conf = true) (h_crop : F.crop = true) (h_eth : F.eth = true) (h_flt : F.flt = true)
    (h_fox : F.fox = true) (h_img : F.img = true) (h_inp : F.inp = true) (h_lark : F.lark = true) (h_nav : F.nav = true) (h_nv :
    F.nv = true) (h_outs : F.outs = true) (h_parts : F.parts = true) (h_pwr : F.pwr = true) (h_rcd : F.rcd = true) (h_rx : F.rx =
    true) (h_sec : F.sec = true) (h_snap : F.snap = true) (h_sp : F.sp = true) (h_timers : F.timers = true) (h_tm : F.tm = true)
    (h_ucp : F.ucp = true) (h_upd : F.upd = true) (h_all : ∀ i, F.idx i = true) (hk : Kept F org s) : Kept F org (startWork rtc
    root slots pass0 pass1 bad fails directed known near s) := by
  unfold startWork
  simp (contextual := true) (maxDischargeDepth := 60) [hk, h_apps, h_can, h_conf, h_crop, h_eth, h_flt, h_fox, h_img, h_inp, h_lark, h_nav, h_nv, h_outs, h_parts, h_pwr, h_rcd, h_rx, h_sec, h_snap, h_sp, h_timers, h_tm, h_ucp, h_upd, h_all]

@[simp ↓] theorem State.reportAfresh_kept {F : Foot} {org : State} (s : State) (h_flt : F.flt = true) (h_rcd : F.rcd = true)
    (h_ucp : F.ucp = true) (h_gk3 : ∀ p, F.idx (gk p 3) = true) (h_28 : F.grp 40) (h_ob_11776_10 : F.idx (ob 11776 10) = true)
    (h_recLostCount : F.idx (recLostCount) = true) (hk : Kept F org s) : Kept F org (State.reportAfresh s) := by
  unfold State.reportAfresh
  simp (contextual := true) (maxDischargeDepth := 60) [hk, h_flt, h_rcd, h_ucp, h_gk3, h_28, h_ob_11776_10, h_recLostCount]

@[simp ↓] theorem startComplete_kept {F : Foot} {org : State} (s : State) (h_conf : F.conf = true) (h_flt : F.flt = true)
    (h_fox : F.fox = true) (h_img : F.img = true) (h_pwr : F.pwr = true) (h_rcd : F.rcd = true) (h_sec : F.sec = true) (h_ucp :
    F.ucp = true) (h_gk3 : ∀ p, F.idx (gk p 3) = true) (h_xk22 : ∀ p, F.idx (xk p 22) = true) (h_27 : F.grp 39) (h_28 : F.grp 40)
    (h_ob_11776_10 : F.idx (ob 11776 10) = true) (h_ob_12288_8 : F.idx (ob 12288 8) = true) (h_ob_4608_1 : F.idx (ob 4608 1) =
    true) (h_ob_4608_2 : F.idx (ob 4608 2) = true) (h_ob_4608_9 : F.idx (ob 4608 9) = true) (h_recLostCount : F.idx (recLostCount)
    = true) (h_sk12_13 : F.idx (sk12 13) = true) (h_sk2F_24 : F.idx (sk2F 24) = true) (hk : Kept F org s) : Kept F org
    (startComplete s) := by
  unfold startComplete
  simp (contextual := true) (maxDischargeDepth := 60) [hk, h_conf, h_flt, h_fox, h_img, h_pwr, h_rcd, h_sec, h_ucp, h_gk3, h_xk22, h_27, h_28, h_ob_11776_10, h_ob_12288_8, h_ob_4608_1, h_ob_4608_2, h_ob_4608_9, h_recLostCount, h_sk12_13, h_sk2F_24]

@[simp ↓] theorem State.saveStore_kept {F : Foot} {org : State} (s : State) (t : Nat) (h_crop : F.crop = true) (h_flt : F.flt
    = true) (h_free : F.free = true) (h_nv : F.nv = true) (h_rcd : F.rcd = true) (h_ucp : F.ucp = true) (h_28 : F.grp 40) (h_hk_35
    : F.idx (hk 35) = true) (h_hk_36 : F.idx (hk 36) = true) (h_hk_38 : F.idx (hk 38) = true) (h_hk_39 : F.idx (hk 39) = true)
    (h_hk_40 : F.idx (hk 40) = true) (h_hk_43 : F.idx (hk 43) = true) (h_hk_44 : F.idx (hk 44) = true) (h_ob_11776_10 : F.idx (ob
    11776 10) = true) (h_ob_4352_8 : F.idx (ob 4352 8) = true) (h_recArchived : F.idx (recArchived) = true) (h_recLostCount :
    F.idx (recLostCount) = true) (h_recNextSeq : F.idx (recNextSeq) = true) (h_sk12_11 : F.idx (sk12 11) = true) (h_sk12_12 :
    F.idx (sk12 12) = true) (hk : Kept F org s) : Kept F org (State.saveStore s t) := by
  unfold State.saveStore
  simp (contextual := true) (maxDischargeDepth := 60) [hk, h_crop, h_flt, h_free, h_nv, h_rcd, h_ucp, h_28, h_hk_35, h_hk_36, h_hk_38, h_hk_39, h_hk_40, h_hk_43, h_hk_44, h_ob_11776_10, h_ob_4352_8, h_recArchived, h_recLostCount, h_recNextSeq, h_sk12_11, h_sk12_12]

@[simp ↓] theorem State.powerDown_kept {F : Foot} {org : State} (s : State) (h_can : F.can = true) (h_eth : F.eth = true)
    (h_flt : F.flt = true) (h_fox : F.fox = true) (h_lark : F.lark = true) (h_outs : F.outs = true) (h_pwr : F.pwr = true) (h_rcd
    : F.rcd = true) (h_sec : F.sec = true) (h_timers : F.timers = true) (h_ucp : F.ucp = true) (h_ck10 : ∀ p, F.idx (ck p 10) =
    true) (h_ck9 : ∀ p, F.idx (ck p 9) = true) (h_xk31 : ∀ p, F.idx (xk p 31) = true) (h_28 : F.grp 40) (h_2E : F.grp 46)
    (h_ob_4352_1 : F.idx (ob 4352 1) = true) (h_recLostCount : F.idx (recLostCount) = true) (hk : Kept F org s) : Kept F org
    (State.powerDown s) := by
  unfold State.powerDown
  simp (contextual := true) (maxDischargeDepth := 60) [hk, h_can, h_eth, h_flt, h_fox, h_lark, h_outs, h_pwr, h_rcd, h_sec, h_timers, h_ucp, h_ck10, h_ck9, h_xk31, h_28, h_2E, h_ob_4352_1, h_recLostCount]

@[simp ↓] theorem State.afterSave_kept {F : Foot} {org : State} (s : State) (t : Nat) (vlBack : Bool) (old : Nat) (h_can :
    F.can = true) (h_eth : F.eth = true) (h_flt : F.flt = true) (h_fox : F.fox = true) (h_lark : F.lark = true) (h_outs : F.outs =
    true) (h_pwr : F.pwr = true) (h_rcd : F.rcd = true) (h_sec : F.sec = true) (h_timers : F.timers = true) (h_ucp : F.ucp = true)
    (h_ck10 : ∀ p, F.idx (ck p 10) = true) (h_ck9 : ∀ p, F.idx (ck p 9) = true) (h_xk31 : ∀ p, F.idx (xk p 31) = true) (h_21 :
    F.grp 33) (h_27 : F.grp 39) (h_28 : F.grp 40) (h_2E : F.grp 46) (h_ck10_10 : F.idx (ck10 10) = true) (h_ck10_4 : F.idx (ck10
    4) = true) (h_ck10_5 : F.idx (ck10 5) = true) (h_ob_4112_5 : F.idx (ob 4112 5) = true) (h_ob_4352_1 : F.idx (ob 4352 1) =
    true) (h_ob_4608_1 : F.idx (ob 4608 1) = true) (h_ob_4608_2 : F.idx (ob 4608 2) = true) (h_recLostCount : F.idx (recLostCount)
    = true) (h_sk12_9 : F.idx (sk12 9) = true) (hk : Kept F org s) : Kept F org (State.afterSave s t vlBack old) := by
  unfold State.afterSave
  simp only []
  (repeat' split) <;> simp (contextual := true) (maxDischargeDepth := 60) [hk, h_can, h_eth, h_flt, h_fox, h_lark, h_outs, h_pwr, h_rcd, h_sec, h_timers, h_ucp, h_ck10, h_ck9, h_xk31, h_21, h_27, h_28, h_2E, h_ck10_10, h_ck10_4, h_ck10_5, h_ob_4112_5, h_ob_4352_1, h_ob_4608_1, h_ob_4608_2, h_recLostCount, h_sk12_9]

@[simp ↓] theorem holdupSave_kept {F : Foot} {org : State} (trig : Nat) (vlBack : Bool) (s : State) (h_can : F.can = true)
    (h_conf : F.conf = true) (h_crop : F.crop = true) (h_eth : F.eth = true) (h_flt : F.flt = true) (h_fox : F.fox = true) (h_free
    : F.free = true) (h_lark : F.lark = true) (h_nv : F.nv = true) (h_outs : F.outs = true) (h_pwr : F.pwr = true) (h_rcd : F.rcd
    = true) (h_sec : F.sec = true) (h_timers : F.timers = true) (h_ucp : F.ucp = true) (h_ck10 : ∀ p, F.idx (ck p 10) = true)
    (h_ck9 : ∀ p, F.idx (ck p 9) = true) (h_xk31 : ∀ p, F.idx (xk p 31) = true) (h_21 : F.grp 33) (h_27 : F.grp 39) (h_28 : F.grp
    40) (h_2E : F.grp 46) (h_ck10_10 : F.idx (ck10 10) = true) (h_ck10_4 : F.idx (ck10 4) = true) (h_ck10_5 : F.idx (ck10 5) =
    true) (h_hk_35 : F.idx (hk 35) = true) (h_hk_36 : F.idx (hk 36) = true) (h_hk_38 : F.idx (hk 38) = true) (h_hk_39 : F.idx (hk
    39) = true) (h_hk_40 : F.idx (hk 40) = true) (h_hk_43 : F.idx (hk 43) = true) (h_hk_44 : F.idx (hk 44) = true) (h_ob_12288_8 :
    F.idx (ob 12288 8) = true) (h_ob_4112_5 : F.idx (ob 4112 5) = true) (h_ob_4352_1 : F.idx (ob 4352 1) = true) (h_ob_4352_8 :
    F.idx (ob 4352 8) = true) (h_ob_4608_1 : F.idx (ob 4608 1) = true) (h_ob_4608_2 : F.idx (ob 4608 2) = true) (h_recArchived :
    F.idx (recArchived) = true) (h_recLostCount : F.idx (recLostCount) = true) (h_recNextSeq : F.idx (recNextSeq) = true)
    (h_sk12_10 : F.idx (sk12 10) = true) (h_sk12_11 : F.idx (sk12 11) = true) (h_sk12_12 : F.idx (sk12 12) = true) (h_sk12_9 :
    F.idx (sk12 9) = true) (hk : Kept F org s) : Kept F org (holdupSave trig vlBack s) := by
  unfold holdupSave
  simp (contextual := true) (maxDischargeDepth := 60) [hk, h_can, h_conf, h_crop, h_eth, h_flt, h_fox, h_free, h_lark, h_nv, h_outs, h_pwr, h_rcd, h_sec, h_timers, h_ucp, h_ck10, h_ck9, h_xk31, h_21, h_27, h_28, h_2E, h_ck10_10, h_ck10_4, h_ck10_5, h_hk_35, h_hk_36, h_hk_38, h_hk_39, h_hk_40, h_hk_43, h_hk_44, h_ob_12288_8, h_ob_4112_5, h_ob_4352_1, h_ob_4352_8, h_ob_4608_1, h_ob_4608_2, h_recArchived, h_recLostCount, h_recNextSeq, h_sk12_10, h_sk12_11, h_sk12_12, h_sk12_9]

@[simp ↓] theorem wake_kept {F : Foot} {org : State} (w : Nat) (s : State) (h_flt : F.flt = true) (h_fox : F.fox = true)
    (h_pwr : F.pwr = true) (h_rcd : F.rcd = true) (h_ucp : F.ucp = true) (h_21 : F.grp 33) (h_27 : F.grp 39) (h_28 : F.grp 40)
    (h_ck10_10 : F.idx (ck10 10) = true) (h_ck10_4 : F.idx (ck10 4) = true) (h_ck10_5 : F.idx (ck10 5) = true) (h_ob_11776_10 :
    F.idx (ob 11776 10) = true) (h_ob_4112_5 : F.idx (ob 4112 5) = true) (h_ob_4608_1 : F.idx (ob 4608 1) = true) (h_ob_4608_2 :
    F.idx (ob 4608 2) = true) (h_recLostCount : F.idx (recLostCount) = true) (h_sk12_9 : F.idx (sk12 9) = true) (hk : Kept F org
    s) : Kept F org (wake w s) := by
  unfold wake
  simp [hk, h_flt, h_fox, h_pwr, h_rcd, h_ucp, h_21, h_27, h_28, h_ck10_10, h_ck10_4, h_ck10_5, h_ob_11776_10, h_ob_4112_5, h_ob_4608_1, h_ob_4608_2, h_recLostCount, h_sk12_9]

@[simp ↓] theorem vlRise_kept {F : Foot} {org : State} (mv : Nat) (s : State) (h_flt : F.flt = true) (h_fox : F.fox = true)
    (h_pwr : F.pwr = true) (h_rcd : F.rcd = true) (h_ucp : F.ucp = true) (h_21 : F.grp 33) (h_27 : F.grp 39) (h_28 : F.grp 40)
    (h_ck10_1 : F.idx (ck10 1) = true) (h_ck10_10 : F.idx (ck10 10) = true) (h_ck10_4 : F.idx (ck10 4) = true) (h_ck10_5 : F.idx
    (ck10 5) = true) (h_ob_11776_10 : F.idx (ob 11776 10) = true) (h_ob_4112_5 : F.idx (ob 4112 5) = true) (h_ob_4608_1 : F.idx
    (ob 4608 1) = true) (h_ob_4608_2 : F.idx (ob 4608 2) = true) (h_recLostCount : F.idx (recLostCount) = true) (h_sk12_9 : F.idx
    (sk12 9) = true) (hk : Kept F org s) : Kept F org (vlRise mv s) := by
  unfold vlRise
  simp (contextual := true) (maxDischargeDepth := 60) [hk, h_flt, h_fox, h_pwr, h_rcd, h_ucp, h_21, h_27, h_28, h_ck10_1, h_ck10_10, h_ck10_4, h_ck10_5, h_ob_11776_10, h_ob_4112_5, h_ob_4608_1, h_ob_4608_2, h_recLostCount, h_sk12_9]

@[simp ↓] theorem vlPrechargeTimeout_kept {F : Foot} {org : State} (s : State) (h_pwr : F.pwr = true) (h_ck10_7 : F.idx (ck10
    7) = true) (hk : Kept F org s) : Kept F org (vlPrechargeTimeout s) := by
  unfold vlPrechargeTimeout
  simp [hk, h_pwr, h_ck10_7]

@[simp ↓] theorem vlPrechargeRetry_kept {F : Foot} {org : State} (s : State) (h_pwr : F.pwr = true) (hk : Kept F org s) : Kept
    F org (vlPrechargeRetry s) := by
  unfold vlPrechargeRetry
  simp [hk, h_pwr]

@[simp ↓] theorem holdupReady_kept {F : Foot} {org : State} (mv : Nat) (s : State) (h_ck10_5 : F.idx (ck10 5) = true)
    (h_ck10_6 : F.idx (ck10 6) = true) (hk : Kept F org s) : Kept F org (holdupReady mv s) := by
  unfold holdupReady
  simp [hk, h_ck10_5, h_ck10_6]

@[simp ↓] theorem State.vlLevel_kept {F : Foot} {org : State} (s : State) (h_flt : F.flt = true) (h_rcd : F.rcd = true) (h_ucp
    : F.ucp = true) (h_28 : F.grp 40) (h_ck10_11 : F.idx (ck10 11) = true) (h_ob_11776_10 : F.idx (ob 11776 10) = true)
    (h_recLostCount : F.idx (recLostCount) = true) (hk : Kept F org s) : Kept F org (State.vlLevel s) := by
  unfold State.vlLevel
  simp [hk, h_flt, h_rcd, h_ucp, h_28, h_ck10_11, h_ob_11776_10, h_recLostCount]

@[simp ↓] theorem vbakMeasure_kept {F : Foot} {org : State} (vbak : Nat) (vl : Nat) (ma : Nat) (s : State) (h_flt : F.flt =
    true) (h_pwr : F.pwr = true) (h_rcd : F.rcd = true) (h_ucp : F.ucp = true) (h_28 : F.grp 40) (h_ck10_1 : F.idx (ck10 1) =
    true) (h_ck10_10 : F.idx (ck10 10) = true) (h_ck10_11 : F.idx (ck10 11) = true) (h_ck10_2 : F.idx (ck10 2) = true) (h_ck10_3 :
    F.idx (ck10 3) = true) (h_ob_11776_10 : F.idx (ob 11776 10) = true) (h_recLostCount : F.idx (recLostCount) = true) (hk : Kept
    F org s) : Kept F org (vbakMeasure vbak vl ma s) := by
  unfold vbakMeasure
  simp (contextual := true) (maxDischargeDepth := 60) [hk, h_flt, h_pwr, h_rcd, h_ucp, h_28, h_ck10_1, h_ck10_10, h_ck10_11, h_ck10_2, h_ck10_3, h_ob_11776_10, h_recLostCount]

@[simp ↓] theorem vlLow_kept {F : Foot} {org : State} (code : Nat) (mv : Nat) (s : State) (h_flt : F.flt = true) (h_pwr :
    F.pwr = true) (h_rcd : F.rcd = true) (h_ucp : F.ucp = true) (h_28 : F.grp 40) (h_ck10_1 : F.idx (ck10 1) = true) (h_ck10_10 :
    F.idx (ck10 10) = true) (h_ck10_11 : F.idx (ck10 11) = true) (h_ob_11776_10 : F.idx (ob 11776 10) = true) (h_recLostCount :
    F.idx (recLostCount) = true) (hk : Kept F org s) : Kept F org (vlLow code mv s) := by
  unfold vlLow
  simp (contextual := true) (maxDischargeDepth := 60) [hk, h_flt, h_pwr, h_rcd, h_ucp, h_28, h_ck10_1, h_ck10_10, h_ck10_11, h_ob_11776_10, h_recLostCount]

@[simp ↓] theorem vbakTrip_kept {F : Foot} {org : State} (s : State) (h_pwr : F.pwr = true) (hk : Kept F org s) : Kept F org
    (vbakTrip s) := by
  unfold vbakTrip
  simp [hk, h_pwr]

@[simp ↓] theorem vbPrecharge_kept {F : Foot} {org : State} (g : Nat) (mv : Nat) (s : State) (h_gk1 : ∀ p, F.idx (gk p 1) =
    true) (h_gk3 : ∀ p, F.idx (gk p 3) = true) (hk : Kept F org s) : Kept F org (vbPrecharge g mv s) := by
  unfold vbPrecharge
  simp [hk, h_gk1, h_gk3]

@[simp ↓] theorem presentMake_kept {F : Foot} {org : State} (s : State) (h_eth : F.eth = true) (h_pwr : F.pwr = true)
    (h_ck10_4 : F.idx (ck10 4) = true) (h_ob_4112_5 : F.idx (ob 4112 5) = true) (hk : Kept F org s) : Kept F org (presentMake s)
    := by
  unfold presentMake
  simp (contextual := true) (maxDischargeDepth := 60) [hk, h_eth, h_pwr, h_ck10_4, h_ob_4112_5]

@[simp ↓] theorem presentBreak_kept {F : Foot} {org : State} (closed : Nat) (s : State) (h_outs : F.outs = true) (h_pwr :
    F.pwr = true) (h_gk3 : ∀ p, F.idx (gk p 3) = true) (h_ck10_4 : F.idx (ck10 4) = true) (h_ck10_8 : F.idx (ck10 8) = true)
    (h_ob_4112_5 : F.idx (ob 4112 5) = true) (hk : Kept F org s) : Kept F org (presentBreak closed s) := by
  unfold presentBreak
  simp (contextual := true) (maxDischargeDepth := 60) [hk, h_outs, h_pwr, h_gk3, h_ck10_4, h_ck10_8, h_ob_4112_5]

@[simp ↓] theorem addressRead_kept {F : Foot} {org : State} (pins : Nat) (agree : Bool) (s : State) (h_pwr : F.pwr = true)
    (h_ck10_9 : F.idx (ck10 9) = true) (h_ob_4112_1 : F.idx (ob 4112 1) = true) (h_ob_4112_2 : F.idx (ob 4112 2) = true) (hk :
    Kept F org s) : Kept F org (addressRead pins agree s) := by
  unfold addressRead
  simp (contextual := true) (maxDischargeDepth := 60) [hk, h_pwr, h_ck10_9, h_ob_4112_1, h_ob_4112_2]

@[simp ↓] theorem addressChange_kept {F : Foot} {org : State} (pins : Nat) (s : State) (h_ck10_9 : F.idx (ck10 9) = true)
    (h_ob_4112_2 : F.idx (ob 4112 2) = true) (hk : Kept F org s) : Kept F org (addressChange pins s) := by
  unfold addressChange
  (repeat' split) <;> simp (contextual := true) (maxDischargeDepth := 60) [hk, h_ck10_9, h_ob_4112_2]

@[simp ↓] theorem wakeInLevel_kept {F : Foot} {org : State} (high : Bool) (s : State) (h_pwr : F.pwr = true) (hk : Kept F org
    s) : Kept F org (wakeInLevel high s) := by
  unfold wakeInLevel
  simp [hk, h_pwr]

@[simp ↓] theorem statusPin_kept {F : Foot} {org : State} (pin : Nat) (over_ : Bool) (s : State) (h_pwr : F.pwr = true) (hk :
    Kept F org s) : Kept F org (statusPin pin over_ s) := by
  unfold statusPin
  simp [hk, h_pwr]

end Sys2Proof.Machine
end

