-- ==== Sys2Proof/Laws/KeptViews.lean ====
section
/-! SUPPORT. Footprints of reads. -/

set_option linter.unusedSimpArgs false
set_option linter.unusedVariables false

namespace Sys2Proof.Machine

open Sys2Proof

@[simp ↓] theorem State.read_kept {F : Foot} {org : State} (s : State) (w : Who) (i : Nat) (sub : Nat) (off : Nat) (n : Nat)
    (h_ob_4608_4 : F.idx (ob 4608 4) = true) (h_ob_4608_5 : F.idx (ob 4608 5) = true) (h_ob_4608_6 : F.idx (ob 4608 6) = true)
    (h_ob_4608_7 : F.idx (ob 4608 7) = true) (h_ob_4608_8 : F.idx (ob 4608 8) = true) (hk : Kept F org s) : Kept F org (State.read
    s w i sub off n).1 := by
  have h9 : Kept F org (s.refuse9 i sub) := by simp [*]
  unfold State.read
  split
  · exact hk
  · split
    · simp only [fst_ite, kept_ite, hk, ite_self]
    · simp only [fst_ite, kept_ite, hk, h9, ite_self]

end Sys2Proof.Machine
end

