-- ==== Sys2Proof/Laws/KeptRouter.lean ====
section
/-! SUPPORT. Footprints of the objects' rules and the requests. -/

set_option linter.unusedSimpArgs false
set_option linter.unusedVariables false

namespace Sys2Proof.Machine

open Sys2Proof

/-- What holds of both branches holds of the choice. -/
theorem if_ind {α : Type} {P : α → Prop} {c : Prop} [Decidable c] {a b : α} (ha : P a) (hb : P b) : P (if c then a else b) := by
  split <;> assumption

@[simp ↓] theorem hPlain_kept {F : Foot} (i : Nat) (sub : Nat) (h_all : ∀ i, F.idx i = true) : (hPlain i sub).Stays F := by
  unfold hPlain
  refine Handler.simple_stays _ fun m s w v hk => ?_
  (repeat' split) <;> simp (contextual := true) (maxDischargeDepth := 60) [hk, h_all]

@[simp ↓] theorem hCauseMap_kept {F : Foot} (sub : Nat) (h_12 : F.grp 18) : (hCauseMap sub).Stays F := by
  intro m s w v hk
  unfold hCauseMap
  simp (contextual := true) (maxDischargeDepth := 60) [hk, h_12]

@[simp ↓] theorem slotHandler_kept {F : Foot} (n : Nat) (i : Nat) (sub : Nat) (h_lark : F.lark = true) (h_all : ∀ i, F.idx i =
    true) : (slotHandler n i sub).Stays F := by
  unfold slotHandler
  (repeat' split) <;> simp [*]

@[simp ↓] theorem inputHandler_kept {F : Foot} (c : Nat) (i : Nat) (sub : Nat) (h_all : ∀ i, F.idx i = true) : (inputHandler c
    i sub).Stays F := by
  unfold inputHandler
  (repeat' split) <;> simp [*]

@[simp ↓] theorem canHandler_kept {F : Foot} (p : Nat) (i : Nat) (sub : Nat) (h_can : F.can = true) (h_flt : F.flt = true)
    (h_rcd : F.rcd = true) (h_ucp : F.ucp = true) (h_all : ∀ i, F.idx i = true) : (canHandler p i sub).Stays F := by
  unfold canHandler
  (repeat' split) <;> simp [*]

@[simp ↓] theorem lowHandler_kept {F : Foot} (i : Nat) (sub : Nat) (h_flt : F.flt = true) (h_img : F.img = true) (h_lark :
    F.lark = true) (h_pwr : F.pwr = true) (h_rcd : F.rcd = true) (h_sec : F.sec = true) (h_ucp : F.ucp = true) (h_all : ∀ i, F.idx
    i = true) : (lowHandler i sub).Stays F := by
  unfold lowHandler
  (repeat' split) <;> simp [*]

@[simp ↓] theorem senseHandler_kept {F : Foot} (f : Facts) (i : Nat) (sub : Nat) (h_crop : F.crop = true) (h_flt : F.flt =
    true) (h_inp : F.inp = true) (h_nav : F.nav = true) (h_rcd : F.rcd = true) (h_rx : F.rx = true) (h_timers : F.timers = true)
    (h_ucp : F.ucp = true) (h_all : ∀ i, F.idx i = true) : (senseHandler f i sub).Stays F := by
  unfold senseHandler
  (repeat' split) <;> simp [*]

@[simp ↓] theorem safetyHandler_kept {F : Foot} (i : Nat) (sub : Nat) (h_conf : F.conf = true) (h_flt : F.flt = true) (h_fox :
    F.fox = true) (h_rcd : F.rcd = true) (h_ucp : F.ucp = true) (h_all : ∀ i, F.idx i = true) : (safetyHandler i sub).Stays F :=
    by
  unfold safetyHandler
  repeat' with_reducible apply Handler.stays_ite
  all_goals simp [*]

@[simp ↓] theorem State.withVersion_kept {F : Foot} {org : State} (s : State) (vals : Tbl Nat) (blobs : Tbl (List Byte))
    (h_apps : F.apps = true) (h_can : F.can = true) (h_img : F.img = true) (h_all : ∀ i, F.idx i = true) (hk : Kept F org s) :
    Kept F org (State.withVersion s vals blobs) := by
  have h1 : Kept F org { s with objs := s.objs.filter (fun p => !(s.isStored p.1)) } := { hk with
    tables := fun hm => by
      obtain ⟨a, b, c, d⟩ := hk.wfs hm
      simp [State.tablesOk, Tbl.wf_filter, a, b, c, d]
    get := fun k => .inl (h_all _)
    getB := fun k => .inl (h_all _) }
  unfold State.withVersion
  simp (contextual := true) (maxDischargeDepth := 60) [*]

@[simp ↓] theorem hImport_kept {F : Foot} (handler : Nat → Nat → Handler) (h_apps : F.apps = true) (h_can : F.can = true)
    (h_conf : F.conf = true) (h_flt : F.flt = true) (h_fox : F.fox = true) (h_img : F.img = true) (h_rcd : F.rcd = true) (h_ucp :
    F.ucp = true) (h_all : ∀ i, F.idx i = true) : (hImport handler).Stays F := by
  intro m s w v hk
  unfold hImport
  simp (contextual := true) (maxDischargeDepth := 60) [hk, h_apps, h_can, h_conf, h_flt, h_fox, h_img, h_rcd, h_ucp, h_all]

@[simp ↓] theorem baseHandler_kept {F : Foot} (f : Facts) (i : Nat) (sub : Nat) (h_can : F.can = true) (h_conf : F.conf =
    true) (h_crop : F.crop = true) (h_flt : F.flt = true) (h_fox : F.fox = true) (h_free : F.free = true) (h_img : F.img = true)
    (h_inp : F.inp = true) (h_lark : F.lark = true) (h_nav : F.nav = true) (h_outs : F.outs = true) (h_pwr : F.pwr = true) (h_rcd
    : F.rcd = true) (h_rx : F.rx = true) (h_sec : F.sec = true) (h_timers : F.timers = true) (h_ucp : F.ucp = true) (h_upd : F.upd
    = true) (h_all : ∀ i, F.idx i = true) : (baseHandler f i sub).Stays F := by
  unfold baseHandler
  repeat' with_reducible apply Handler.stays_ite
  all_goals simp [*]

@[simp ↓] theorem midHandler_kept {F : Foot} (f : Facts) (i : Nat) (sub : Nat) (h_apps : F.apps = true) (h_can : F.can = true)
    (h_conf : F.conf = true) (h_crop : F.crop = true) (h_flt : F.flt = true) (h_fox : F.fox = true) (h_free : F.free = true)
    (h_img : F.img = true) (h_inp : F.inp = true) (h_lark : F.lark = true) (h_nav : F.nav = true) (h_outs : F.outs = true) (h_pwr
    : F.pwr = true) (h_rcd : F.rcd = true) (h_rx : F.rx = true) (h_sec : F.sec = true) (h_timers : F.timers = true) (h_ucp : F.ucp
    = true) (h_upd : F.upd = true) (h_all : ∀ i, F.idx i = true) : (midHandler f i sub).Stays F := by
  unfold midHandler
  (repeat' split) <;> simp [*]

@[simp ↓] theorem State.writeAt_kept {F : Foot} {org : State} (s : State) (w : Who) (i : Nat) (sub : Nat) (off : Nat) (aux :
    Nat) (v : Val) (h : Handler) (h_img : F.img = true) (h_ob_12288_4 : F.idx (ob 12288 4) = true) (h_ob_4608_4 : F.idx (ob 4608
    4) = true) (h_ob_4608_5 : F.idx (ob 4608 5) = true) (h_ob_4608_6 : F.idx (ob 4608 6) = true) (h_ob_4608_7 : F.idx (ob 4608 7)
    = true) (h_ob_4608_8 : F.idx (ob 4608 8) = true) (h_h : h.Stays F) (hk : Kept F org s) : Kept F org (State.writeAt s w i sub
    off aux v h).1 := by
  have hw : Kept F org (s.write w i sub v h).1 := by simp [*]
  unfold State.writeAt
  dsimp only
  split
  · split
    · (split <;> exact hk)
    · exact hw
  · split
    · (split <;> exact hk)
    · exact hw

@[simp ↓] theorem State.signedRecord_kept {F : Foot} {org : State} (s : State) (st : Nat) (role : Nat) (serial : Nat) (i :
    Nat) (sub : Nat) (sess : Nat) (h_flt : F.flt = true) (h_rcd : F.rcd = true) (h_ucp : F.ucp = true) (h_28 : F.grp 40)
    (h_ob_11776_10 : F.idx (ob 11776 10) = true) (h_recLostCount : F.idx (recLostCount) = true) (hk : Kept F org s) : Kept F org
    (State.signedRecord s st role serial i sub sess) := by
  unfold State.signedRecord
  simp [hk, h_flt, h_rcd, h_ucp, h_28, h_ob_11776_10, h_recLostCount]

@[simp ↓] theorem hSigned_kept {F : Foot} (f : Facts) (h_apps : F.apps = true) (h_can : F.can = true) (h_conf : F.conf = true)
    (h_crop : F.crop = true) (h_flt : F.flt = true) (h_fox : F.fox = true) (h_free : F.free = true) (h_img : F.img = true) (h_inp
    : F.inp = true) (h_lark : F.lark = true) (h_nav : F.nav = true) (h_outs : F.outs = true) (h_pwr : F.pwr = true) (h_rcd : F.rcd
    = true) (h_rx : F.rx = true) (h_sec : F.sec = true) (h_timers : F.timers = true) (h_ucp : F.ucp = true) (h_upd : F.upd = true)
    (h_all : ∀ i, F.idx i = true) : (hSigned f).Stays F := by
  unfold hSigned
  refine Handler.simple_stays _ fun m s w v hk => ?_
  (repeat' split) <;> simp (contextual := true) (maxDischargeDepth := 60) [hk, h_apps, h_can, h_conf, h_crop, h_flt, h_fox, h_free, h_img, h_inp, h_lark, h_nav, h_outs, h_pwr, h_rcd, h_rx, h_sec, h_timers, h_ucp, h_upd, h_all]

@[simp ↓] theorem handlerOf_kept {F : Foot} (f : Facts) (i : Nat) (sub : Nat) (h_apps : F.apps = true) (h_can : F.can = true)
    (h_conf : F.conf = true) (h_crop : F.crop = true) (h_flt : F.flt = true) (h_fox : F.fox = true) (h_free : F.free = true)
    (h_img : F.img = true) (h_inp : F.inp = true) (h_lark : F.lark = true) (h_nav : F.nav = true) (h_outs : F.outs = true) (h_pwr
    : F.pwr = true) (h_rcd : F.rcd = true) (h_rx : F.rx = true) (h_sec : F.sec = true) (h_timers : F.timers = true) (h_ucp : F.ucp
    = true) (h_upd : F.upd = true) (h_all : ∀ i, F.idx i = true) : (handlerOf f i sub).Stays F := by
  unfold handlerOf
  (repeat' split) <;> simp [*]

@[simp ↓] theorem readCmd_kept {F : Foot} {org : State} (w : Who) (i : Nat) (sub : Nat) (off : Nat) (n : Nat) (s : State)
    (h_ucp : F.ucp = true) (h_ob_4608_4 : F.idx (ob 4608 4) = true) (h_ob_4608_5 : F.idx (ob 4608 5) = true) (h_ob_4608_6 : F.idx
    (ob 4608 6) = true) (h_ob_4608_7 : F.idx (ob 4608 7) = true) (h_ob_4608_8 : F.idx (ob 4608 8) = true) (hk : Kept F org s) :
    Kept F org (readCmd w i sub off n s) := by
  unfold readCmd
  simp [hk, h_ucp, h_ob_4608_4, h_ob_4608_5, h_ob_4608_6, h_ob_4608_7, h_ob_4608_8]

@[simp ↓] theorem writeCmd_kept {F : Foot} {org : State} (w : Who) (i : Nat) (sub : Nat) (off : Nat) (aux : Nat) (data : List
    Byte) (f : Facts) (s : State) (h_apps : F.apps = true) (h_can : F.can = true) (h_conf : F.conf = true) (h_crop : F.crop =
    true) (h_flt : F.flt = true) (h_fox : F.fox = true) (h_free : F.free = true) (h_img : F.img = true) (h_inp : F.inp = true)
    (h_lark : F.lark = true) (h_nav : F.nav = true) (h_outs : F.outs = true) (h_pwr : F.pwr = true) (h_rcd : F.rcd = true) (h_rx :
    F.rx = true) (h_sec : F.sec = true) (h_timers : F.timers = true) (h_ucp : F.ucp = true) (h_upd : F.upd = true) (h_all : ∀ i,
    F.idx i = true) (hk : Kept F org s) : Kept F org (writeCmd w i sub off aux data f s) := by
  unfold writeCmd
  simp (contextual := true) (maxDischargeDepth := 60) [hk, h_apps, h_can, h_conf, h_crop, h_flt, h_fox, h_free, h_img, h_inp, h_lark, h_nav, h_outs, h_pwr, h_rcd, h_rx, h_sec, h_timers, h_ucp, h_upd, h_all]

@[simp ↓] theorem State.carryOut_kept {F : Foot} {org : State} (s : State) (r : Route) (p : Packet) (f : Facts) (h_apps :
    F.apps = true) (h_can : F.can = true) (h_conf : F.conf = true) (h_crop : F.crop = true) (h_flt : F.flt = true) (h_fox : F.fox
    = true) (h_free : F.free = true) (h_img : F.img = true) (h_inp : F.inp = true) (h_lark : F.lark = true) (h_nav : F.nav = true)
    (h_outs : F.outs = true) (h_pwr : F.pwr = true) (h_rcd : F.rcd = true) (h_rx : F.rx = true) (h_sec : F.sec = true) (h_timers :
    F.timers = true) (h_ucp : F.ucp = true) (h_upd : F.upd = true) (h_all : ∀ i, F.idx i = true) (hk : Kept F org s) : Kept F org
    (State.carryOut s r p f).1 := by
  unfold State.carryOut
  dsimp only
  refine (if_ind (P := fun x : State × Nat × Nat × List Byte => Kept F org x.1) hk ?_)
  refine (if_ind (P := fun x : State × Nat × Nat × List Byte => Kept F org x.1) (by simp [*]) ?_)
  refine (if_ind (P := fun x : State × Nat × Nat × List Byte => Kept F org x.1) (by simp [*]) ?_)
  refine (if_ind (P := fun x : State × Nat × Nat × List Byte => Kept F org x.1) (by simp [*]) ?_)
  refine (if_ind (P := fun x : State × Nat × Nat × List Byte => Kept F org x.1) (by simp [*]) ?_)
  refine (if_ind (P := fun x : State × Nat × Nat × List Byte => Kept F org x.1) (by simp [*]) ?_)
  refine (if_ind (P := fun x : State × Nat × Nat × List Byte => Kept F org x.1) hk ?_)
  refine (if_ind (P := fun x : State × Nat × Nat × List Byte => Kept F org x.1) (by simp [*]) ?_)
  refine (if_ind (P := fun x : State × Nat × Nat × List Byte => Kept F org x.1) (by simp [*]) ?_)
  refine (if_ind (P := fun x : State × Nat × Nat × List Byte => Kept F org x.1) (by simp [*]) ?_)
  exact (if_ind (P := fun x : State × Nat × Nat × List Byte => Kept F org x.1) (by simp [*]) hk)

@[simp ↓] theorem requestDequeue_kept {F : Foot} {org : State} (f : Facts) (s : State) (h_apps : F.apps = true) (h_can : F.can
    = true) (h_conf : F.conf = true) (h_crop : F.crop = true) (h_flt : F.flt = true) (h_fox : F.fox = true) (h_free : F.free =
    true) (h_img : F.img = true) (h_inp : F.inp = true) (h_lark : F.lark = true) (h_nav : F.nav = true) (h_outs : F.outs = true)
    (h_pwr : F.pwr = true) (h_rcd : F.rcd = true) (h_rx : F.rx = true) (h_sec : F.sec = true) (h_timers : F.timers = true) (h_ucp
    : F.ucp = true) (h_upd : F.upd = true) (h_all : ∀ i, F.idx i = true) (hk : Kept F org s) : Kept F org (requestDequeue f s) :=
    by
  unfold requestDequeue
  (repeat' split) <;> simp (contextual := true) (maxDischargeDepth := 60) [hk, h_apps, h_can, h_conf, h_crop, h_flt, h_fox, h_free, h_img, h_inp, h_lark, h_nav, h_outs, h_pwr, h_rcd, h_rx, h_sec, h_timers, h_ucp, h_upd, h_all]

@[simp ↓] theorem State.loadVersion_kept {F : Foot} {org : State} (s : State) (v : Ver) (h_apps : F.apps = true) (h_can :
    F.can = true) (h_conf : F.conf = true) (h_crop : F.crop = true) (h_flt : F.flt = true) (h_fox : F.fox = true) (h_free : F.free
    = true) (h_img : F.img = true) (h_inp : F.inp = true) (h_lark : F.lark = true) (h_nav : F.nav = true) (h_outs : F.outs = true)
    (h_pwr : F.pwr = true) (h_rcd : F.rcd = true) (h_rx : F.rx = true) (h_sec : F.sec = true) (h_timers : F.timers = true) (h_ucp
    : F.ucp = true) (h_upd : F.upd = true) (h_all : ∀ i, F.idx i = true) (hk : Kept F org s) : Kept F org (State.loadVersion s v)
    := by
  unfold State.loadVersion
  simp (contextual := true) (maxDischargeDepth := 60) [hk, h_apps, h_can, h_conf, h_crop, h_flt, h_fox, h_free, h_img, h_inp, h_lark, h_nav, h_outs, h_pwr, h_rcd, h_rx, h_sec, h_timers, h_ucp, h_upd, h_all]

end Sys2Proof.Machine
end

