-- ==== Sys2Proof/Laws/State.lean ====
section
/-! SUPPORT. What each update of State leaves alone: one lemma for a field and an update, true by unfolding. -/

namespace Sys2Proof.Machine

open Sys2Proof

/-! ### Reading back what was put -/

@[simp] theorem State.get_put (s : State) (k v : Nat) : (s.put k v).get k = v := Tbl.get_set_same _ _ _ _
theorem State.get_put_ne (s : State) {j k : Nat} (v : Nat) (h : j ≠ k) : (s.put k v).get j = s.get j := Tbl.get_set_other _ _ _ _ h
@[simp] theorem State.getB_putB (s : State) (k : Nat) (l : List Byte) : (s.putB k l).getB k = l := Tbl.get_set_same _ _ _ _
theorem State.getB_putB_ne (s : State) {j k : Nat} (l : List Byte) (h : j ≠ k) : (s.putB k l).getB j = s.getB j :=
  Tbl.get_set_other _ _ _ _ h
@[simp] theorem State.get_putBool (s : State) (k : Nat) (b : Bool) : (s.putBool k b).get k = ofBool b := State.get_put _ _ _
theorem State.get_putBool_ne (s : State) {j k : Nat} (b : Bool) (h : j ≠ k) : (s.putBool k b).get j = s.get j := State.get_put_ne _ _ h
@[simp] theorem State.get_putI16 (s : State) (k : Nat) (x : Int) : (s.putI16 k x).get k = i16bits (clampI (-32768) 32767 x) := State.get_put _ _ _
theorem State.get_putI16_ne (s : State) {j k : Nat} (x : Int) (h : j ≠ k) : (s.putI16 k x).get j = s.get j := State.get_put_ne _ _ h
@[simp] theorem State.get_putI32 (s : State) (k : Nat) (x : Int) : (s.putI32 k x).get k = i32bits (clampI (-2147483648) 2147483647 x) := State.get_put _ _ _
theorem State.get_putI32_ne (s : State) {j k : Nat} (x : Int) (h : j ≠ k) : (s.putI32 k x).get j = s.get j := State.get_put_ne _ _ h
@[simp] theorem State.get_putI64 (s : State) (k : Nat) (x : Int) : (s.putI64 k x).get k = i64bits x := State.get_put _ _ _
theorem State.get_putI64_ne (s : State) {j k : Nat} (x : Int) (h : j ≠ k) : (s.putI64 k x).get j = s.get j := State.get_put_ne _ _ h
@[simp] theorem State.get_putF (s : State) (k : Nat) (x : F32) : (s.putF k x).get k = x.toNat := State.get_put _ _ _
theorem State.get_putF_ne (s : State) {j k : Nat} (x : F32) (h : j ≠ k) : (s.putF k x).get j = s.get j := State.get_put_ne _ _ h
@[simp] theorem State.get_add32 (s : State) (k : Nat) (n : Nat) : (s.add32 k n).get k = clampN 0xFFFFFFFF (s.get k + n) := State.get_put _ _ _
theorem State.get_add32_ne (s : State) {j k : Nat} (n : Nat) (h : j ≠ k) : (s.add32 k n).get j = s.get j := State.get_put_ne _ _ h
@[simp] theorem State.get_addWrap (s : State) (k : Nat) (n : Nat) : (s.addWrap k n).get k = (s.get k + n) % 2 ^ 32 := State.get_put _ _ _
theorem State.get_addWrap_ne (s : State) {j k : Nat} (n : Nat) (h : j ≠ k) : (s.addWrap k n).get j = s.get j := State.get_put_ne _ _ h
@[simp] theorem State.get_inc32 (s : State) (k : Nat) : (s.inc32 k).get k = clampN 0xFFFFFFFF (s.get k + 1) := State.get_put _ _ _
theorem State.get_inc32_ne (s : State) {j k : Nat} (h : j ≠ k) : (s.inc32 k).get j = s.get j := State.get_put_ne _ _ h
@[simp] theorem State.get_putBit (s : State) (k i : Nat) (b : Bool) : (s.putBit k i b).get k = setBit (s.get k) i b := State.get_put _ _ _
theorem State.get_putBit_ne (s : State) {j k : Nat} (i : Nat) (b : Bool) (h : j ≠ k) : (s.putBit k i b).get j = s.get j :=
  State.get_put_ne _ _ h

/-! ### put -/

@[simp] theorem State.put_blobs (s : State) (k v : Nat) : (s.put k v).blobs = s.blobs := rfl
@[simp] theorem State.put_objs0 (s : State) (k v : Nat) : (s.put k v).objs0 = s.objs0 := rfl
@[simp] theorem State.put_objsB (s : State) (k v : Nat) : (s.put k v).objsB = s.objsB := rfl
@[simp] theorem State.put_apps (s : State) (k v : Nat) : (s.put k v).apps = s.apps := rfl
@[simp] theorem State.put_tm (s : State) (k v : Nat) : (s.put k v).tm = s.tm := rfl
@[simp] theorem State.put_parts (s : State) (k v : Nat) : (s.put k v).parts = s.parts := rfl
@[simp] theorem State.put_img (s : State) (k v : Nat) : (s.put k v).img = s.img := rfl
@[simp] theorem State.put_inp (s : State) (k v : Nat) : (s.put k v).inp = s.inp := rfl
@[simp] theorem State.put_rx (s : State) (k v : Nat) : (s.put k v).rx = s.rx := rfl
@[simp] theorem State.put_nav (s : State) (k v : Nat) : (s.put k v).nav = s.nav := rfl
@[simp] theorem State.put_crop (s : State) (k v : Nat) : (s.put k v).crop = s.crop := rfl
@[simp] theorem State.put_lark (s : State) (k v : Nat) : (s.put k v).lark = s.lark := rfl
@[simp] theorem State.put_outs (s : State) (k v : Nat) : (s.put k v).outs = s.outs := rfl
@[simp] theorem State.put_fox (s : State) (k v : Nat) : (s.put k v).fox = s.fox := rfl
@[simp] theorem State.put_can (s : State) (k v : Nat) : (s.put k v).can = s.can := rfl
@[simp] theorem State.put_flt (s : State) (k v : Nat) : (s.put k v).flt = s.flt := rfl
@[simp] theorem State.put_rcd (s : State) (k v : Nat) : (s.put k v).rcd = s.rcd := rfl
@[simp] theorem State.put_nv (s : State) (k v : Nat) : (s.put k v).nv = s.nv := rfl
@[simp] theorem State.put_sp (s : State) (k v : Nat) : (s.put k v).sp = s.sp := rfl
@[simp] theorem State.put_ucp (s : State) (k v : Nat) : (s.put k v).ucp = s.ucp := rfl
@[simp] theorem State.put_sec (s : State) (k v : Nat) : (s.put k v).sec = s.sec := rfl
@[simp] theorem State.put_eth (s : State) (k v : Nat) : (s.put k v).eth = s.eth := rfl
@[simp] theorem State.put_conf (s : State) (k v : Nat) : (s.put k v).conf = s.conf := rfl
@[simp] theorem State.put_upd (s : State) (k v : Nat) : (s.put k v).upd = s.upd := rfl
@[simp] theorem State.put_pwr (s : State) (k v : Nat) : (s.put k v).pwr = s.pwr := rfl
@[simp] theorem State.put_timers (s : State) (k v : Nat) : (s.put k v).timers = s.timers := rfl
@[simp] theorem State.put_free (s : State) (k v : Nat) : (s.put k v).free = s.free := rfl
@[simp] theorem State.put_pending (s : State) (k v : Nat) : (s.put k v).pending = s.pending := rfl
@[simp] theorem State.put_getB (s : State) (k v : Nat) (j : Nat) : (s.put k v).getB j = s.getB j := rfl
@[simp] theorem State.put_cfg (s : State) (k v : Nat) (j : Nat) : (s.put k v).cfg j = s.cfg j := rfl

/-! ### putBool -/

@[simp] theorem State.putBool_blobs (s : State) (k : Nat) (b : Bool) : (s.putBool k b).blobs = s.blobs := rfl
@[simp] theorem State.putBool_objs0 (s : State) (k : Nat) (b : Bool) : (s.putBool k b).objs0 = s.objs0 := rfl
@[simp] theorem State.putBool_objsB (s : State) (k : Nat) (b : Bool) : (s.putBool k b).objsB = s.objsB := rfl
@[simp] theorem State.putBool_apps (s : State) (k : Nat) (b : Bool) : (s.putBool k b).apps = s.apps := rfl
@[simp] theorem State.putBool_tm (s : State) (k : Nat) (b : Bool) : (s.putBool k b).tm = s.tm := rfl
@[simp] theorem State.putBool_parts (s : State) (k : Nat) (b : Bool) : (s.putBool k b).parts = s.parts := rfl
@[simp] theorem State.putBool_img (s : State) (k : Nat) (b : Bool) : (s.putBool k b).img = s.img := rfl
@[simp] theorem State.putBool_inp (s : State) (k : Nat) (b : Bool) : (s.putBool k b).inp = s.inp := rfl
@[simp] theorem State.putBool_rx (s : State) (k : Nat) (b : Bool) : (s.putBool k b).rx = s.rx := rfl
@[simp] theorem State.putBool_nav (s : State) (k : Nat) (b : Bool) : (s.putBool k b).nav = s.nav := rfl
@[simp] theorem State.putBool_crop (s : State) (k : Nat) (b : Bool) : (s.putBool k b).crop = s.crop := rfl
@[simp] theorem State.putBool_lark (s : State) (k : Nat) (b : Bool) : (s.putBool k b).lark = s.lark := rfl
@[simp] theorem State.putBool_outs (s : State) (k : Nat) (b : Bool) : (s.putBool k b).outs = s.outs := rfl
@[simp] theorem State.putBool_fox (s : State) (k : Nat) (b : Bool) : (s.putBool k b).fox = s.fox := rfl
@[simp] theorem State.putBool_can (s : State) (k : Nat) (b : Bool) : (s.putBool k b).can = s.can := rfl
@[simp] theorem State.putBool_flt (s : State) (k : Nat) (b : Bool) : (s.putBool k b).flt = s.flt := rfl
@[simp] theorem State.putBool_rcd (s : State) (k : Nat) (b : Bool) : (s.putBool k b).rcd = s.rcd := rfl
@[simp] theorem State.putBool_nv (s : State) (k : Nat) (b : Bool) : (s.putBool k b).nv = s.nv := rfl
@[simp] theorem State.putBool_sp (s : State) (k : Nat) (b : Bool) : (s.putBool k b).sp = s.sp := rfl
@[simp] theorem State.putBool_ucp (s : State) (k : Nat) (b : Bool) : (s.putBool k b).ucp = s.ucp := rfl
@[simp] theorem State.putBool_sec (s : State) (k : Nat) (b : Bool) : (s.putBool k b).sec = s.sec := rfl
@[simp] theorem State.putBool_eth (s : State) (k : Nat) (b : Bool) : (s.putBool k b).eth = s.eth := rfl
@[simp] theorem State.putBool_conf (s : State) (k : Nat) (b : Bool) : (s.putBool k b).conf = s.conf := rfl
@[simp] theorem State.putBool_upd (s : State) (k : Nat) (b : Bool) : (s.putBool k b).upd = s.upd := rfl
@[simp] theorem State.putBool_pwr (s : State) (k : Nat) (b : Bool) : (s.putBool k b).pwr = s.pwr := rfl
@[simp] theorem State.putBool_timers (s : State) (k : Nat) (b : Bool) : (s.putBool k b).timers = s.timers := rfl
@[simp] theorem State.putBool_free (s : State) (k : Nat) (b : Bool) : (s.putBool k b).free = s.free := rfl
@[simp] theorem State.putBool_pending (s : State) (k : Nat) (b : Bool) : (s.putBool k b).pending = s.pending := rfl
@[simp] theorem State.putBool_getB (s : State) (k : Nat) (b : Bool) (j : Nat) : (s.putBool k b).getB j = s.getB j := rfl
@[simp] theorem State.putBool_cfg (s : State) (k : Nat) (b : Bool) (j : Nat) : (s.putBool k b).cfg j = s.cfg j := rfl

/-! ### putI16 -/

@[simp] theorem State.putI16_blobs (s : State) (k : Nat) (x : Int) : (s.putI16 k x).blobs = s.blobs := rfl
@[simp] theorem State.putI16_objs0 (s : State) (k : Nat) (x : Int) : (s.putI16 k x).objs0 = s.objs0 := rfl
@[simp] theorem State.putI16_objsB (s : State) (k : Nat) (x : Int) : (s.putI16 k x).objsB = s.objsB := rfl
@[simp] theorem State.putI16_apps (s : State) (k : Nat) (x : Int) : (s.putI16 k x).apps = s.apps := rfl
@[simp] theorem State.putI16_tm (s : State) (k : Nat) (x : Int) : (s.putI16 k x).tm = s.tm := rfl
@[simp] theorem State.putI16_parts (s : State) (k : Nat) (x : Int) : (s.putI16 k x).parts = s.parts := rfl
@[simp] theorem State.putI16_img (s : State) (k : Nat) (x : Int) : (s.putI16 k x).img = s.img := rfl
@[simp] theorem State.putI16_inp (s : State) (k : Nat) (x : Int) : (s.putI16 k x).inp = s.inp := rfl
@[simp] theorem State.putI16_rx (s : State) (k : Nat) (x : Int) : (s.putI16 k x).rx = s.rx := rfl
@[simp] theorem State.putI16_nav (s : State) (k : Nat) (x : Int) : (s.putI16 k x).nav = s.nav := rfl
@[simp] theorem State.putI16_crop (s : State) (k : Nat) (x : Int) : (s.putI16 k x).crop = s.crop := rfl
@[simp] theorem State.putI16_lark (s : State) (k : Nat) (x : Int) : (s.putI16 k x).lark = s.lark := rfl
@[simp] theorem State.putI16_outs (s : State) (k : Nat) (x : Int) : (s.putI16 k x).outs = s.outs := rfl
@[simp] theorem State.putI16_fox (s : State) (k : Nat) (x : Int) : (s.putI16 k x).fox = s.fox := rfl
@[simp] theorem State.putI16_can (s : State) (k : Nat) (x : Int) : (s.putI16 k x).can = s.can := rfl
@[simp] theorem State.putI16_flt (s : State) (k : Nat) (x : Int) : (s.putI16 k x).flt = s.flt := rfl
@[simp] theorem State.putI16_rcd (s : State) (k : Nat) (x : Int) : (s.putI16 k x).rcd = s.rcd := rfl
@[simp] theorem State.putI16_nv (s : State) (k : Nat) (x : Int) : (s.putI16 k x).nv = s.nv := rfl
@[simp] theorem State.putI16_sp (s : State) (k : Nat) (x : Int) : (s.putI16 k x).sp = s.sp := rfl
@[simp] theorem State.putI16_ucp (s : State) (k : Nat) (x : Int) : (s.putI16 k x).ucp = s.ucp := rfl
@[simp] theorem State.putI16_sec (s : State) (k : Nat) (x : Int) : (s.putI16 k x).sec = s.sec := rfl
@[simp] theorem State.putI16_eth (s : State) (k : Nat) (x : Int) : (s.putI16 k x).eth = s.eth := rfl
@[simp] theorem State.putI16_conf (s : State) (k : Nat) (x : Int) : (s.putI16 k x).conf = s.conf := rfl
@[simp] theorem State.putI16_upd (s : State) (k : Nat) (x : Int) : (s.putI16 k x).upd = s.upd := rfl
@[simp] theorem State.putI16_pwr (s : State) (k : Nat) (x : Int) : (s.putI16 k x).pwr = s.pwr := rfl
@[simp] theorem State.putI16_timers (s : State) (k : Nat) (x : Int) : (s.putI16 k x).timers = s.timers := rfl
@[simp] theorem State.putI16_free (s : State) (k : Nat) (x : Int) : (s.putI16 k x).free = s.free := rfl
@[simp] theorem State.putI16_pending (s : State) (k : Nat) (x : Int) : (s.putI16 k x).pending = s.pending := rfl
@[simp] theorem State.putI16_getB (s : State) (k : Nat) (x : Int) (j : Nat) : (s.putI16 k x).getB j = s.getB j := rfl
@[simp] theorem State.putI16_cfg (s : State) (k : Nat) (x : Int) (j : Nat) : (s.putI16 k x).cfg j = s.cfg j := rfl

/-! ### putI32 -/

@[simp] theorem State.putI32_blobs (s : State) (k : Nat) (x : Int) : (s.putI32 k x).blobs = s.blobs := rfl
@[simp] theorem State.putI32_objs0 (s : State) (k : Nat) (x : Int) : (s.putI32 k x).objs0 = s.objs0 := rfl
@[simp] theorem State.putI32_objsB (s : State) (k : Nat) (x : Int) : (s.putI32 k x).objsB = s.objsB := rfl
@[simp] theorem State.putI32_apps (s : State) (k : Nat) (x : Int) : (s.putI32 k x).apps = s.apps := rfl
@[simp] theorem State.putI32_tm (s : State) (k : Nat) (x : Int) : (s.putI32 k x).tm = s.tm := rfl
@[simp] theorem State.putI32_parts (s : State) (k : Nat) (x : Int) : (s.putI32 k x).parts = s.parts := rfl
@[simp] theorem State.putI32_img (s : State) (k : Nat) (x : Int) : (s.putI32 k x).img = s.img := rfl
@[simp] theorem State.putI32_inp (s : State) (k : Nat) (x : Int) : (s.putI32 k x).inp = s.inp := rfl
@[simp] theorem State.putI32_rx (s : State) (k : Nat) (x : Int) : (s.putI32 k x).rx = s.rx := rfl
@[simp] theorem State.putI32_nav (s : State) (k : Nat) (x : Int) : (s.putI32 k x).nav = s.nav := rfl
@[simp] theorem State.putI32_crop (s : State) (k : Nat) (x : Int) : (s.putI32 k x).crop = s.crop := rfl
@[simp] theorem State.putI32_lark (s : State) (k : Nat) (x : Int) : (s.putI32 k x).lark = s.lark := rfl
@[simp] theorem State.putI32_outs (s : State) (k : Nat) (x : Int) : (s.putI32 k x).outs = s.outs := rfl
@[simp] theorem State.putI32_fox (s : State) (k : Nat) (x : Int) : (s.putI32 k x).fox = s.fox := rfl
@[simp] theorem State.putI32_can (s : State) (k : Nat) (x : Int) : (s.putI32 k x).can = s.can := rfl
@[simp] theorem State.putI32_flt (s : State) (k : Nat) (x : Int) : (s.putI32 k x).flt = s.flt := rfl
@[simp] theorem State.putI32_rcd (s : State) (k : Nat) (x : Int) : (s.putI32 k x).rcd = s.rcd := rfl
@[simp] theorem State.putI32_nv (s : State) (k : Nat) (x : Int) : (s.putI32 k x).nv = s.nv := rfl
@[simp] theorem State.putI32_sp (s : State) (k : Nat) (x : Int) : (s.putI32 k x).sp = s.sp := rfl
@[simp] theorem State.putI32_ucp (s : State) (k : Nat) (x : Int) : (s.putI32 k x).ucp = s.ucp := rfl
@[simp] theorem State.putI32_sec (s : State) (k : Nat) (x : Int) : (s.putI32 k x).sec = s.sec := rfl
@[simp] theorem State.putI32_eth (s : State) (k : Nat) (x : Int) : (s.putI32 k x).eth = s.eth := rfl
@[simp] theorem State.putI32_conf (s : State) (k : Nat) (x : Int) : (s.putI32 k x).conf = s.conf := rfl
@[simp] theorem State.putI32_upd (s : State) (k : Nat) (x : Int) : (s.putI32 k x).upd = s.upd := rfl
@[simp] theorem State.putI32_pwr (s : State) (k : Nat) (x : Int) : (s.putI32 k x).pwr = s.pwr := rfl
@[simp] theorem State.putI32_timers (s : State) (k : Nat) (x : Int) : (s.putI32 k x).timers = s.timers := rfl
@[simp] theorem State.putI32_free (s : State) (k : Nat) (x : Int) : (s.putI32 k x).free = s.free := rfl
@[simp] theorem State.putI32_pending (s : State) (k : Nat) (x : Int) : (s.putI32 k x).pending = s.pending := rfl
@[simp] theorem State.putI32_getB (s : State) (k : Nat) (x : Int) (j : Nat) : (s.putI32 k x).getB j = s.getB j := rfl
@[simp] theorem State.putI32_cfg (s : State) (k : Nat) (x : Int) (j : Nat) : (s.putI32 k x).cfg j = s.cfg j := rfl

/-! ### putI64 -/

@[simp] theorem State.putI64_blobs (s : State) (k : Nat) (x : Int) : (s.putI64 k x).blobs = s.blobs := rfl
@[simp] theorem State.putI64_objs0 (s : State) (k : Nat) (x : Int) : (s.putI64 k x).objs0 = s.objs0 := rfl
@[simp] theorem State.putI64_objsB (s : State) (k : Nat) (x : Int) : (s.putI64 k x).objsB = s.objsB := rfl
@[simp] theorem State.putI64_apps (s : State) (k : Nat) (x : Int) : (s.putI64 k x).apps = s.apps := rfl
@[simp] theorem State.putI64_tm (s : State) (k : Nat) (x : Int) : (s.putI64 k x).tm = s.tm := rfl
@[simp] theorem State.putI64_parts (s : State) (k : Nat) (x : Int) : (s.putI64 k x).parts = s.parts := rfl
@[simp] theorem State.putI64_img (s : State) (k : Nat) (x : Int) : (s.putI64 k x).img = s.img := rfl
@[simp] theorem State.putI64_inp (s : State) (k : Nat) (x : Int) : (s.putI64 k x).inp = s.inp := rfl
@[simp] theorem State.putI64_rx (s : State) (k : Nat) (x : Int) : (s.putI64 k x).rx = s.rx := rfl
@[simp] theorem State.putI64_nav (s : State) (k : Nat) (x : Int) : (s.putI64 k x).nav = s.nav := rfl
@[simp] theorem State.putI64_crop (s : State) (k : Nat) (x : Int) : (s.putI64 k x).crop = s.crop := rfl
@[simp] theorem State.putI64_lark (s : State) (k : Nat) (x : Int) : (s.putI64 k x).lark = s.lark := rfl
@[simp] theorem State.putI64_outs (s : State) (k : Nat) (x : Int) : (s.putI64 k x).outs = s.outs := rfl
@[simp] theorem State.putI64_fox (s : State) (k : Nat) (x : Int) : (s.putI64 k x).fox = s.fox := rfl
@[simp] theorem State.putI64_can (s : State) (k : Nat) (x : Int) : (s.putI64 k x).can = s.can := rfl
@[simp] theorem State.putI64_flt (s : State) (k : Nat) (x : Int) : (s.putI64 k x).flt = s.flt := rfl
@[simp] theorem State.putI64_rcd (s : State) (k : Nat) (x : Int) : (s.putI64 k x).rcd = s.rcd := rfl
@[simp] theorem State.putI64_nv (s : State) (k : Nat) (x : Int) : (s.putI64 k x).nv = s.nv := rfl
@[simp] theorem State.putI64_sp (s : State) (k : Nat) (x : Int) : (s.putI64 k x).sp = s.sp := rfl
@[simp] theorem State.putI64_ucp (s : State) (k : Nat) (x : Int) : (s.putI64 k x).ucp = s.ucp := rfl
@[simp] theorem State.putI64_sec (s : State) (k : Nat) (x : Int) : (s.putI64 k x).sec = s.sec := rfl
@[simp] theorem State.putI64_eth (s : State) (k : Nat) (x : Int) : (s.putI64 k x).eth = s.eth := rfl
@[simp] theorem State.putI64_conf (s : State) (k : Nat) (x : Int) : (s.putI64 k x).conf = s.conf := rfl
@[simp] theorem State.putI64_upd (s : State) (k : Nat) (x : Int) : (s.putI64 k x).upd = s.upd := rfl
@[simp] theorem State.putI64_pwr (s : State) (k : Nat) (x : Int) : (s.putI64 k x).pwr = s.pwr := rfl
@[simp] theorem State.putI64_timers (s : State) (k : Nat) (x : Int) : (s.putI64 k x).timers = s.timers := rfl
@[simp] theorem State.putI64_free (s : State) (k : Nat) (x : Int) : (s.putI64 k x).free = s.free := rfl
@[simp] theorem State.putI64_pending (s : State) (k : Nat) (x : Int) : (s.putI64 k x).pending = s.pending := rfl
@[simp] theorem State.putI64_getB (s : State) (k : Nat) (x : Int) (j : Nat) : (s.putI64 k x).getB j = s.getB j := rfl
@[simp] theorem State.putI64_cfg (s : State) (k : Nat) (x : Int) (j : Nat) : (s.putI64 k x).cfg j = s.cfg j := rfl

/-! ### putF -/

@[simp] theorem State.putF_blobs (s : State) (k : Nat) (x : F32) : (s.putF k x).blobs = s.blobs := rfl
@[simp] theorem State.putF_objs0 (s : State) (k : Nat) (x : F32) : (s.putF k x).objs0 = s.objs0 := rfl
@[simp] theorem State.putF_objsB (s : State) (k : Nat) (x : F32) : (s.putF k x).objsB = s.objsB := rfl
@[simp] theorem State.putF_apps (s : State) (k : Nat) (x : F32) : (s.putF k x).apps = s.apps := rfl
@[simp] theorem State.putF_tm (s : State) (k : Nat) (x : F32) : (s.putF k x).tm = s.tm := rfl
@[simp] theorem State.putF_parts (s : State) (k : Nat) (x : F32) : (s.putF k x).parts = s.parts := rfl
@[simp] theorem State.putF_img (s : State) (k : Nat) (x : F32) : (s.putF k x).img = s.img := rfl
@[simp] theorem State.putF_inp (s : State) (k : Nat) (x : F32) : (s.putF k x).inp = s.inp := rfl
@[simp] theorem State.putF_rx (s : State) (k : Nat) (x : F32) : (s.putF k x).rx = s.rx := rfl
@[simp] theorem State.putF_nav (s : State) (k : Nat) (x : F32) : (s.putF k x).nav = s.nav := rfl
@[simp] theorem State.putF_crop (s : State) (k : Nat) (x : F32) : (s.putF k x).crop = s.crop := rfl
@[simp] theorem State.putF_lark (s : State) (k : Nat) (x : F32) : (s.putF k x).lark = s.lark := rfl
@[simp] theorem State.putF_outs (s : State) (k : Nat) (x : F32) : (s.putF k x).outs = s.outs := rfl
@[simp] theorem State.putF_fox (s : State) (k : Nat) (x : F32) : (s.putF k x).fox = s.fox := rfl
@[simp] theorem State.putF_can (s : State) (k : Nat) (x : F32) : (s.putF k x).can = s.can := rfl
@[simp] theorem State.putF_flt (s : State) (k : Nat) (x : F32) : (s.putF k x).flt = s.flt := rfl
@[simp] theorem State.putF_rcd (s : State) (k : Nat) (x : F32) : (s.putF k x).rcd = s.rcd := rfl
@[simp] theorem State.putF_nv (s : State) (k : Nat) (x : F32) : (s.putF k x).nv = s.nv := rfl
@[simp] theorem State.putF_sp (s : State) (k : Nat) (x : F32) : (s.putF k x).sp = s.sp := rfl
@[simp] theorem State.putF_ucp (s : State) (k : Nat) (x : F32) : (s.putF k x).ucp = s.ucp := rfl
@[simp] theorem State.putF_sec (s : State) (k : Nat) (x : F32) : (s.putF k x).sec = s.sec := rfl
@[simp] theorem State.putF_eth (s : State) (k : Nat) (x : F32) : (s.putF k x).eth = s.eth := rfl
@[simp] theorem State.putF_conf (s : State) (k : Nat) (x : F32) : (s.putF k x).conf = s.conf := rfl
@[simp] theorem State.putF_upd (s : State) (k : Nat) (x : F32) : (s.putF k x).upd = s.upd := rfl
@[simp] theorem State.putF_pwr (s : State) (k : Nat) (x : F32) : (s.putF k x).pwr = s.pwr := rfl
@[simp] theorem State.putF_timers (s : State) (k : Nat) (x : F32) : (s.putF k x).timers = s.timers := rfl
@[simp] theorem State.putF_free (s : State) (k : Nat) (x : F32) : (s.putF k x).free = s.free := rfl
@[simp] theorem State.putF_pending (s : State) (k : Nat) (x : F32) : (s.putF k x).pending = s.pending := rfl
@[simp] theorem State.putF_getB (s : State) (k : Nat) (x : F32) (j : Nat) : (s.putF k x).getB j = s.getB j := rfl
@[simp] theorem State.putF_cfg (s : State) (k : Nat) (x : F32) (j : Nat) : (s.putF k x).cfg j = s.cfg j := rfl

/-! ### putBit -/

@[simp] theorem State.putBit_blobs (s : State) (k i : Nat) (b : Bool) : (s.putBit k i b).blobs = s.blobs := rfl
@[simp] theorem State.putBit_objs0 (s : State) (k i : Nat) (b : Bool) : (s.putBit k i b).objs0 = s.objs0 := rfl
@[simp] theorem State.putBit_objsB (s : State) (k i : Nat) (b : Bool) : (s.putBit k i b).objsB = s.objsB := rfl
@[simp] theorem State.putBit_apps (s : State) (k i : Nat) (b : Bool) : (s.putBit k i b).apps = s.apps := rfl
@[simp] theorem State.putBit_tm (s : State) (k i : Nat) (b : Bool) : (s.putBit k i b).tm = s.tm := rfl
@[simp] theorem State.putBit_parts (s : State) (k i : Nat) (b : Bool) : (s.putBit k i b).parts = s.parts := rfl
@[simp] theorem State.putBit_img (s : State) (k i : Nat) (b : Bool) : (s.putBit k i b).img = s.img := rfl
@[simp] theorem State.putBit_inp (s : State) (k i : Nat) (b : Bool) : (s.putBit k i b).inp = s.inp := rfl
@[simp] theorem State.putBit_rx (s : State) (k i : Nat) (b : Bool) : (s.putBit k i b).rx = s.rx := rfl
@[simp] theorem State.putBit_nav (s : State) (k i : Nat) (b : Bool) : (s.putBit k i b).nav = s.nav := rfl
@[simp] theorem State.putBit_crop (s : State) (k i : Nat) (b : Bool) : (s.putBit k i b).crop = s.crop := rfl
@[simp] theorem State.putBit_lark (s : State) (k i : Nat) (b : Bool) : (s.putBit k i b).lark = s.lark := rfl
@[simp] theorem State.putBit_outs (s : State) (k i : Nat) (b : Bool) : (s.putBit k i b).outs = s.outs := rfl
@[simp] theorem State.putBit_fox (s : State) (k i : Nat) (b : Bool) : (s.putBit k i b).fox = s.fox := rfl
@[simp] theorem State.putBit_can (s : State) (k i : Nat) (b : Bool) : (s.putBit k i b).can = s.can := rfl
@[simp] theorem State.putBit_flt (s : State) (k i : Nat) (b : Bool) : (s.putBit k i b).flt = s.flt := rfl
@[simp] theorem State.putBit_rcd (s : State) (k i : Nat) (b : Bool) : (s.putBit k i b).rcd = s.rcd := rfl
@[simp] theorem State.putBit_nv (s : State) (k i : Nat) (b : Bool) : (s.putBit k i b).nv = s.nv := rfl
@[simp] theorem State.putBit_sp (s : State) (k i : Nat) (b : Bool) : (s.putBit k i b).sp = s.sp := rfl
@[simp] theorem State.putBit_ucp (s : State) (k i : Nat) (b : Bool) : (s.putBit k i b).ucp = s.ucp := rfl
@[simp] theorem State.putBit_sec (s : State) (k i : Nat) (b : Bool) : (s.putBit k i b).sec = s.sec := rfl
@[simp] theorem State.putBit_eth (s : State) (k i : Nat) (b : Bool) : (s.putBit k i b).eth = s.eth := rfl
@[simp] theorem State.putBit_conf (s : State) (k i : Nat) (b : Bool) : (s.putBit k i b).conf = s.conf := rfl
@[simp] theorem State.putBit_upd (s : State) (k i : Nat) (b : Bool) : (s.putBit k i b).upd = s.upd := rfl
@[simp] theorem State.putBit_pwr (s : State) (k i : Nat) (b : Bool) : (s.putBit k i b).pwr = s.pwr := rfl
@[simp] theorem State.putBit_timers (s : State) (k i : Nat) (b : Bool) : (s.putBit k i b).timers = s.timers := rfl
@[simp] theorem State.putBit_free (s : State) (k i : Nat) (b : Bool) : (s.putBit k i b).free = s.free := rfl
@[simp] theorem State.putBit_pending (s : State) (k i : Nat) (b : Bool) : (s.putBit k i b).pending = s.pending := rfl
@[simp] theorem State.putBit_getB (s : State) (k i : Nat) (b : Bool) (j : Nat) : (s.putBit k i b).getB j = s.getB j := rfl
@[simp] theorem State.putBit_cfg (s : State) (k i : Nat) (b : Bool) (j : Nat) : (s.putBit k i b).cfg j = s.cfg j := rfl

/-! ### inc32 -/

@[simp] theorem State.inc32_blobs (s : State) (k : Nat) : (s.inc32 k).blobs = s.blobs := rfl
@[simp] theorem State.inc32_objs0 (s : State) (k : Nat) : (s.inc32 k).objs0 = s.objs0 := rfl
@[simp] theorem State.inc32_objsB (s : State) (k : Nat) : (s.inc32 k).objsB = s.objsB := rfl
@[simp] theorem State.inc32_apps (s : State) (k : Nat) : (s.inc32 k).apps = s.apps := rfl
@[simp] theorem State.inc32_tm (s : State) (k : Nat) : (s.inc32 k).tm = s.tm := rfl
@[simp] theorem State.inc32_parts (s : State) (k : Nat) : (s.inc32 k).parts = s.parts := rfl
@[simp] theorem State.inc32_img (s : State) (k : Nat) : (s.inc32 k).img = s.img := rfl
@[simp] theorem State.inc32_inp (s : State) (k : Nat) : (s.inc32 k).inp = s.inp := rfl
@[simp] theorem State.inc32_rx (s : State) (k : Nat) : (s.inc32 k).rx = s.rx := rfl
@[simp] theorem State.inc32_nav (s : State) (k : Nat) : (s.inc32 k).nav = s.nav := rfl
@[simp] theorem State.inc32_crop (s : State) (k : Nat) : (s.inc32 k).crop = s.crop := rfl
@[simp] theorem State.inc32_lark (s : State) (k : Nat) : (s.inc32 k).lark = s.lark := rfl
@[simp] theorem State.inc32_outs (s : State) (k : Nat) : (s.inc32 k).outs = s.outs := rfl
@[simp] theorem State.inc32_fox (s : State) (k : Nat) : (s.inc32 k).fox = s.fox := rfl
@[simp] theorem State.inc32_can (s : State) (k : Nat) : (s.inc32 k).can = s.can := rfl
@[simp] theorem State.inc32_flt (s : State) (k : Nat) : (s.inc32 k).flt = s.flt := rfl
@[simp] theorem State.inc32_rcd (s : State) (k : Nat) : (s.inc32 k).rcd = s.rcd := rfl
@[simp] theorem State.inc32_nv (s : State) (k : Nat) : (s.inc32 k).nv = s.nv := rfl
@[simp] theorem State.inc32_sp (s : State) (k : Nat) : (s.inc32 k).sp = s.sp := rfl
@[simp] theorem State.inc32_ucp (s : State) (k : Nat) : (s.inc32 k).ucp = s.ucp := rfl
@[simp] theorem State.inc32_sec (s : State) (k : Nat) : (s.inc32 k).sec = s.sec := rfl
@[simp] theorem State.inc32_eth (s : State) (k : Nat) : (s.inc32 k).eth = s.eth := rfl
@[simp] theorem State.inc32_conf (s : State) (k : Nat) : (s.inc32 k).conf = s.conf := rfl
@[simp] theorem State.inc32_upd (s : State) (k : Nat) : (s.inc32 k).upd = s.upd := rfl
@[simp] theorem State.inc32_pwr (s : State) (k : Nat) : (s.inc32 k).pwr = s.pwr := rfl
@[simp] theorem State.inc32_timers (s : State) (k : Nat) : (s.inc32 k).timers = s.timers := rfl
@[simp] theorem State.inc32_free (s : State) (k : Nat) : (s.inc32 k).free = s.free := rfl
@[simp] theorem State.inc32_pending (s : State) (k : Nat) : (s.inc32 k).pending = s.pending := rfl
@[simp] theorem State.inc32_getB (s : State) (k : Nat) (j : Nat) : (s.inc32 k).getB j = s.getB j := rfl
@[simp] theorem State.inc32_cfg (s : State) (k : Nat) (j : Nat) : (s.inc32 k).cfg j = s.cfg j := rfl

/-! ### add32 -/

@[simp] theorem State.add32_blobs (s : State) (k n : Nat) : (s.add32 k n).blobs = s.blobs := rfl
@[simp] theorem State.add32_objs0 (s : State) (k n : Nat) : (s.add32 k n).objs0 = s.objs0 := rfl
@[simp] theorem State.add32_objsB (s : State) (k n : Nat) : (s.add32 k n).objsB = s.objsB := rfl
@[simp] theorem State.add32_apps (s : State) (k n : Nat) : (s.add32 k n).apps = s.apps := rfl
@[simp] theorem State.add32_tm (s : State) (k n : Nat) : (s.add32 k n).tm = s.tm := rfl
@[simp] theorem State.add32_parts (s : State) (k n : Nat) : (s.add32 k n).parts = s.parts := rfl
@[simp] theorem State.add32_img (s : State) (k n : Nat) : (s.add32 k n).img = s.img := rfl
@[simp] theorem State.add32_inp (s : State) (k n : Nat) : (s.add32 k n).inp = s.inp := rfl
@[simp] theorem State.add32_rx (s : State) (k n : Nat) : (s.add32 k n).rx = s.rx := rfl
@[simp] theorem State.add32_nav (s : State) (k n : Nat) : (s.add32 k n).nav = s.nav := rfl
@[simp] theorem State.add32_crop (s : State) (k n : Nat) : (s.add32 k n).crop = s.crop := rfl
@[simp] theorem State.add32_lark (s : State) (k n : Nat) : (s.add32 k n).lark = s.lark := rfl
@[simp] theorem State.add32_outs (s : State) (k n : Nat) : (s.add32 k n).outs = s.outs := rfl
@[simp] theorem State.add32_fox (s : State) (k n : Nat) : (s.add32 k n).fox = s.fox := rfl
@[simp] theorem State.add32_can (s : State) (k n : Nat) : (s.add32 k n).can = s.can := rfl
@[simp] theorem State.add32_flt (s : State) (k n : Nat) : (s.add32 k n).flt = s.flt := rfl
@[simp] theorem State.add32_rcd (s : State) (k n : Nat) : (s.add32 k n).rcd = s.rcd := rfl
@[simp] theorem State.add32_nv (s : State) (k n : Nat) : (s.add32 k n).nv = s.nv := rfl
@[simp] theorem State.add32_sp (s : State) (k n : Nat) : (s.add32 k n).sp = s.sp := rfl
@[simp] theorem State.add32_ucp (s : State) (k n : Nat) : (s.add32 k n).ucp = s.ucp := rfl
@[simp] theorem State.add32_sec (s : State) (k n : Nat) : (s.add32 k n).sec = s.sec := rfl
@[simp] theorem State.add32_eth (s : State) (k n : Nat) : (s.add32 k n).eth = s.eth := rfl
@[simp] theorem State.add32_conf (s : State) (k n : Nat) : (s.add32 k n).conf = s.conf := rfl
@[simp] theorem State.add32_upd (s : State) (k n : Nat) : (s.add32 k n).upd = s.upd := rfl
@[simp] theorem State.add32_pwr (s : State) (k n : Nat) : (s.add32 k n).pwr = s.pwr := rfl
@[simp] theorem State.add32_timers (s : State) (k n : Nat) : (s.add32 k n).timers = s.timers := rfl
@[simp] theorem State.add32_free (s : State) (k n : Nat) : (s.add32 k n).free = s.free := rfl
@[simp] theorem State.add32_pending (s : State) (k n : Nat) : (s.add32 k n).pending = s.pending := rfl
@[simp] theorem State.add32_getB (s : State) (k n : Nat) (j : Nat) : (s.add32 k n).getB j = s.getB j := rfl
@[simp] theorem State.add32_cfg (s : State) (k n : Nat) (j : Nat) : (s.add32 k n).cfg j = s.cfg j := rfl

/-! ### addWrap -/

@[simp] theorem State.addWrap_blobs (s : State) (k n : Nat) : (s.addWrap k n).blobs = s.blobs := rfl
@[simp] theorem State.addWrap_objs0 (s : State) (k n : Nat) : (s.addWrap k n).objs0 = s.objs0 := rfl
@[simp] theorem State.addWrap_objsB (s : State) (k n : Nat) : (s.addWrap k n).objsB = s.objsB := rfl
@[simp] theorem State.addWrap_apps (s : State) (k n : Nat) : (s.addWrap k n).apps = s.apps := rfl
@[simp] theorem State.addWrap_tm (s : State) (k n : Nat) : (s.addWrap k n).tm = s.tm := rfl
@[simp] theorem State.addWrap_parts (s : State) (k n : Nat) : (s.addWrap k n).parts = s.parts := rfl
@[simp] theorem State.addWrap_img (s : State) (k n : Nat) : (s.addWrap k n).img = s.img := rfl
@[simp] theorem State.addWrap_inp (s : State) (k n : Nat) : (s.addWrap k n).inp = s.inp := rfl
@[simp] theorem State.addWrap_rx (s : State) (k n : Nat) : (s.addWrap k n).rx = s.rx := rfl
@[simp] theorem State.addWrap_nav (s : State) (k n : Nat) : (s.addWrap k n).nav = s.nav := rfl
@[simp] theorem State.addWrap_crop (s : State) (k n : Nat) : (s.addWrap k n).crop = s.crop := rfl
@[simp] theorem State.addWrap_lark (s : State) (k n : Nat) : (s.addWrap k n).lark = s.lark := rfl
@[simp] theorem State.addWrap_outs (s : State) (k n : Nat) : (s.addWrap k n).outs = s.outs := rfl
@[simp] theorem State.addWrap_fox (s : State) (k n : Nat) : (s.addWrap k n).fox = s.fox := rfl
@[simp] theorem State.addWrap_can (s : State) (k n : Nat) : (s.addWrap k n).can = s.can := rfl
@[simp] theorem State.addWrap_flt (s : State) (k n : Nat) : (s.addWrap k n).flt = s.flt := rfl
@[simp] theorem State.addWrap_rcd (s : State) (k n : Nat) : (s.addWrap k n).rcd = s.rcd := rfl
@[simp] theorem State.addWrap_nv (s : State) (k n : Nat) : (s.addWrap k n).nv = s.nv := rfl
@[simp] theorem State.addWrap_sp (s : State) (k n : Nat) : (s.addWrap k n).sp = s.sp := rfl
@[simp] theorem State.addWrap_ucp (s : State) (k n : Nat) : (s.addWrap k n).ucp = s.ucp := rfl
@[simp] theorem State.addWrap_sec (s : State) (k n : Nat) : (s.addWrap k n).sec = s.sec := rfl
@[simp] theorem State.addWrap_eth (s : State) (k n : Nat) : (s.addWrap k n).eth = s.eth := rfl
@[simp] theorem State.addWrap_conf (s : State) (k n : Nat) : (s.addWrap k n).conf = s.conf := rfl
@[simp] theorem State.addWrap_upd (s : State) (k n : Nat) : (s.addWrap k n).upd = s.upd := rfl
@[simp] theorem State.addWrap_pwr (s : State) (k n : Nat) : (s.addWrap k n).pwr = s.pwr := rfl
@[simp] theorem State.addWrap_timers (s : State) (k n : Nat) : (s.addWrap k n).timers = s.timers := rfl
@[simp] theorem State.addWrap_free (s : State) (k n : Nat) : (s.addWrap k n).free = s.free := rfl
@[simp] theorem State.addWrap_pending (s : State) (k n : Nat) : (s.addWrap k n).pending = s.pending := rfl
@[simp] theorem State.addWrap_getB (s : State) (k n : Nat) (j : Nat) : (s.addWrap k n).getB j = s.getB j := rfl
@[simp] theorem State.addWrap_cfg (s : State) (k n : Nat) (j : Nat) : (s.addWrap k n).cfg j = s.cfg j := rfl

/-! ### putB -/

@[simp] theorem State.putB_objs (s : State) (k : Nat) (l : List Byte) : (s.putB k l).objs = s.objs := rfl
@[simp] theorem State.putB_objs0 (s : State) (k : Nat) (l : List Byte) : (s.putB k l).objs0 = s.objs0 := rfl
@[simp] theorem State.putB_objsB (s : State) (k : Nat) (l : List Byte) : (s.putB k l).objsB = s.objsB := rfl
@[simp] theorem State.putB_apps (s : State) (k : Nat) (l : List Byte) : (s.putB k l).apps = s.apps := rfl
@[simp] theorem State.putB_tm (s : State) (k : Nat) (l : List Byte) : (s.putB k l).tm = s.tm := rfl
@[simp] theorem State.putB_parts (s : State) (k : Nat) (l : List Byte) : (s.putB k l).parts = s.parts := rfl
@[simp] theorem State.putB_img (s : State) (k : Nat) (l : List Byte) : (s.putB k l).img = s.img := rfl
@[simp] theorem State.putB_inp (s : State) (k : Nat) (l : List Byte) : (s.putB k l).inp = s.inp := rfl
@[simp] theorem State.putB_rx (s : State) (k : Nat) (l : List Byte) : (s.putB k l).rx = s.rx := rfl
@[simp] theorem State.putB_nav (s : State) (k : Nat) (l : List Byte) : (s.putB k l).nav = s.nav := rfl
@[simp] theorem State.putB_crop (s : State) (k : Nat) (l : List Byte) : (s.putB k l).crop = s.crop := rfl
@[simp] theorem State.putB_lark (s : State) (k : Nat) (l : List Byte) : (s.putB k l).lark = s.lark := rfl
@[simp] theorem State.putB_outs (s : State) (k : Nat) (l : List Byte) : (s.putB k l).outs = s.outs := rfl
@[simp] theorem State.putB_fox (s : State) (k : Nat) (l : List Byte) : (s.putB k l).fox = s.fox := rfl
@[simp] theorem State.putB_can (s : State) (k : Nat) (l : List Byte) : (s.putB k l).can = s.can := rfl
@[simp] theorem State.putB_flt (s : State) (k : Nat) (l : List Byte) : (s.putB k l).flt = s.flt := rfl
@[simp] theorem State.putB_rcd (s : State) (k : Nat) (l : List Byte) : (s.putB k l).rcd = s.rcd := rfl
@[simp] theorem State.putB_nv (s : State) (k : Nat) (l : List Byte) : (s.putB k l).nv = s.nv := rfl
@[simp] theorem State.putB_sp (s : State) (k : Nat) (l : List Byte) : (s.putB k l).sp = s.sp := rfl
@[simp] theorem State.putB_ucp (s : State) (k : Nat) (l : List Byte) : (s.putB k l).ucp = s.ucp := rfl
@[simp] theorem State.putB_sec (s : State) (k : Nat) (l : List Byte) : (s.putB k l).sec = s.sec := rfl
@[simp] theorem State.putB_eth (s : State) (k : Nat) (l : List Byte) : (s.putB k l).eth = s.eth := rfl
@[simp] theorem State.putB_conf (s : State) (k : Nat) (l : List Byte) : (s.putB k l).conf = s.conf := rfl
@[simp] theorem State.putB_upd (s : State) (k : Nat) (l : List Byte) : (s.putB k l).upd = s.upd := rfl
@[simp] theorem State.putB_pwr (s : State) (k : Nat) (l : List Byte) : (s.putB k l).pwr = s.pwr := rfl
@[simp] theorem State.putB_timers (s : State) (k : Nat) (l : List Byte) : (s.putB k l).timers = s.timers := rfl
@[simp] theorem State.putB_free (s : State) (k : Nat) (l : List Byte) : (s.putB k l).free = s.free := rfl
@[simp] theorem State.putB_pending (s : State) (k : Nat) (l : List Byte) : (s.putB k l).pending = s.pending := rfl
@[simp] theorem State.putB_get (s : State) (k : Nat) (l : List Byte) (j : Nat) : (s.putB k l).get j = s.get j := rfl
@[simp] theorem State.putB_cfg (s : State) (k : Nat) (l : List Byte) (j : Nat) : (s.putB k l).cfg j = s.cfg j := rfl

/-! ### useFree -/

@[simp] theorem State.useFree_objs (s : State)  : (s.useFree ).objs = s.objs := rfl
@[simp] theorem State.useFree_blobs (s : State)  : (s.useFree ).blobs = s.blobs := rfl
@[simp] theorem State.useFree_objs0 (s : State)  : (s.useFree ).objs0 = s.objs0 := rfl
@[simp] theorem State.useFree_objsB (s : State)  : (s.useFree ).objsB = s.objsB := rfl
@[simp] theorem State.useFree_apps (s : State)  : (s.useFree ).apps = s.apps := rfl
@[simp] theorem State.useFree_tm (s : State)  : (s.useFree ).tm = s.tm := rfl
@[simp] theorem State.useFree_parts (s : State)  : (s.useFree ).parts = s.parts := rfl
@[simp] theorem State.useFree_img (s : State)  : (s.useFree ).img = s.img := rfl
@[simp] theorem State.useFree_inp (s : State)  : (s.useFree ).inp = s.inp := rfl
@[simp] theorem State.useFree_rx (s : State)  : (s.useFree ).rx = s.rx := rfl
@[simp] theorem State.useFree_nav (s : State)  : (s.useFree ).nav = s.nav := rfl
@[simp] theorem State.useFree_crop (s : State)  : (s.useFree ).crop = s.crop := rfl
@[simp] theorem State.useFree_lark (s : State)  : (s.useFree ).lark = s.lark := rfl
@[simp] theorem State.useFree_outs (s : State)  : (s.useFree ).outs = s.outs := rfl
@[simp] theorem State.useFree_fox (s : State)  : (s.useFree ).fox = s.fox := rfl
@[simp] theorem State.useFree_can (s : State)  : (s.useFree ).can = s.can := rfl
@[simp] theorem State.useFree_flt (s : State)  : (s.useFree ).flt = s.flt := rfl
@[simp] theorem State.useFree_rcd (s : State)  : (s.useFree ).rcd = s.rcd := rfl
@[simp] theorem State.useFree_nv (s : State)  : (s.useFree ).nv = s.nv := rfl
@[simp] theorem State.useFree_sp (s : State)  : (s.useFree ).sp = s.sp := rfl
@[simp] theorem State.useFree_ucp (s : State)  : (s.useFree ).ucp = s.ucp := rfl
@[simp] theorem State.useFree_sec (s : State)  : (s.useFree ).sec = s.sec := rfl
@[simp] theorem State.useFree_eth (s : State)  : (s.useFree ).eth = s.eth := rfl
@[simp] theorem State.useFree_conf (s : State)  : (s.useFree ).conf = s.conf := rfl
@[simp] theorem State.useFree_upd (s : State)  : (s.useFree ).upd = s.upd := rfl
@[simp] theorem State.useFree_pwr (s : State)  : (s.useFree ).pwr = s.pwr := rfl
@[simp] theorem State.useFree_timers (s : State)  : (s.useFree ).timers = s.timers := rfl
@[simp] theorem State.useFree_pending (s : State)  : (s.useFree ).pending = s.pending := rfl
@[simp] theorem State.useFree_get (s : State)  (j : Nat) : (s.useFree ).get j = s.get j := rfl
@[simp] theorem State.useFree_getB (s : State)  (j : Nat) : (s.useFree ).getB j = s.getB j := rfl
@[simp] theorem State.useFree_cfg (s : State)  (j : Nat) : (s.useFree ).cfg j = s.cfg j := rfl

/-! ### setPart -/

@[simp] theorem State.setPart_objs (s : State) (p : Nat) (f : PartSt → PartSt) : (s.setPart p f).objs = s.objs := rfl
@[simp] theorem State.setPart_blobs (s : State) (p : Nat) (f : PartSt → PartSt) : (s.setPart p f).blobs = s.blobs := rfl
@[simp] theorem State.setPart_objs0 (s : State) (p : Nat) (f : PartSt → PartSt) : (s.setPart p f).objs0 = s.objs0 := rfl
@[simp] theorem State.setPart_objsB (s : State) (p : Nat) (f : PartSt → PartSt) : (s.setPart p f).objsB = s.objsB := rfl
@[simp] theorem State.setPart_apps (s : State) (p : Nat) (f : PartSt → PartSt) : (s.setPart p f).apps = s.apps := rfl
@[simp] theorem State.setPart_tm (s : State) (p : Nat) (f : PartSt → PartSt) : (s.setPart p f).tm = s.tm := rfl
@[simp] theorem State.setPart_img (s : State) (p : Nat) (f : PartSt → PartSt) : (s.setPart p f).img = s.img := rfl
@[simp] theorem State.setPart_inp (s : State) (p : Nat) (f : PartSt → PartSt) : (s.setPart p f).inp = s.inp := rfl
@[simp] theorem State.setPart_rx (s : State) (p : Nat) (f : PartSt → PartSt) : (s.setPart p f).rx = s.rx := rfl
@[simp] theorem State.setPart_nav (s : State) (p : Nat) (f : PartSt → PartSt) : (s.setPart p f).nav = s.nav := rfl
@[simp] theorem State.setPart_crop (s : State) (p : Nat) (f : PartSt → PartSt) : (s.setPart p f).crop = s.crop := rfl
@[simp] theorem State.setPart_lark (s : State) (p : Nat) (f : PartSt → PartSt) : (s.setPart p f).lark = s.lark := rfl
@[simp] theorem State.setPart_outs (s : State) (p : Nat) (f : PartSt → PartSt) : (s.setPart p f).outs = s.outs := rfl
@[simp] theorem State.setPart_fox (s : State) (p : Nat) (f : PartSt → PartSt) : (s.setPart p f).fox = s.fox := rfl
@[simp] theorem State.setPart_can (s : State) (p : Nat) (f : PartSt → PartSt) : (s.setPart p f).can = s.can := rfl
@[simp] theorem State.setPart_flt (s : State) (p : Nat) (f : PartSt → PartSt) : (s.setPart p f).flt = s.flt := rfl
@[simp] theorem State.setPart_rcd (s : State) (p : Nat) (f : PartSt → PartSt) : (s.setPart p f).rcd = s.rcd := rfl
@[simp] theorem State.setPart_nv (s : State) (p : Nat) (f : PartSt → PartSt) : (s.setPart p f).nv = s.nv := rfl
@[simp] theorem State.setPart_sp (s : State) (p : Nat) (f : PartSt → PartSt) : (s.setPart p f).sp = s.sp := rfl
@[simp] theorem State.setPart_ucp (s : State) (p : Nat) (f : PartSt → PartSt) : (s.setPart p f).ucp = s.ucp := rfl
@[simp] theorem State.setPart_sec (s : State) (p : Nat) (f : PartSt → PartSt) : (s.setPart p f).sec = s.sec := rfl
@[simp] theorem State.setPart_eth (s : State) (p : Nat) (f : PartSt → PartSt) : (s.setPart p f).eth = s.eth := rfl
@[simp] theorem State.setPart_conf (s : State) (p : Nat) (f : PartSt → PartSt) : (s.setPart p f).conf = s.conf := rfl
@[simp] theorem State.setPart_upd (s : State) (p : Nat) (f : PartSt → PartSt) : (s.setPart p f).upd = s.upd := rfl
@[simp] theorem State.setPart_pwr (s : State) (p : Nat) (f : PartSt → PartSt) : (s.setPart p f).pwr = s.pwr := rfl
@[simp] theorem State.setPart_timers (s : State) (p : Nat) (f : PartSt → PartSt) : (s.setPart p f).timers = s.timers := rfl
@[simp] theorem State.setPart_free (s : State) (p : Nat) (f : PartSt → PartSt) : (s.setPart p f).free = s.free := rfl
@[simp] theorem State.setPart_pending (s : State) (p : Nat) (f : PartSt → PartSt) : (s.setPart p f).pending = s.pending := rfl
@[simp] theorem State.setPart_get (s : State) (p : Nat) (f : PartSt → PartSt) (j : Nat) : (s.setPart p f).get j = s.get j := rfl
@[simp] theorem State.setPart_getB (s : State) (p : Nat) (f : PartSt → PartSt) (j : Nat) : (s.setPart p f).getB j = s.getB j := rfl
@[simp] theorem State.setPart_cfg (s : State) (p : Nat) (f : PartSt → PartSt) (j : Nat) : (s.setPart p f).cfg j = s.cfg j := rfl

/-! ### startTimer -/

@[simp] theorem State.startTimer_objs (s : State) (t : Nat) : (s.startTimer t).objs = s.objs := rfl
@[simp] theorem State.startTimer_blobs (s : State) (t : Nat) : (s.startTimer t).blobs = s.blobs := rfl
@[simp] theorem State.startTimer_objs0 (s : State) (t : Nat) : (s.startTimer t).objs0 = s.objs0 := rfl
@[simp] theorem State.startTimer_objsB (s : State) (t : Nat) : (s.startTimer t).objsB = s.objsB := rfl
@[simp] theorem State.startTimer_apps (s : State) (t : Nat) : (s.startTimer t).apps = s.apps := rfl
@[simp] theorem State.startTimer_tm (s : State) (t : Nat) : (s.startTimer t).tm = s.tm := rfl
@[simp] theorem State.startTimer_parts (s : State) (t : Nat) : (s.startTimer t).parts = s.parts := rfl
@[simp] theorem State.startTimer_img (s : State) (t : Nat) : (s.startTimer t).img = s.img := rfl
@[simp] theorem State.startTimer_inp (s : State) (t : Nat) : (s.startTimer t).inp = s.inp := rfl
@[simp] theorem State.startTimer_rx (s : State) (t : Nat) : (s.startTimer t).rx = s.rx := rfl
@[simp] theorem State.startTimer_nav (s : State) (t : Nat) : (s.startTimer t).nav = s.nav := rfl
@[simp] theorem State.startTimer_crop (s : State) (t : Nat) : (s.startTimer t).crop = s.crop := rfl
@[simp] theorem State.startTimer_lark (s : State) (t : Nat) : (s.startTimer t).lark = s.lark := rfl
@[simp] theorem State.startTimer_outs (s : State) (t : Nat) : (s.startTimer t).outs = s.outs := rfl
@[simp] theorem State.startTimer_fox (s : State) (t : Nat) : (s.startTimer t).fox = s.fox := rfl
@[simp] theorem State.startTimer_can (s : State) (t : Nat) : (s.startTimer t).can = s.can := rfl
@[simp] theorem State.startTimer_flt (s : State) (t : Nat) : (s.startTimer t).flt = s.flt := rfl
@[simp] theorem State.startTimer_rcd (s : State) (t : Nat) : (s.startTimer t).rcd = s.rcd := rfl
@[simp] theorem State.startTimer_nv (s : State) (t : Nat) : (s.startTimer t).nv = s.nv := rfl
@[simp] theorem State.startTimer_sp (s : State) (t : Nat) : (s.startTimer t).sp = s.sp := rfl
@[simp] theorem State.startTimer_ucp (s : State) (t : Nat) : (s.startTimer t).ucp = s.ucp := rfl
@[simp] theorem State.startTimer_sec (s : State) (t : Nat) : (s.startTimer t).sec = s.sec := rfl
@[simp] theorem State.startTimer_eth (s : State) (t : Nat) : (s.startTimer t).eth = s.eth := rfl
@[simp] theorem State.startTimer_conf (s : State) (t : Nat) : (s.startTimer t).conf = s.conf := rfl
@[simp] theorem State.startTimer_upd (s : State) (t : Nat) : (s.startTimer t).upd = s.upd := rfl
@[simp] theorem State.startTimer_pwr (s : State) (t : Nat) : (s.startTimer t).pwr = s.pwr := rfl
@[simp] theorem State.startTimer_free (s : State) (t : Nat) : (s.startTimer t).free = s.free := rfl
@[simp] theorem State.startTimer_pending (s : State) (t : Nat) : (s.startTimer t).pending = s.pending := rfl
@[simp] theorem State.startTimer_get (s : State) (t : Nat) (j : Nat) : (s.startTimer t).get j = s.get j := rfl
@[simp] theorem State.startTimer_getB (s : State) (t : Nat) (j : Nat) : (s.startTimer t).getB j = s.getB j := rfl
@[simp] theorem State.startTimer_cfg (s : State) (t : Nat) (j : Nat) : (s.startTimer t).cfg j = s.cfg j := rfl

/-! ### stopTimer -/

@[simp] theorem State.stopTimer_objs (s : State) (t : Nat) : (s.stopTimer t).objs = s.objs := rfl
@[simp] theorem State.stopTimer_blobs (s : State) (t : Nat) : (s.stopTimer t).blobs = s.blobs := rfl
@[simp] theorem State.stopTimer_objs0 (s : State) (t : Nat) : (s.stopTimer t).objs0 = s.objs0 := rfl
@[simp] theorem State.stopTimer_objsB (s : State) (t : Nat) : (s.stopTimer t).objsB = s.objsB := rfl
@[simp] theorem State.stopTimer_apps (s : State) (t : Nat) : (s.stopTimer t).apps = s.apps := rfl
@[simp] theorem State.stopTimer_tm (s : State) (t : Nat) : (s.stopTimer t).tm = s.tm := rfl
@[simp] theorem State.stopTimer_parts (s : State) (t : Nat) : (s.stopTimer t).parts = s.parts := rfl
@[simp] theorem State.stopTimer_img (s : State) (t : Nat) : (s.stopTimer t).img = s.img := rfl
@[simp] theorem State.stopTimer_inp (s : State) (t : Nat) : (s.stopTimer t).inp = s.inp := rfl
@[simp] theorem State.stopTimer_rx (s : State) (t : Nat) : (s.stopTimer t).rx = s.rx := rfl
@[simp] theorem State.stopTimer_nav (s : State) (t : Nat) : (s.stopTimer t).nav = s.nav := rfl
@[simp] theorem State.stopTimer_crop (s : State) (t : Nat) : (s.stopTimer t).crop = s.crop := rfl
@[simp] theorem State.stopTimer_lark (s : State) (t : Nat) : (s.stopTimer t).lark = s.lark := rfl
@[simp] theorem State.stopTimer_outs (s : State) (t : Nat) : (s.stopTimer t).outs = s.outs := rfl
@[simp] theorem State.stopTimer_fox (s : State) (t : Nat) : (s.stopTimer t).fox = s.fox := rfl
@[simp] theorem State.stopTimer_can (s : State) (t : Nat) : (s.stopTimer t).can = s.can := rfl
@[simp] theorem State.stopTimer_flt (s : State) (t : Nat) : (s.stopTimer t).flt = s.flt := rfl
@[simp] theorem State.stopTimer_rcd (s : State) (t : Nat) : (s.stopTimer t).rcd = s.rcd := rfl
@[simp] theorem State.stopTimer_nv (s : State) (t : Nat) : (s.stopTimer t).nv = s.nv := rfl
@[simp] theorem State.stopTimer_sp (s : State) (t : Nat) : (s.stopTimer t).sp = s.sp := rfl
@[simp] theorem State.stopTimer_ucp (s : State) (t : Nat) : (s.stopTimer t).ucp = s.ucp := rfl
@[simp] theorem State.stopTimer_sec (s : State) (t : Nat) : (s.stopTimer t).sec = s.sec := rfl
@[simp] theorem State.stopTimer_eth (s : State) (t : Nat) : (s.stopTimer t).eth = s.eth := rfl
@[simp] theorem State.stopTimer_conf (s : State) (t : Nat) : (s.stopTimer t).conf = s.conf := rfl
@[simp] theorem State.stopTimer_upd (s : State) (t : Nat) : (s.stopTimer t).upd = s.upd := rfl
@[simp] theorem State.stopTimer_pwr (s : State) (t : Nat) : (s.stopTimer t).pwr = s.pwr := rfl
@[simp] theorem State.stopTimer_free (s : State) (t : Nat) : (s.stopTimer t).free = s.free := rfl
@[simp] theorem State.stopTimer_pending (s : State) (t : Nat) : (s.stopTimer t).pending = s.pending := rfl
@[simp] theorem State.stopTimer_get (s : State) (t : Nat) (j : Nat) : (s.stopTimer t).get j = s.get j := rfl
@[simp] theorem State.stopTimer_getB (s : State) (t : Nat) (j : Nat) : (s.stopTimer t).getB j = s.getB j := rfl
@[simp] theorem State.stopTimer_cfg (s : State) (t : Nat) (j : Nat) : (s.stopTimer t).cfg j = s.cfg j := rfl

/-! ### answer -/

@[simp] theorem State.answer_objs (s : State) (st aux : Nat) (data : List Byte) : (s.answer st aux data).objs = s.objs := rfl
@[simp] theorem State.answer_blobs (s : State) (st aux : Nat) (data : List Byte) : (s.answer st aux data).blobs = s.blobs := rfl
@[simp] theorem State.answer_objs0 (s : State) (st aux : Nat) (data : List Byte) : (s.answer st aux data).objs0 = s.objs0 := rfl
@[simp] theorem State.answer_objsB (s : State) (st aux : Nat) (data : List Byte) : (s.answer st aux data).objsB = s.objsB := rfl
@[simp] theorem State.answer_apps (s : State) (st aux : Nat) (data : List Byte) : (s.answer st aux data).apps = s.apps := rfl
@[simp] theorem State.answer_tm (s : State) (st aux : Nat) (data : List Byte) : (s.answer st aux data).tm = s.tm := rfl
@[simp] theorem State.answer_parts (s : State) (st aux : Nat) (data : List Byte) : (s.answer st aux data).parts = s.parts := rfl
@[simp] theorem State.answer_img (s : State) (st aux : Nat) (data : List Byte) : (s.answer st aux data).img = s.img := rfl
@[simp] theorem State.answer_inp (s : State) (st aux : Nat) (data : List Byte) : (s.answer st aux data).inp = s.inp := rfl
@[simp] theorem State.answer_rx (s : State) (st aux : Nat) (data : List Byte) : (s.answer st aux data).rx = s.rx := rfl
@[simp] theorem State.answer_nav (s : State) (st aux : Nat) (data : List Byte) : (s.answer st aux data).nav = s.nav := rfl
@[simp] theorem State.answer_crop (s : State) (st aux : Nat) (data : List Byte) : (s.answer st aux data).crop = s.crop := rfl
@[simp] theorem State.answer_lark (s : State) (st aux : Nat) (data : List Byte) : (s.answer st aux data).lark = s.lark := rfl
@[simp] theorem State.answer_outs (s : State) (st aux : Nat) (data : List Byte) : (s.answer st aux data).outs = s.outs := rfl
@[simp] theorem State.answer_fox (s : State) (st aux : Nat) (data : List Byte) : (s.answer st aux data).fox = s.fox := rfl
@[simp] theorem State.answer_can (s : State) (st aux : Nat) (data : List Byte) : (s.answer st aux data).can = s.can := rfl
@[simp] theorem State.answer_flt (s : State) (st aux : Nat) (data : List Byte) : (s.answer st aux data).flt = s.flt := rfl
@[simp] theorem State.answer_rcd (s : State) (st aux : Nat) (data : List Byte) : (s.answer st aux data).rcd = s.rcd := rfl
@[simp] theorem State.answer_nv (s : State) (st aux : Nat) (data : List Byte) : (s.answer st aux data).nv = s.nv := rfl
@[simp] theorem State.answer_sp (s : State) (st aux : Nat) (data : List Byte) : (s.answer st aux data).sp = s.sp := rfl
@[simp] theorem State.answer_sec (s : State) (st aux : Nat) (data : List Byte) : (s.answer st aux data).sec = s.sec := rfl
@[simp] theorem State.answer_eth (s : State) (st aux : Nat) (data : List Byte) : (s.answer st aux data).eth = s.eth := rfl
@[simp] theorem State.answer_conf (s : State) (st aux : Nat) (data : List Byte) : (s.answer st aux data).conf = s.conf := rfl
@[simp] theorem State.answer_upd (s : State) (st aux : Nat) (data : List Byte) : (s.answer st aux data).upd = s.upd := rfl
@[simp] theorem State.answer_pwr (s : State) (st aux : Nat) (data : List Byte) : (s.answer st aux data).pwr = s.pwr := rfl
@[simp] theorem State.answer_timers (s : State) (st aux : Nat) (data : List Byte) : (s.answer st aux data).timers = s.timers := rfl
@[simp] theorem State.answer_free (s : State) (st aux : Nat) (data : List Byte) : (s.answer st aux data).free = s.free := rfl
@[simp] theorem State.answer_pending (s : State) (st aux : Nat) (data : List Byte) : (s.answer st aux data).pending = s.pending := rfl
@[simp] theorem State.answer_get (s : State) (st aux : Nat) (data : List Byte) (j : Nat) : (s.answer st aux data).get j = s.get j := rfl
@[simp] theorem State.answer_getB (s : State) (st aux : Nat) (data : List Byte) (j : Nat) : (s.answer st aux data).getB j = s.getB j := rfl
@[simp] theorem State.answer_cfg (s : State) (st aux : Nat) (data : List Byte) (j : Nat) : (s.answer st aux data).cfg j = s.cfg j := rfl

/-! ### setCrop -/

@[simp] theorem State.setCrop_objs (s : State) (f : CropSt → CropSt) : (s.setCrop f).objs = s.objs := rfl
@[simp] theorem State.setCrop_blobs (s : State) (f : CropSt → CropSt) : (s.setCrop f).blobs = s.blobs := rfl
@[simp] theorem State.setCrop_objs0 (s : State) (f : CropSt → CropSt) : (s.setCrop f).objs0 = s.objs0 := rfl
@[simp] theorem State.setCrop_objsB (s : State) (f : CropSt → CropSt) : (s.setCrop f).objsB = s.objsB := rfl
@[simp] theorem State.setCrop_apps (s : State) (f : CropSt → CropSt) : (s.setCrop f).apps = s.apps := rfl
@[simp] theorem State.setCrop_tm (s : State) (f : CropSt → CropSt) : (s.setCrop f).tm = s.tm := rfl
@[simp] theorem State.setCrop_parts (s : State) (f : CropSt → CropSt) : (s.setCrop f).parts = s.parts := rfl
@[simp] theorem State.setCrop_img (s : State) (f : CropSt → CropSt) : (s.setCrop f).img = s.img := rfl
@[simp] theorem State.setCrop_inp (s : State) (f : CropSt → CropSt) : (s.setCrop f).inp = s.inp := rfl
@[simp] theorem State.setCrop_rx (s : State) (f : CropSt → CropSt) : (s.setCrop f).rx = s.rx := rfl
@[simp] theorem State.setCrop_nav (s : State) (f : CropSt → CropSt) : (s.setCrop f).nav = s.nav := rfl
@[simp] theorem State.setCrop_lark (s : State) (f : CropSt → CropSt) : (s.setCrop f).lark = s.lark := rfl
@[simp] theorem State.setCrop_outs (s : State) (f : CropSt → CropSt) : (s.setCrop f).outs = s.outs := rfl
@[simp] theorem State.setCrop_fox (s : State) (f : CropSt → CropSt) : (s.setCrop f).fox = s.fox := rfl
@[simp] theorem State.setCrop_can (s : State) (f : CropSt → CropSt) : (s.setCrop f).can = s.can := rfl
@[simp] theorem State.setCrop_flt (s : State) (f : CropSt → CropSt) : (s.setCrop f).flt = s.flt := rfl
@[simp] theorem State.setCrop_rcd (s : State) (f : CropSt → CropSt) : (s.setCrop f).rcd = s.rcd := rfl
@[simp] theorem State.setCrop_nv (s : State) (f : CropSt → CropSt) : (s.setCrop f).nv = s.nv := rfl
@[simp] theorem State.setCrop_sp (s : State) (f : CropSt → CropSt) : (s.setCrop f).sp = s.sp := rfl
@[simp] theorem State.setCrop_ucp (s : State) (f : CropSt → CropSt) : (s.setCrop f).ucp = s.ucp := rfl
@[simp] theorem State.setCrop_sec (s : State) (f : CropSt → CropSt) : (s.setCrop f).sec = s.sec := rfl
@[simp] theorem State.setCrop_eth (s : State) (f : CropSt → CropSt) : (s.setCrop f).eth = s.eth := rfl
@[simp] theorem State.setCrop_conf (s : State) (f : CropSt → CropSt) : (s.setCrop f).conf = s.conf := rfl
@[simp] theorem State.setCrop_upd (s : State) (f : CropSt → CropSt) : (s.setCrop f).upd = s.upd := rfl
@[simp] theorem State.setCrop_pwr (s : State) (f : CropSt → CropSt) : (s.setCrop f).pwr = s.pwr := rfl
@[simp] theorem State.setCrop_timers (s : State) (f : CropSt → CropSt) : (s.setCrop f).timers = s.timers := rfl
@[simp] theorem State.setCrop_free (s : State) (f : CropSt → CropSt) : (s.setCrop f).free = s.free := rfl
@[simp] theorem State.setCrop_pending (s : State) (f : CropSt → CropSt) : (s.setCrop f).pending = s.pending := rfl
@[simp] theorem State.setCrop_get (s : State) (f : CropSt → CropSt) (j : Nat) : (s.setCrop f).get j = s.get j := rfl
@[simp] theorem State.setCrop_getB (s : State) (f : CropSt → CropSt) (j : Nat) : (s.setCrop f).getB j = s.getB j := rfl
@[simp] theorem State.setCrop_cfg (s : State) (f : CropSt → CropSt) (j : Nat) : (s.setCrop f).cfg j = s.cfg j := rfl

/-! ### setFox -/

@[simp] theorem State.setFox_objs (s : State) (f : FoxSt → FoxSt) : (s.setFox f).objs = s.objs := rfl
@[simp] theorem State.setFox_blobs (s : State) (f : FoxSt → FoxSt) : (s.setFox f).blobs = s.blobs := rfl
@[simp] theorem State.setFox_objs0 (s : State) (f : FoxSt → FoxSt) : (s.setFox f).objs0 = s.objs0 := rfl
@[simp] theorem State.setFox_objsB (s : State) (f : FoxSt → FoxSt) : (s.setFox f).objsB = s.objsB := rfl
@[simp] theorem State.setFox_apps (s : State) (f : FoxSt → FoxSt) : (s.setFox f).apps = s.apps := rfl
@[simp] theorem State.setFox_tm (s : State) (f : FoxSt → FoxSt) : (s.setFox f).tm = s.tm := rfl
@[simp] theorem State.setFox_parts (s : State) (f : FoxSt → FoxSt) : (s.setFox f).parts = s.parts := rfl
@[simp] theorem State.setFox_img (s : State) (f : FoxSt → FoxSt) : (s.setFox f).img = s.img := rfl
@[simp] theorem State.setFox_inp (s : State) (f : FoxSt → FoxSt) : (s.setFox f).inp = s.inp := rfl
@[simp] theorem State.setFox_rx (s : State) (f : FoxSt → FoxSt) : (s.setFox f).rx = s.rx := rfl
@[simp] theorem State.setFox_nav (s : State) (f : FoxSt → FoxSt) : (s.setFox f).nav = s.nav := rfl
@[simp] theorem State.setFox_crop (s : State) (f : FoxSt → FoxSt) : (s.setFox f).crop = s.crop := rfl
@[simp] theorem State.setFox_lark (s : State) (f : FoxSt → FoxSt) : (s.setFox f).lark = s.lark := rfl
@[simp] theorem State.setFox_outs (s : State) (f : FoxSt → FoxSt) : (s.setFox f).outs = s.outs := rfl
@[simp] theorem State.setFox_can (s : State) (f : FoxSt → FoxSt) : (s.setFox f).can = s.can := rfl
@[simp] theorem State.setFox_flt (s : State) (f : FoxSt → FoxSt) : (s.setFox f).flt = s.flt := rfl
@[simp] theorem State.setFox_rcd (s : State) (f : FoxSt → FoxSt) : (s.setFox f).rcd = s.rcd := rfl
@[simp] theorem State.setFox_nv (s : State) (f : FoxSt → FoxSt) : (s.setFox f).nv = s.nv := rfl
@[simp] theorem State.setFox_sp (s : State) (f : FoxSt → FoxSt) : (s.setFox f).sp = s.sp := rfl
@[simp] theorem State.setFox_ucp (s : State) (f : FoxSt → FoxSt) : (s.setFox f).ucp = s.ucp := rfl
@[simp] theorem State.setFox_sec (s : State) (f : FoxSt → FoxSt) : (s.setFox f).sec = s.sec := rfl
@[simp] theorem State.setFox_eth (s : State) (f : FoxSt → FoxSt) : (s.setFox f).eth = s.eth := rfl
@[simp] theorem State.setFox_conf (s : State) (f : FoxSt → FoxSt) : (s.setFox f).conf = s.conf := rfl
@[simp] theorem State.setFox_upd (s : State) (f : FoxSt → FoxSt) : (s.setFox f).upd = s.upd := rfl
@[simp] theorem State.setFox_pwr (s : State) (f : FoxSt → FoxSt) : (s.setFox f).pwr = s.pwr := rfl
@[simp] theorem State.setFox_timers (s : State) (f : FoxSt → FoxSt) : (s.setFox f).timers = s.timers := rfl
@[simp] theorem State.setFox_free (s : State) (f : FoxSt → FoxSt) : (s.setFox f).free = s.free := rfl
@[simp] theorem State.setFox_pending (s : State) (f : FoxSt → FoxSt) : (s.setFox f).pending = s.pending := rfl
@[simp] theorem State.setFox_get (s : State) (f : FoxSt → FoxSt) (j : Nat) : (s.setFox f).get j = s.get j := rfl
@[simp] theorem State.setFox_getB (s : State) (f : FoxSt → FoxSt) (j : Nat) : (s.setFox f).getB j = s.getB j := rfl
@[simp] theorem State.setFox_cfg (s : State) (f : FoxSt → FoxSt) (j : Nat) : (s.setFox f).cfg j = s.cfg j := rfl

/-! ### setPair -/

@[simp] theorem State.setPair_objs (s : State) (p : Nat) (f : FoxPair → FoxPair) : (s.setPair p f).objs = s.objs := rfl
@[simp] theorem State.setPair_blobs (s : State) (p : Nat) (f : FoxPair → FoxPair) : (s.setPair p f).blobs = s.blobs := rfl
@[simp] theorem State.setPair_objs0 (s : State) (p : Nat) (f : FoxPair → FoxPair) : (s.setPair p f).objs0 = s.objs0 := rfl
@[simp] theorem State.setPair_objsB (s : State) (p : Nat) (f : FoxPair → FoxPair) : (s.setPair p f).objsB = s.objsB := rfl
@[simp] theorem State.setPair_apps (s : State) (p : Nat) (f : FoxPair → FoxPair) : (s.setPair p f).apps = s.apps := rfl
@[simp] theorem State.setPair_tm (s : State) (p : Nat) (f : FoxPair → FoxPair) : (s.setPair p f).tm = s.tm := rfl
@[simp] theorem State.setPair_parts (s : State) (p : Nat) (f : FoxPair → FoxPair) : (s.setPair p f).parts = s.parts := rfl
@[simp] theorem State.setPair_img (s : State) (p : Nat) (f : FoxPair → FoxPair) : (s.setPair p f).img = s.img := rfl
@[simp] theorem State.setPair_inp (s : State) (p : Nat) (f : FoxPair → FoxPair) : (s.setPair p f).inp = s.inp := rfl
@[simp] theorem State.setPair_rx (s : State) (p : Nat) (f : FoxPair → FoxPair) : (s.setPair p f).rx = s.rx := rfl
@[simp] theorem State.setPair_nav (s : State) (p : Nat) (f : FoxPair → FoxPair) : (s.setPair p f).nav = s.nav := rfl
@[simp] theorem State.setPair_crop (s : State) (p : Nat) (f : FoxPair → FoxPair) : (s.setPair p f).crop = s.crop := rfl
@[simp] theorem State.setPair_lark (s : State) (p : Nat) (f : FoxPair → FoxPair) : (s.setPair p f).lark = s.lark := rfl
@[simp] theorem State.setPair_outs (s : State) (p : Nat) (f : FoxPair → FoxPair) : (s.setPair p f).outs = s.outs := rfl
@[simp] theorem State.setPair_can (s : State) (p : Nat) (f : FoxPair → FoxPair) : (s.setPair p f).can = s.can := rfl
@[simp] theorem State.setPair_flt (s : State) (p : Nat) (f : FoxPair → FoxPair) : (s.setPair p f).flt = s.flt := rfl
@[simp] theorem State.setPair_rcd (s : State) (p : Nat) (f : FoxPair → FoxPair) : (s.setPair p f).rcd = s.rcd := rfl
@[simp] theorem State.setPair_nv (s : State) (p : Nat) (f : FoxPair → FoxPair) : (s.setPair p f).nv = s.nv := rfl
@[simp] theorem State.setPair_sp (s : State) (p : Nat) (f : FoxPair → FoxPair) : (s.setPair p f).sp = s.sp := rfl
@[simp] theorem State.setPair_ucp (s : State) (p : Nat) (f : FoxPair → FoxPair) : (s.setPair p f).ucp = s.ucp := rfl
@[simp] theorem State.setPair_sec (s : State) (p : Nat) (f : FoxPair → FoxPair) : (s.setPair p f).sec = s.sec := rfl
@[simp] theorem State.setPair_eth (s : State) (p : Nat) (f : FoxPair → FoxPair) : (s.setPair p f).eth = s.eth := rfl
@[simp] theorem State.setPair_conf (s : State) (p : Nat) (f : FoxPair → FoxPair) : (s.setPair p f).conf = s.conf := rfl
@[simp] theorem State.setPair_upd (s : State) (p : Nat) (f : FoxPair → FoxPair) : (s.setPair p f).upd = s.upd := rfl
@[simp] theorem State.setPair_pwr (s : State) (p : Nat) (f : FoxPair → FoxPair) : (s.setPair p f).pwr = s.pwr := rfl
@[simp] theorem State.setPair_timers (s : State) (p : Nat) (f : FoxPair → FoxPair) : (s.setPair p f).timers = s.timers := rfl
@[simp] theorem State.setPair_free (s : State) (p : Nat) (f : FoxPair → FoxPair) : (s.setPair p f).free = s.free := rfl
@[simp] theorem State.setPair_pending (s : State) (p : Nat) (f : FoxPair → FoxPair) : (s.setPair p f).pending = s.pending := rfl
@[simp] theorem State.setPair_get (s : State) (p : Nat) (f : FoxPair → FoxPair) (j : Nat) : (s.setPair p f).get j = s.get j := rfl
@[simp] theorem State.setPair_getB (s : State) (p : Nat) (f : FoxPair → FoxPair) (j : Nat) : (s.setPair p f).getB j = s.getB j := rfl
@[simp] theorem State.setPair_cfg (s : State) (p : Nat) (f : FoxPair → FoxPair) (j : Nat) : (s.setPair p f).cfg j = s.cfg j := rfl

/-! ### setFoxIn -/

@[simp] theorem State.setFoxIn_objs (s : State) (n : Nat) (f : FoxIn → FoxIn) : (s.setFoxIn n f).objs = s.objs := rfl
@[simp] theorem State.setFoxIn_blobs (s : State) (n : Nat) (f : FoxIn → FoxIn) : (s.setFoxIn n f).blobs = s.blobs := rfl
@[simp] theorem State.setFoxIn_objs0 (s : State) (n : Nat) (f : FoxIn → FoxIn) : (s.setFoxIn n f).objs0 = s.objs0 := rfl
@[simp] theorem State.setFoxIn_objsB (s : State) (n : Nat) (f : FoxIn → FoxIn) : (s.setFoxIn n f).objsB = s.objsB := rfl
@[simp] theorem State.setFoxIn_apps (s : State) (n : Nat) (f : FoxIn → FoxIn) : (s.setFoxIn n f).apps = s.apps := rfl
@[simp] theorem State.setFoxIn_tm (s : State) (n : Nat) (f : FoxIn → FoxIn) : (s.setFoxIn n f).tm = s.tm := rfl
@[simp] theorem State.setFoxIn_parts (s : State) (n : Nat) (f : FoxIn → FoxIn) : (s.setFoxIn n f).parts = s.parts := rfl
@[simp] theorem State.setFoxIn_img (s : State) (n : Nat) (f : FoxIn → FoxIn) : (s.setFoxIn n f).img = s.img := rfl
@[simp] theorem State.setFoxIn_inp (s : State) (n : Nat) (f : FoxIn → FoxIn) : (s.setFoxIn n f).inp = s.inp := rfl
@[simp] theorem State.setFoxIn_rx (s : State) (n : Nat) (f : FoxIn → FoxIn) : (s.setFoxIn n f).rx = s.rx := rfl
@[simp] theorem State.setFoxIn_nav (s : State) (n : Nat) (f : FoxIn → FoxIn) : (s.setFoxIn n f).nav = s.nav := rfl
@[simp] theorem State.setFoxIn_crop (s : State) (n : Nat) (f : FoxIn → FoxIn) : (s.setFoxIn n f).crop = s.crop := rfl
@[simp] theorem State.setFoxIn_lark (s : State) (n : Nat) (f : FoxIn → FoxIn) : (s.setFoxIn n f).lark = s.lark := rfl
@[simp] theorem State.setFoxIn_outs (s : State) (n : Nat) (f : FoxIn → FoxIn) : (s.setFoxIn n f).outs = s.outs := rfl
@[simp] theorem State.setFoxIn_can (s : State) (n : Nat) (f : FoxIn → FoxIn) : (s.setFoxIn n f).can = s.can := rfl
@[simp] theorem State.setFoxIn_flt (s : State) (n : Nat) (f : FoxIn → FoxIn) : (s.setFoxIn n f).flt = s.flt := rfl
@[simp] theorem State.setFoxIn_rcd (s : State) (n : Nat) (f : FoxIn → FoxIn) : (s.setFoxIn n f).rcd = s.rcd := rfl
@[simp] theorem State.setFoxIn_nv (s : State) (n : Nat) (f : FoxIn → FoxIn) : (s.setFoxIn n f).nv = s.nv := rfl
@[simp] theorem State.setFoxIn_sp (s : State) (n : Nat) (f : FoxIn → FoxIn) : (s.setFoxIn n f).sp = s.sp := rfl
@[simp] theorem State.setFoxIn_ucp (s : State) (n : Nat) (f : FoxIn → FoxIn) : (s.setFoxIn n f).ucp = s.ucp := rfl
@[simp] theorem State.setFoxIn_sec (s : State) (n : Nat) (f : FoxIn → FoxIn) : (s.setFoxIn n f).sec = s.sec := rfl
@[simp] theorem State.setFoxIn_eth (s : State) (n : Nat) (f : FoxIn → FoxIn) : (s.setFoxIn n f).eth = s.eth := rfl
@[simp] theorem State.setFoxIn_conf (s : State) (n : Nat) (f : FoxIn → FoxIn) : (s.setFoxIn n f).conf = s.conf := rfl
@[simp] theorem State.setFoxIn_upd (s : State) (n : Nat) (f : FoxIn → FoxIn) : (s.setFoxIn n f).upd = s.upd := rfl
@[simp] theorem State.setFoxIn_pwr (s : State) (n : Nat) (f : FoxIn → FoxIn) : (s.setFoxIn n f).pwr = s.pwr := rfl
@[simp] theorem State.setFoxIn_timers (s : State) (n : Nat) (f : FoxIn → FoxIn) : (s.setFoxIn n f).timers = s.timers := rfl
@[simp] theorem State.setFoxIn_free (s : State) (n : Nat) (f : FoxIn → FoxIn) : (s.setFoxIn n f).free = s.free := rfl
@[simp] theorem State.setFoxIn_pending (s : State) (n : Nat) (f : FoxIn → FoxIn) : (s.setFoxIn n f).pending = s.pending := rfl
@[simp] theorem State.setFoxIn_get (s : State) (n : Nat) (f : FoxIn → FoxIn) (j : Nat) : (s.setFoxIn n f).get j = s.get j := rfl
@[simp] theorem State.setFoxIn_getB (s : State) (n : Nat) (f : FoxIn → FoxIn) (j : Nat) : (s.setFoxIn n f).getB j = s.getB j := rfl
@[simp] theorem State.setFoxIn_cfg (s : State) (n : Nat) (f : FoxIn → FoxIn) (j : Nat) : (s.setFoxIn n f).cfg j = s.cfg j := rfl

/-! ### setNav -/

@[simp] theorem State.setNav_objs (s : State) (f : NavSt → NavSt) : (s.setNav f).objs = s.objs := rfl
@[simp] theorem State.setNav_blobs (s : State) (f : NavSt → NavSt) : (s.setNav f).blobs = s.blobs := rfl
@[simp] theorem State.setNav_objs0 (s : State) (f : NavSt → NavSt) : (s.setNav f).objs0 = s.objs0 := rfl
@[simp] theorem State.setNav_objsB (s : State) (f : NavSt → NavSt) : (s.setNav f).objsB = s.objsB := rfl
@[simp] theorem State.setNav_apps (s : State) (f : NavSt → NavSt) : (s.setNav f).apps = s.apps := rfl
@[simp] theorem State.setNav_tm (s : State) (f : NavSt → NavSt) : (s.setNav f).tm = s.tm := rfl
@[simp] theorem State.setNav_parts (s : State) (f : NavSt → NavSt) : (s.setNav f).parts = s.parts := rfl
@[simp] theorem State.setNav_img (s : State) (f : NavSt → NavSt) : (s.setNav f).img = s.img := rfl
@[simp] theorem State.setNav_inp (s : State) (f : NavSt → NavSt) : (s.setNav f).inp = s.inp := rfl
@[simp] theorem State.setNav_rx (s : State) (f : NavSt → NavSt) : (s.setNav f).rx = s.rx := rfl
@[simp] theorem State.setNav_crop (s : State) (f : NavSt → NavSt) : (s.setNav f).crop = s.crop := rfl
@[simp] theorem State.setNav_lark (s : State) (f : NavSt → NavSt) : (s.setNav f).lark = s.lark := rfl
@[simp] theorem State.setNav_outs (s : State) (f : NavSt → NavSt) : (s.setNav f).outs = s.outs := rfl
@[simp] theorem State.setNav_fox (s : State) (f : NavSt → NavSt) : (s.setNav f).fox = s.fox := rfl
@[simp] theorem State.setNav_can (s : State) (f : NavSt → NavSt) : (s.setNav f).can = s.can := rfl
@[simp] theorem State.setNav_flt (s : State) (f : NavSt → NavSt) : (s.setNav f).flt = s.flt := rfl
@[simp] theorem State.setNav_rcd (s : State) (f : NavSt → NavSt) : (s.setNav f).rcd = s.rcd := rfl
@[simp] theorem State.setNav_nv (s : State) (f : NavSt → NavSt) : (s.setNav f).nv = s.nv := rfl
@[simp] theorem State.setNav_sp (s : State) (f : NavSt → NavSt) : (s.setNav f).sp = s.sp := rfl
@[simp] theorem State.setNav_ucp (s : State) (f : NavSt → NavSt) : (s.setNav f).ucp = s.ucp := rfl
@[simp] theorem State.setNav_sec (s : State) (f : NavSt → NavSt) : (s.setNav f).sec = s.sec := rfl
@[simp] theorem State.setNav_eth (s : State) (f : NavSt → NavSt) : (s.setNav f).eth = s.eth := rfl
@[simp] theorem State.setNav_conf (s : State) (f : NavSt → NavSt) : (s.setNav f).conf = s.conf := rfl
@[simp] theorem State.setNav_upd (s : State) (f : NavSt → NavSt) : (s.setNav f).upd = s.upd := rfl
@[simp] theorem State.setNav_pwr (s : State) (f : NavSt → NavSt) : (s.setNav f).pwr = s.pwr := rfl
@[simp] theorem State.setNav_timers (s : State) (f : NavSt → NavSt) : (s.setNav f).timers = s.timers := rfl
@[simp] theorem State.setNav_free (s : State) (f : NavSt → NavSt) : (s.setNav f).free = s.free := rfl
@[simp] theorem State.setNav_pending (s : State) (f : NavSt → NavSt) : (s.setNav f).pending = s.pending := rfl
@[simp] theorem State.setNav_get (s : State) (f : NavSt → NavSt) (j : Nat) : (s.setNav f).get j = s.get j := rfl
@[simp] theorem State.setNav_getB (s : State) (f : NavSt → NavSt) (j : Nat) : (s.setNav f).getB j = s.getB j := rfl
@[simp] theorem State.setNav_cfg (s : State) (f : NavSt → NavSt) (j : Nat) : (s.setNav f).cfg j = s.cfg j := rfl

/-! ### setSpeed -/

@[simp] theorem State.setSpeed_objs (s : State) (a : Nat) (f : SpeedSrc → SpeedSrc) : (s.setSpeed a f).objs = s.objs := rfl
@[simp] theorem State.setSpeed_blobs (s : State) (a : Nat) (f : SpeedSrc → SpeedSrc) : (s.setSpeed a f).blobs = s.blobs := rfl
@[simp] theorem State.setSpeed_objs0 (s : State) (a : Nat) (f : SpeedSrc → SpeedSrc) : (s.setSpeed a f).objs0 = s.objs0 := rfl
@[simp] theorem State.setSpeed_objsB (s : State) (a : Nat) (f : SpeedSrc → SpeedSrc) : (s.setSpeed a f).objsB = s.objsB := rfl
@[simp] theorem State.setSpeed_apps (s : State) (a : Nat) (f : SpeedSrc → SpeedSrc) : (s.setSpeed a f).apps = s.apps := rfl
@[simp] theorem State.setSpeed_tm (s : State) (a : Nat) (f : SpeedSrc → SpeedSrc) : (s.setSpeed a f).tm = s.tm := rfl
@[simp] theorem State.setSpeed_parts (s : State) (a : Nat) (f : SpeedSrc → SpeedSrc) : (s.setSpeed a f).parts = s.parts := rfl
@[simp] theorem State.setSpeed_img (s : State) (a : Nat) (f : SpeedSrc → SpeedSrc) : (s.setSpeed a f).img = s.img := rfl
@[simp] theorem State.setSpeed_inp (s : State) (a : Nat) (f : SpeedSrc → SpeedSrc) : (s.setSpeed a f).inp = s.inp := rfl
@[simp] theorem State.setSpeed_rx (s : State) (a : Nat) (f : SpeedSrc → SpeedSrc) : (s.setSpeed a f).rx = s.rx := rfl
@[simp] theorem State.setSpeed_crop (s : State) (a : Nat) (f : SpeedSrc → SpeedSrc) : (s.setSpeed a f).crop = s.crop := rfl
@[simp] theorem State.setSpeed_lark (s : State) (a : Nat) (f : SpeedSrc → SpeedSrc) : (s.setSpeed a f).lark = s.lark := rfl
@[simp] theorem State.setSpeed_outs (s : State) (a : Nat) (f : SpeedSrc → SpeedSrc) : (s.setSpeed a f).outs = s.outs := rfl
@[simp] theorem State.setSpeed_fox (s : State) (a : Nat) (f : SpeedSrc → SpeedSrc) : (s.setSpeed a f).fox = s.fox := rfl
@[simp] theorem State.setSpeed_can (s : State) (a : Nat) (f : SpeedSrc → SpeedSrc) : (s.setSpeed a f).can = s.can := rfl
@[simp] theorem State.setSpeed_flt (s : State) (a : Nat) (f : SpeedSrc → SpeedSrc) : (s.setSpeed a f).flt = s.flt := rfl
@[simp] theorem State.setSpeed_rcd (s : State) (a : Nat) (f : SpeedSrc → SpeedSrc) : (s.setSpeed a f).rcd = s.rcd := rfl
@[simp] theorem State.setSpeed_nv (s : State) (a : Nat) (f : SpeedSrc → SpeedSrc) : (s.setSpeed a f).nv = s.nv := rfl
@[simp] theorem State.setSpeed_sp (s : State) (a : Nat) (f : SpeedSrc → SpeedSrc) : (s.setSpeed a f).sp = s.sp := rfl
@[simp] theorem State.setSpeed_ucp (s : State) (a : Nat) (f : SpeedSrc → SpeedSrc) : (s.setSpeed a f).ucp = s.ucp := rfl
@[simp] theorem State.setSpeed_sec (s : State) (a : Nat) (f : SpeedSrc → SpeedSrc) : (s.setSpeed a f).sec = s.sec := rfl
@[simp] theorem State.setSpeed_eth (s : State) (a : Nat) (f : SpeedSrc → SpeedSrc) : (s.setSpeed a f).eth = s.eth := rfl
@[simp] theorem State.setSpeed_conf (s : State) (a : Nat) (f : SpeedSrc → SpeedSrc) : (s.setSpeed a f).conf = s.conf := rfl
@[simp] theorem State.setSpeed_upd (s : State) (a : Nat) (f : SpeedSrc → SpeedSrc) : (s.setSpeed a f).upd = s.upd := rfl
@[simp] theorem State.setSpeed_pwr (s : State) (a : Nat) (f : SpeedSrc → SpeedSrc) : (s.setSpeed a f).pwr = s.pwr := rfl
@[simp] theorem State.setSpeed_timers (s : State) (a : Nat) (f : SpeedSrc → SpeedSrc) : (s.setSpeed a f).timers = s.timers := rfl
@[simp] theorem State.setSpeed_free (s : State) (a : Nat) (f : SpeedSrc → SpeedSrc) : (s.setSpeed a f).free = s.free := rfl
@[simp] theorem State.setSpeed_pending (s : State) (a : Nat) (f : SpeedSrc → SpeedSrc) : (s.setSpeed a f).pending = s.pending := rfl
@[simp] theorem State.setSpeed_get (s : State) (a : Nat) (f : SpeedSrc → SpeedSrc) (j : Nat) : (s.setSpeed a f).get j = s.get j := rfl
@[simp] theorem State.setSpeed_getB (s : State) (a : Nat) (f : SpeedSrc → SpeedSrc) (j : Nat) : (s.setSpeed a f).getB j = s.getB j := rfl
@[simp] theorem State.setSpeed_cfg (s : State) (a : Nat) (f : SpeedSrc → SpeedSrc) (j : Nat) : (s.setSpeed a f).cfg j = s.cfg j := rfl

/-! ### setChan -/

@[simp] theorem State.setChan_objs (s : State) (c : Nat) (f : ChanSt → ChanSt) : (s.setChan c f).objs = s.objs := rfl
@[simp] theorem State.setChan_blobs (s : State) (c : Nat) (f : ChanSt → ChanSt) : (s.setChan c f).blobs = s.blobs := rfl
@[simp] theorem State.setChan_objs0 (s : State) (c : Nat) (f : ChanSt → ChanSt) : (s.setChan c f).objs0 = s.objs0 := rfl
@[simp] theorem State.setChan_objsB (s : State) (c : Nat) (f : ChanSt → ChanSt) : (s.setChan c f).objsB = s.objsB := rfl
@[simp] theorem State.setChan_apps (s : State) (c : Nat) (f : ChanSt → ChanSt) : (s.setChan c f).apps = s.apps := rfl
@[simp] theorem State.setChan_tm (s : State) (c : Nat) (f : ChanSt → ChanSt) : (s.setChan c f).tm = s.tm := rfl
@[simp] theorem State.setChan_parts (s : State) (c : Nat) (f : ChanSt → ChanSt) : (s.setChan c f).parts = s.parts := rfl
@[simp] theorem State.setChan_img (s : State) (c : Nat) (f : ChanSt → ChanSt) : (s.setChan c f).img = s.img := rfl
@[simp] theorem State.setChan_rx (s : State) (c : Nat) (f : ChanSt → ChanSt) : (s.setChan c f).rx = s.rx := rfl
@[simp] theorem State.setChan_nav (s : State) (c : Nat) (f : ChanSt → ChanSt) : (s.setChan c f).nav = s.nav := rfl
@[simp] theorem State.setChan_crop (s : State) (c : Nat) (f : ChanSt → ChanSt) : (s.setChan c f).crop = s.crop := rfl
@[simp] theorem State.setChan_lark (s : State) (c : Nat) (f : ChanSt → ChanSt) : (s.setChan c f).lark = s.lark := rfl
@[simp] theorem State.setChan_outs (s : State) (c : Nat) (f : ChanSt → ChanSt) : (s.setChan c f).outs = s.outs := rfl
@[simp] theorem State.setChan_fox (s : State) (c : Nat) (f : ChanSt → ChanSt) : (s.setChan c f).fox = s.fox := rfl
@[simp] theorem State.setChan_can (s : State) (c : Nat) (f : ChanSt → ChanSt) : (s.setChan c f).can = s.can := rfl
@[simp] theorem State.setChan_flt (s : State) (c : Nat) (f : ChanSt → ChanSt) : (s.setChan c f).flt = s.flt := rfl
@[simp] theorem State.setChan_rcd (s : State) (c : Nat) (f : ChanSt → ChanSt) : (s.setChan c f).rcd = s.rcd := rfl
@[simp] theorem State.setChan_nv (s : State) (c : Nat) (f : ChanSt → ChanSt) : (s.setChan c f).nv = s.nv := rfl
@[simp] theorem State.setChan_sp (s : State) (c : Nat) (f : ChanSt → ChanSt) : (s.setChan c f).sp = s.sp := rfl
@[simp] theorem State.setChan_ucp (s : State) (c : Nat) (f : ChanSt → ChanSt) : (s.setChan c f).ucp = s.ucp := rfl
@[simp] theorem State.setChan_sec (s : State) (c : Nat) (f : ChanSt → ChanSt) : (s.setChan c f).sec = s.sec := rfl
@[simp] theorem State.setChan_eth (s : State) (c : Nat) (f : ChanSt → ChanSt) : (s.setChan c f).eth = s.eth := rfl
@[simp] theorem State.setChan_conf (s : State) (c : Nat) (f : ChanSt → ChanSt) : (s.setChan c f).conf = s.conf := rfl
@[simp] theorem State.setChan_upd (s : State) (c : Nat) (f : ChanSt → ChanSt) : (s.setChan c f).upd = s.upd := rfl
@[simp] theorem State.setChan_pwr (s : State) (c : Nat) (f : ChanSt → ChanSt) : (s.setChan c f).pwr = s.pwr := rfl
@[simp] theorem State.setChan_timers (s : State) (c : Nat) (f : ChanSt → ChanSt) : (s.setChan c f).timers = s.timers := rfl
@[simp] theorem State.setChan_free (s : State) (c : Nat) (f : ChanSt → ChanSt) : (s.setChan c f).free = s.free := rfl
@[simp] theorem State.setChan_pending (s : State) (c : Nat) (f : ChanSt → ChanSt) : (s.setChan c f).pending = s.pending := rfl
@[simp] theorem State.setChan_get (s : State) (c : Nat) (f : ChanSt → ChanSt) (j : Nat) : (s.setChan c f).get j = s.get j := rfl
@[simp] theorem State.setChan_getB (s : State) (c : Nat) (f : ChanSt → ChanSt) (j : Nat) : (s.setChan c f).getB j = s.getB j := rfl
@[simp] theorem State.setChan_cfg (s : State) (c : Nat) (f : ChanSt → ChanSt) (j : Nat) : (s.setChan c f).cfg j = s.cfg j := rfl

/-! ### setSup -/

@[simp] theorem State.setSup_objs (s : State) (k : Nat) (f : SupSt → SupSt) : (s.setSup k f).objs = s.objs := rfl
@[simp] theorem State.setSup_blobs (s : State) (k : Nat) (f : SupSt → SupSt) : (s.setSup k f).blobs = s.blobs := rfl
@[simp] theorem State.setSup_objs0 (s : State) (k : Nat) (f : SupSt → SupSt) : (s.setSup k f).objs0 = s.objs0 := rfl
@[simp] theorem State.setSup_objsB (s : State) (k : Nat) (f : SupSt → SupSt) : (s.setSup k f).objsB = s.objsB := rfl
@[simp] theorem State.setSup_apps (s : State) (k : Nat) (f : SupSt → SupSt) : (s.setSup k f).apps = s.apps := rfl
@[simp] theorem State.setSup_tm (s : State) (k : Nat) (f : SupSt → SupSt) : (s.setSup k f).tm = s.tm := rfl
@[simp] theorem State.setSup_parts (s : State) (k : Nat) (f : SupSt → SupSt) : (s.setSup k f).parts = s.parts := rfl
@[simp] theorem State.setSup_img (s : State) (k : Nat) (f : SupSt → SupSt) : (s.setSup k f).img = s.img := rfl
@[simp] theorem State.setSup_rx (s : State) (k : Nat) (f : SupSt → SupSt) : (s.setSup k f).rx = s.rx := rfl
@[simp] theorem State.setSup_nav (s : State) (k : Nat) (f : SupSt → SupSt) : (s.setSup k f).nav = s.nav := rfl
@[simp] theorem State.setSup_crop (s : State) (k : Nat) (f : SupSt → SupSt) : (s.setSup k f).crop = s.crop := rfl
@[simp] theorem State.setSup_lark (s : State) (k : Nat) (f : SupSt → SupSt) : (s.setSup k f).lark = s.lark := rfl
@[simp] theorem State.setSup_outs (s : State) (k : Nat) (f : SupSt → SupSt) : (s.setSup k f).outs = s.outs := rfl
@[simp] theorem State.setSup_fox (s : State) (k : Nat) (f : SupSt → SupSt) : (s.setSup k f).fox = s.fox := rfl
@[simp] theorem State.setSup_can (s : State) (k : Nat) (f : SupSt → SupSt) : (s.setSup k f).can = s.can := rfl
@[simp] theorem State.setSup_flt (s : State) (k : Nat) (f : SupSt → SupSt) : (s.setSup k f).flt = s.flt := rfl
@[simp] theorem State.setSup_rcd (s : State) (k : Nat) (f : SupSt → SupSt) : (s.setSup k f).rcd = s.rcd := rfl
@[simp] theorem State.setSup_nv (s : State) (k : Nat) (f : SupSt → SupSt) : (s.setSup k f).nv = s.nv := rfl
@[simp] theorem State.setSup_sp (s : State) (k : Nat) (f : SupSt → SupSt) : (s.setSup k f).sp = s.sp := rfl
@[simp] theorem State.setSup_ucp (s : State) (k : Nat) (f : SupSt → SupSt) : (s.setSup k f).ucp = s.ucp := rfl
@[simp] theorem State.setSup_sec (s : State) (k : Nat) (f : SupSt → SupSt) : (s.setSup k f).sec = s.sec := rfl
@[simp] theorem State.setSup_eth (s : State) (k : Nat) (f : SupSt → SupSt) : (s.setSup k f).eth = s.eth := rfl
@[simp] theorem State.setSup_conf (s : State) (k : Nat) (f : SupSt → SupSt) : (s.setSup k f).conf = s.conf := rfl
@[simp] theorem State.setSup_upd (s : State) (k : Nat) (f : SupSt → SupSt) : (s.setSup k f).upd = s.upd := rfl
@[simp] theorem State.setSup_pwr (s : State) (k : Nat) (f : SupSt → SupSt) : (s.setSup k f).pwr = s.pwr := rfl
@[simp] theorem State.setSup_timers (s : State) (k : Nat) (f : SupSt → SupSt) : (s.setSup k f).timers = s.timers := rfl
@[simp] theorem State.setSup_free (s : State) (k : Nat) (f : SupSt → SupSt) : (s.setSup k f).free = s.free := rfl
@[simp] theorem State.setSup_pending (s : State) (k : Nat) (f : SupSt → SupSt) : (s.setSup k f).pending = s.pending := rfl
@[simp] theorem State.setSup_get (s : State) (k : Nat) (f : SupSt → SupSt) (j : Nat) : (s.setSup k f).get j = s.get j := rfl
@[simp] theorem State.setSup_getB (s : State) (k : Nat) (f : SupSt → SupSt) (j : Nat) : (s.setSup k f).getB j = s.getB j := rfl
@[simp] theorem State.setSup_cfg (s : State) (k : Nat) (f : SupSt → SupSt) (j : Nat) : (s.setSup k f).cfg j = s.cfg j := rfl

/-! ### setOch -/

@[simp] theorem State.setOch_objs (s : State) (c : Nat) (f : OutChan → OutChan) : (s.setOch c f).objs = s.objs := rfl
@[simp] theorem State.setOch_blobs (s : State) (c : Nat) (f : OutChan → OutChan) : (s.setOch c f).blobs = s.blobs := rfl
@[simp] theorem State.setOch_objs0 (s : State) (c : Nat) (f : OutChan → OutChan) : (s.setOch c f).objs0 = s.objs0 := rfl
@[simp] theorem State.setOch_objsB (s : State) (c : Nat) (f : OutChan → OutChan) : (s.setOch c f).objsB = s.objsB := rfl
@[simp] theorem State.setOch_apps (s : State) (c : Nat) (f : OutChan → OutChan) : (s.setOch c f).apps = s.apps := rfl
@[simp] theorem State.setOch_tm (s : State) (c : Nat) (f : OutChan → OutChan) : (s.setOch c f).tm = s.tm := rfl
@[simp] theorem State.setOch_parts (s : State) (c : Nat) (f : OutChan → OutChan) : (s.setOch c f).parts = s.parts := rfl
@[simp] theorem State.setOch_img (s : State) (c : Nat) (f : OutChan → OutChan) : (s.setOch c f).img = s.img := rfl
@[simp] theorem State.setOch_inp (s : State) (c : Nat) (f : OutChan → OutChan) : (s.setOch c f).inp = s.inp := rfl
@[simp] theorem State.setOch_rx (s : State) (c : Nat) (f : OutChan → OutChan) : (s.setOch c f).rx = s.rx := rfl
@[simp] theorem State.setOch_nav (s : State) (c : Nat) (f : OutChan → OutChan) : (s.setOch c f).nav = s.nav := rfl
@[simp] theorem State.setOch_crop (s : State) (c : Nat) (f : OutChan → OutChan) : (s.setOch c f).crop = s.crop := rfl
@[simp] theorem State.setOch_lark (s : State) (c : Nat) (f : OutChan → OutChan) : (s.setOch c f).lark = s.lark := rfl
@[simp] theorem State.setOch_fox (s : State) (c : Nat) (f : OutChan → OutChan) : (s.setOch c f).fox = s.fox := rfl
@[simp] theorem State.setOch_can (s : State) (c : Nat) (f : OutChan → OutChan) : (s.setOch c f).can = s.can := rfl
@[simp] theorem State.setOch_flt (s : State) (c : Nat) (f : OutChan → OutChan) : (s.setOch c f).flt = s.flt := rfl
@[simp] theorem State.setOch_rcd (s : State) (c : Nat) (f : OutChan → OutChan) : (s.setOch c f).rcd = s.rcd := rfl
@[simp] theorem State.setOch_nv (s : State) (c : Nat) (f : OutChan → OutChan) : (s.setOch c f).nv = s.nv := rfl
@[simp] theorem State.setOch_sp (s : State) (c : Nat) (f : OutChan → OutChan) : (s.setOch c f).sp = s.sp := rfl
@[simp] theorem State.setOch_ucp (s : State) (c : Nat) (f : OutChan → OutChan) : (s.setOch c f).ucp = s.ucp := rfl
@[simp] theorem State.setOch_sec (s : State) (c : Nat) (f : OutChan → OutChan) : (s.setOch c f).sec = s.sec := rfl
@[simp] theorem State.setOch_eth (s : State) (c : Nat) (f : OutChan → OutChan) : (s.setOch c f).eth = s.eth := rfl
@[simp] theorem State.setOch_conf (s : State) (c : Nat) (f : OutChan → OutChan) : (s.setOch c f).conf = s.conf := rfl
@[simp] theorem State.setOch_upd (s : State) (c : Nat) (f : OutChan → OutChan) : (s.setOch c f).upd = s.upd := rfl
@[simp] theorem State.setOch_pwr (s : State) (c : Nat) (f : OutChan → OutChan) : (s.setOch c f).pwr = s.pwr := rfl
@[simp] theorem State.setOch_timers (s : State) (c : Nat) (f : OutChan → OutChan) : (s.setOch c f).timers = s.timers := rfl
@[simp] theorem State.setOch_free (s : State) (c : Nat) (f : OutChan → OutChan) : (s.setOch c f).free = s.free := rfl
@[simp] theorem State.setOch_pending (s : State) (c : Nat) (f : OutChan → OutChan) : (s.setOch c f).pending = s.pending := rfl
@[simp] theorem State.setOch_get (s : State) (c : Nat) (f : OutChan → OutChan) (j : Nat) : (s.setOch c f).get j = s.get j := rfl
@[simp] theorem State.setOch_getB (s : State) (c : Nat) (f : OutChan → OutChan) (j : Nat) : (s.setOch c f).getB j = s.getB j := rfl
@[simp] theorem State.setOch_cfg (s : State) (c : Nat) (f : OutChan → OutChan) (j : Nat) : (s.setOch c f).cfg j = s.cfg j := rfl

/-! ### setGrp -/

@[simp] theorem State.setGrp_objs (s : State) (g : Nat) (f : GrpSt → GrpSt) : (s.setGrp g f).objs = s.objs := rfl
@[simp] theorem State.setGrp_blobs (s : State) (g : Nat) (f : GrpSt → GrpSt) : (s.setGrp g f).blobs = s.blobs := rfl
@[simp] theorem State.setGrp_objs0 (s : State) (g : Nat) (f : GrpSt → GrpSt) : (s.setGrp g f).objs0 = s.objs0 := rfl
@[simp] theorem State.setGrp_objsB (s : State) (g : Nat) (f : GrpSt → GrpSt) : (s.setGrp g f).objsB = s.objsB := rfl
@[simp] theorem State.setGrp_apps (s : State) (g : Nat) (f : GrpSt → GrpSt) : (s.setGrp g f).apps = s.apps := rfl
@[simp] theorem State.setGrp_tm (s : State) (g : Nat) (f : GrpSt → GrpSt) : (s.setGrp g f).tm = s.tm := rfl
@[simp] theorem State.setGrp_parts (s : State) (g : Nat) (f : GrpSt → GrpSt) : (s.setGrp g f).parts = s.parts := rfl
@[simp] theorem State.setGrp_img (s : State) (g : Nat) (f : GrpSt → GrpSt) : (s.setGrp g f).img = s.img := rfl
@[simp] theorem State.setGrp_inp (s : State) (g : Nat) (f : GrpSt → GrpSt) : (s.setGrp g f).inp = s.inp := rfl
@[simp] theorem State.setGrp_rx (s : State) (g : Nat) (f : GrpSt → GrpSt) : (s.setGrp g f).rx = s.rx := rfl
@[simp] theorem State.setGrp_nav (s : State) (g : Nat) (f : GrpSt → GrpSt) : (s.setGrp g f).nav = s.nav := rfl
@[simp] theorem State.setGrp_crop (s : State) (g : Nat) (f : GrpSt → GrpSt) : (s.setGrp g f).crop = s.crop := rfl
@[simp] theorem State.setGrp_lark (s : State) (g : Nat) (f : GrpSt → GrpSt) : (s.setGrp g f).lark = s.lark := rfl
@[simp] theorem State.setGrp_fox (s : State) (g : Nat) (f : GrpSt → GrpSt) : (s.setGrp g f).fox = s.fox := rfl
@[simp] theorem State.setGrp_can (s : State) (g : Nat) (f : GrpSt → GrpSt) : (s.setGrp g f).can = s.can := rfl
@[simp] theorem State.setGrp_flt (s : State) (g : Nat) (f : GrpSt → GrpSt) : (s.setGrp g f).flt = s.flt := rfl
@[simp] theorem State.setGrp_rcd (s : State) (g : Nat) (f : GrpSt → GrpSt) : (s.setGrp g f).rcd = s.rcd := rfl
@[simp] theorem State.setGrp_nv (s : State) (g : Nat) (f : GrpSt → GrpSt) : (s.setGrp g f).nv = s.nv := rfl
@[simp] theorem State.setGrp_sp (s : State) (g : Nat) (f : GrpSt → GrpSt) : (s.setGrp g f).sp = s.sp := rfl
@[simp] theorem State.setGrp_ucp (s : State) (g : Nat) (f : GrpSt → GrpSt) : (s.setGrp g f).ucp = s.ucp := rfl
@[simp] theorem State.setGrp_sec (s : State) (g : Nat) (f : GrpSt → GrpSt) : (s.setGrp g f).sec = s.sec := rfl
@[simp] theorem State.setGrp_eth (s : State) (g : Nat) (f : GrpSt → GrpSt) : (s.setGrp g f).eth = s.eth := rfl
@[simp] theorem State.setGrp_conf (s : State) (g : Nat) (f : GrpSt → GrpSt) : (s.setGrp g f).conf = s.conf := rfl
@[simp] theorem State.setGrp_upd (s : State) (g : Nat) (f : GrpSt → GrpSt) : (s.setGrp g f).upd = s.upd := rfl
@[simp] theorem State.setGrp_pwr (s : State) (g : Nat) (f : GrpSt → GrpSt) : (s.setGrp g f).pwr = s.pwr := rfl
@[simp] theorem State.setGrp_timers (s : State) (g : Nat) (f : GrpSt → GrpSt) : (s.setGrp g f).timers = s.timers := rfl
@[simp] theorem State.setGrp_free (s : State) (g : Nat) (f : GrpSt → GrpSt) : (s.setGrp g f).free = s.free := rfl
@[simp] theorem State.setGrp_pending (s : State) (g : Nat) (f : GrpSt → GrpSt) : (s.setGrp g f).pending = s.pending := rfl
@[simp] theorem State.setGrp_get (s : State) (g : Nat) (f : GrpSt → GrpSt) (j : Nat) : (s.setGrp g f).get j = s.get j := rfl
@[simp] theorem State.setGrp_getB (s : State) (g : Nat) (f : GrpSt → GrpSt) (j : Nat) : (s.setGrp g f).getB j = s.getB j := rfl
@[simp] theorem State.setGrp_cfg (s : State) (g : Nat) (f : GrpSt → GrpSt) (j : Nat) : (s.setGrp g f).cfg j = s.cfg j := rfl

/-! ### setPwr -/

@[simp] theorem State.setPwr_objs (s : State) (f : PwrSt → PwrSt) : (s.setPwr f).objs = s.objs := rfl
@[simp] theorem State.setPwr_blobs (s : State) (f : PwrSt → PwrSt) : (s.setPwr f).blobs = s.blobs := rfl
@[simp] theorem State.setPwr_objs0 (s : State) (f : PwrSt → PwrSt) : (s.setPwr f).objs0 = s.objs0 := rfl
@[simp] theorem State.setPwr_objsB (s : State) (f : PwrSt → PwrSt) : (s.setPwr f).objsB = s.objsB := rfl
@[simp] theorem State.setPwr_apps (s : State) (f : PwrSt → PwrSt) : (s.setPwr f).apps = s.apps := rfl
@[simp] theorem State.setPwr_tm (s : State) (f : PwrSt → PwrSt) : (s.setPwr f).tm = s.tm := rfl
@[simp] theorem State.setPwr_parts (s : State) (f : PwrSt → PwrSt) : (s.setPwr f).parts = s.parts := rfl
@[simp] theorem State.setPwr_img (s : State) (f : PwrSt → PwrSt) : (s.setPwr f).img = s.img := rfl
@[simp] theorem State.setPwr_inp (s : State) (f : PwrSt → PwrSt) : (s.setPwr f).inp = s.inp := rfl
@[simp] theorem State.setPwr_rx (s : State) (f : PwrSt → PwrSt) : (s.setPwr f).rx = s.rx := rfl
@[simp] theorem State.setPwr_nav (s : State) (f : PwrSt → PwrSt) : (s.setPwr f).nav = s.nav := rfl
@[simp] theorem State.setPwr_crop (s : State) (f : PwrSt → PwrSt) : (s.setPwr f).crop = s.crop := rfl
@[simp] theorem State.setPwr_lark (s : State) (f : PwrSt → PwrSt) : (s.setPwr f).lark = s.lark := rfl
@[simp] theorem State.setPwr_outs (s : State) (f : PwrSt → PwrSt) : (s.setPwr f).outs = s.outs := rfl
@[simp] theorem State.setPwr_fox (s : State) (f : PwrSt → PwrSt) : (s.setPwr f).fox = s.fox := rfl
@[simp] theorem State.setPwr_can (s : State) (f : PwrSt → PwrSt) : (s.setPwr f).can = s.can := rfl
@[simp] theorem State.setPwr_flt (s : State) (f : PwrSt → PwrSt) : (s.setPwr f).flt = s.flt := rfl
@[simp] theorem State.setPwr_rcd (s : State) (f : PwrSt → PwrSt) : (s.setPwr f).rcd = s.rcd := rfl
@[simp] theorem State.setPwr_nv (s : State) (f : PwrSt → PwrSt) : (s.setPwr f).nv = s.nv := rfl
@[simp] theorem State.setPwr_sp (s : State) (f : PwrSt → PwrSt) : (s.setPwr f).sp = s.sp := rfl
@[simp] theorem State.setPwr_ucp (s : State) (f : PwrSt → PwrSt) : (s.setPwr f).ucp = s.ucp := rfl
@[simp] theorem State.setPwr_sec (s : State) (f : PwrSt → PwrSt) : (s.setPwr f).sec = s.sec := rfl
@[simp] theorem State.setPwr_eth (s : State) (f : PwrSt → PwrSt) : (s.setPwr f).eth = s.eth := rfl
@[simp] theorem State.setPwr_conf (s : State) (f : PwrSt → PwrSt) : (s.setPwr f).conf = s.conf := rfl
@[simp] theorem State.setPwr_upd (s : State) (f : PwrSt → PwrSt) : (s.setPwr f).upd = s.upd := rfl
@[simp] theorem State.setPwr_timers (s : State) (f : PwrSt → PwrSt) : (s.setPwr f).timers = s.timers := rfl
@[simp] theorem State.setPwr_free (s : State) (f : PwrSt → PwrSt) : (s.setPwr f).free = s.free := rfl
@[simp] theorem State.setPwr_pending (s : State) (f : PwrSt → PwrSt) : (s.setPwr f).pending = s.pending := rfl
@[simp] theorem State.setPwr_get (s : State) (f : PwrSt → PwrSt) (j : Nat) : (s.setPwr f).get j = s.get j := rfl
@[simp] theorem State.setPwr_getB (s : State) (f : PwrSt → PwrSt) (j : Nat) : (s.setPwr f).getB j = s.getB j := rfl
@[simp] theorem State.setPwr_cfg (s : State) (f : PwrSt → PwrSt) (j : Nat) : (s.setPwr f).cfg j = s.cfg j := rfl

/-! ### setRf -/

@[simp] theorem State.setRf_objs (s : State) (c : Nat) (f : RfChain → RfChain) : (s.setRf c f).objs = s.objs := rfl
@[simp] theorem State.setRf_blobs (s : State) (c : Nat) (f : RfChain → RfChain) : (s.setRf c f).blobs = s.blobs := rfl
@[simp] theorem State.setRf_objs0 (s : State) (c : Nat) (f : RfChain → RfChain) : (s.setRf c f).objs0 = s.objs0 := rfl
@[simp] theorem State.setRf_objsB (s : State) (c : Nat) (f : RfChain → RfChain) : (s.setRf c f).objsB = s.objsB := rfl
@[simp] theorem State.setRf_apps (s : State) (c : Nat) (f : RfChain → RfChain) : (s.setRf c f).apps = s.apps := rfl
@[simp] theorem State.setRf_tm (s : State) (c : Nat) (f : RfChain → RfChain) : (s.setRf c f).tm = s.tm := rfl
@[simp] theorem State.setRf_parts (s : State) (c : Nat) (f : RfChain → RfChain) : (s.setRf c f).parts = s.parts := rfl
@[simp] theorem State.setRf_img (s : State) (c : Nat) (f : RfChain → RfChain) : (s.setRf c f).img = s.img := rfl
@[simp] theorem State.setRf_inp (s : State) (c : Nat) (f : RfChain → RfChain) : (s.setRf c f).inp = s.inp := rfl
@[simp] theorem State.setRf_nav (s : State) (c : Nat) (f : RfChain → RfChain) : (s.setRf c f).nav = s.nav := rfl
@[simp] theorem State.setRf_crop (s : State) (c : Nat) (f : RfChain → RfChain) : (s.setRf c f).crop = s.crop := rfl
@[simp] theorem State.setRf_lark (s : State) (c : Nat) (f : RfChain → RfChain) : (s.setRf c f).lark = s.lark := rfl
@[simp] theorem State.setRf_outs (s : State) (c : Nat) (f : RfChain → RfChain) : (s.setRf c f).outs = s.outs := rfl
@[simp] theorem State.setRf_fox (s : State) (c : Nat) (f : RfChain → RfChain) : (s.setRf c f).fox = s.fox := rfl
@[simp] theorem State.setRf_can (s : State) (c : Nat) (f : RfChain → RfChain) : (s.setRf c f).can = s.can := rfl
@[simp] theorem State.setRf_flt (s : State) (c : Nat) (f : RfChain → RfChain) : (s.setRf c f).flt = s.flt := rfl
@[simp] theorem State.setRf_rcd (s : State) (c : Nat) (f : RfChain → RfChain) : (s.setRf c f).rcd = s.rcd := rfl
@[simp] theorem State.setRf_nv (s : State) (c : Nat) (f : RfChain → RfChain) : (s.setRf c f).nv = s.nv := rfl
@[simp] theorem State.setRf_sp (s : State) (c : Nat) (f : RfChain → RfChain) : (s.setRf c f).sp = s.sp := rfl
@[simp] theorem State.setRf_ucp (s : State) (c : Nat) (f : RfChain → RfChain) : (s.setRf c f).ucp = s.ucp := rfl
@[simp] theorem State.setRf_sec (s : State) (c : Nat) (f : RfChain → RfChain) : (s.setRf c f).sec = s.sec := rfl
@[simp] theorem State.setRf_eth (s : State) (c : Nat) (f : RfChain → RfChain) : (s.setRf c f).eth = s.eth := rfl
@[simp] theorem State.setRf_conf (s : State) (c : Nat) (f : RfChain → RfChain) : (s.setRf c f).conf = s.conf := rfl
@[simp] theorem State.setRf_upd (s : State) (c : Nat) (f : RfChain → RfChain) : (s.setRf c f).upd = s.upd := rfl
@[simp] theorem State.setRf_pwr (s : State) (c : Nat) (f : RfChain → RfChain) : (s.setRf c f).pwr = s.pwr := rfl
@[simp] theorem State.setRf_timers (s : State) (c : Nat) (f : RfChain → RfChain) : (s.setRf c f).timers = s.timers := rfl
@[simp] theorem State.setRf_free (s : State) (c : Nat) (f : RfChain → RfChain) : (s.setRf c f).free = s.free := rfl
@[simp] theorem State.setRf_pending (s : State) (c : Nat) (f : RfChain → RfChain) : (s.setRf c f).pending = s.pending := rfl
@[simp] theorem State.setRf_get (s : State) (c : Nat) (f : RfChain → RfChain) (j : Nat) : (s.setRf c f).get j = s.get j := rfl
@[simp] theorem State.setRf_getB (s : State) (c : Nat) (f : RfChain → RfChain) (j : Nat) : (s.setRf c f).getB j = s.getB j := rfl
@[simp] theorem State.setRf_cfg (s : State) (c : Nat) (f : RfChain → RfChain) (j : Nat) : (s.setRf c f).cfg j = s.cfg j := rfl

/-! ### setSlot -/

@[simp] theorem State.setSlot_objs (s : State) (n : Nat) (f : SlotSt → SlotSt) : (s.setSlot n f).objs = s.objs := rfl
@[simp] theorem State.setSlot_blobs (s : State) (n : Nat) (f : SlotSt → SlotSt) : (s.setSlot n f).blobs = s.blobs := rfl
@[simp] theorem State.setSlot_objs0 (s : State) (n : Nat) (f : SlotSt → SlotSt) : (s.setSlot n f).objs0 = s.objs0 := rfl
@[simp] theorem State.setSlot_objsB (s : State) (n : Nat) (f : SlotSt → SlotSt) : (s.setSlot n f).objsB = s.objsB := rfl
@[simp] theorem State.setSlot_apps (s : State) (n : Nat) (f : SlotSt → SlotSt) : (s.setSlot n f).apps = s.apps := rfl
@[simp] theorem State.setSlot_tm (s : State) (n : Nat) (f : SlotSt → SlotSt) : (s.setSlot n f).tm = s.tm := rfl
@[simp] theorem State.setSlot_parts (s : State) (n : Nat) (f : SlotSt → SlotSt) : (s.setSlot n f).parts = s.parts := rfl
@[simp] theorem State.setSlot_img (s : State) (n : Nat) (f : SlotSt → SlotSt) : (s.setSlot n f).img = s.img := rfl
@[simp] theorem State.setSlot_inp (s : State) (n : Nat) (f : SlotSt → SlotSt) : (s.setSlot n f).inp = s.inp := rfl
@[simp] theorem State.setSlot_rx (s : State) (n : Nat) (f : SlotSt → SlotSt) : (s.setSlot n f).rx = s.rx := rfl
@[simp] theorem State.setSlot_nav (s : State) (n : Nat) (f : SlotSt → SlotSt) : (s.setSlot n f).nav = s.nav := rfl
@[simp] theorem State.setSlot_crop (s : State) (n : Nat) (f : SlotSt → SlotSt) : (s.setSlot n f).crop = s.crop := rfl
@[simp] theorem State.setSlot_outs (s : State) (n : Nat) (f : SlotSt → SlotSt) : (s.setSlot n f).outs = s.outs := rfl
@[simp] theorem State.setSlot_fox (s : State) (n : Nat) (f : SlotSt → SlotSt) : (s.setSlot n f).fox = s.fox := rfl
@[simp] theorem State.setSlot_can (s : State) (n : Nat) (f : SlotSt → SlotSt) : (s.setSlot n f).can = s.can := rfl
@[simp] theorem State.setSlot_flt (s : State) (n : Nat) (f : SlotSt → SlotSt) : (s.setSlot n f).flt = s.flt := rfl
@[simp] theorem State.setSlot_rcd (s : State) (n : Nat) (f : SlotSt → SlotSt) : (s.setSlot n f).rcd = s.rcd := rfl
@[simp] theorem State.setSlot_nv (s : State) (n : Nat) (f : SlotSt → SlotSt) : (s.setSlot n f).nv = s.nv := rfl
@[simp] theorem State.setSlot_sp (s : State) (n : Nat) (f : SlotSt → SlotSt) : (s.setSlot n f).sp = s.sp := rfl
@[simp] theorem State.setSlot_ucp (s : State) (n : Nat) (f : SlotSt → SlotSt) : (s.setSlot n f).ucp = s.ucp := rfl
@[simp] theorem State.setSlot_sec (s : State) (n : Nat) (f : SlotSt → SlotSt) : (s.setSlot n f).sec = s.sec := rfl
@[simp] theorem State.setSlot_eth (s : State) (n : Nat) (f : SlotSt → SlotSt) : (s.setSlot n f).eth = s.eth := rfl
@[simp] theorem State.setSlot_conf (s : State) (n : Nat) (f : SlotSt → SlotSt) : (s.setSlot n f).conf = s.conf := rfl
@[simp] theorem State.setSlot_upd (s : State) (n : Nat) (f : SlotSt → SlotSt) : (s.setSlot n f).upd = s.upd := rfl
@[simp] theorem State.setSlot_pwr (s : State) (n : Nat) (f : SlotSt → SlotSt) : (s.setSlot n f).pwr = s.pwr := rfl
@[simp] theorem State.setSlot_timers (s : State) (n : Nat) (f : SlotSt → SlotSt) : (s.setSlot n f).timers = s.timers := rfl
@[simp] theorem State.setSlot_free (s : State) (n : Nat) (f : SlotSt → SlotSt) : (s.setSlot n f).free = s.free := rfl
@[simp] theorem State.setSlot_pending (s : State) (n : Nat) (f : SlotSt → SlotSt) : (s.setSlot n f).pending = s.pending := rfl
@[simp] theorem State.setSlot_get (s : State) (n : Nat) (f : SlotSt → SlotSt) (j : Nat) : (s.setSlot n f).get j = s.get j := rfl
@[simp] theorem State.setSlot_getB (s : State) (n : Nat) (f : SlotSt → SlotSt) (j : Nat) : (s.setSlot n f).getB j = s.getB j := rfl
@[simp] theorem State.setSlot_cfg (s : State) (n : Nat) (f : SlotSt → SlotSt) (j : Nat) : (s.setSlot n f).cfg j = s.cfg j := rfl

/-! ### setLark -/

@[simp] theorem State.setLark_objs (s : State) (f : LarkSt → LarkSt) : (s.setLark f).objs = s.objs := rfl
@[simp] theorem State.setLark_blobs (s : State) (f : LarkSt → LarkSt) : (s.setLark f).blobs = s.blobs := rfl
@[simp] theorem State.setLark_objs0 (s : State) (f : LarkSt → LarkSt) : (s.setLark f).objs0 = s.objs0 := rfl
@[simp] theorem State.setLark_objsB (s : State) (f : LarkSt → LarkSt) : (s.setLark f).objsB = s.objsB := rfl
@[simp] theorem State.setLark_apps (s : State) (f : LarkSt → LarkSt) : (s.setLark f).apps = s.apps := rfl
@[simp] theorem State.setLark_tm (s : State) (f : LarkSt → LarkSt) : (s.setLark f).tm = s.tm := rfl
@[simp] theorem State.setLark_parts (s : State) (f : LarkSt → LarkSt) : (s.setLark f).parts = s.parts := rfl
@[simp] theorem State.setLark_img (s : State) (f : LarkSt → LarkSt) : (s.setLark f).img = s.img := rfl
@[simp] theorem State.setLark_inp (s : State) (f : LarkSt → LarkSt) : (s.setLark f).inp = s.inp := rfl
@[simp] theorem State.setLark_rx (s : State) (f : LarkSt → LarkSt) : (s.setLark f).rx = s.rx := rfl
@[simp] theorem State.setLark_nav (s : State) (f : LarkSt → LarkSt) : (s.setLark f).nav = s.nav := rfl
@[simp] theorem State.setLark_crop (s : State) (f : LarkSt → LarkSt) : (s.setLark f).crop = s.crop := rfl
@[simp] theorem State.setLark_outs (s : State) (f : LarkSt → LarkSt) : (s.setLark f).outs = s.outs := rfl
@[simp] theorem State.setLark_fox (s : State) (f : LarkSt → LarkSt) : (s.setLark f).fox = s.fox := rfl
@[simp] theorem State.setLark_can (s : State) (f : LarkSt → LarkSt) : (s.setLark f).can = s.can := rfl
@[simp] theorem State.setLark_flt (s : State) (f : LarkSt → LarkSt) : (s.setLark f).flt = s.flt := rfl
@[simp] theorem State.setLark_rcd (s : State) (f : LarkSt → LarkSt) : (s.setLark f).rcd = s.rcd := rfl
@[simp] theorem State.setLark_nv (s : State) (f : LarkSt → LarkSt) : (s.setLark f).nv = s.nv := rfl
@[simp] theorem State.setLark_sp (s : State) (f : LarkSt → LarkSt) : (s.setLark f).sp = s.sp := rfl
@[simp] theorem State.setLark_ucp (s : State) (f : LarkSt → LarkSt) : (s.setLark f).ucp = s.ucp := rfl
@[simp] theorem State.setLark_sec (s : State) (f : LarkSt → LarkSt) : (s.setLark f).sec = s.sec := rfl
@[simp] theorem State.setLark_eth (s : State) (f : LarkSt → LarkSt) : (s.setLark f).eth = s.eth := rfl
@[simp] theorem State.setLark_conf (s : State) (f : LarkSt → LarkSt) : (s.setLark f).conf = s.conf := rfl
@[simp] theorem State.setLark_upd (s : State) (f : LarkSt → LarkSt) : (s.setLark f).upd = s.upd := rfl
@[simp] theorem State.setLark_pwr (s : State) (f : LarkSt → LarkSt) : (s.setLark f).pwr = s.pwr := rfl
@[simp] theorem State.setLark_timers (s : State) (f : LarkSt → LarkSt) : (s.setLark f).timers = s.timers := rfl
@[simp] theorem State.setLark_free (s : State) (f : LarkSt → LarkSt) : (s.setLark f).free = s.free := rfl
@[simp] theorem State.setLark_pending (s : State) (f : LarkSt → LarkSt) : (s.setLark f).pending = s.pending := rfl
@[simp] theorem State.setLark_get (s : State) (f : LarkSt → LarkSt) (j : Nat) : (s.setLark f).get j = s.get j := rfl
@[simp] theorem State.setLark_getB (s : State) (f : LarkSt → LarkSt) (j : Nat) : (s.setLark f).getB j = s.getB j := rfl
@[simp] theorem State.setLark_cfg (s : State) (f : LarkSt → LarkSt) (j : Nat) : (s.setLark f).cfg j = s.cfg j := rfl

/-! ### setElem -/

@[simp] theorem State.setElem_objs (s : State) (p e : Nat) (x : Elem) : (s.setElem p e x).objs = s.objs := rfl
@[simp] theorem State.setElem_blobs (s : State) (p e : Nat) (x : Elem) : (s.setElem p e x).blobs = s.blobs := rfl
@[simp] theorem State.setElem_objs0 (s : State) (p e : Nat) (x : Elem) : (s.setElem p e x).objs0 = s.objs0 := rfl
@[simp] theorem State.setElem_objsB (s : State) (p e : Nat) (x : Elem) : (s.setElem p e x).objsB = s.objsB := rfl
@[simp] theorem State.setElem_apps (s : State) (p e : Nat) (x : Elem) : (s.setElem p e x).apps = s.apps := rfl
@[simp] theorem State.setElem_tm (s : State) (p e : Nat) (x : Elem) : (s.setElem p e x).tm = s.tm := rfl
@[simp] theorem State.setElem_parts (s : State) (p e : Nat) (x : Elem) : (s.setElem p e x).parts = s.parts := rfl
@[simp] theorem State.setElem_img (s : State) (p e : Nat) (x : Elem) : (s.setElem p e x).img = s.img := rfl
@[simp] theorem State.setElem_inp (s : State) (p e : Nat) (x : Elem) : (s.setElem p e x).inp = s.inp := rfl
@[simp] theorem State.setElem_rx (s : State) (p e : Nat) (x : Elem) : (s.setElem p e x).rx = s.rx := rfl
@[simp] theorem State.setElem_nav (s : State) (p e : Nat) (x : Elem) : (s.setElem p e x).nav = s.nav := rfl
@[simp] theorem State.setElem_crop (s : State) (p e : Nat) (x : Elem) : (s.setElem p e x).crop = s.crop := rfl
@[simp] theorem State.setElem_lark (s : State) (p e : Nat) (x : Elem) : (s.setElem p e x).lark = s.lark := rfl
@[simp] theorem State.setElem_outs (s : State) (p e : Nat) (x : Elem) : (s.setElem p e x).outs = s.outs := rfl
@[simp] theorem State.setElem_fox (s : State) (p e : Nat) (x : Elem) : (s.setElem p e x).fox = s.fox := rfl
@[simp] theorem State.setElem_can (s : State) (p e : Nat) (x : Elem) : (s.setElem p e x).can = s.can := rfl
@[simp] theorem State.setElem_flt (s : State) (p e : Nat) (x : Elem) : (s.setElem p e x).flt = s.flt := rfl
@[simp] theorem State.setElem_rcd (s : State) (p e : Nat) (x : Elem) : (s.setElem p e x).rcd = s.rcd := rfl
@[simp] theorem State.setElem_nv (s : State) (p e : Nat) (x : Elem) : (s.setElem p e x).nv = s.nv := rfl
@[simp] theorem State.setElem_ucp (s : State) (p e : Nat) (x : Elem) : (s.setElem p e x).ucp = s.ucp := rfl
@[simp] theorem State.setElem_sec (s : State) (p e : Nat) (x : Elem) : (s.setElem p e x).sec = s.sec := rfl
@[simp] theorem State.setElem_eth (s : State) (p e : Nat) (x : Elem) : (s.setElem p e x).eth = s.eth := rfl
@[simp] theorem State.setElem_conf (s : State) (p e : Nat) (x : Elem) : (s.setElem p e x).conf = s.conf := rfl
@[simp] theorem State.setElem_upd (s : State) (p e : Nat) (x : Elem) : (s.setElem p e x).upd = s.upd := rfl
@[simp] theorem State.setElem_pwr (s : State) (p e : Nat) (x : Elem) : (s.setElem p e x).pwr = s.pwr := rfl
@[simp] theorem State.setElem_timers (s : State) (p e : Nat) (x : Elem) : (s.setElem p e x).timers = s.timers := rfl
@[simp] theorem State.setElem_free (s : State) (p e : Nat) (x : Elem) : (s.setElem p e x).free = s.free := rfl
@[simp] theorem State.setElem_pending (s : State) (p e : Nat) (x : Elem) : (s.setElem p e x).pending = s.pending := rfl
@[simp] theorem State.setElem_get (s : State) (p e : Nat) (x : Elem) (j : Nat) : (s.setElem p e x).get j = s.get j := rfl
@[simp] theorem State.setElem_getB (s : State) (p e : Nat) (x : Elem) (j : Nat) : (s.setElem p e x).getB j = s.getB j := rfl
@[simp] theorem State.setElem_cfg (s : State) (p e : Nat) (x : Elem) (j : Nat) : (s.setElem p e x).cfg j = s.cfg j := rfl

/-! ### dropReq -/

@[simp] theorem State.dropReq_objs (s : State) (p e : Nat) : (s.dropReq p e).objs = s.objs := rfl
@[simp] theorem State.dropReq_blobs (s : State) (p e : Nat) : (s.dropReq p e).blobs = s.blobs := rfl
@[simp] theorem State.dropReq_objs0 (s : State) (p e : Nat) : (s.dropReq p e).objs0 = s.objs0 := rfl
@[simp] theorem State.dropReq_objsB (s : State) (p e : Nat) : (s.dropReq p e).objsB = s.objsB := rfl
@[simp] theorem State.dropReq_apps (s : State) (p e : Nat) : (s.dropReq p e).apps = s.apps := rfl
@[simp] theorem State.dropReq_tm (s : State) (p e : Nat) : (s.dropReq p e).tm = s.tm := rfl
@[simp] theorem State.dropReq_parts (s : State) (p e : Nat) : (s.dropReq p e).parts = s.parts := rfl
@[simp] theorem State.dropReq_img (s : State) (p e : Nat) : (s.dropReq p e).img = s.img := rfl
@[simp] theorem State.dropReq_inp (s : State) (p e : Nat) : (s.dropReq p e).inp = s.inp := rfl
@[simp] theorem State.dropReq_rx (s : State) (p e : Nat) : (s.dropReq p e).rx = s.rx := rfl
@[simp] theorem State.dropReq_nav (s : State) (p e : Nat) : (s.dropReq p e).nav = s.nav := rfl
@[simp] theorem State.dropReq_crop (s : State) (p e : Nat) : (s.dropReq p e).crop = s.crop := rfl
@[simp] theorem State.dropReq_lark (s : State) (p e : Nat) : (s.dropReq p e).lark = s.lark := rfl
@[simp] theorem State.dropReq_outs (s : State) (p e : Nat) : (s.dropReq p e).outs = s.outs := rfl
@[simp] theorem State.dropReq_fox (s : State) (p e : Nat) : (s.dropReq p e).fox = s.fox := rfl
@[simp] theorem State.dropReq_can (s : State) (p e : Nat) : (s.dropReq p e).can = s.can := rfl
@[simp] theorem State.dropReq_flt (s : State) (p e : Nat) : (s.dropReq p e).flt = s.flt := rfl
@[simp] theorem State.dropReq_rcd (s : State) (p e : Nat) : (s.dropReq p e).rcd = s.rcd := rfl
@[simp] theorem State.dropReq_nv (s : State) (p e : Nat) : (s.dropReq p e).nv = s.nv := rfl
@[simp] theorem State.dropReq_ucp (s : State) (p e : Nat) : (s.dropReq p e).ucp = s.ucp := rfl
@[simp] theorem State.dropReq_sec (s : State) (p e : Nat) : (s.dropReq p e).sec = s.sec := rfl
@[simp] theorem State.dropReq_eth (s : State) (p e : Nat) : (s.dropReq p e).eth = s.eth := rfl
@[simp] theorem State.dropReq_conf (s : State) (p e : Nat) : (s.dropReq p e).conf = s.conf := rfl
@[simp] theorem State.dropReq_upd (s : State) (p e : Nat) : (s.dropReq p e).upd = s.upd := rfl
@[simp] theorem State.dropReq_pwr (s : State) (p e : Nat) : (s.dropReq p e).pwr = s.pwr := rfl
@[simp] theorem State.dropReq_timers (s : State) (p e : Nat) : (s.dropReq p e).timers = s.timers := rfl
@[simp] theorem State.dropReq_free (s : State) (p e : Nat) : (s.dropReq p e).free = s.free := rfl
@[simp] theorem State.dropReq_pending (s : State) (p e : Nat) : (s.dropReq p e).pending = s.pending := rfl
@[simp] theorem State.dropReq_get (s : State) (p e : Nat) (j : Nat) : (s.dropReq p e).get j = s.get j := rfl
@[simp] theorem State.dropReq_getB (s : State) (p e : Nat) (j : Nat) : (s.dropReq p e).getB j = s.getB j := rfl
@[simp] theorem State.dropReq_cfg (s : State) (p e : Nat) (j : Nat) : (s.dropReq p e).cfg j = s.cfg j := rfl

/-! ### setCap -/

@[simp] theorem State.setCap_objs (s : State) (k : Nat) (f : CapSt → CapSt) : (s.setCap k f).objs = s.objs := rfl
@[simp] theorem State.setCap_blobs (s : State) (k : Nat) (f : CapSt → CapSt) : (s.setCap k f).blobs = s.blobs := rfl
@[simp] theorem State.setCap_objs0 (s : State) (k : Nat) (f : CapSt → CapSt) : (s.setCap k f).objs0 = s.objs0 := rfl
@[simp] theorem State.setCap_objsB (s : State) (k : Nat) (f : CapSt → CapSt) : (s.setCap k f).objsB = s.objsB := rfl
@[simp] theorem State.setCap_apps (s : State) (k : Nat) (f : CapSt → CapSt) : (s.setCap k f).apps = s.apps := rfl
@[simp] theorem State.setCap_tm (s : State) (k : Nat) (f : CapSt → CapSt) : (s.setCap k f).tm = s.tm := rfl
@[simp] theorem State.setCap_parts (s : State) (k : Nat) (f : CapSt → CapSt) : (s.setCap k f).parts = s.parts := rfl
@[simp] theorem State.setCap_img (s : State) (k : Nat) (f : CapSt → CapSt) : (s.setCap k f).img = s.img := rfl
@[simp] theorem State.setCap_inp (s : State) (k : Nat) (f : CapSt → CapSt) : (s.setCap k f).inp = s.inp := rfl
@[simp] theorem State.setCap_rx (s : State) (k : Nat) (f : CapSt → CapSt) : (s.setCap k f).rx = s.rx := rfl
@[simp] theorem State.setCap_nav (s : State) (k : Nat) (f : CapSt → CapSt) : (s.setCap k f).nav = s.nav := rfl
@[simp] theorem State.setCap_crop (s : State) (k : Nat) (f : CapSt → CapSt) : (s.setCap k f).crop = s.crop := rfl
@[simp] theorem State.setCap_outs (s : State) (k : Nat) (f : CapSt → CapSt) : (s.setCap k f).outs = s.outs := rfl
@[simp] theorem State.setCap_fox (s : State) (k : Nat) (f : CapSt → CapSt) : (s.setCap k f).fox = s.fox := rfl
@[simp] theorem State.setCap_can (s : State) (k : Nat) (f : CapSt → CapSt) : (s.setCap k f).can = s.can := rfl
@[simp] theorem State.setCap_flt (s : State) (k : Nat) (f : CapSt → CapSt) : (s.setCap k f).flt = s.flt := rfl
@[simp] theorem State.setCap_rcd (s : State) (k : Nat) (f : CapSt → CapSt) : (s.setCap k f).rcd = s.rcd := rfl
@[simp] theorem State.setCap_nv (s : State) (k : Nat) (f : CapSt → CapSt) : (s.setCap k f).nv = s.nv := rfl
@[simp] theorem State.setCap_sp (s : State) (k : Nat) (f : CapSt → CapSt) : (s.setCap k f).sp = s.sp := rfl
@[simp] theorem State.setCap_ucp (s : State) (k : Nat) (f : CapSt → CapSt) : (s.setCap k f).ucp = s.ucp := rfl
@[simp] theorem State.setCap_sec (s : State) (k : Nat) (f : CapSt → CapSt) : (s.setCap k f).sec = s.sec := rfl
@[simp] theorem State.setCap_eth (s : State) (k : Nat) (f : CapSt → CapSt) : (s.setCap k f).eth = s.eth := rfl
@[simp] theorem State.setCap_conf (s : State) (k : Nat) (f : CapSt → CapSt) : (s.setCap k f).conf = s.conf := rfl
@[simp] theorem State.setCap_upd (s : State) (k : Nat) (f : CapSt → CapSt) : (s.setCap k f).upd = s.upd := rfl
@[simp] theorem State.setCap_pwr (s : State) (k : Nat) (f : CapSt → CapSt) : (s.setCap k f).pwr = s.pwr := rfl
@[simp] theorem State.setCap_timers (s : State) (k : Nat) (f : CapSt → CapSt) : (s.setCap k f).timers = s.timers := rfl
@[simp] theorem State.setCap_free (s : State) (k : Nat) (f : CapSt → CapSt) : (s.setCap k f).free = s.free := rfl
@[simp] theorem State.setCap_pending (s : State) (k : Nat) (f : CapSt → CapSt) : (s.setCap k f).pending = s.pending := rfl
@[simp] theorem State.setCap_get (s : State) (k : Nat) (f : CapSt → CapSt) (j : Nat) : (s.setCap k f).get j = s.get j := rfl
@[simp] theorem State.setCap_getB (s : State) (k : Nat) (f : CapSt → CapSt) (j : Nat) : (s.setCap k f).getB j = s.getB j := rfl
@[simp] theorem State.setCap_cfg (s : State) (k : Nat) (f : CapSt → CapSt) (j : Nat) : (s.setCap k f).cfg j = s.cfg j := rfl

/-! ### setSession -/

@[simp] theorem State.setSession_objs (s : State) (x : Session) : (s.setSession x).objs = s.objs := rfl
@[simp] theorem State.setSession_blobs (s : State) (x : Session) : (s.setSession x).blobs = s.blobs := rfl
@[simp] theorem State.setSession_objs0 (s : State) (x : Session) : (s.setSession x).objs0 = s.objs0 := rfl
@[simp] theorem State.setSession_objsB (s : State) (x : Session) : (s.setSession x).objsB = s.objsB := rfl
@[simp] theorem State.setSession_apps (s : State) (x : Session) : (s.setSession x).apps = s.apps := rfl
@[simp] theorem State.setSession_tm (s : State) (x : Session) : (s.setSession x).tm = s.tm := rfl
@[simp] theorem State.setSession_parts (s : State) (x : Session) : (s.setSession x).parts = s.parts := rfl
@[simp] theorem State.setSession_img (s : State) (x : Session) : (s.setSession x).img = s.img := rfl
@[simp] theorem State.setSession_inp (s : State) (x : Session) : (s.setSession x).inp = s.inp := rfl
@[simp] theorem State.setSession_rx (s : State) (x : Session) : (s.setSession x).rx = s.rx := rfl
@[simp] theorem State.setSession_nav (s : State) (x : Session) : (s.setSession x).nav = s.nav := rfl
@[simp] theorem State.setSession_crop (s : State) (x : Session) : (s.setSession x).crop = s.crop := rfl
@[simp] theorem State.setSession_lark (s : State) (x : Session) : (s.setSession x).lark = s.lark := rfl
@[simp] theorem State.setSession_outs (s : State) (x : Session) : (s.setSession x).outs = s.outs := rfl
@[simp] theorem State.setSession_fox (s : State) (x : Session) : (s.setSession x).fox = s.fox := rfl
@[simp] theorem State.setSession_can (s : State) (x : Session) : (s.setSession x).can = s.can := rfl
@[simp] theorem State.setSession_flt (s : State) (x : Session) : (s.setSession x).flt = s.flt := rfl
@[simp] theorem State.setSession_rcd (s : State) (x : Session) : (s.setSession x).rcd = s.rcd := rfl
@[simp] theorem State.setSession_nv (s : State) (x : Session) : (s.setSession x).nv = s.nv := rfl
@[simp] theorem State.setSession_sp (s : State) (x : Session) : (s.setSession x).sp = s.sp := rfl
@[simp] theorem State.setSession_ucp (s : State) (x : Session) : (s.setSession x).ucp = s.ucp := rfl
@[simp] theorem State.setSession_eth (s : State) (x : Session) : (s.setSession x).eth = s.eth := rfl
@[simp] theorem State.setSession_conf (s : State) (x : Session) : (s.setSession x).conf = s.conf := rfl
@[simp] theorem State.setSession_upd (s : State) (x : Session) : (s.setSession x).upd = s.upd := rfl
@[simp] theorem State.setSession_pwr (s : State) (x : Session) : (s.setSession x).pwr = s.pwr := rfl
@[simp] theorem State.setSession_timers (s : State) (x : Session) : (s.setSession x).timers = s.timers := rfl
@[simp] theorem State.setSession_free (s : State) (x : Session) : (s.setSession x).free = s.free := rfl
@[simp] theorem State.setSession_pending (s : State) (x : Session) : (s.setSession x).pending = s.pending := rfl
@[simp] theorem State.setSession_get (s : State) (x : Session) (j : Nat) : (s.setSession x).get j = s.get j := rfl
@[simp] theorem State.setSession_getB (s : State) (x : Session) (j : Nat) : (s.setSession x).getB j = s.getB j := rfl
@[simp] theorem State.setSession_cfg (s : State) (x : Session) (j : Nat) : (s.setSession x).cfg j = s.cfg j := rfl

/-! ### setCanPort -/

@[simp] theorem State.setCanPort_objs (s : State) (p : Nat) (f : PortSt → PortSt) : (s.setCanPort p f).objs = s.objs := rfl
@[simp] theorem State.setCanPort_blobs (s : State) (p : Nat) (f : PortSt → PortSt) : (s.setCanPort p f).blobs = s.blobs := rfl
@[simp] theorem State.setCanPort_objs0 (s : State) (p : Nat) (f : PortSt → PortSt) : (s.setCanPort p f).objs0 = s.objs0 := rfl
@[simp] theorem State.setCanPort_objsB (s : State) (p : Nat) (f : PortSt → PortSt) : (s.setCanPort p f).objsB = s.objsB := rfl
@[simp] theorem State.setCanPort_apps (s : State) (p : Nat) (f : PortSt → PortSt) : (s.setCanPort p f).apps = s.apps := rfl
@[simp] theorem State.setCanPort_tm (s : State) (p : Nat) (f : PortSt → PortSt) : (s.setCanPort p f).tm = s.tm := rfl
@[simp] theorem State.setCanPort_parts (s : State) (p : Nat) (f : PortSt → PortSt) : (s.setCanPort p f).parts = s.parts := rfl
@[simp] theorem State.setCanPort_img (s : State) (p : Nat) (f : PortSt → PortSt) : (s.setCanPort p f).img = s.img := rfl
@[simp] theorem State.setCanPort_inp (s : State) (p : Nat) (f : PortSt → PortSt) : (s.setCanPort p f).inp = s.inp := rfl
@[simp] theorem State.setCanPort_rx (s : State) (p : Nat) (f : PortSt → PortSt) : (s.setCanPort p f).rx = s.rx := rfl
@[simp] theorem State.setCanPort_nav (s : State) (p : Nat) (f : PortSt → PortSt) : (s.setCanPort p f).nav = s.nav := rfl
@[simp] theorem State.setCanPort_crop (s : State) (p : Nat) (f : PortSt → PortSt) : (s.setCanPort p f).crop = s.crop := rfl
@[simp] theorem State.setCanPort_lark (s : State) (p : Nat) (f : PortSt → PortSt) : (s.setCanPort p f).lark = s.lark := rfl
@[simp] theorem State.setCanPort_outs (s : State) (p : Nat) (f : PortSt → PortSt) : (s.setCanPort p f).outs = s.outs := rfl
@[simp] theorem State.setCanPort_fox (s : State) (p : Nat) (f : PortSt → PortSt) : (s.setCanPort p f).fox = s.fox := rfl
@[simp] theorem State.setCanPort_flt (s : State) (p : Nat) (f : PortSt → PortSt) : (s.setCanPort p f).flt = s.flt := rfl
@[simp] theorem State.setCanPort_rcd (s : State) (p : Nat) (f : PortSt → PortSt) : (s.setCanPort p f).rcd = s.rcd := rfl
@[simp] theorem State.setCanPort_nv (s : State) (p : Nat) (f : PortSt → PortSt) : (s.setCanPort p f).nv = s.nv := rfl
@[simp] theorem State.setCanPort_sp (s : State) (p : Nat) (f : PortSt → PortSt) : (s.setCanPort p f).sp = s.sp := rfl
@[simp] theorem State.setCanPort_ucp (s : State) (p : Nat) (f : PortSt → PortSt) : (s.setCanPort p f).ucp = s.ucp := rfl
@[simp] theorem State.setCanPort_sec (s : State) (p : Nat) (f : PortSt → PortSt) : (s.setCanPort p f).sec = s.sec := rfl
@[simp] theorem State.setCanPort_eth (s : State) (p : Nat) (f : PortSt → PortSt) : (s.setCanPort p f).eth = s.eth := rfl
@[simp] theorem State.setCanPort_conf (s : State) (p : Nat) (f : PortSt → PortSt) : (s.setCanPort p f).conf = s.conf := rfl
@[simp] theorem State.setCanPort_upd (s : State) (p : Nat) (f : PortSt → PortSt) : (s.setCanPort p f).upd = s.upd := rfl
@[simp] theorem State.setCanPort_pwr (s : State) (p : Nat) (f : PortSt → PortSt) : (s.setCanPort p f).pwr = s.pwr := rfl
@[simp] theorem State.setCanPort_timers (s : State) (p : Nat) (f : PortSt → PortSt) : (s.setCanPort p f).timers = s.timers := rfl
@[simp] theorem State.setCanPort_free (s : State) (p : Nat) (f : PortSt → PortSt) : (s.setCanPort p f).free = s.free := rfl
@[simp] theorem State.setCanPort_pending (s : State) (p : Nat) (f : PortSt → PortSt) : (s.setCanPort p f).pending = s.pending := rfl
@[simp] theorem State.setCanPort_get (s : State) (p : Nat) (f : PortSt → PortSt) (j : Nat) : (s.setCanPort p f).get j = s.get j := rfl
@[simp] theorem State.setCanPort_getB (s : State) (p : Nat) (f : PortSt → PortSt) (j : Nat) : (s.setCanPort p f).getB j = s.getB j := rfl
@[simp] theorem State.setCanPort_cfg (s : State) (p : Nat) (f : PortSt → PortSt) (j : Nat) : (s.setCanPort p f).cfg j = s.cfg j := rfl

/-! ### setSpace -/

@[simp] theorem State.setSpace_objs (s : State) (t : TagSpace) : (s.setSpace t).objs = s.objs := rfl
@[simp] theorem State.setSpace_blobs (s : State) (t : TagSpace) : (s.setSpace t).blobs = s.blobs := rfl
@[simp] theorem State.setSpace_objs0 (s : State) (t : TagSpace) : (s.setSpace t).objs0 = s.objs0 := rfl
@[simp] theorem State.setSpace_objsB (s : State) (t : TagSpace) : (s.setSpace t).objsB = s.objsB := rfl
@[simp] theorem State.setSpace_apps (s : State) (t : TagSpace) : (s.setSpace t).apps = s.apps := rfl
@[simp] theorem State.setSpace_tm (s : State) (t : TagSpace) : (s.setSpace t).tm = s.tm := rfl
@[simp] theorem State.setSpace_parts (s : State) (t : TagSpace) : (s.setSpace t).parts = s.parts := rfl
@[simp] theorem State.setSpace_img (s : State) (t : TagSpace) : (s.setSpace t).img = s.img := rfl
@[simp] theorem State.setSpace_inp (s : State) (t : TagSpace) : (s.setSpace t).inp = s.inp := rfl
@[simp] theorem State.setSpace_rx (s : State) (t : TagSpace) : (s.setSpace t).rx = s.rx := rfl
@[simp] theorem State.setSpace_nav (s : State) (t : TagSpace) : (s.setSpace t).nav = s.nav := rfl
@[simp] theorem State.setSpace_crop (s : State) (t : TagSpace) : (s.setSpace t).crop = s.crop := rfl
@[simp] theorem State.setSpace_lark (s : State) (t : TagSpace) : (s.setSpace t).lark = s.lark := rfl
@[simp] theorem State.setSpace_outs (s : State) (t : TagSpace) : (s.setSpace t).outs = s.outs := rfl
@[simp] theorem State.setSpace_fox (s : State) (t : TagSpace) : (s.setSpace t).fox = s.fox := rfl
@[simp] theorem State.setSpace_can (s : State) (t : TagSpace) : (s.setSpace t).can = s.can := rfl
@[simp] theorem State.setSpace_flt (s : State) (t : TagSpace) : (s.setSpace t).flt = s.flt := rfl
@[simp] theorem State.setSpace_rcd (s : State) (t : TagSpace) : (s.setSpace t).rcd = s.rcd := rfl
@[simp] theorem State.setSpace_nv (s : State) (t : TagSpace) : (s.setSpace t).nv = s.nv := rfl
@[simp] theorem State.setSpace_sp (s : State) (t : TagSpace) : (s.setSpace t).sp = s.sp := rfl
@[simp] theorem State.setSpace_sec (s : State) (t : TagSpace) : (s.setSpace t).sec = s.sec := rfl
@[simp] theorem State.setSpace_eth (s : State) (t : TagSpace) : (s.setSpace t).eth = s.eth := rfl
@[simp] theorem State.setSpace_conf (s : State) (t : TagSpace) : (s.setSpace t).conf = s.conf := rfl
@[simp] theorem State.setSpace_upd (s : State) (t : TagSpace) : (s.setSpace t).upd = s.upd := rfl
@[simp] theorem State.setSpace_pwr (s : State) (t : TagSpace) : (s.setSpace t).pwr = s.pwr := rfl
@[simp] theorem State.setSpace_timers (s : State) (t : TagSpace) : (s.setSpace t).timers = s.timers := rfl
@[simp] theorem State.setSpace_free (s : State) (t : TagSpace) : (s.setSpace t).free = s.free := rfl
@[simp] theorem State.setSpace_pending (s : State) (t : TagSpace) : (s.setSpace t).pending = s.pending := rfl
@[simp] theorem State.setSpace_get (s : State) (t : TagSpace) (j : Nat) : (s.setSpace t).get j = s.get j := rfl
@[simp] theorem State.setSpace_getB (s : State) (t : TagSpace) (j : Nat) : (s.setSpace t).getB j = s.getB j := rfl
@[simp] theorem State.setSpace_cfg (s : State) (t : TagSpace) (j : Nat) : (s.setSpace t).cfg j = s.cfg j := rfl

end Sys2Proof.Machine
end

