-- ==== Sys2Proof/Laws/Fault.lean ====
section
/-! SUPPORT. What raising, following and clearing a fault source do to the source, and that they leave everything alone
that is not the collector's: the lemmas the proofs about commands cite. -/

set_option linter.unusedSimpArgs false

namespace Sys2Proof.Machine

open Sys2Proof

/-! ### Bits of a word -/

theorem testBit_add_pow_lt {w i j : Nat} (h : j < i) : Nat.testBit (w + 2 ^ i) j = Nat.testBit w j := by
  rw [Nat.add_comm]; exact Nat.testBit_two_pow_add_gt h w

theorem testBit_sub_pow_lt {w i j : Nat} (h : j < i) (hw : 2 ^ i ≤ w) : Nat.testBit (w - 2 ^ i) j = Nat.testBit w j := by
  have := Nat.testBit_two_pow_add_gt h (w - 2 ^ i)
  rw [← this]; congr 1; omega

@[simp] theorem bit_setBit_same (w i : Nat) (b : Bool) : bit (setBit w i b) i = b := by
  unfold bit setBit
  cases b <;> by_cases h : Nat.testBit w i <;> simp only [h, if_true, Bool.false_eq_true, if_false]
  · have hw := Nat.ge_two_pow_of_testBit h
    have e := Nat.testBit_two_pow_add_eq (w - 2 ^ i) i
    rw [show 2 ^ i + (w - 2 ^ i) = w by omega, h] at e
    simpa using e.symm
  · rw [Nat.add_comm, Nat.testBit_two_pow_add_eq]; simp [h]

theorem bit_setBit_lt (w : Nat) {i j : Nat} (b : Bool) (h : j < i) : bit (setBit w i b) j = bit w j := by
  unfold bit setBit
  cases b <;> by_cases hw : Nat.testBit w i <;> simp only [hw, if_true, Bool.false_eq_true, if_false]
  · exact testBit_sub_pow_lt h (Nat.ge_two_pow_of_testBit hw)
  · exact testBit_add_pow_lt h

theorem bit_setBits_lt (w : Nat) {lo j : Nat} (n v : Nat) (h : j < lo) : bit (setBits w lo n v) j = bit w j := by
  unfold bit setBits
  have hb : bits w lo n * 2 ^ lo ≤ w :=
    le_trans (Nat.mul_le_mul_right _ (Nat.mod_le _ _)) (Nat.div_mul_le_self w (2 ^ lo))
  have key : ∀ x : Nat, Nat.testBit x j = Nat.testBit (x % 2 ^ lo) j := fun x => by simp [Nat.testBit_mod_two_pow, h]
  rw [key, key w]
  congr 1
  rw [Nat.add_mul_mod_self_right]
  obtain ⟨d, hd⟩ : ∃ d, w = d + bits w lo n * 2 ^ lo := ⟨w - bits w lo n * 2 ^ lo, by omega⟩
  conv_rhs => rw [hd]
  rw [Nat.add_mul_mod_self_right]
  congr 1; omega

/-! ### Keys of the collector -/


theorem faultKey_ob (i j : Nat) (h1 : i / 256 ≠ 0x28) (h2 : i ≠ 0x2A00) (h3 : i ≠ 0x2E00) : faultKey (ob i j) = false := by
  simp [faultKey, objects, recLostCount, ob]; omega

@[simp] theorem stKey_ne_low {src j : Nat} : stKey src ≠ ob 0x2800 j := by unfold stKey ob; omega
@[simp] theorem stKey_ne_pend {a b : Nat} : stKey a ≠ pendKey b := by unfold stKey pendKey ob; omega
@[simp] theorem stKey_ne_pin {a : Nat} : stKey a ≠ faultPin := by unfold stKey faultPin ob; omega
@[simp] theorem stKey_ne_cnt {a b : Nat} : stKey a ≠ cntKey b := by unfold stKey cntKey ob; omega
@[simp] theorem stKey_ne_code {a b : Nat} : stKey a ≠ codeKey b := by unfold stKey codeKey ob; omega
@[simp] theorem stKey_ne_lost {a : Nat} : stKey a ≠ recLostCount := by unfold stKey recLostCount ob; omega
@[simp] theorem stKey_ne_evq {a : Nat} : stKey a ≠ ob 0x2E00 0x0A := by unfold stKey ob; omega
theorem stKey_inj {a b : Nat} (ha : a < 512) (hb : b < 512) (h : stKey a = stKey b) : a = b := by
  unfold stKey ob at h; omega

/-! ### What each operation leaves alone -/

/-- Inside the footprint of a fault. -/
theorem State.push_faults (s : State) (kind subject code flags : Nat) (conts : List Cont) : Kept ({} : Foot).faults s (s.push kind subject code flags conts) := by
  have hk := Kept.refl ({} : Foot).faults s
  have h : ({} : Foot).faults.grp 0x28 := fun k hg => by simp [Foot.faults, objects, hg]
  have h1 : ({} : Foot).faults.idx recLostCount = true := by rfl
  have h2 : ({} : Foot).faults.idx (ob 0x2E00 0x0A) = true := by rfl
  simp (maxDischargeDepth := 60) [hk, h, h1, h2, show ({} : Foot).faults.flt = true from rfl,
    show ({} : Foot).faults.rcd = true from rfl, show ({} : Foot).faults.ucp = true from rfl]
theorem State.push_get (s : State) (kind subject code flags : Nat) (conts : List Cont) {k : Nat} (h : faultKey k = false) : (s.push kind subject code flags conts).get k = s.get k :=
  (s.push_faults kind subject code flags conts).get_eq (by simpa [Foot.faults, faultKey] using h)
theorem State.push_getB (s : State) (kind subject code flags : Nat) (conts : List Cont) {k : Nat} (h : faultKey k = false) : (s.push kind subject code flags conts).getB k = s.getB k :=
  (s.push_faults kind subject code flags conts).getB_eq (by simpa [Foot.faults, faultKey] using h)
@[simp] theorem State.push_objs0 (s : State) (kind subject code flags : Nat) (conts : List Cont) : (s.push kind subject code flags conts).objs0 = s.objs0 := (s.push_faults kind subject code flags conts).objs0.resolve_left (by simp [Foot.faults])
@[simp] theorem State.push_cfg (s : State) (kind subject code flags : Nat) (conts : List Cont) (j : Nat) : (s.push kind subject code flags conts).cfg j = s.cfg j := by simp [State.cfg]
@[simp] theorem State.push_apps (s : State) (kind subject code flags : Nat) (conts : List Cont) : (s.push kind subject code flags conts).apps = s.apps := (s.push_faults kind subject code flags conts).apps_eq rfl
@[simp] theorem State.push_tm (s : State) (kind subject code flags : Nat) (conts : List Cont) : (s.push kind subject code flags conts).tm = s.tm := (s.push_faults kind subject code flags conts).tm_eq rfl
@[simp] theorem State.push_parts (s : State) (kind subject code flags : Nat) (conts : List Cont) : (s.push kind subject code flags conts).parts = s.parts := (s.push_faults kind subject code flags conts).parts_eq rfl
@[simp] theorem State.push_img (s : State) (kind subject code flags : Nat) (conts : List Cont) : (s.push kind subject code flags conts).img = s.img := (s.push_faults kind subject code flags conts).img_eq rfl
@[simp] theorem State.push_inp (s : State) (kind subject code flags : Nat) (conts : List Cont) : (s.push kind subject code flags conts).inp = s.inp := (s.push_faults kind subject code flags conts).inp_eq rfl
@[simp] theorem State.push_rx (s : State) (kind subject code flags : Nat) (conts : List Cont) : (s.push kind subject code flags conts).rx = s.rx := (s.push_faults kind subject code flags conts).rx_eq rfl
@[simp] theorem State.push_nav (s : State) (kind subject code flags : Nat) (conts : List Cont) : (s.push kind subject code flags conts).nav = s.nav := (s.push_faults kind subject code flags conts).nav_eq rfl
@[simp] theorem State.push_crop (s : State) (kind subject code flags : Nat) (conts : List Cont) : (s.push kind subject code flags conts).crop = s.crop := (s.push_faults kind subject code flags conts).crop_eq rfl
@[simp] theorem State.push_lark (s : State) (kind subject code flags : Nat) (conts : List Cont) : (s.push kind subject code flags conts).lark = s.lark := (s.push_faults kind subject code flags conts).lark_eq rfl
@[simp] theorem State.push_outs (s : State) (kind subject code flags : Nat) (conts : List Cont) : (s.push kind subject code flags conts).outs = s.outs := (s.push_faults kind subject code flags conts).outs_eq rfl
@[simp] theorem State.push_fox (s : State) (kind subject code flags : Nat) (conts : List Cont) : (s.push kind subject code flags conts).fox = s.fox := (s.push_faults kind subject code flags conts).fox_eq rfl
@[simp] theorem State.push_can (s : State) (kind subject code flags : Nat) (conts : List Cont) : (s.push kind subject code flags conts).can = s.can := (s.push_faults kind subject code flags conts).can_eq rfl
@[simp] theorem State.push_nv (s : State) (kind subject code flags : Nat) (conts : List Cont) : (s.push kind subject code flags conts).nv = s.nv := (s.push_faults kind subject code flags conts).nv_eq rfl
@[simp] theorem State.push_sp (s : State) (kind subject code flags : Nat) (conts : List Cont) : (s.push kind subject code flags conts).sp = s.sp := (s.push_faults kind subject code flags conts).sp_eq rfl
@[simp] theorem State.push_sec (s : State) (kind subject code flags : Nat) (conts : List Cont) : (s.push kind subject code flags conts).sec = s.sec := (s.push_faults kind subject code flags conts).sec_eq rfl
@[simp] theorem State.push_eth (s : State) (kind subject code flags : Nat) (conts : List Cont) : (s.push kind subject code flags conts).eth = s.eth := (s.push_faults kind subject code flags conts).eth_eq rfl
@[simp] theorem State.push_conf (s : State) (kind subject code flags : Nat) (conts : List Cont) : (s.push kind subject code flags conts).conf = s.conf := (s.push_faults kind subject code flags conts).conf_eq rfl
@[simp] theorem State.push_upd (s : State) (kind subject code flags : Nat) (conts : List Cont) : (s.push kind subject code flags conts).upd = s.upd := (s.push_faults kind subject code flags conts).upd_eq rfl
@[simp] theorem State.push_pwr (s : State) (kind subject code flags : Nat) (conts : List Cont) : (s.push kind subject code flags conts).pwr = s.pwr := (s.push_faults kind subject code flags conts).pwr_eq rfl
@[simp] theorem State.push_timers (s : State) (kind subject code flags : Nat) (conts : List Cont) : (s.push kind subject code flags conts).timers = s.timers := (s.push_faults kind subject code flags conts).timers_eq rfl
@[simp] theorem State.push_free (s : State) (kind subject code flags : Nat) (conts : List Cont) : (s.push kind subject code flags conts).free = s.free := (s.push_faults kind subject code flags conts).free_eq rfl
@[simp] theorem State.push_pending (s : State) (kind subject code flags : Nat) (conts : List Cont) : (s.push kind subject code flags conts).pending = s.pending := (s.push_faults kind subject code flags conts).pending_eq rfl

/-- Inside the footprint of a fault. -/
theorem State.settle_faults (s : State) : Kept ({} : Foot).faults s (s.settle) := by
  have hk := Kept.refl ({} : Foot).faults s
  have h : ({} : Foot).faults.grp 0x28 := fun k hg => by simp [Foot.faults, objects, hg]
  have h1 : ({} : Foot).faults.idx recLostCount = true := by rfl
  have h2 : ({} : Foot).faults.idx (ob 0x2E00 0x0A) = true := by rfl
  simp (maxDischargeDepth := 60) [hk, h, h1, h2, show ({} : Foot).faults.flt = true from rfl,
    show ({} : Foot).faults.rcd = true from rfl, show ({} : Foot).faults.ucp = true from rfl]
theorem State.settle_get (s : State) {k : Nat} (h : faultKey k = false) : (s.settle).get k = s.get k :=
  (s.settle_faults).get_eq (by simpa [Foot.faults, faultKey] using h)
theorem State.settle_getB (s : State) {k : Nat} (h : faultKey k = false) : (s.settle).getB k = s.getB k :=
  (s.settle_faults).getB_eq (by simpa [Foot.faults, faultKey] using h)
@[simp] theorem State.settle_objs0 (s : State) : (s.settle).objs0 = s.objs0 := (s.settle_faults).objs0.resolve_left (by simp [Foot.faults])
@[simp] theorem State.settle_cfg (s : State) (j : Nat) : (s.settle).cfg j = s.cfg j := by simp [State.cfg]
@[simp] theorem State.settle_apps (s : State) : (s.settle).apps = s.apps := (s.settle_faults).apps_eq rfl
@[simp] theorem State.settle_tm (s : State) : (s.settle).tm = s.tm := (s.settle_faults).tm_eq rfl
@[simp] theorem State.settle_parts (s : State) : (s.settle).parts = s.parts := (s.settle_faults).parts_eq rfl
@[simp] theorem State.settle_img (s : State) : (s.settle).img = s.img := (s.settle_faults).img_eq rfl
@[simp] theorem State.settle_inp (s : State) : (s.settle).inp = s.inp := (s.settle_faults).inp_eq rfl
@[simp] theorem State.settle_rx (s : State) : (s.settle).rx = s.rx := (s.settle_faults).rx_eq rfl
@[simp] theorem State.settle_nav (s : State) : (s.settle).nav = s.nav := (s.settle_faults).nav_eq rfl
@[simp] theorem State.settle_crop (s : State) : (s.settle).crop = s.crop := (s.settle_faults).crop_eq rfl
@[simp] theorem State.settle_lark (s : State) : (s.settle).lark = s.lark := (s.settle_faults).lark_eq rfl
@[simp] theorem State.settle_outs (s : State) : (s.settle).outs = s.outs := (s.settle_faults).outs_eq rfl
@[simp] theorem State.settle_fox (s : State) : (s.settle).fox = s.fox := (s.settle_faults).fox_eq rfl
@[simp] theorem State.settle_can (s : State) : (s.settle).can = s.can := (s.settle_faults).can_eq rfl
@[simp] theorem State.settle_nv (s : State) : (s.settle).nv = s.nv := (s.settle_faults).nv_eq rfl
@[simp] theorem State.settle_sp (s : State) : (s.settle).sp = s.sp := (s.settle_faults).sp_eq rfl
@[simp] theorem State.settle_sec (s : State) : (s.settle).sec = s.sec := (s.settle_faults).sec_eq rfl
@[simp] theorem State.settle_eth (s : State) : (s.settle).eth = s.eth := (s.settle_faults).eth_eq rfl
@[simp] theorem State.settle_conf (s : State) : (s.settle).conf = s.conf := (s.settle_faults).conf_eq rfl
@[simp] theorem State.settle_upd (s : State) : (s.settle).upd = s.upd := (s.settle_faults).upd_eq rfl
@[simp] theorem State.settle_pwr (s : State) : (s.settle).pwr = s.pwr := (s.settle_faults).pwr_eq rfl
@[simp] theorem State.settle_timers (s : State) : (s.settle).timers = s.timers := (s.settle_faults).timers_eq rfl
@[simp] theorem State.settle_free (s : State) : (s.settle).free = s.free := (s.settle_faults).free_eq rfl
@[simp] theorem State.settle_pending (s : State) : (s.settle).pending = s.pending := (s.settle_faults).pending_eq rfl

/-- Inside the footprint of a fault. -/
theorem State.send_faults (s : State) (cls : Nat) (data : List Byte) (aux : Nat) : Kept ({} : Foot).faults s (s.send cls data aux) := by
  have hk := Kept.refl ({} : Foot).faults s
  have h : ({} : Foot).faults.grp 0x28 := fun k hg => by simp [Foot.faults, objects, hg]
  have h1 : ({} : Foot).faults.idx recLostCount = true := by rfl
  have h2 : ({} : Foot).faults.idx (ob 0x2E00 0x0A) = true := by rfl
  simp (maxDischargeDepth := 60) [hk, h, h1, h2, show ({} : Foot).faults.flt = true from rfl,
    show ({} : Foot).faults.rcd = true from rfl, show ({} : Foot).faults.ucp = true from rfl]
theorem State.send_get (s : State) (cls : Nat) (data : List Byte) (aux : Nat) {k : Nat} (h : faultKey k = false) : (s.send cls data aux).get k = s.get k :=
  (s.send_faults cls data aux).get_eq (by simpa [Foot.faults, faultKey] using h)
theorem State.send_getB (s : State) (cls : Nat) (data : List Byte) (aux : Nat) {k : Nat} (h : faultKey k = false) : (s.send cls data aux).getB k = s.getB k :=
  (s.send_faults cls data aux).getB_eq (by simpa [Foot.faults, faultKey] using h)
@[simp] theorem State.send_objs0 (s : State) (cls : Nat) (data : List Byte) (aux : Nat) : (s.send cls data aux).objs0 = s.objs0 := (s.send_faults cls data aux).objs0.resolve_left (by simp [Foot.faults])
@[simp] theorem State.send_cfg (s : State) (cls : Nat) (data : List Byte) (aux : Nat) (j : Nat) : (s.send cls data aux).cfg j = s.cfg j := by simp [State.cfg]
@[simp] theorem State.send_apps (s : State) (cls : Nat) (data : List Byte) (aux : Nat) : (s.send cls data aux).apps = s.apps := (s.send_faults cls data aux).apps_eq rfl
@[simp] theorem State.send_tm (s : State) (cls : Nat) (data : List Byte) (aux : Nat) : (s.send cls data aux).tm = s.tm := (s.send_faults cls data aux).tm_eq rfl
@[simp] theorem State.send_parts (s : State) (cls : Nat) (data : List Byte) (aux : Nat) : (s.send cls data aux).parts = s.parts := (s.send_faults cls data aux).parts_eq rfl
@[simp] theorem State.send_img (s : State) (cls : Nat) (data : List Byte) (aux : Nat) : (s.send cls data aux).img = s.img := (s.send_faults cls data aux).img_eq rfl
@[simp] theorem State.send_inp (s : State) (cls : Nat) (data : List Byte) (aux : Nat) : (s.send cls data aux).inp = s.inp := (s.send_faults cls data aux).inp_eq rfl
@[simp] theorem State.send_rx (s : State) (cls : Nat) (data : List Byte) (aux : Nat) : (s.send cls data aux).rx = s.rx := (s.send_faults cls data aux).rx_eq rfl
@[simp] theorem State.send_nav (s : State) (cls : Nat) (data : List Byte) (aux : Nat) : (s.send cls data aux).nav = s.nav := (s.send_faults cls data aux).nav_eq rfl
@[simp] theorem State.send_crop (s : State) (cls : Nat) (data : List Byte) (aux : Nat) : (s.send cls data aux).crop = s.crop := (s.send_faults cls data aux).crop_eq rfl
@[simp] theorem State.send_lark (s : State) (cls : Nat) (data : List Byte) (aux : Nat) : (s.send cls data aux).lark = s.lark := (s.send_faults cls data aux).lark_eq rfl
@[simp] theorem State.send_outs (s : State) (cls : Nat) (data : List Byte) (aux : Nat) : (s.send cls data aux).outs = s.outs := (s.send_faults cls data aux).outs_eq rfl
@[simp] theorem State.send_fox (s : State) (cls : Nat) (data : List Byte) (aux : Nat) : (s.send cls data aux).fox = s.fox := (s.send_faults cls data aux).fox_eq rfl
@[simp] theorem State.send_can (s : State) (cls : Nat) (data : List Byte) (aux : Nat) : (s.send cls data aux).can = s.can := (s.send_faults cls data aux).can_eq rfl
@[simp] theorem State.send_nv (s : State) (cls : Nat) (data : List Byte) (aux : Nat) : (s.send cls data aux).nv = s.nv := (s.send_faults cls data aux).nv_eq rfl
@[simp] theorem State.send_sp (s : State) (cls : Nat) (data : List Byte) (aux : Nat) : (s.send cls data aux).sp = s.sp := (s.send_faults cls data aux).sp_eq rfl
@[simp] theorem State.send_sec (s : State) (cls : Nat) (data : List Byte) (aux : Nat) : (s.send cls data aux).sec = s.sec := (s.send_faults cls data aux).sec_eq rfl
@[simp] theorem State.send_eth (s : State) (cls : Nat) (data : List Byte) (aux : Nat) : (s.send cls data aux).eth = s.eth := (s.send_faults cls data aux).eth_eq rfl
@[simp] theorem State.send_conf (s : State) (cls : Nat) (data : List Byte) (aux : Nat) : (s.send cls data aux).conf = s.conf := (s.send_faults cls data aux).conf_eq rfl
@[simp] theorem State.send_upd (s : State) (cls : Nat) (data : List Byte) (aux : Nat) : (s.send cls data aux).upd = s.upd := (s.send_faults cls data aux).upd_eq rfl
@[simp] theorem State.send_pwr (s : State) (cls : Nat) (data : List Byte) (aux : Nat) : (s.send cls data aux).pwr = s.pwr := (s.send_faults cls data aux).pwr_eq rfl
@[simp] theorem State.send_timers (s : State) (cls : Nat) (data : List Byte) (aux : Nat) : (s.send cls data aux).timers = s.timers := (s.send_faults cls data aux).timers_eq rfl
@[simp] theorem State.send_free (s : State) (cls : Nat) (data : List Byte) (aux : Nat) : (s.send cls data aux).free = s.free := (s.send_faults cls data aux).free_eq rfl
@[simp] theorem State.send_pending (s : State) (cls : Nat) (data : List Byte) (aux : Nat) : (s.send cls data aux).pending = s.pending := (s.send_faults cls data aux).pending_eq rfl

/-- Inside the footprint of a fault. -/
theorem State.post_faults (s : State) (kind subject code flags : Nat) (conts : List Cont) : Kept ({} : Foot).faults s (s.post kind subject code flags conts) := by
  have hk := Kept.refl ({} : Foot).faults s
  have h : ({} : Foot).faults.grp 0x28 := fun k hg => by simp [Foot.faults, objects, hg]
  have h1 : ({} : Foot).faults.idx recLostCount = true := by rfl
  have h2 : ({} : Foot).faults.idx (ob 0x2E00 0x0A) = true := by rfl
  simp (maxDischargeDepth := 60) [hk, h, h1, h2, show ({} : Foot).faults.flt = true from rfl,
    show ({} : Foot).faults.rcd = true from rfl, show ({} : Foot).faults.ucp = true from rfl]
theorem State.post_get (s : State) (kind subject code flags : Nat) (conts : List Cont) {k : Nat} (h : faultKey k = false) : (s.post kind subject code flags conts).get k = s.get k :=
  (s.post_faults kind subject code flags conts).get_eq (by simpa [Foot.faults, faultKey] using h)
theorem State.post_getB (s : State) (kind subject code flags : Nat) (conts : List Cont) {k : Nat} (h : faultKey k = false) : (s.post kind subject code flags conts).getB k = s.getB k :=
  (s.post_faults kind subject code flags conts).getB_eq (by simpa [Foot.faults, faultKey] using h)
@[simp] theorem State.post_objs0 (s : State) (kind subject code flags : Nat) (conts : List Cont) : (s.post kind subject code flags conts).objs0 = s.objs0 := (s.post_faults kind subject code flags conts).objs0.resolve_left (by simp [Foot.faults])
@[simp] theorem State.post_cfg (s : State) (kind subject code flags : Nat) (conts : List Cont) (j : Nat) : (s.post kind subject code flags conts).cfg j = s.cfg j := by simp [State.cfg]
@[simp] theorem State.post_apps (s : State) (kind subject code flags : Nat) (conts : List Cont) : (s.post kind subject code flags conts).apps = s.apps := (s.post_faults kind subject code flags conts).apps_eq rfl
@[simp] theorem State.post_tm (s : State) (kind subject code flags : Nat) (conts : List Cont) : (s.post kind subject code flags conts).tm = s.tm := (s.post_faults kind subject code flags conts).tm_eq rfl
@[simp] theorem State.post_parts (s : State) (kind subject code flags : Nat) (conts : List Cont) : (s.post kind subject code flags conts).parts = s.parts := (s.post_faults kind subject code flags conts).parts_eq rfl
@[simp] theorem State.post_img (s : State) (kind subject code flags : Nat) (conts : List Cont) : (s.post kind subject code flags conts).img = s.img := (s.post_faults kind subject code flags conts).img_eq rfl
@[simp] theorem State.post_inp (s : State) (kind subject code flags : Nat) (conts : List Cont) : (s.post kind subject code flags conts).inp = s.inp := (s.post_faults kind subject code flags conts).inp_eq rfl
@[simp] theorem State.post_rx (s : State) (kind subject code flags : Nat) (conts : List Cont) : (s.post kind subject code flags conts).rx = s.rx := (s.post_faults kind subject code flags conts).rx_eq rfl
@[simp] theorem State.post_nav (s : State) (kind subject code flags : Nat) (conts : List Cont) : (s.post kind subject code flags conts).nav = s.nav := (s.post_faults kind subject code flags conts).nav_eq rfl
@[simp] theorem State.post_crop (s : State) (kind subject code flags : Nat) (conts : List Cont) : (s.post kind subject code flags conts).crop = s.crop := (s.post_faults kind subject code flags conts).crop_eq rfl
@[simp] theorem State.post_lark (s : State) (kind subject code flags : Nat) (conts : List Cont) : (s.post kind subject code flags conts).lark = s.lark := (s.post_faults kind subject code flags conts).lark_eq rfl
@[simp] theorem State.post_outs (s : State) (kind subject code flags : Nat) (conts : List Cont) : (s.post kind subject code flags conts).outs = s.outs := (s.post_faults kind subject code flags conts).outs_eq rfl
@[simp] theorem State.post_fox (s : State) (kind subject code flags : Nat) (conts : List Cont) : (s.post kind subject code flags conts).fox = s.fox := (s.post_faults kind subject code flags conts).fox_eq rfl
@[simp] theorem State.post_can (s : State) (kind subject code flags : Nat) (conts : List Cont) : (s.post kind subject code flags conts).can = s.can := (s.post_faults kind subject code flags conts).can_eq rfl
@[simp] theorem State.post_nv (s : State) (kind subject code flags : Nat) (conts : List Cont) : (s.post kind subject code flags conts).nv = s.nv := (s.post_faults kind subject code flags conts).nv_eq rfl
@[simp] theorem State.post_sp (s : State) (kind subject code flags : Nat) (conts : List Cont) : (s.post kind subject code flags conts).sp = s.sp := (s.post_faults kind subject code flags conts).sp_eq rfl
@[simp] theorem State.post_sec (s : State) (kind subject code flags : Nat) (conts : List Cont) : (s.post kind subject code flags conts).sec = s.sec := (s.post_faults kind subject code flags conts).sec_eq rfl
@[simp] theorem State.post_eth (s : State) (kind subject code flags : Nat) (conts : List Cont) : (s.post kind subject code flags conts).eth = s.eth := (s.post_faults kind subject code flags conts).eth_eq rfl
@[simp] theorem State.post_conf (s : State) (kind subject code flags : Nat) (conts : List Cont) : (s.post kind subject code flags conts).conf = s.conf := (s.post_faults kind subject code flags conts).conf_eq rfl
@[simp] theorem State.post_upd (s : State) (kind subject code flags : Nat) (conts : List Cont) : (s.post kind subject code flags conts).upd = s.upd := (s.post_faults kind subject code flags conts).upd_eq rfl
@[simp] theorem State.post_pwr (s : State) (kind subject code flags : Nat) (conts : List Cont) : (s.post kind subject code flags conts).pwr = s.pwr := (s.post_faults kind subject code flags conts).pwr_eq rfl
@[simp] theorem State.post_timers (s : State) (kind subject code flags : Nat) (conts : List Cont) : (s.post kind subject code flags conts).timers = s.timers := (s.post_faults kind subject code flags conts).timers_eq rfl
@[simp] theorem State.post_free (s : State) (kind subject code flags : Nat) (conts : List Cont) : (s.post kind subject code flags conts).free = s.free := (s.post_faults kind subject code flags conts).free_eq rfl
@[simp] theorem State.post_pending (s : State) (kind subject code flags : Nat) (conts : List Cont) : (s.post kind subject code flags conts).pending = s.pending := (s.post_faults kind subject code flags conts).pending_eq rfl

/-- Inside the footprint of a fault. -/
theorem State.event_faults (s : State) (cls : Nat) (data : List Byte) (aux : Nat) : Kept ({} : Foot).faults s (s.event cls data aux) := by
  have hk := Kept.refl ({} : Foot).faults s
  have h : ({} : Foot).faults.grp 0x28 := fun k hg => by simp [Foot.faults, objects, hg]
  have h1 : ({} : Foot).faults.idx recLostCount = true := by rfl
  have h2 : ({} : Foot).faults.idx (ob 0x2E00 0x0A) = true := by rfl
  simp (maxDischargeDepth := 60) [hk, h, h1, h2, show ({} : Foot).faults.flt = true from rfl,
    show ({} : Foot).faults.rcd = true from rfl, show ({} : Foot).faults.ucp = true from rfl]
theorem State.event_get (s : State) (cls : Nat) (data : List Byte) (aux : Nat) {k : Nat} (h : faultKey k = false) : (s.event cls data aux).get k = s.get k :=
  (s.event_faults cls data aux).get_eq (by simpa [Foot.faults, faultKey] using h)
theorem State.event_getB (s : State) (cls : Nat) (data : List Byte) (aux : Nat) {k : Nat} (h : faultKey k = false) : (s.event cls data aux).getB k = s.getB k :=
  (s.event_faults cls data aux).getB_eq (by simpa [Foot.faults, faultKey] using h)
@[simp] theorem State.event_objs0 (s : State) (cls : Nat) (data : List Byte) (aux : Nat) : (s.event cls data aux).objs0 = s.objs0 := (s.event_faults cls data aux).objs0.resolve_left (by simp [Foot.faults])
@[simp] theorem State.event_cfg (s : State) (cls : Nat) (data : List Byte) (aux : Nat) (j : Nat) : (s.event cls data aux).cfg j = s.cfg j := by simp [State.cfg]
@[simp] theorem State.event_apps (s : State) (cls : Nat) (data : List Byte) (aux : Nat) : (s.event cls data aux).apps = s.apps := (s.event_faults cls data aux).apps_eq rfl
@[simp] theorem State.event_tm (s : State) (cls : Nat) (data : List Byte) (aux : Nat) : (s.event cls data aux).tm = s.tm := (s.event_faults cls data aux).tm_eq rfl
@[simp] theorem State.event_parts (s : State) (cls : Nat) (data : List Byte) (aux : Nat) : (s.event cls data aux).parts = s.parts := (s.event_faults cls data aux).parts_eq rfl
@[simp] theorem State.event_img (s : State) (cls : Nat) (data : List Byte) (aux : Nat) : (s.event cls data aux).img = s.img := (s.event_faults cls data aux).img_eq rfl
@[simp] theorem State.event_inp (s : State) (cls : Nat) (data : List Byte) (aux : Nat) : (s.event cls data aux).inp = s.inp := (s.event_faults cls data aux).inp_eq rfl
@[simp] theorem State.event_rx (s : State) (cls : Nat) (data : List Byte) (aux : Nat) : (s.event cls data aux).rx = s.rx := (s.event_faults cls data aux).rx_eq rfl
@[simp] theorem State.event_nav (s : State) (cls : Nat) (data : List Byte) (aux : Nat) : (s.event cls data aux).nav = s.nav := (s.event_faults cls data aux).nav_eq rfl
@[simp] theorem State.event_crop (s : State) (cls : Nat) (data : List Byte) (aux : Nat) : (s.event cls data aux).crop = s.crop := (s.event_faults cls data aux).crop_eq rfl
@[simp] theorem State.event_lark (s : State) (cls : Nat) (data : List Byte) (aux : Nat) : (s.event cls data aux).lark = s.lark := (s.event_faults cls data aux).lark_eq rfl
@[simp] theorem State.event_outs (s : State) (cls : Nat) (data : List Byte) (aux : Nat) : (s.event cls data aux).outs = s.outs := (s.event_faults cls data aux).outs_eq rfl
@[simp] theorem State.event_fox (s : State) (cls : Nat) (data : List Byte) (aux : Nat) : (s.event cls data aux).fox = s.fox := (s.event_faults cls data aux).fox_eq rfl
@[simp] theorem State.event_can (s : State) (cls : Nat) (data : List Byte) (aux : Nat) : (s.event cls data aux).can = s.can := (s.event_faults cls data aux).can_eq rfl
@[simp] theorem State.event_nv (s : State) (cls : Nat) (data : List Byte) (aux : Nat) : (s.event cls data aux).nv = s.nv := (s.event_faults cls data aux).nv_eq rfl
@[simp] theorem State.event_sp (s : State) (cls : Nat) (data : List Byte) (aux : Nat) : (s.event cls data aux).sp = s.sp := (s.event_faults cls data aux).sp_eq rfl
@[simp] theorem State.event_sec (s : State) (cls : Nat) (data : List Byte) (aux : Nat) : (s.event cls data aux).sec = s.sec := (s.event_faults cls data aux).sec_eq rfl
@[simp] theorem State.event_eth (s : State) (cls : Nat) (data : List Byte) (aux : Nat) : (s.event cls data aux).eth = s.eth := (s.event_faults cls data aux).eth_eq rfl
@[simp] theorem State.event_conf (s : State) (cls : Nat) (data : List Byte) (aux : Nat) : (s.event cls data aux).conf = s.conf := (s.event_faults cls data aux).conf_eq rfl
@[simp] theorem State.event_upd (s : State) (cls : Nat) (data : List Byte) (aux : Nat) : (s.event cls data aux).upd = s.upd := (s.event_faults cls data aux).upd_eq rfl
@[simp] theorem State.event_pwr (s : State) (cls : Nat) (data : List Byte) (aux : Nat) : (s.event cls data aux).pwr = s.pwr := (s.event_faults cls data aux).pwr_eq rfl
@[simp] theorem State.event_timers (s : State) (cls : Nat) (data : List Byte) (aux : Nat) : (s.event cls data aux).timers = s.timers := (s.event_faults cls data aux).timers_eq rfl
@[simp] theorem State.event_free (s : State) (cls : Nat) (data : List Byte) (aux : Nat) : (s.event cls data aux).free = s.free := (s.event_faults cls data aux).free_eq rfl
@[simp] theorem State.event_pending (s : State) (cls : Nat) (data : List Byte) (aux : Nat) : (s.event cls data aux).pending = s.pending := (s.event_faults cls data aux).pending_eq rfl

/-- Inside the footprint of a fault. -/
theorem State.occurBase_faults (s : State) (src : Nat) : Kept ({} : Foot).faults s (s.occurBase src) := by
  have hk := Kept.refl ({} : Foot).faults s
  have h : ({} : Foot).faults.grp 0x28 := fun k hg => by simp [Foot.faults, objects, hg]
  have h1 : ({} : Foot).faults.idx recLostCount = true := by rfl
  have h2 : ({} : Foot).faults.idx (ob 0x2E00 0x0A) = true := by rfl
  simp (maxDischargeDepth := 60) [hk, h, h1, h2, show ({} : Foot).faults.flt = true from rfl,
    show ({} : Foot).faults.rcd = true from rfl, show ({} : Foot).faults.ucp = true from rfl]
theorem State.occurBase_get (s : State) (src : Nat) {k : Nat} (h : faultKey k = false) : (s.occurBase src).get k = s.get k :=
  (s.occurBase_faults src).get_eq (by simpa [Foot.faults, faultKey] using h)
theorem State.occurBase_getB (s : State) (src : Nat) {k : Nat} (h : faultKey k = false) : (s.occurBase src).getB k = s.getB k :=
  (s.occurBase_faults src).getB_eq (by simpa [Foot.faults, faultKey] using h)
@[simp] theorem State.occurBase_objs0 (s : State) (src : Nat) : (s.occurBase src).objs0 = s.objs0 := (s.occurBase_faults src).objs0.resolve_left (by simp [Foot.faults])
@[simp] theorem State.occurBase_cfg (s : State) (src : Nat) (j : Nat) : (s.occurBase src).cfg j = s.cfg j := by simp [State.cfg]
@[simp] theorem State.occurBase_apps (s : State) (src : Nat) : (s.occurBase src).apps = s.apps := (s.occurBase_faults src).apps_eq rfl
@[simp] theorem State.occurBase_tm (s : State) (src : Nat) : (s.occurBase src).tm = s.tm := (s.occurBase_faults src).tm_eq rfl
@[simp] theorem State.occurBase_parts (s : State) (src : Nat) : (s.occurBase src).parts = s.parts := (s.occurBase_faults src).parts_eq rfl
@[simp] theorem State.occurBase_img (s : State) (src : Nat) : (s.occurBase src).img = s.img := (s.occurBase_faults src).img_eq rfl
@[simp] theorem State.occurBase_inp (s : State) (src : Nat) : (s.occurBase src).inp = s.inp := (s.occurBase_faults src).inp_eq rfl
@[simp] theorem State.occurBase_rx (s : State) (src : Nat) : (s.occurBase src).rx = s.rx := (s.occurBase_faults src).rx_eq rfl
@[simp] theorem State.occurBase_nav (s : State) (src : Nat) : (s.occurBase src).nav = s.nav := (s.occurBase_faults src).nav_eq rfl
@[simp] theorem State.occurBase_crop (s : State) (src : Nat) : (s.occurBase src).crop = s.crop := (s.occurBase_faults src).crop_eq rfl
@[simp] theorem State.occurBase_lark (s : State) (src : Nat) : (s.occurBase src).lark = s.lark := (s.occurBase_faults src).lark_eq rfl
@[simp] theorem State.occurBase_outs (s : State) (src : Nat) : (s.occurBase src).outs = s.outs := (s.occurBase_faults src).outs_eq rfl
@[simp] theorem State.occurBase_fox (s : State) (src : Nat) : (s.occurBase src).fox = s.fox := (s.occurBase_faults src).fox_eq rfl
@[simp] theorem State.occurBase_can (s : State) (src : Nat) : (s.occurBase src).can = s.can := (s.occurBase_faults src).can_eq rfl
@[simp] theorem State.occurBase_nv (s : State) (src : Nat) : (s.occurBase src).nv = s.nv := (s.occurBase_faults src).nv_eq rfl
@[simp] theorem State.occurBase_sp (s : State) (src : Nat) : (s.occurBase src).sp = s.sp := (s.occurBase_faults src).sp_eq rfl
@[simp] theorem State.occurBase_sec (s : State) (src : Nat) : (s.occurBase src).sec = s.sec := (s.occurBase_faults src).sec_eq rfl
@[simp] theorem State.occurBase_eth (s : State) (src : Nat) : (s.occurBase src).eth = s.eth := (s.occurBase_faults src).eth_eq rfl
@[simp] theorem State.occurBase_conf (s : State) (src : Nat) : (s.occurBase src).conf = s.conf := (s.occurBase_faults src).conf_eq rfl
@[simp] theorem State.occurBase_upd (s : State) (src : Nat) : (s.occurBase src).upd = s.upd := (s.occurBase_faults src).upd_eq rfl
@[simp] theorem State.occurBase_pwr (s : State) (src : Nat) : (s.occurBase src).pwr = s.pwr := (s.occurBase_faults src).pwr_eq rfl
@[simp] theorem State.occurBase_timers (s : State) (src : Nat) : (s.occurBase src).timers = s.timers := (s.occurBase_faults src).timers_eq rfl
@[simp] theorem State.occurBase_free (s : State) (src : Nat) : (s.occurBase src).free = s.free := (s.occurBase_faults src).free_eq rfl
@[simp] theorem State.occurBase_pending (s : State) (src : Nat) : (s.occurBase src).pending = s.pending := (s.occurBase_faults src).pending_eq rfl

/-- Inside the footprint of a fault. -/
theorem State.raiseEvent_faults (s : State) (src code : Nat) : Kept ({} : Foot).faults s (s.raiseEvent src code) := by
  have hk := Kept.refl ({} : Foot).faults s
  have h : ({} : Foot).faults.grp 0x28 := fun k hg => by simp [Foot.faults, objects, hg]
  have h1 : ({} : Foot).faults.idx recLostCount = true := by rfl
  have h2 : ({} : Foot).faults.idx (ob 0x2E00 0x0A) = true := by rfl
  simp (maxDischargeDepth := 60) [hk, h, h1, h2, show ({} : Foot).faults.flt = true from rfl,
    show ({} : Foot).faults.rcd = true from rfl, show ({} : Foot).faults.ucp = true from rfl]
theorem State.raiseEvent_get (s : State) (src code : Nat) {k : Nat} (h : faultKey k = false) : (s.raiseEvent src code).get k = s.get k :=
  (s.raiseEvent_faults src code).get_eq (by simpa [Foot.faults, faultKey] using h)
theorem State.raiseEvent_getB (s : State) (src code : Nat) {k : Nat} (h : faultKey k = false) : (s.raiseEvent src code).getB k = s.getB k :=
  (s.raiseEvent_faults src code).getB_eq (by simpa [Foot.faults, faultKey] using h)
@[simp] theorem State.raiseEvent_objs0 (s : State) (src code : Nat) : (s.raiseEvent src code).objs0 = s.objs0 := (s.raiseEvent_faults src code).objs0.resolve_left (by simp [Foot.faults])
@[simp] theorem State.raiseEvent_cfg (s : State) (src code : Nat) (j : Nat) : (s.raiseEvent src code).cfg j = s.cfg j := by simp [State.cfg]
@[simp] theorem State.raiseEvent_apps (s : State) (src code : Nat) : (s.raiseEvent src code).apps = s.apps := (s.raiseEvent_faults src code).apps_eq rfl
@[simp] theorem State.raiseEvent_tm (s : State) (src code : Nat) : (s.raiseEvent src code).tm = s.tm := (s.raiseEvent_faults src code).tm_eq rfl
@[simp] theorem State.raiseEvent_parts (s : State) (src code : Nat) : (s.raiseEvent src code).parts = s.parts := (s.raiseEvent_faults src code).parts_eq rfl
@[simp] theorem State.raiseEvent_img (s : State) (src code : Nat) : (s.raiseEvent src code).img = s.img := (s.raiseEvent_faults src code).img_eq rfl
@[simp] theorem State.raiseEvent_inp (s : State) (src code : Nat) : (s.raiseEvent src code).inp = s.inp := (s.raiseEvent_faults src code).inp_eq rfl
@[simp] theorem State.raiseEvent_rx (s : State) (src code : Nat) : (s.raiseEvent src code).rx = s.rx := (s.raiseEvent_faults src code).rx_eq rfl
@[simp] theorem State.raiseEvent_nav (s : State) (src code : Nat) : (s.raiseEvent src code).nav = s.nav := (s.raiseEvent_faults src code).nav_eq rfl
@[simp] theorem State.raiseEvent_crop (s : State) (src code : Nat) : (s.raiseEvent src code).crop = s.crop := (s.raiseEvent_faults src code).crop_eq rfl
@[simp] theorem State.raiseEvent_lark (s : State) (src code : Nat) : (s.raiseEvent src code).lark = s.lark := (s.raiseEvent_faults src code).lark_eq rfl
@[simp] theorem State.raiseEvent_outs (s : State) (src code : Nat) : (s.raiseEvent src code).outs = s.outs := (s.raiseEvent_faults src code).outs_eq rfl
@[simp] theorem State.raiseEvent_fox (s : State) (src code : Nat) : (s.raiseEvent src code).fox = s.fox := (s.raiseEvent_faults src code).fox_eq rfl
@[simp] theorem State.raiseEvent_can (s : State) (src code : Nat) : (s.raiseEvent src code).can = s.can := (s.raiseEvent_faults src code).can_eq rfl
@[simp] theorem State.raiseEvent_nv (s : State) (src code : Nat) : (s.raiseEvent src code).nv = s.nv := (s.raiseEvent_faults src code).nv_eq rfl
@[simp] theorem State.raiseEvent_sp (s : State) (src code : Nat) : (s.raiseEvent src code).sp = s.sp := (s.raiseEvent_faults src code).sp_eq rfl
@[simp] theorem State.raiseEvent_sec (s : State) (src code : Nat) : (s.raiseEvent src code).sec = s.sec := (s.raiseEvent_faults src code).sec_eq rfl
@[simp] theorem State.raiseEvent_eth (s : State) (src code : Nat) : (s.raiseEvent src code).eth = s.eth := (s.raiseEvent_faults src code).eth_eq rfl
@[simp] theorem State.raiseEvent_conf (s : State) (src code : Nat) : (s.raiseEvent src code).conf = s.conf := (s.raiseEvent_faults src code).conf_eq rfl
@[simp] theorem State.raiseEvent_upd (s : State) (src code : Nat) : (s.raiseEvent src code).upd = s.upd := (s.raiseEvent_faults src code).upd_eq rfl
@[simp] theorem State.raiseEvent_pwr (s : State) (src code : Nat) : (s.raiseEvent src code).pwr = s.pwr := (s.raiseEvent_faults src code).pwr_eq rfl
@[simp] theorem State.raiseEvent_timers (s : State) (src code : Nat) : (s.raiseEvent src code).timers = s.timers := (s.raiseEvent_faults src code).timers_eq rfl
@[simp] theorem State.raiseEvent_free (s : State) (src code : Nat) : (s.raiseEvent src code).free = s.free := (s.raiseEvent_faults src code).free_eq rfl
@[simp] theorem State.raiseEvent_pending (s : State) (src code : Nat) : (s.raiseEvent src code).pending = s.pending := (s.raiseEvent_faults src code).pending_eq rfl

/-- Inside the footprint of a fault. -/
theorem State.clearSource_faults (s : State) (src : Nat) (cred : Option (Nat × Nat)) : Kept ({} : Foot).faults s (s.clearSource src cred) := by
  have hk := Kept.refl ({} : Foot).faults s
  have h : ({} : Foot).faults.grp 0x28 := fun k hg => by simp [Foot.faults, objects, hg]
  have h1 : ({} : Foot).faults.idx recLostCount = true := by rfl
  have h2 : ({} : Foot).faults.idx (ob 0x2E00 0x0A) = true := by rfl
  simp (maxDischargeDepth := 60) [hk, h, h1, h2, show ({} : Foot).faults.flt = true from rfl,
    show ({} : Foot).faults.rcd = true from rfl, show ({} : Foot).faults.ucp = true from rfl]
theorem State.clearSource_get (s : State) (src : Nat) (cred : Option (Nat × Nat)) {k : Nat} (h : faultKey k = false) : (s.clearSource src cred).get k = s.get k :=
  (s.clearSource_faults src cred).get_eq (by simpa [Foot.faults, faultKey] using h)
theorem State.clearSource_getB (s : State) (src : Nat) (cred : Option (Nat × Nat)) {k : Nat} (h : faultKey k = false) : (s.clearSource src cred).getB k = s.getB k :=
  (s.clearSource_faults src cred).getB_eq (by simpa [Foot.faults, faultKey] using h)
@[simp] theorem State.clearSource_objs0 (s : State) (src : Nat) (cred : Option (Nat × Nat)) : (s.clearSource src cred).objs0 = s.objs0 := (s.clearSource_faults src cred).objs0.resolve_left (by simp [Foot.faults])
@[simp] theorem State.clearSource_cfg (s : State) (src : Nat) (cred : Option (Nat × Nat)) (j : Nat) : (s.clearSource src cred).cfg j = s.cfg j := by simp [State.cfg]
@[simp] theorem State.clearSource_apps (s : State) (src : Nat) (cred : Option (Nat × Nat)) : (s.clearSource src cred).apps = s.apps := (s.clearSource_faults src cred).apps_eq rfl
@[simp] theorem State.clearSource_tm (s : State) (src : Nat) (cred : Option (Nat × Nat)) : (s.clearSource src cred).tm = s.tm := (s.clearSource_faults src cred).tm_eq rfl
@[simp] theorem State.clearSource_parts (s : State) (src : Nat) (cred : Option (Nat × Nat)) : (s.clearSource src cred).parts = s.parts := (s.clearSource_faults src cred).parts_eq rfl
@[simp] theorem State.clearSource_img (s : State) (src : Nat) (cred : Option (Nat × Nat)) : (s.clearSource src cred).img = s.img := (s.clearSource_faults src cred).img_eq rfl
@[simp] theorem State.clearSource_inp (s : State) (src : Nat) (cred : Option (Nat × Nat)) : (s.clearSource src cred).inp = s.inp := (s.clearSource_faults src cred).inp_eq rfl
@[simp] theorem State.clearSource_rx (s : State) (src : Nat) (cred : Option (Nat × Nat)) : (s.clearSource src cred).rx = s.rx := (s.clearSource_faults src cred).rx_eq rfl
@[simp] theorem State.clearSource_nav (s : State) (src : Nat) (cred : Option (Nat × Nat)) : (s.clearSource src cred).nav = s.nav := (s.clearSource_faults src cred).nav_eq rfl
@[simp] theorem State.clearSource_crop (s : State) (src : Nat) (cred : Option (Nat × Nat)) : (s.clearSource src cred).crop = s.crop := (s.clearSource_faults src cred).crop_eq rfl
@[simp] theorem State.clearSource_lark (s : State) (src : Nat) (cred : Option (Nat × Nat)) : (s.clearSource src cred).lark = s.lark := (s.clearSource_faults src cred).lark_eq rfl
@[simp] theorem State.clearSource_outs (s : State) (src : Nat) (cred : Option (Nat × Nat)) : (s.clearSource src cred).outs = s.outs := (s.clearSource_faults src cred).outs_eq rfl
@[simp] theorem State.clearSource_fox (s : State) (src : Nat) (cred : Option (Nat × Nat)) : (s.clearSource src cred).fox = s.fox := (s.clearSource_faults src cred).fox_eq rfl
@[simp] theorem State.clearSource_can (s : State) (src : Nat) (cred : Option (Nat × Nat)) : (s.clearSource src cred).can = s.can := (s.clearSource_faults src cred).can_eq rfl
@[simp] theorem State.clearSource_nv (s : State) (src : Nat) (cred : Option (Nat × Nat)) : (s.clearSource src cred).nv = s.nv := (s.clearSource_faults src cred).nv_eq rfl
@[simp] theorem State.clearSource_sp (s : State) (src : Nat) (cred : Option (Nat × Nat)) : (s.clearSource src cred).sp = s.sp := (s.clearSource_faults src cred).sp_eq rfl
@[simp] theorem State.clearSource_sec (s : State) (src : Nat) (cred : Option (Nat × Nat)) : (s.clearSource src cred).sec = s.sec := (s.clearSource_faults src cred).sec_eq rfl
@[simp] theorem State.clearSource_eth (s : State) (src : Nat) (cred : Option (Nat × Nat)) : (s.clearSource src cred).eth = s.eth := (s.clearSource_faults src cred).eth_eq rfl
@[simp] theorem State.clearSource_conf (s : State) (src : Nat) (cred : Option (Nat × Nat)) : (s.clearSource src cred).conf = s.conf := (s.clearSource_faults src cred).conf_eq rfl
@[simp] theorem State.clearSource_upd (s : State) (src : Nat) (cred : Option (Nat × Nat)) : (s.clearSource src cred).upd = s.upd := (s.clearSource_faults src cred).upd_eq rfl
@[simp] theorem State.clearSource_pwr (s : State) (src : Nat) (cred : Option (Nat × Nat)) : (s.clearSource src cred).pwr = s.pwr := (s.clearSource_faults src cred).pwr_eq rfl
@[simp] theorem State.clearSource_timers (s : State) (src : Nat) (cred : Option (Nat × Nat)) : (s.clearSource src cred).timers = s.timers := (s.clearSource_faults src cred).timers_eq rfl
@[simp] theorem State.clearSource_free (s : State) (src : Nat) (cred : Option (Nat × Nat)) : (s.clearSource src cred).free = s.free := (s.clearSource_faults src cred).free_eq rfl
@[simp] theorem State.clearSource_pending (s : State) (src : Nat) (cred : Option (Nat × Nat)) : (s.clearSource src cred).pending = s.pending := (s.clearSource_faults src cred).pending_eq rfl

/-- Inside the footprint of a fault. -/
theorem State.afterActive_faults (s : State) (src : Nat) (was : Bool) : Kept ({} : Foot).faults s (s.afterActive src was) := by
  have hk := Kept.refl ({} : Foot).faults s
  have h : ({} : Foot).faults.grp 0x28 := fun k hg => by simp [Foot.faults, objects, hg]
  have h1 : ({} : Foot).faults.idx recLostCount = true := by rfl
  have h2 : ({} : Foot).faults.idx (ob 0x2E00 0x0A) = true := by rfl
  simp (maxDischargeDepth := 60) [hk, h, h1, h2, show ({} : Foot).faults.flt = true from rfl,
    show ({} : Foot).faults.rcd = true from rfl, show ({} : Foot).faults.ucp = true from rfl]
theorem State.afterActive_get (s : State) (src : Nat) (was : Bool) {k : Nat} (h : faultKey k = false) : (s.afterActive src was).get k = s.get k :=
  (s.afterActive_faults src was).get_eq (by simpa [Foot.faults, faultKey] using h)
theorem State.afterActive_getB (s : State) (src : Nat) (was : Bool) {k : Nat} (h : faultKey k = false) : (s.afterActive src was).getB k = s.getB k :=
  (s.afterActive_faults src was).getB_eq (by simpa [Foot.faults, faultKey] using h)
@[simp] theorem State.afterActive_objs0 (s : State) (src : Nat) (was : Bool) : (s.afterActive src was).objs0 = s.objs0 := (s.afterActive_faults src was).objs0.resolve_left (by simp [Foot.faults])
@[simp] theorem State.afterActive_cfg (s : State) (src : Nat) (was : Bool) (j : Nat) : (s.afterActive src was).cfg j = s.cfg j := by simp [State.cfg]
@[simp] theorem State.afterActive_apps (s : State) (src : Nat) (was : Bool) : (s.afterActive src was).apps = s.apps := (s.afterActive_faults src was).apps_eq rfl
@[simp] theorem State.afterActive_tm (s : State) (src : Nat) (was : Bool) : (s.afterActive src was).tm = s.tm := (s.afterActive_faults src was).tm_eq rfl
@[simp] theorem State.afterActive_parts (s : State) (src : Nat) (was : Bool) : (s.afterActive src was).parts = s.parts := (s.afterActive_faults src was).parts_eq rfl
@[simp] theorem State.afterActive_img (s : State) (src : Nat) (was : Bool) : (s.afterActive src was).img = s.img := (s.afterActive_faults src was).img_eq rfl
@[simp] theorem State.afterActive_inp (s : State) (src : Nat) (was : Bool) : (s.afterActive src was).inp = s.inp := (s.afterActive_faults src was).inp_eq rfl
@[simp] theorem State.afterActive_rx (s : State) (src : Nat) (was : Bool) : (s.afterActive src was).rx = s.rx := (s.afterActive_faults src was).rx_eq rfl
@[simp] theorem State.afterActive_nav (s : State) (src : Nat) (was : Bool) : (s.afterActive src was).nav = s.nav := (s.afterActive_faults src was).nav_eq rfl
@[simp] theorem State.afterActive_crop (s : State) (src : Nat) (was : Bool) : (s.afterActive src was).crop = s.crop := (s.afterActive_faults src was).crop_eq rfl
@[simp] theorem State.afterActive_lark (s : State) (src : Nat) (was : Bool) : (s.afterActive src was).lark = s.lark := (s.afterActive_faults src was).lark_eq rfl
@[simp] theorem State.afterActive_outs (s : State) (src : Nat) (was : Bool) : (s.afterActive src was).outs = s.outs := (s.afterActive_faults src was).outs_eq rfl
@[simp] theorem State.afterActive_fox (s : State) (src : Nat) (was : Bool) : (s.afterActive src was).fox = s.fox := (s.afterActive_faults src was).fox_eq rfl
@[simp] theorem State.afterActive_can (s : State) (src : Nat) (was : Bool) : (s.afterActive src was).can = s.can := (s.afterActive_faults src was).can_eq rfl
@[simp] theorem State.afterActive_nv (s : State) (src : Nat) (was : Bool) : (s.afterActive src was).nv = s.nv := (s.afterActive_faults src was).nv_eq rfl
@[simp] theorem State.afterActive_sp (s : State) (src : Nat) (was : Bool) : (s.afterActive src was).sp = s.sp := (s.afterActive_faults src was).sp_eq rfl
@[simp] theorem State.afterActive_sec (s : State) (src : Nat) (was : Bool) : (s.afterActive src was).sec = s.sec := (s.afterActive_faults src was).sec_eq rfl
@[simp] theorem State.afterActive_eth (s : State) (src : Nat) (was : Bool) : (s.afterActive src was).eth = s.eth := (s.afterActive_faults src was).eth_eq rfl
@[simp] theorem State.afterActive_conf (s : State) (src : Nat) (was : Bool) : (s.afterActive src was).conf = s.conf := (s.afterActive_faults src was).conf_eq rfl
@[simp] theorem State.afterActive_upd (s : State) (src : Nat) (was : Bool) : (s.afterActive src was).upd = s.upd := (s.afterActive_faults src was).upd_eq rfl
@[simp] theorem State.afterActive_pwr (s : State) (src : Nat) (was : Bool) : (s.afterActive src was).pwr = s.pwr := (s.afterActive_faults src was).pwr_eq rfl
@[simp] theorem State.afterActive_timers (s : State) (src : Nat) (was : Bool) : (s.afterActive src was).timers = s.timers := (s.afterActive_faults src was).timers_eq rfl
@[simp] theorem State.afterActive_free (s : State) (src : Nat) (was : Bool) : (s.afterActive src was).free = s.free := (s.afterActive_faults src was).free_eq rfl
@[simp] theorem State.afterActive_pending (s : State) (src : Nat) (was : Bool) : (s.afterActive src was).pending = s.pending := (s.afterActive_faults src was).pending_eq rfl

/-- Inside the footprint of a fault. -/
theorem State.setPending_faults (s : State) (src : Nat) (on pin : Bool) : Kept ({} : Foot).faults s (s.setPending src on pin) := by
  have hk := Kept.refl ({} : Foot).faults s
  have h : ({} : Foot).faults.grp 0x28 := fun k hg => by simp [Foot.faults, objects, hg]
  have h1 : ({} : Foot).faults.idx recLostCount = true := by rfl
  have h2 : ({} : Foot).faults.idx (ob 0x2E00 0x0A) = true := by rfl
  simp (maxDischargeDepth := 60) [hk, h, h1, h2, show ({} : Foot).faults.flt = true from rfl,
    show ({} : Foot).faults.rcd = true from rfl, show ({} : Foot).faults.ucp = true from rfl]
theorem State.setPending_get (s : State) (src : Nat) (on pin : Bool) {k : Nat} (h : faultKey k = false) : (s.setPending src on pin).get k = s.get k :=
  (s.setPending_faults src on pin).get_eq (by simpa [Foot.faults, faultKey] using h)
theorem State.setPending_getB (s : State) (src : Nat) (on pin : Bool) {k : Nat} (h : faultKey k = false) : (s.setPending src on pin).getB k = s.getB k :=
  (s.setPending_faults src on pin).getB_eq (by simpa [Foot.faults, faultKey] using h)
@[simp] theorem State.setPending_objs0 (s : State) (src : Nat) (on pin : Bool) : (s.setPending src on pin).objs0 = s.objs0 := (s.setPending_faults src on pin).objs0.resolve_left (by simp [Foot.faults])
@[simp] theorem State.setPending_cfg (s : State) (src : Nat) (on pin : Bool) (j : Nat) : (s.setPending src on pin).cfg j = s.cfg j := by simp [State.cfg]
@[simp] theorem State.setPending_apps (s : State) (src : Nat) (on pin : Bool) : (s.setPending src on pin).apps = s.apps := (s.setPending_faults src on pin).apps_eq rfl
@[simp] theorem State.setPending_tm (s : State) (src : Nat) (on pin : Bool) : (s.setPending src on pin).tm = s.tm := (s.setPending_faults src on pin).tm_eq rfl
@[simp] theorem State.setPending_parts (s : State) (src : Nat) (on pin : Bool) : (s.setPending src on pin).parts = s.parts := (s.setPending_faults src on pin).parts_eq rfl
@[simp] theorem State.setPending_img (s : State) (src : Nat) (on pin : Bool) : (s.setPending src on pin).img = s.img := (s.setPending_faults src on pin).img_eq rfl
@[simp] theorem State.setPending_inp (s : State) (src : Nat) (on pin : Bool) : (s.setPending src on pin).inp = s.inp := (s.setPending_faults src on pin).inp_eq rfl
@[simp] theorem State.setPending_rx (s : State) (src : Nat) (on pin : Bool) : (s.setPending src on pin).rx = s.rx := (s.setPending_faults src on pin).rx_eq rfl
@[simp] theorem State.setPending_nav (s : State) (src : Nat) (on pin : Bool) : (s.setPending src on pin).nav = s.nav := (s.setPending_faults src on pin).nav_eq rfl
@[simp] theorem State.setPending_crop (s : State) (src : Nat) (on pin : Bool) : (s.setPending src on pin).crop = s.crop := (s.setPending_faults src on pin).crop_eq rfl
@[simp] theorem State.setPending_lark (s : State) (src : Nat) (on pin : Bool) : (s.setPending src on pin).lark = s.lark := (s.setPending_faults src on pin).lark_eq rfl
@[simp] theorem State.setPending_outs (s : State) (src : Nat) (on pin : Bool) : (s.setPending src on pin).outs = s.outs := (s.setPending_faults src on pin).outs_eq rfl
@[simp] theorem State.setPending_fox (s : State) (src : Nat) (on pin : Bool) : (s.setPending src on pin).fox = s.fox := (s.setPending_faults src on pin).fox_eq rfl
@[simp] theorem State.setPending_can (s : State) (src : Nat) (on pin : Bool) : (s.setPending src on pin).can = s.can := (s.setPending_faults src on pin).can_eq rfl
@[simp] theorem State.setPending_nv (s : State) (src : Nat) (on pin : Bool) : (s.setPending src on pin).nv = s.nv := (s.setPending_faults src on pin).nv_eq rfl
@[simp] theorem State.setPending_sp (s : State) (src : Nat) (on pin : Bool) : (s.setPending src on pin).sp = s.sp := (s.setPending_faults src on pin).sp_eq rfl
@[simp] theorem State.setPending_sec (s : State) (src : Nat) (on pin : Bool) : (s.setPending src on pin).sec = s.sec := (s.setPending_faults src on pin).sec_eq rfl
@[simp] theorem State.setPending_eth (s : State) (src : Nat) (on pin : Bool) : (s.setPending src on pin).eth = s.eth := (s.setPending_faults src on pin).eth_eq rfl
@[simp] theorem State.setPending_conf (s : State) (src : Nat) (on pin : Bool) : (s.setPending src on pin).conf = s.conf := (s.setPending_faults src on pin).conf_eq rfl
@[simp] theorem State.setPending_upd (s : State) (src : Nat) (on pin : Bool) : (s.setPending src on pin).upd = s.upd := (s.setPending_faults src on pin).upd_eq rfl
@[simp] theorem State.setPending_pwr (s : State) (src : Nat) (on pin : Bool) : (s.setPending src on pin).pwr = s.pwr := (s.setPending_faults src on pin).pwr_eq rfl
@[simp] theorem State.setPending_timers (s : State) (src : Nat) (on pin : Bool) : (s.setPending src on pin).timers = s.timers := (s.setPending_faults src on pin).timers_eq rfl
@[simp] theorem State.setPending_free (s : State) (src : Nat) (on pin : Bool) : (s.setPending src on pin).free = s.free := (s.setPending_faults src on pin).free_eq rfl
@[simp] theorem State.setPending_pending (s : State) (src : Nat) (on pin : Bool) : (s.setPending src on pin).pending = s.pending := (s.setPending_faults src on pin).pending_eq rfl

/-- Inside the footprint of a fault. -/
theorem State.drivePin_faults (s : State) : Kept ({} : Foot).faults s (s.drivePin) := by
  have hk := Kept.refl ({} : Foot).faults s
  have h : ({} : Foot).faults.grp 0x28 := fun k hg => by simp [Foot.faults, objects, hg]
  have h1 : ({} : Foot).faults.idx recLostCount = true := by rfl
  have h2 : ({} : Foot).faults.idx (ob 0x2E00 0x0A) = true := by rfl
  simp (maxDischargeDepth := 60) [hk, h, h1, h2, show ({} : Foot).faults.flt = true from rfl,
    show ({} : Foot).faults.rcd = true from rfl, show ({} : Foot).faults.ucp = true from rfl]
theorem State.drivePin_get (s : State) {k : Nat} (h : faultKey k = false) : (s.drivePin).get k = s.get k :=
  (s.drivePin_faults).get_eq (by simpa [Foot.faults, faultKey] using h)
theorem State.drivePin_getB (s : State) {k : Nat} (h : faultKey k = false) : (s.drivePin).getB k = s.getB k :=
  (s.drivePin_faults).getB_eq (by simpa [Foot.faults, faultKey] using h)
@[simp] theorem State.drivePin_objs0 (s : State) : (s.drivePin).objs0 = s.objs0 := (s.drivePin_faults).objs0.resolve_left (by simp [Foot.faults])
@[simp] theorem State.drivePin_cfg (s : State) (j : Nat) : (s.drivePin).cfg j = s.cfg j := by simp [State.cfg]
@[simp] theorem State.drivePin_apps (s : State) : (s.drivePin).apps = s.apps := (s.drivePin_faults).apps_eq rfl
@[simp] theorem State.drivePin_tm (s : State) : (s.drivePin).tm = s.tm := (s.drivePin_faults).tm_eq rfl
@[simp] theorem State.drivePin_parts (s : State) : (s.drivePin).parts = s.parts := (s.drivePin_faults).parts_eq rfl
@[simp] theorem State.drivePin_img (s : State) : (s.drivePin).img = s.img := (s.drivePin_faults).img_eq rfl
@[simp] theorem State.drivePin_inp (s : State) : (s.drivePin).inp = s.inp := (s.drivePin_faults).inp_eq rfl
@[simp] theorem State.drivePin_rx (s : State) : (s.drivePin).rx = s.rx := (s.drivePin_faults).rx_eq rfl
@[simp] theorem State.drivePin_nav (s : State) : (s.drivePin).nav = s.nav := (s.drivePin_faults).nav_eq rfl
@[simp] theorem State.drivePin_crop (s : State) : (s.drivePin).crop = s.crop := (s.drivePin_faults).crop_eq rfl
@[simp] theorem State.drivePin_lark (s : State) : (s.drivePin).lark = s.lark := (s.drivePin_faults).lark_eq rfl
@[simp] theorem State.drivePin_outs (s : State) : (s.drivePin).outs = s.outs := (s.drivePin_faults).outs_eq rfl
@[simp] theorem State.drivePin_fox (s : State) : (s.drivePin).fox = s.fox := (s.drivePin_faults).fox_eq rfl
@[simp] theorem State.drivePin_can (s : State) : (s.drivePin).can = s.can := (s.drivePin_faults).can_eq rfl
@[simp] theorem State.drivePin_nv (s : State) : (s.drivePin).nv = s.nv := (s.drivePin_faults).nv_eq rfl
@[simp] theorem State.drivePin_sp (s : State) : (s.drivePin).sp = s.sp := (s.drivePin_faults).sp_eq rfl
@[simp] theorem State.drivePin_sec (s : State) : (s.drivePin).sec = s.sec := (s.drivePin_faults).sec_eq rfl
@[simp] theorem State.drivePin_eth (s : State) : (s.drivePin).eth = s.eth := (s.drivePin_faults).eth_eq rfl
@[simp] theorem State.drivePin_conf (s : State) : (s.drivePin).conf = s.conf := (s.drivePin_faults).conf_eq rfl
@[simp] theorem State.drivePin_upd (s : State) : (s.drivePin).upd = s.upd := (s.drivePin_faults).upd_eq rfl
@[simp] theorem State.drivePin_pwr (s : State) : (s.drivePin).pwr = s.pwr := (s.drivePin_faults).pwr_eq rfl
@[simp] theorem State.drivePin_timers (s : State) : (s.drivePin).timers = s.timers := (s.drivePin_faults).timers_eq rfl
@[simp] theorem State.drivePin_free (s : State) : (s.drivePin).free = s.free := (s.drivePin_faults).free_eq rfl
@[simp] theorem State.drivePin_pending (s : State) : (s.drivePin).pending = s.pending := (s.drivePin_faults).pending_eq rfl

/-- Inside the footprint of a fault. -/
theorem State.setRaw_faults (s : State) (src : Nat) (on : Bool) (code : Nat) : Kept ({} : Foot).faults s (s.setRaw src on code) := by
  have hk := Kept.refl ({} : Foot).faults s
  have h : ({} : Foot).faults.grp 0x28 := fun k hg => by simp [Foot.faults, objects, hg]
  have h1 : ({} : Foot).faults.idx recLostCount = true := by rfl
  have h2 : ({} : Foot).faults.idx (ob 0x2E00 0x0A) = true := by rfl
  simp (maxDischargeDepth := 60) [hk, h, h1, h2, show ({} : Foot).faults.flt = true from rfl,
    show ({} : Foot).faults.rcd = true from rfl, show ({} : Foot).faults.ucp = true from rfl]
theorem State.setRaw_get (s : State) (src : Nat) (on : Bool) (code : Nat) {k : Nat} (h : faultKey k = false) : (s.setRaw src on code).get k = s.get k :=
  (s.setRaw_faults src on code).get_eq (by simpa [Foot.faults, faultKey] using h)
theorem State.setRaw_getB (s : State) (src : Nat) (on : Bool) (code : Nat) {k : Nat} (h : faultKey k = false) : (s.setRaw src on code).getB k = s.getB k :=
  (s.setRaw_faults src on code).getB_eq (by simpa [Foot.faults, faultKey] using h)
@[simp] theorem State.setRaw_objs0 (s : State) (src : Nat) (on : Bool) (code : Nat) : (s.setRaw src on code).objs0 = s.objs0 := (s.setRaw_faults src on code).objs0.resolve_left (by simp [Foot.faults])
@[simp] theorem State.setRaw_cfg (s : State) (src : Nat) (on : Bool) (code : Nat) (j : Nat) : (s.setRaw src on code).cfg j = s.cfg j := by simp [State.cfg]
@[simp] theorem State.setRaw_apps (s : State) (src : Nat) (on : Bool) (code : Nat) : (s.setRaw src on code).apps = s.apps := (s.setRaw_faults src on code).apps_eq rfl
@[simp] theorem State.setRaw_tm (s : State) (src : Nat) (on : Bool) (code : Nat) : (s.setRaw src on code).tm = s.tm := (s.setRaw_faults src on code).tm_eq rfl
@[simp] theorem State.setRaw_parts (s : State) (src : Nat) (on : Bool) (code : Nat) : (s.setRaw src on code).parts = s.parts := (s.setRaw_faults src on code).parts_eq rfl
@[simp] theorem State.setRaw_img (s : State) (src : Nat) (on : Bool) (code : Nat) : (s.setRaw src on code).img = s.img := (s.setRaw_faults src on code).img_eq rfl
@[simp] theorem State.setRaw_inp (s : State) (src : Nat) (on : Bool) (code : Nat) : (s.setRaw src on code).inp = s.inp := (s.setRaw_faults src on code).inp_eq rfl
@[simp] theorem State.setRaw_rx (s : State) (src : Nat) (on : Bool) (code : Nat) : (s.setRaw src on code).rx = s.rx := (s.setRaw_faults src on code).rx_eq rfl
@[simp] theorem State.setRaw_nav (s : State) (src : Nat) (on : Bool) (code : Nat) : (s.setRaw src on code).nav = s.nav := (s.setRaw_faults src on code).nav_eq rfl
@[simp] theorem State.setRaw_crop (s : State) (src : Nat) (on : Bool) (code : Nat) : (s.setRaw src on code).crop = s.crop := (s.setRaw_faults src on code).crop_eq rfl
@[simp] theorem State.setRaw_lark (s : State) (src : Nat) (on : Bool) (code : Nat) : (s.setRaw src on code).lark = s.lark := (s.setRaw_faults src on code).lark_eq rfl
@[simp] theorem State.setRaw_outs (s : State) (src : Nat) (on : Bool) (code : Nat) : (s.setRaw src on code).outs = s.outs := (s.setRaw_faults src on code).outs_eq rfl
@[simp] theorem State.setRaw_fox (s : State) (src : Nat) (on : Bool) (code : Nat) : (s.setRaw src on code).fox = s.fox := (s.setRaw_faults src on code).fox_eq rfl
@[simp] theorem State.setRaw_can (s : State) (src : Nat) (on : Bool) (code : Nat) : (s.setRaw src on code).can = s.can := (s.setRaw_faults src on code).can_eq rfl
@[simp] theorem State.setRaw_nv (s : State) (src : Nat) (on : Bool) (code : Nat) : (s.setRaw src on code).nv = s.nv := (s.setRaw_faults src on code).nv_eq rfl
@[simp] theorem State.setRaw_sp (s : State) (src : Nat) (on : Bool) (code : Nat) : (s.setRaw src on code).sp = s.sp := (s.setRaw_faults src on code).sp_eq rfl
@[simp] theorem State.setRaw_sec (s : State) (src : Nat) (on : Bool) (code : Nat) : (s.setRaw src on code).sec = s.sec := (s.setRaw_faults src on code).sec_eq rfl
@[simp] theorem State.setRaw_eth (s : State) (src : Nat) (on : Bool) (code : Nat) : (s.setRaw src on code).eth = s.eth := (s.setRaw_faults src on code).eth_eq rfl
@[simp] theorem State.setRaw_conf (s : State) (src : Nat) (on : Bool) (code : Nat) : (s.setRaw src on code).conf = s.conf := (s.setRaw_faults src on code).conf_eq rfl
@[simp] theorem State.setRaw_upd (s : State) (src : Nat) (on : Bool) (code : Nat) : (s.setRaw src on code).upd = s.upd := (s.setRaw_faults src on code).upd_eq rfl
@[simp] theorem State.setRaw_pwr (s : State) (src : Nat) (on : Bool) (code : Nat) : (s.setRaw src on code).pwr = s.pwr := (s.setRaw_faults src on code).pwr_eq rfl
@[simp] theorem State.setRaw_timers (s : State) (src : Nat) (on : Bool) (code : Nat) : (s.setRaw src on code).timers = s.timers := (s.setRaw_faults src on code).timers_eq rfl
@[simp] theorem State.setRaw_free (s : State) (src : Nat) (on : Bool) (code : Nat) : (s.setRaw src on code).free = s.free := (s.setRaw_faults src on code).free_eq rfl
@[simp] theorem State.setRaw_pending (s : State) (src : Nat) (on : Bool) (code : Nat) : (s.setRaw src on code).pending = s.pending := (s.setRaw_faults src on code).pending_eq rfl

/-- Inside the footprint of a fault. -/
theorem State.raise_faults (s : State) (src code : Nat) : Kept ({} : Foot).faults s (s.raise src code) := by
  have hk := Kept.refl ({} : Foot).faults s
  have h : ({} : Foot).faults.grp 0x28 := fun k hg => by simp [Foot.faults, objects, hg]
  have h1 : ({} : Foot).faults.idx recLostCount = true := by rfl
  have h2 : ({} : Foot).faults.idx (ob 0x2E00 0x0A) = true := by rfl
  simp (maxDischargeDepth := 60) [hk, h, h1, h2, show ({} : Foot).faults.flt = true from rfl,
    show ({} : Foot).faults.rcd = true from rfl, show ({} : Foot).faults.ucp = true from rfl]
theorem State.raise_get (s : State) (src code : Nat) {k : Nat} (h : faultKey k = false) : (s.raise src code).get k = s.get k :=
  (s.raise_faults src code).get_eq (by simpa [Foot.faults, faultKey] using h)
theorem State.raise_getB (s : State) (src code : Nat) {k : Nat} (h : faultKey k = false) : (s.raise src code).getB k = s.getB k :=
  (s.raise_faults src code).getB_eq (by simpa [Foot.faults, faultKey] using h)
@[simp] theorem State.raise_objs0 (s : State) (src code : Nat) : (s.raise src code).objs0 = s.objs0 := (s.raise_faults src code).objs0.resolve_left (by simp [Foot.faults])
@[simp] theorem State.raise_cfg (s : State) (src code : Nat) (j : Nat) : (s.raise src code).cfg j = s.cfg j := by simp [State.cfg]
@[simp] theorem State.raise_apps (s : State) (src code : Nat) : (s.raise src code).apps = s.apps := (s.raise_faults src code).apps_eq rfl
@[simp] theorem State.raise_tm (s : State) (src code : Nat) : (s.raise src code).tm = s.tm := (s.raise_faults src code).tm_eq rfl
@[simp] theorem State.raise_parts (s : State) (src code : Nat) : (s.raise src code).parts = s.parts := (s.raise_faults src code).parts_eq rfl
@[simp] theorem State.raise_img (s : State) (src code : Nat) : (s.raise src code).img = s.img := (s.raise_faults src code).img_eq rfl
@[simp] theorem State.raise_inp (s : State) (src code : Nat) : (s.raise src code).inp = s.inp := (s.raise_faults src code).inp_eq rfl
@[simp] theorem State.raise_rx (s : State) (src code : Nat) : (s.raise src code).rx = s.rx := (s.raise_faults src code).rx_eq rfl
@[simp] theorem State.raise_nav (s : State) (src code : Nat) : (s.raise src code).nav = s.nav := (s.raise_faults src code).nav_eq rfl
@[simp] theorem State.raise_crop (s : State) (src code : Nat) : (s.raise src code).crop = s.crop := (s.raise_faults src code).crop_eq rfl
@[simp] theorem State.raise_lark (s : State) (src code : Nat) : (s.raise src code).lark = s.lark := (s.raise_faults src code).lark_eq rfl
@[simp] theorem State.raise_outs (s : State) (src code : Nat) : (s.raise src code).outs = s.outs := (s.raise_faults src code).outs_eq rfl
@[simp] theorem State.raise_fox (s : State) (src code : Nat) : (s.raise src code).fox = s.fox := (s.raise_faults src code).fox_eq rfl
@[simp] theorem State.raise_can (s : State) (src code : Nat) : (s.raise src code).can = s.can := (s.raise_faults src code).can_eq rfl
@[simp] theorem State.raise_nv (s : State) (src code : Nat) : (s.raise src code).nv = s.nv := (s.raise_faults src code).nv_eq rfl
@[simp] theorem State.raise_sp (s : State) (src code : Nat) : (s.raise src code).sp = s.sp := (s.raise_faults src code).sp_eq rfl
@[simp] theorem State.raise_sec (s : State) (src code : Nat) : (s.raise src code).sec = s.sec := (s.raise_faults src code).sec_eq rfl
@[simp] theorem State.raise_eth (s : State) (src code : Nat) : (s.raise src code).eth = s.eth := (s.raise_faults src code).eth_eq rfl
@[simp] theorem State.raise_conf (s : State) (src code : Nat) : (s.raise src code).conf = s.conf := (s.raise_faults src code).conf_eq rfl
@[simp] theorem State.raise_upd (s : State) (src code : Nat) : (s.raise src code).upd = s.upd := (s.raise_faults src code).upd_eq rfl
@[simp] theorem State.raise_pwr (s : State) (src code : Nat) : (s.raise src code).pwr = s.pwr := (s.raise_faults src code).pwr_eq rfl
@[simp] theorem State.raise_timers (s : State) (src code : Nat) : (s.raise src code).timers = s.timers := (s.raise_faults src code).timers_eq rfl
@[simp] theorem State.raise_free (s : State) (src code : Nat) : (s.raise src code).free = s.free := (s.raise_faults src code).free_eq rfl
@[simp] theorem State.raise_pending (s : State) (src code : Nat) : (s.raise src code).pending = s.pending := (s.raise_faults src code).pending_eq rfl

/-- Inside the footprint of a fault. -/
theorem State.follow_faults (s : State) (src : Nat) (on : Bool) (code : Nat) : Kept ({} : Foot).faults s (s.follow src on code) := by
  have hk := Kept.refl ({} : Foot).faults s
  have h : ({} : Foot).faults.grp 0x28 := fun k hg => by simp [Foot.faults, objects, hg]
  have h1 : ({} : Foot).faults.idx recLostCount = true := by rfl
  have h2 : ({} : Foot).faults.idx (ob 0x2E00 0x0A) = true := by rfl
  simp (maxDischargeDepth := 60) [hk, h, h1, h2, show ({} : Foot).faults.flt = true from rfl,
    show ({} : Foot).faults.rcd = true from rfl, show ({} : Foot).faults.ucp = true from rfl]
theorem State.follow_get (s : State) (src : Nat) (on : Bool) (code : Nat) {k : Nat} (h : faultKey k = false) : (s.follow src on code).get k = s.get k :=
  (s.follow_faults src on code).get_eq (by simpa [Foot.faults, faultKey] using h)
theorem State.follow_getB (s : State) (src : Nat) (on : Bool) (code : Nat) {k : Nat} (h : faultKey k = false) : (s.follow src on code).getB k = s.getB k :=
  (s.follow_faults src on code).getB_eq (by simpa [Foot.faults, faultKey] using h)
@[simp] theorem State.follow_objs0 (s : State) (src : Nat) (on : Bool) (code : Nat) : (s.follow src on code).objs0 = s.objs0 := (s.follow_faults src on code).objs0.resolve_left (by simp [Foot.faults])
@[simp] theorem State.follow_cfg (s : State) (src : Nat) (on : Bool) (code : Nat) (j : Nat) : (s.follow src on code).cfg j = s.cfg j := by simp [State.cfg]
@[simp] theorem State.follow_apps (s : State) (src : Nat) (on : Bool) (code : Nat) : (s.follow src on code).apps = s.apps := (s.follow_faults src on code).apps_eq rfl
@[simp] theorem State.follow_tm (s : State) (src : Nat) (on : Bool) (code : Nat) : (s.follow src on code).tm = s.tm := (s.follow_faults src on code).tm_eq rfl
@[simp] theorem State.follow_parts (s : State) (src : Nat) (on : Bool) (code : Nat) : (s.follow src on code).parts = s.parts := (s.follow_faults src on code).parts_eq rfl
@[simp] theorem State.follow_img (s : State) (src : Nat) (on : Bool) (code : Nat) : (s.follow src on code).img = s.img := (s.follow_faults src on code).img_eq rfl
@[simp] theorem State.follow_inp (s : State) (src : Nat) (on : Bool) (code : Nat) : (s.follow src on code).inp = s.inp := (s.follow_faults src on code).inp_eq rfl
@[simp] theorem State.follow_rx (s : State) (src : Nat) (on : Bool) (code : Nat) : (s.follow src on code).rx = s.rx := (s.follow_faults src on code).rx_eq rfl
@[simp] theorem State.follow_nav (s : State) (src : Nat) (on : Bool) (code : Nat) : (s.follow src on code).nav = s.nav := (s.follow_faults src on code).nav_eq rfl
@[simp] theorem State.follow_crop (s : State) (src : Nat) (on : Bool) (code : Nat) : (s.follow src on code).crop = s.crop := (s.follow_faults src on code).crop_eq rfl
@[simp] theorem State.follow_lark (s : State) (src : Nat) (on : Bool) (code : Nat) : (s.follow src on code).lark = s.lark := (s.follow_faults src on code).lark_eq rfl
@[simp] theorem State.follow_outs (s : State) (src : Nat) (on : Bool) (code : Nat) : (s.follow src on code).outs = s.outs := (s.follow_faults src on code).outs_eq rfl
@[simp] theorem State.follow_fox (s : State) (src : Nat) (on : Bool) (code : Nat) : (s.follow src on code).fox = s.fox := (s.follow_faults src on code).fox_eq rfl
@[simp] theorem State.follow_can (s : State) (src : Nat) (on : Bool) (code : Nat) : (s.follow src on code).can = s.can := (s.follow_faults src on code).can_eq rfl
@[simp] theorem State.follow_nv (s : State) (src : Nat) (on : Bool) (code : Nat) : (s.follow src on code).nv = s.nv := (s.follow_faults src on code).nv_eq rfl
@[simp] theorem State.follow_sp (s : State) (src : Nat) (on : Bool) (code : Nat) : (s.follow src on code).sp = s.sp := (s.follow_faults src on code).sp_eq rfl
@[simp] theorem State.follow_sec (s : State) (src : Nat) (on : Bool) (code : Nat) : (s.follow src on code).sec = s.sec := (s.follow_faults src on code).sec_eq rfl
@[simp] theorem State.follow_eth (s : State) (src : Nat) (on : Bool) (code : Nat) : (s.follow src on code).eth = s.eth := (s.follow_faults src on code).eth_eq rfl
@[simp] theorem State.follow_conf (s : State) (src : Nat) (on : Bool) (code : Nat) : (s.follow src on code).conf = s.conf := (s.follow_faults src on code).conf_eq rfl
@[simp] theorem State.follow_upd (s : State) (src : Nat) (on : Bool) (code : Nat) : (s.follow src on code).upd = s.upd := (s.follow_faults src on code).upd_eq rfl
@[simp] theorem State.follow_pwr (s : State) (src : Nat) (on : Bool) (code : Nat) : (s.follow src on code).pwr = s.pwr := (s.follow_faults src on code).pwr_eq rfl
@[simp] theorem State.follow_timers (s : State) (src : Nat) (on : Bool) (code : Nat) : (s.follow src on code).timers = s.timers := (s.follow_faults src on code).timers_eq rfl
@[simp] theorem State.follow_free (s : State) (src : Nat) (on : Bool) (code : Nat) : (s.follow src on code).free = s.free := (s.follow_faults src on code).free_eq rfl
@[simp] theorem State.follow_pending (s : State) (src : Nat) (on : Bool) (code : Nat) : (s.follow src on code).pending = s.pending := (s.follow_faults src on code).pending_eq rfl

end Sys2Proof.Machine
end

