-- ==== Sys2Proof/Laws/KeptFrame.lean ====
section
/-! SUPPORT. Footprints of the frame. -/

set_option linter.unusedSimpArgs false
set_option linter.unusedVariables false

namespace Sys2Proof.Machine

open Sys2Proof

@[simp ↓] theorem State.nextFrame_kept {F : Foot} {org : State} (s : State) (h_tm : F.tm = true) (h_ob_8192_1 : F.idx (ob 8192
    1) = true) (h_ob_8192_2 : F.idx (ob 8192 2) = true) (h_recOpms : F.idx (recOpms) = true) (hk : Kept F org s) : Kept F org
    (State.nextFrame s) := by
  unfold State.nextFrame
  simp (contextual := true) (maxDischargeDepth := 60) [hk, h_tm, h_ob_8192_1, h_ob_8192_2, h_recOpms]

@[simp ↓] theorem State.sealParts_kept {F : Foot} {org : State} (s : State) (h_img : F.img = true) (h_parts : F.parts = true)
    (hk : Kept F org s) : Kept F org (State.sealParts s) := by
  unfold State.sealParts
  simp [hk, h_img, h_parts]

@[simp ↓] theorem State.rollSnaps_kept {F : Foot} {org : State} (s : State) (h_snap : F.snap = true) (hk : Kept F org s) :
    Kept F org (State.rollSnaps s) := by
  unfold State.rollSnaps
  exact { hk with
    objs0 := .inl (by assumption)
    objsB := .inl (by assumption)
    tables := fun hm => by
      obtain ⟨a, b, c, d⟩ := hk.wfs hm
      simp [State.tablesOk, a, b, c] }

@[simp ↓] theorem State.sealLoad_kept {F : Foot} {org : State} (s : State) (h_apps : F.apps = true) (h_can : F.can = true)
    (h_conf : F.conf = true) (h_crop : F.crop = true) (h_flt : F.flt = true) (h_fox : F.fox = true) (h_free : F.free = true)
    (h_img : F.img = true) (h_inp : F.inp = true) (h_lark : F.lark = true) (h_nav : F.nav = true) (h_outs : F.outs = true) (h_pwr
    : F.pwr = true) (h_rcd : F.rcd = true) (h_rx : F.rx = true) (h_sec : F.sec = true) (h_timers : F.timers = true) (h_ucp : F.ucp
    = true) (h_upd : F.upd = true) (h_all : ∀ i, F.idx i = true) (hk : Kept F org s) : Kept F org (State.sealLoad s) := by
  unfold State.sealLoad
  (repeat' split) <;> simp (contextual := true) (maxDischargeDepth := 60) [hk, h_apps, h_can, h_conf, h_crop, h_flt, h_fox, h_free, h_img, h_inp, h_lark, h_nav, h_outs, h_pwr, h_rcd, h_rx, h_sec, h_timers, h_ucp, h_upd, h_all]

@[simp ↓] theorem State.sealEngines_kept {F : Foot} {org : State} (s : State) (h_can : F.can = true) (h_eth : F.eth = true)
    (h_flt : F.flt = true) (h_img : F.img = true) (h_inp : F.inp = true) (h_lark : F.lark = true) (h_nav : F.nav = true) (h_outs :
    F.outs = true) (h_parts : F.parts = true) (h_rcd : F.rcd = true) (h_rx : F.rx = true) (h_timers : F.timers = true) (h_ucp :
    F.ucp = true) (h_cank20 : ∀ p, F.idx (cank p 20) = true) (h_cank45 : ∀ p, F.idx (cank p 45) = true) (h_cank53 : ∀ p, F.idx
    (cank p 53) = true) (h_cank54 : ∀ p, F.idx (cank p 54) = true) (h_cank61 : ∀ p, F.idx (cank p 61) = true) (h_xk28 : ∀ p, F.idx
    (xk p 28) = true) (h_28 : F.grp 40) (h_2C : F.grp 44) (h_2E : F.grp 46) (h_recLostCount : F.idx (recLostCount) = true)
    (h_rk_26 : F.idx (rk 26) = true) (hk : Kept F org s) : Kept F org (State.sealEngines s) := by
  unfold State.sealEngines
  simp (contextual := true) (maxDischargeDepth := 60) [hk, h_can, h_eth, h_flt, h_img, h_inp, h_lark, h_nav, h_outs, h_parts, h_rcd, h_rx, h_timers, h_ucp, h_cank20, h_cank45, h_cank53, h_cank54, h_cank61, h_xk28, h_28, h_2C, h_2E, h_recLostCount, h_rk_26]

@[simp ↓] theorem sealPhase_kept {F : Foot} {org : State} (s : State) (h_apps : F.apps = true) (h_can : F.can = true) (h_conf
    : F.conf = true) (h_crop : F.crop = true) (h_eth : F.eth = true) (h_flt : F.flt = true) (h_fox : F.fox = true) (h_free :
    F.free = true) (h_img : F.img = true) (h_inp : F.inp = true) (h_lark : F.lark = true) (h_nav : F.nav = true) (h_outs : F.outs
    = true) (h_parts : F.parts = true) (h_pwr : F.pwr = true) (h_rcd : F.rcd = true) (h_rx : F.rx = true) (h_sec : F.sec = true)
    (h_snap : F.snap = true) (h_timers : F.timers = true) (h_tm : F.tm = true) (h_ucp : F.ucp = true) (h_upd : F.upd = true)
    (h_all : ∀ i, F.idx i = true) (hk : Kept F org s) : Kept F org (sealPhase s) := by
  unfold sealPhase
  simp (contextual := true) (maxDischargeDepth := 60) [hk, h_apps, h_can, h_conf, h_crop, h_eth, h_flt, h_fox, h_free, h_img, h_inp, h_lark, h_nav, h_outs, h_parts, h_pwr, h_rcd, h_rx, h_sec, h_snap, h_timers, h_tm, h_ucp, h_upd, h_all]

@[simp ↓] theorem State.piFollow_kept {F : Foot} {org : State} (s : State) (h_flt : F.flt = true) (h_rcd : F.rcd = true)
    (h_ucp : F.ucp = true) (h_28 : F.grp 40) (h_ob_11776_10 : F.idx (ob 11776 10) = true) (h_recLostCount : F.idx (recLostCount) =
    true) (hk : Kept F org s) : Kept F org (State.piFollow s) := by
  unfold State.piFollow
  simp [hk, h_flt, h_rcd, h_ucp, h_28, h_ob_11776_10, h_recLostCount]

@[simp ↓] theorem State.takePart_kept {F : Foot} {org : State} (s : State) (p : Nat) (h_img : F.img = true) (h_parts : F.parts
    = true) (h_ob_5120_3 : F.idx (ob 5120 3) = true) (hk : Kept F org s) : Kept F org (State.takePart s p) := by
  unfold State.takePart
  simp (contextual := true) (maxDischargeDepth := 60) [hk, h_img, h_parts, h_ob_5120_3]

@[simp ↓] theorem State.mappedWrite_kept {F : Foot} {org : State} (s : State) (e : MapEnt) (v : Nat) (h_apps : F.apps = true)
    (h_can : F.can = true) (h_conf : F.conf = true) (h_crop : F.crop = true) (h_flt : F.flt = true) (h_fox : F.fox = true) (h_free
    : F.free = true) (h_img : F.img = true) (h_inp : F.inp = true) (h_lark : F.lark = true) (h_nav : F.nav = true) (h_outs :
    F.outs = true) (h_pwr : F.pwr = true) (h_rcd : F.rcd = true) (h_rx : F.rx = true) (h_sec : F.sec = true) (h_snap : F.snap =
    true) (h_timers : F.timers = true) (h_ucp : F.ucp = true) (h_upd : F.upd = true) (h_all : ∀ i, F.idx i = true) (hk : Kept F
    org s) : Kept F org (State.mappedWrite s e v) := by
  unfold State.mappedWrite
  simp (contextual := true) (maxDischargeDepth := 60) [hk, h_apps, h_can, h_conf, h_crop, h_flt, h_fox, h_free, h_img, h_inp, h_lark, h_nav, h_outs, h_pwr, h_rcd, h_rx, h_sec, h_snap, h_timers, h_ucp, h_upd, h_all]

@[simp ↓] theorem State.mapEntryAct_kept {F : Foot} {org : State} (ps : List Nat) (old : Tbl Nat) (s : State) (n : Nat)
    (h_apps : F.apps = true) (h_can : F.can = true) (h_conf : F.conf = true) (h_crop : F.crop = true) (h_flt : F.flt = true)
    (h_fox : F.fox = true) (h_free : F.free = true) (h_img : F.img = true) (h_inp : F.inp = true) (h_lark : F.lark = true) (h_nav
    : F.nav = true) (h_outs : F.outs = true) (h_pwr : F.pwr = true) (h_rcd : F.rcd = true) (h_rx : F.rx = true) (h_sec : F.sec =
    true) (h_snap : F.snap = true) (h_timers : F.timers = true) (h_ucp : F.ucp = true) (h_upd : F.upd = true) (h_all : ∀ i, F.idx
    i = true) (hk : Kept F org s) : Kept F org (State.mapEntryAct ps old s n) := by
  unfold State.mapEntryAct
  simp [hk, h_apps, h_can, h_conf, h_crop, h_flt, h_fox, h_free, h_img, h_inp, h_lark, h_nav, h_outs, h_pwr, h_rcd, h_rx, h_sec, h_snap, h_timers, h_ucp, h_upd, h_all]

@[simp ↓] theorem takePhase_kept {F : Foot} {org : State} (s : State) (h_apps : F.apps = true) (h_can : F.can = true) (h_conf
    : F.conf = true) (h_crop : F.crop = true) (h_flt : F.flt = true) (h_fox : F.fox = true) (h_free : F.free = true) (h_img :
    F.img = true) (h_inp : F.inp = true) (h_lark : F.lark = true) (h_nav : F.nav = true) (h_outs : F.outs = true) (h_parts :
    F.parts = true) (h_pwr : F.pwr = true) (h_rcd : F.rcd = true) (h_rx : F.rx = true) (h_sec : F.sec = true) (h_snap : F.snap =
    true) (h_timers : F.timers = true) (h_ucp : F.ucp = true) (h_upd : F.upd = true) (h_all : ∀ i, F.idx i = true) (hk : Kept F
    org s) : Kept F org (takePhase s) := by
  unfold takePhase
  simp (contextual := true) (maxDischargeDepth := 60) [hk, h_apps, h_can, h_conf, h_crop, h_flt, h_fox, h_free, h_img, h_inp, h_lark, h_nav, h_outs, h_parts, h_pwr, h_rcd, h_rx, h_sec, h_snap, h_timers, h_ucp, h_upd, h_all]

@[simp ↓] theorem assemble_kept {F : Foot} {org : State} (s : State) (h_can : F.can = true) (h_img : F.img = true) (hk : Kept
    F org s) : Kept F org (assemble s) := by
  unfold assemble
  simp [hk, h_can, h_img]

@[simp ↓] theorem publish_kept {F : Foot} {org : State} (s : State) (h_img : F.img = true) (h_parts : F.parts = true) (hk :
    Kept F org s) : Kept F org (publish s) := by
  unfold publish
  simp [hk, h_img, h_parts]

@[simp ↓] theorem phaseOverrun_kept {F : Foot} {org : State} (s : State) (h_flt : F.flt = true) (h_img : F.img = true) (h_lark
    : F.lark = true) (h_rcd : F.rcd = true) (h_ucp : F.ucp = true) (h_28 : F.grp 40) (h_ob_11776_10 : F.idx (ob 11776 10) = true)
    (h_ob_5120_4 : F.idx (ob 5120 4) = true) (h_recLostCount : F.idx (recLostCount) = true) (hk : Kept F org s) : Kept F org
    (phaseOverrun s) := by
  unfold phaseOverrun
  simp (contextual := true) (maxDischargeDepth := 60) [hk, h_flt, h_img, h_lark, h_rcd, h_ucp, h_28, h_ob_11776_10, h_ob_5120_4, h_recLostCount]

@[simp ↓] theorem lockstepMismatch_kept {F : Foot} {org : State} (pair : Nat) (s : State) (h_flt : F.flt = true) (h_parts :
    F.parts = true) (h_rcd : F.rcd = true) (h_sp : F.sp = true) (h_ucp : F.ucp = true) (h_28 : F.grp 40) (h_ob_11776_10 : F.idx
    (ob 11776 10) = true) (h_recLostCount : F.idx (recLostCount) = true) (hk : Kept F org s) : Kept F org (lockstepMismatch pair
    s) := by
  unfold lockstepMismatch
  simp only []
  (repeat' split) <;> simp (contextual := true) (maxDischargeDepth := 60) [hk, h_flt, h_parts, h_rcd, h_sp, h_ucp, h_28, h_ob_11776_10, h_recLostCount]

@[simp ↓] theorem State.resumeOn_kept {F : Foot} {org : State} (s : State) (p : Nat) (x : Nat) (h_lark : F.lark = true)
    (h_parts : F.parts = true) (h_14 : F.grp 20) (hk : Kept F org s) : Kept F org (State.resumeOn s p x) := by
  unfold State.resumeOn
  simp (contextual := true) (maxDischargeDepth := 60) [hk, h_lark, h_parts, h_14]

@[simp ↓] theorem partitionResume_kept {F : Foot} {org : State} (p : Nat) (verify : List Bool) (dur : Nat) (s : State) (h_flt
    : F.flt = true) (h_lark : F.lark = true) (h_parts : F.parts = true) (h_rcd : F.rcd = true) (h_sp : F.sp = true) (h_timers :
    F.timers = true) (h_ucp : F.ucp = true) (h_14 : F.grp 20) (h_28 : F.grp 40) (h_29 : F.grp 41) (h_ob_11776_10 : F.idx (ob 11776
    10) = true) (h_recLostCount : F.idx (recLostCount) = true) (hk : Kept F org s) : Kept F org (partitionResume p verify dur s)
    := by
  unfold partitionResume
  simp only []
  (repeat' split) <;> simp (contextual := true) (maxDischargeDepth := 60) [hk, h_flt, h_lark, h_parts, h_rcd, h_sp, h_timers, h_ucp, h_14, h_28, h_29, h_ob_11776_10, h_recLostCount]

@[simp ↓] theorem ckpt_kept {F : Foot} {org : State} (p : Nat) (addr : Nat) (s : State) (h_parts : F.parts = true) (hk : Kept
    F org s) : Kept F org (ckpt p addr s) := by
  unfold ckpt
  simp [hk, h_parts]

@[simp ↓] theorem ckptDone_kept {F : Foot} {org : State} (p : Nat) (s : State) (h_parts : F.parts = true) (h_sp : F.sp = true)
    (hk : Kept F org s) : Kept F org (ckptDone p s) := by
  unfold ckptDone
  (repeat' split) <;> simp (contextual := true) (maxDischargeDepth := 60) [hk, h_parts, h_sp]

@[simp ↓] theorem appBusError_kept {F : Foot} {org : State} (s : State) (h_ob_5120_5 : F.idx (ob 5120 5) = true) (hk : Kept F
    org s) : Kept F org (appBusError s) := by
  unfold appBusError
  simp [hk, h_ob_5120_5]

@[simp ↓] theorem State.writeField_kept {F : Foot} {org : State} (p : Nat) (s : State) (e : Nat × Nat) (h_img : F.img = true)
    (h_ob_5120_5 : F.idx (ob 5120 5) = true) (hk : Kept F org s) : Kept F org (State.writeField p s e) := by
  unfold State.writeField
  (repeat' split) <;> simp (contextual := true) (maxDischargeDepth := 60) [hk, h_img, h_ob_5120_5]

@[simp ↓] theorem piCommit_kept {F : Foot} {org : State} (p : Nat) (entries : List (Nat × Nat)) (s : State) (h_flt : F.flt =
    true) (h_img : F.img = true) (h_parts : F.parts = true) (h_rcd : F.rcd = true) (h_ucp : F.ucp = true) (h_28 : F.grp 40)
    (h_ob_11776_10 : F.idx (ob 11776 10) = true) (h_ob_5120_5 : F.idx (ob 5120 5) = true) (h_recLostCount : F.idx (recLostCount) =
    true) (hk : Kept F org s) : Kept F org (piCommit p entries s) := by
  unfold piCommit
  simp (contextual := true) (maxDischargeDepth := 60) [hk, h_flt, h_img, h_parts, h_rcd, h_ucp, h_28, h_ob_11776_10, h_ob_5120_5, h_recLostCount]

@[simp ↓] theorem piTimeout_kept {F : Foot} {org : State} (p : Nat) (s : State) (h_flt : F.flt = true) (h_parts : F.parts =
    true) (h_rcd : F.rcd = true) (h_ucp : F.ucp = true) (h_28 : F.grp 40) (h_ob_11776_10 : F.idx (ob 11776 10) = true)
    (h_ob_5120_2 : F.idx (ob 5120 2) = true) (h_recLostCount : F.idx (recLostCount) = true) (hk : Kept F org s) : Kept F org
    (piTimeout p s) := by
  unfold piTimeout
  simp (contextual := true) (maxDischargeDepth := 60) [hk, h_flt, h_parts, h_rcd, h_ucp, h_28, h_ob_11776_10, h_ob_5120_2, h_recLostCount]

@[simp ↓] theorem cmdTail_kept {F : Foot} {org : State} (p : Nat) (door : Option Door) (tail : Nat) (packets : List (List
    Byte)) (s : State) (h_eth : F.eth = true) (h_flt : F.flt = true) (h_parts : F.parts = true) (h_rcd : F.rcd = true) (h_sec :
    F.sec = true) (h_ucp : F.ucp = true) (h_28 : F.grp 40) (h_ob_11776_10 : F.idx (ob 11776 10) = true) (h_recLostCount : F.idx
    (recLostCount) = true) (h_uc_15 : F.idx (uc 15) = true) (h_uc_5 : F.idx (uc 5) = true) (h_uc_6 : F.idx (uc 6) = true) (h_uc_7
    : F.idx (uc 7) = true) (h_uc_8 : F.idx (uc 8) = true) (h_uc_9 : F.idx (uc 9) = true) (hk : Kept F org s) : Kept F org (cmdTail
    p door tail packets s) := by
  unfold cmdTail
  (repeat' split) <;> simp (contextual := true) (maxDischargeDepth := 60) [hk, h_eth, h_flt, h_parts, h_rcd, h_sec, h_ucp, h_28, h_ob_11776_10, h_recLostCount, h_uc_15, h_uc_5, h_uc_6, h_uc_7, h_uc_8, h_uc_9]

@[simp ↓] theorem deliver_kept {F : Foot} {org : State} (port : Nat) (x1 : Nat) (x2 : State) (h_can : F.can = true) (h_flt :
    F.flt = true) (h_lark : F.lark = true) (h_parts : F.parts = true) (h_rcd : F.rcd = true) (h_sec : F.sec = true) (h_ucp : F.ucp
    = true) (h_28 : F.grp 40) (h_ob_11776_10 : F.idx (ob 11776 10) = true) (h_ob_11776_14 : F.idx (ob 11776 14) = true)
    (h_ob_4352_1 : F.idx (ob 4352 1) = true) (h_recLostCount : F.idx (recLostCount) = true) (hk : Kept F org x2) : Kept F org
    (deliver port x1 x2) := by
  induction x1 generalizing x2 with
  | zero => exact hk
  | succ n ih => unfold deliver; split; exacts [ih _ (by simp [*]), hk]

@[simp ↓] theorem rspTail_kept {F : Foot} {org : State} (p : Nat) (tail : Nat) (s : State) (h_can : F.can = true) (h_flt :
    F.flt = true) (h_lark : F.lark = true) (h_parts : F.parts = true) (h_rcd : F.rcd = true) (h_sec : F.sec = true) (h_ucp : F.ucp
    = true) (h_28 : F.grp 40) (h_ob_11776_10 : F.idx (ob 11776 10) = true) (h_ob_11776_14 : F.idx (ob 11776 14) = true)
    (h_ob_4352_1 : F.idx (ob 4352 1) = true) (h_recLostCount : F.idx (recLostCount) = true) (hk : Kept F org s) : Kept F org
    (rspTail p tail s) := by
  unfold rspTail
  simp [hk, h_can, h_flt, h_lark, h_parts, h_rcd, h_sec, h_ucp, h_28, h_ob_11776_10, h_ob_11776_14, h_ob_4352_1, h_recLostCount]

@[simp ↓] theorem irqStatus_kept {F : Foot} {org : State} (p : Nat) (w : Nat) (s : State) (h_parts : F.parts = true) (hk :
    Kept F org s) : Kept F org (irqStatus p w s) := by
  unfold irqStatus
  simp [hk, h_parts]

end Sys2Proof.Machine
end

