-- ==== Sys2Proof/Laws/KeptExec.lean ====
section
/-! SUPPORT. Footprints of the commands: what a command may change, one lemma for each. -/

set_option linter.unusedSimpArgs false
set_option linter.unusedVariables false

namespace Sys2Proof.Machine

open Sys2Proof

theorem execRecordPost_kept {F : Foot} {s t : State} (h_flt : F.flt = true) (h_rcd : F.rcd = true) (h_ucp : F.ucp = true)
    (h_28 : F.grp 40) (h_ob_11776_10 : F.idx (ob 11776 10) = true) (h_recArchived : F.idx (recArchived) = true) (h_recLostCount :
    F.idx (recLostCount) = true) (h_recNextSeq : F.idx (recNextSeq) = true) (h : execRecordPost s = .next t) : Kept F s t := by
  have hk := Kept.refl F s
  obtain rfl := Host.Outcome.next.inj h
  simp [hk, h_flt, h_rcd, h_ucp, h_28, h_ob_11776_10, h_recArchived, h_recLostCount, h_recNextSeq]

theorem execRecordLost_kept {F : Foot} {s t : State} (h_flt : F.flt = true) (h_rcd : F.rcd = true) (h_recArchived : F.idx
    (recArchived) = true) (h_recLostCount : F.idx (recLostCount) = true) (h_recNextSeq : F.idx (recNextSeq) = true) (h :
    execRecordLost s = .next t) : Kept F s t := by
  have hk := Kept.refl F s
  obtain rfl := Host.Outcome.next.inj h
  simp [hk, h_flt, h_rcd, h_recArchived, h_recLostCount, h_recNextSeq]

theorem execArchiveCopy_kept {F : Foot} {s t : State} (ok : Bool) (h_flt : F.flt = true) (h_nv : F.nv = true) (h_rcd : F.rcd =
    true) (h_ucp : F.ucp = true) (h_28 : F.grp 40) (h_ob_11776_10 : F.idx (ob 11776 10) = true) (h_recArchived : F.idx
    (recArchived) = true) (h_recLostCount : F.idx (recLostCount) = true) (h : execArchiveCopy ok s = .next t) : Kept F s t := by
  have hk := Kept.refl F s
  obtain rfl := Host.Outcome.next.inj h
  simp [hk, h_flt, h_nv, h_rcd, h_ucp, h_28, h_ob_11776_10, h_recArchived, h_recLostCount]

theorem execHeldClearWrite_kept {F : Foot} {s t : State} (h_flt : F.flt = true) (h_rcd : F.rcd = true) (h_ucp : F.ucp = true)
    (h_28 : F.grp 40) (h_ob_11776_10 : F.idx (ob 11776 10) = true) (h_recArchived : F.idx (recArchived) = true) (h_recLostCount :
    F.idx (recLostCount) = true) (h_recNextSeq : F.idx (recNextSeq) = true) (h : execHeldClearWrite s = .next t) : Kept F s t :=
    by
  have hk := Kept.refl F s
  obtain rfl := Host.Outcome.next.inj h
  simp [hk, h_flt, h_rcd, h_ucp, h_28, h_ob_11776_10, h_recArchived, h_recLostCount, h_recNextSeq]

theorem execRecBankFail_kept {F : Foot} {s t : State} (bank : Nat) (verify : Bool) (h_flt : F.flt = true) (h_rcd : F.rcd =
    true) (h_ucp : F.ucp = true) (h_28 : F.grp 40) (h_ob_10752_10 : F.idx (ob 10752 10) = true) (h_ob_11776_10 : F.idx (ob 11776
    10) = true) (h_recBanks : F.idx (recBanks) = true) (h_recLostCount : F.idx (recLostCount) = true) (h : execRecBankFail bank
    verify s = .next t) : Kept F s t := by
  have hk := Kept.refl F s
  obtain rfl := Host.Outcome.next.inj h
  simp [hk, h_flt, h_rcd, h_ucp, h_28, h_ob_10752_10, h_ob_11776_10, h_recBanks, h_recLostCount]

theorem execRecDualFail_kept {F : Foot} {s t : State} (h_flt : F.flt = true) (h_rcd : F.rcd = true) (h_ucp : F.ucp = true)
    (h_28 : F.grp 40) (h_ob_10752_10 : F.idx (ob 10752 10) = true) (h_ob_11776_10 : F.idx (ob 11776 10) = true) (h_recArchived :
    F.idx (recArchived) = true) (h_recBanks : F.idx (recBanks) = true) (h_recLostCount : F.idx (recLostCount) = true)
    (h_recNextSeq : F.idx (recNextSeq) = true) (h : execRecDualFail s = .next t) : Kept F s t := by
  have hk := Kept.refl F s
  obtain rfl := Host.Outcome.next.inj h
  simp [hk, h_flt, h_rcd, h_ucp, h_28, h_ob_10752_10, h_ob_11776_10, h_recArchived, h_recBanks, h_recLostCount, h_recNextSeq]

theorem execDualFailReset_kept {F : Foot} {s t : State} (who : Who) (h_flt : F.flt = true) (h_img : F.img = true) (h_rcd :
    F.rcd = true) (h_ucp : F.ucp = true) (h_28 : F.grp 40) (h_ob_11776_10 : F.idx (ob 11776 10) = true) (h_ob_12288_4 : F.idx (ob
    12288 4) = true) (h_ob_4608_4 : F.idx (ob 4608 4) = true) (h_ob_4608_5 : F.idx (ob 4608 5) = true) (h_ob_4608_6 : F.idx (ob
    4608 6) = true) (h_ob_4608_7 : F.idx (ob 4608 7) = true) (h_ob_4608_8 : F.idx (ob 4608 8) = true) (h_recBanks : F.idx
    (recBanks) = true) (h_recLostCount : F.idx (recLostCount) = true) (h : execDualFailReset who s = .next t) : Kept F s t := by
  have hk := Kept.refl F s
  obtain rfl := Host.Outcome.next.inj h
  simp [hk, h_flt, h_img, h_rcd, h_ucp, h_28, h_ob_11776_10, h_ob_12288_4, h_ob_4608_4, h_ob_4608_5, h_ob_4608_6, h_ob_4608_7, h_ob_4608_8, h_recBanks, h_recLostCount]

theorem execRecorderClear_kept {F : Foot} {s t : State} (who : Who) (h_flt : F.flt = true) (h_img : F.img = true) (h_rcd :
    F.rcd = true) (h_ucp : F.ucp = true) (h_ob_10752_12 : F.idx (ob 10752 12) = true) (h_ob_12288_4 : F.idx (ob 12288 4) = true)
    (h_ob_4608_4 : F.idx (ob 4608 4) = true) (h_ob_4608_5 : F.idx (ob 4608 5) = true) (h_ob_4608_6 : F.idx (ob 4608 6) = true)
    (h_ob_4608_7 : F.idx (ob 4608 7) = true) (h_ob_4608_8 : F.idx (ob 4608 8) = true) (h_recArchived : F.idx (recArchived) = true)
    (h_recLostCount : F.idx (recLostCount) = true) (h_recNextSeq : F.idx (recNextSeq) = true) (h_recOldest : F.idx (recOldest) =
    true) (h : execRecorderClear who s = .next t) : Kept F s t := by
  have hk := Kept.refl F s
  obtain rfl := Host.Outcome.next.inj h
  simp [hk, h_flt, h_img, h_rcd, h_ucp, h_ob_10752_12, h_ob_12288_4, h_ob_4608_4, h_ob_4608_5, h_ob_4608_6, h_ob_4608_7, h_ob_4608_8, h_recArchived, h_recLostCount, h_recNextSeq, h_recOldest]

theorem execApplicationRecord_kept {F : Foot} {s t : State} (who : Who) (value : Nat) (h_flt : F.flt = true) (h_img : F.img =
    true) (h_rcd : F.rcd = true) (h_ucp : F.ucp = true) (h_28 : F.grp 40) (h_ob_11776_10 : F.idx (ob 11776 10) = true)
    (h_ob_12288_4 : F.idx (ob 12288 4) = true) (h_ob_4608_4 : F.idx (ob 4608 4) = true) (h_ob_4608_5 : F.idx (ob 4608 5) = true)
    (h_ob_4608_6 : F.idx (ob 4608 6) = true) (h_ob_4608_7 : F.idx (ob 4608 7) = true) (h_ob_4608_8 : F.idx (ob 4608 8) = true)
    (h_recLostCount : F.idx (recLostCount) = true) (h : execApplicationRecord who value s = .next t) : Kept F s t := by
  have hk := Kept.refl F s
  obtain rfl := Host.Outcome.next.inj h
  simp [hk, h_flt, h_img, h_rcd, h_ucp, h_28, h_ob_11776_10, h_ob_12288_4, h_ob_4608_4, h_ob_4608_5, h_ob_4608_6, h_ob_4608_7, h_ob_4608_8, h_recLostCount]

theorem execCounterStore_kept {F : Foot} {s t : State} (h_nv : F.nv = true) (h : execCounterStore s = .next t) : Kept F s t := by
  have hk := Kept.refl F s
  obtain rfl := Host.Outcome.next.inj h
  simp [hk, h_nv]

theorem execFaultOccurrence_kept {F : Foot} {s t : State} (src : Fin 512) (code : Nat) (h_flt : F.flt = true) (h_rcd : F.rcd =
    true) (h_ucp : F.ucp = true) (h_28 : F.grp 40) (h_ob_11776_10 : F.idx (ob 11776 10) = true) (h_recLostCount : F.idx
    (recLostCount) = true) (h : execFaultOccurrence src code s = .next t) : Kept F s t := by
  have hk := Kept.refl F s
  obtain rfl := Host.Outcome.next.inj h
  simp [hk, h_flt, h_rcd, h_ucp, h_28, h_ob_11776_10, h_recLostCount]

theorem execFaultAutoClear_kept {F : Foot} {s t : State} (src : Fin 512) (h_flt : F.flt = true) (h_rcd : F.rcd = true) (h_ucp
    : F.ucp = true) (h_28 : F.grp 40) (h_ob_11776_10 : F.idx (ob 11776 10) = true) (h_recLostCount : F.idx (recLostCount) = true)
    (h : execFaultAutoClear src s = .next t) : Kept F s t := by
  have hk := Kept.refl F s
  obtain rfl := Host.Outcome.next.inj h
  simp [hk, h_flt, h_rcd, h_ucp, h_28, h_ob_11776_10, h_recLostCount]

theorem execConseqModeEnd_kept {F : Foot} {s t : State} (blk : Nat) (h_flt : F.flt = true) (h_rcd : F.rcd = true) (h_ucp :
    F.ucp = true) (h_28 : F.grp 40) (h_ob_11776_10 : F.idx (ob 11776 10) = true) (h_recLostCount : F.idx (recLostCount) = true) (h
    : execConseqModeEnd blk s = .next t) : Kept F s t := by
  have hk := Kept.refl F s
  obtain rfl := Host.Outcome.next.inj h
  simp [hk, h_flt, h_rcd, h_ucp, h_28, h_ob_11776_10, h_recLostCount]

theorem execStepDecay_kept {F : Foot} {s t : State} (src : Fin 512) (h_28 : F.grp 40) (h : execStepDecay src s = .next t) :
    Kept F s t := by
  have hk := Kept.refl F s
  obtain rfl := Host.Outcome.next.inj h
  simp [hk, h_28]

theorem execFaultClearRequest_kept {F : Foot} {s t : State} (who : Who) (src : Nat) (h_flt : F.flt = true) (h_img : F.img =
    true) (h_rcd : F.rcd = true) (h_ucp : F.ucp = true) (h_28 : F.grp 40) (h_ob_11776_10 : F.idx (ob 11776 10) = true)
    (h_ob_12288_4 : F.idx (ob 12288 4) = true) (h_ob_4608_4 : F.idx (ob 4608 4) = true) (h_ob_4608_5 : F.idx (ob 4608 5) = true)
    (h_ob_4608_6 : F.idx (ob 4608 6) = true) (h_ob_4608_7 : F.idx (ob 4608 7) = true) (h_ob_4608_8 : F.idx (ob 4608 8) = true)
    (h_recLostCount : F.idx (recLostCount) = true) (h : execFaultClearRequest who src s = .next t) : Kept F s t := by
  have hk := Kept.refl F s
  obtain rfl := Host.Outcome.next.inj h
  simp [hk, h_flt, h_img, h_rcd, h_ucp, h_28, h_ob_11776_10, h_ob_12288_4, h_ob_4608_4, h_ob_4608_5, h_ob_4608_6, h_ob_4608_7, h_ob_4608_8, h_recLostCount]

theorem execFaultClearAll_kept {F : Foot} {s t : State} (who : Who) (h_flt : F.flt = true) (h_img : F.img = true) (h_rcd :
    F.rcd = true) (h_ucp : F.ucp = true) (h_28 : F.grp 40) (h_ob_11776_10 : F.idx (ob 11776 10) = true) (h_ob_12288_4 : F.idx (ob
    12288 4) = true) (h_ob_4608_4 : F.idx (ob 4608 4) = true) (h_ob_4608_5 : F.idx (ob 4608 5) = true) (h_ob_4608_6 : F.idx (ob
    4608 6) = true) (h_ob_4608_7 : F.idx (ob 4608 7) = true) (h_ob_4608_8 : F.idx (ob 4608 8) = true) (h_recLostCount : F.idx
    (recLostCount) = true) (h : execFaultClearAll who s = .next t) : Kept F s t := by
  have hk := Kept.refl F s
  obtain rfl := Host.Outcome.next.inj h
  simp [hk, h_flt, h_img, h_rcd, h_ucp, h_28, h_ob_11776_10, h_ob_12288_4, h_ob_4608_4, h_ob_4608_5, h_ob_4608_6, h_ob_4608_7, h_ob_4608_8, h_recLostCount]

theorem execForceSet_kept {F : Foot} {s t : State} (who : Who) (src : Nat) (h_flt : F.flt = true) (h_img : F.img = true)
    (h_rcd : F.rcd = true) (h_ucp : F.ucp = true) (h_28 : F.grp 40) (h_ob_11776_10 : F.idx (ob 11776 10) = true) (h_ob_12288_4 :
    F.idx (ob 12288 4) = true) (h_ob_4608_4 : F.idx (ob 4608 4) = true) (h_ob_4608_5 : F.idx (ob 4608 5) = true) (h_ob_4608_6 :
    F.idx (ob 4608 6) = true) (h_ob_4608_7 : F.idx (ob 4608 7) = true) (h_ob_4608_8 : F.idx (ob 4608 8) = true) (h_recLostCount :
    F.idx (recLostCount) = true) (h : execForceSet who src s = .next t) : Kept F s t := by
  have hk := Kept.refl F s
  obtain rfl := Host.Outcome.next.inj h
  simp [hk, h_flt, h_img, h_rcd, h_ucp, h_28, h_ob_11776_10, h_ob_12288_4, h_ob_4608_4, h_ob_4608_5, h_ob_4608_6, h_ob_4608_7, h_ob_4608_8, h_recLostCount]

theorem execForceClear_kept {F : Foot} {s t : State} (who : Who) (src : Nat) (h_flt : F.flt = true) (h_img : F.img = true)
    (h_rcd : F.rcd = true) (h_ucp : F.ucp = true) (h_28 : F.grp 40) (h_ob_11776_10 : F.idx (ob 11776 10) = true) (h_ob_12288_4 :
    F.idx (ob 12288 4) = true) (h_ob_4608_4 : F.idx (ob 4608 4) = true) (h_ob_4608_5 : F.idx (ob 4608 5) = true) (h_ob_4608_6 :
    F.idx (ob 4608 6) = true) (h_ob_4608_7 : F.idx (ob 4608 7) = true) (h_ob_4608_8 : F.idx (ob 4608 8) = true) (h_recLostCount :
    F.idx (recLostCount) = true) (h : execForceClear who src s = .next t) : Kept F s t := by
  have hk := Kept.refl F s
  obtain rfl := Host.Outcome.next.inj h
  simp [hk, h_flt, h_img, h_rcd, h_ucp, h_28, h_ob_11776_10, h_ob_12288_4, h_ob_4608_4, h_ob_4608_5, h_ob_4608_6, h_ob_4608_7, h_ob_4608_8, h_recLostCount]

theorem execFaultSnsSample_kept {F : Foot} {s t : State} (high : Bool) (counts : Bool) (h_flt : F.flt = true) (h_rcd : F.rcd =
    true) (h_ucp : F.ucp = true) (h_28 : F.grp 40) (h_ob_11776_10 : F.idx (ob 11776 10) = true) (h_recLostCount : F.idx
    (recLostCount) = true) (h : execFaultSnsSample high counts s = .next t) : Kept F s t := by
  have hk := Kept.refl F s
  obtain rfl := Host.Outcome.next.inj h
  simp [hk, h_flt, h_rcd, h_ucp, h_28, h_ob_11776_10, h_recLostCount]

theorem execDieTempExceed_kept {F : Foot} {s t : State} (hot : Bool) (h_flt : F.flt = true) (h_rcd : F.rcd = true) (h_ucp :
    F.ucp = true) (h_28 : F.grp 40) (h_ob_11776_10 : F.idx (ob 11776 10) = true) (h_recLostCount : F.idx (recLostCount) = true) (h
    : execDieTempExceed hot s = .next t) : Kept F s t := by
  have hk := Kept.refl F s
  obtain rfl := Host.Outcome.next.inj h
  simp [hk, h_flt, h_rcd, h_ucp, h_28, h_ob_11776_10, h_recLostCount]

theorem execHollyhockRailMismatch_kept {F : Foot} {s t : State} (disagree : Bool) (h_flt : F.flt = true) (h_rcd : F.rcd =
    true) (h_ucp : F.ucp = true) (h_28 : F.grp 40) (h_ob_11776_10 : F.idx (ob 11776 10) = true) (h_recLostCount : F.idx
    (recLostCount) = true) (h : execHollyhockRailMismatch disagree s = .next t) : Kept F s t := by
  have hk := Kept.refl F s
  obtain rfl := Host.Outcome.next.inj h
  simp [hk, h_flt, h_rcd, h_ucp, h_28, h_ob_11776_10, h_recLostCount]

theorem execLupinRailMismatch_kept {F : Foot} {s t : State} (h_flt : F.flt = true) (h_rcd : F.rcd = true) (h_ucp : F.ucp =
    true) (h_28 : F.grp 40) (h_ob_11776_10 : F.idx (ob 11776 10) = true) (h_recLostCount : F.idx (recLostCount) = true) (h :
    execLupinRailMismatch s = .next t) : Kept F s t := by
  have hk := Kept.refl F s
  obtain rfl := Host.Outcome.next.inj h
  simp [hk, h_flt, h_rcd, h_ucp, h_28, h_ob_11776_10, h_recLostCount]

theorem execSramUncorrectableError_kept {F : Foot} {s t : State} (bank : Nat) (word : Nat) (h_flt : F.flt = true) (h_rcd :
    F.rcd = true) (h_ucp : F.ucp = true) (h_28 : F.grp 40) (h_ob_11776_10 : F.idx (ob 11776 10) = true) (h_ob_5120_5 : F.idx (ob
    5120 5) = true) (h_recLostCount : F.idx (recLostCount) = true) (h : execSramUncorrectableError bank word s = .next t) : Kept F
    s t := by
  have hk := Kept.refl F s
  obtain rfl := Host.Outcome.next.inj h
  simp [hk, h_flt, h_rcd, h_ucp, h_28, h_ob_11776_10, h_ob_5120_5, h_recLostCount]

theorem execClkPllLoss_kept {F : Foot} {s t : State} (lost : Bool) (h_flt : F.flt = true) (h_rcd : F.rcd = true) (h_ucp :
    F.ucp = true) (h_28 : F.grp 40) (h_ob_11776_10 : F.idx (ob 11776 10) = true) (h_recLostCount : F.idx (recLostCount) = true) (h
    : execClkPllLoss lost s = .next t) : Kept F s t := by
  have hk := Kept.refl F s
  obtain rfl := Host.Outcome.next.inj h
  simp [hk, h_flt, h_rcd, h_ucp, h_28, h_ob_11776_10, h_recLostCount]

theorem execWearCrossing_kept {F : Foot} {s t : State} (pool : Fin 8) (el : Nat) (gauge : Nat) (level : Nat) (v1 : Nat) (v2 :
    Nat) (h_sp : F.sp = true) (h : execWearCrossing pool el gauge level v1 v2 s = .next t) : Kept F s t := by
  have hk := Kept.refl F s
  obtain rfl := Host.Outcome.next.inj h
  simp [hk, h_sp]

theorem execSpareSwap_kept {F : Foot} {s t : State} (pool : Fin 8) (el : Nat) (verify : List Bool) (dur : Nat) (h_flt : F.flt
    = true) (h_rcd : F.rcd = true) (h_sp : F.sp = true) (h_timers : F.timers = true) (h_ucp : F.ucp = true) (h_28 : F.grp 40)
    (h_29 : F.grp 41) (h_ob_11776_10 : F.idx (ob 11776 10) = true) (h_recLostCount : F.idx (recLostCount) = true) (h :
    execSpareSwap pool el verify dur s = .next t) : Kept F s t := by
  have hk := Kept.refl F s
  obtain rfl := Host.Outcome.next.inj h
  simp [hk, h_flt, h_rcd, h_sp, h_timers, h_ucp, h_28, h_29, h_ob_11776_10, h_recLostCount]

theorem execSramBankCopy_kept {F : Foot} {s t : State} (bank : Fin 64) (words : List Nat) (verify : List Bool) (dur : Nat)
    (h_flt : F.flt = true) (h_rcd : F.rcd = true) (h_sp : F.sp = true) (h_timers : F.timers = true) (h_ucp : F.ucp = true) (h_28 :
    F.grp 40) (h_29 : F.grp 41) (h_ob_11776_10 : F.idx (ob 11776 10) = true) (h_recLostCount : F.idx (recLostCount) = true) (h :
    execSramBankCopy bank words verify dur s = .next t) : Kept F s t := by
  have hk := Kept.refl F s
  obtain rfl := Host.Outcome.next.inj h
  simp [hk, h_flt, h_rcd, h_sp, h_timers, h_ucp, h_28, h_29, h_ob_11776_10, h_recLostCount]

theorem execElementSelftestDone_kept {F : Foot} {s t : State} (pool : Fin 8) (el : Nat) (pass : Bool) (h_flt : F.flt = true)
    (h_rcd : F.rcd = true) (h_sp : F.sp = true) (h_timers : F.timers = true) (h_ucp : F.ucp = true) (h_28 : F.grp 40) (h_29 :
    F.grp 41) (h_ob_11776_10 : F.idx (ob 11776 10) = true) (h_recLostCount : F.idx (recLostCount) = true) (h :
    execElementSelftestDone pool el pass s = .next t) : Kept F s t := by
  have hk := Kept.refl F s
  obtain rfl := Host.Outcome.next.inj h
  simp [hk, h_flt, h_rcd, h_sp, h_timers, h_ucp, h_28, h_29, h_ob_11776_10, h_recLostCount]

theorem execSpareTest_kept {F : Foot} {s t : State} (pool : Fin 8) (el : Nat) (pass : Bool) (h_flt : F.flt = true) (h_rcd :
    F.rcd = true) (h_sp : F.sp = true) (h_ucp : F.ucp = true) (h_28 : F.grp 40) (h_29 : F.grp 41) (h_ob_11776_10 : F.idx (ob 11776
    10) = true) (h_recLostCount : F.idx (recLostCount) = true) (h : execSpareTest pool el pass s = .next t) : Kept F s t := by
  have hk := Kept.refl F s
  obtain rfl := Host.Outcome.next.inj h
  simp [hk, h_flt, h_rcd, h_sp, h_ucp, h_28, h_29, h_ob_11776_10, h_recLostCount]

theorem execSramScrub_kept {F : Foot} {s t : State} (bank : Fin 68) (lastHour : Nat) (new : Nat) (sameWord : Bool) (h_flt :
    F.flt = true) (h_rcd : F.rcd = true) (h_sp : F.sp = true) (h_ucp : F.ucp = true) (h_28 : F.grp 40) (h_ob_11776_10 : F.idx (ob
    11776 10) = true) (h_recLostCount : F.idx (recLostCount) = true) (h : execSramScrub bank lastHour new sameWord s = .next t) :
    Kept F s t := by
  have hk := Kept.refl F s
  obtain rfl := Host.Outcome.next.inj h
  simp [hk, h_flt, h_rcd, h_sp, h_ucp, h_28, h_ob_11776_10, h_recLostCount]

theorem execTimeSolutionDeadline_kept {F : Foot} {s t : State} (h_tm : F.tm = true) (h : execTimeSolutionDeadline s = .next t)
    : Kept F s t := by
  have hk := Kept.refl F s
  obtain rfl := Host.Outcome.next.inj h
  simp [hk, h_tm]

theorem execSecondBoundary_kept {F : Foot} {s t : State} (dT : Nat) (h_flt : F.flt = true) (h_rcd : F.rcd = true) (h_tm : F.tm
    = true) (h_ucp : F.ucp = true) (h_28 : F.grp 40) (h_ob_11776_10 : F.idx (ob 11776 10) = true) (h_recLostCount : F.idx
    (recLostCount) = true) (h_tk_3 : F.idx (tk 3) = true) (h_tk_4 : F.idx (tk 4) = true) (h_tk_5 : F.idx (tk 5) = true) (h_tk_8 :
    F.idx (tk 8) = true) (h_tk_9 : F.idx (tk 9) = true) (h : execSecondBoundary dT s = .next t) : Kept F s t := by
  have hk := Kept.refl F s
  obtain rfl := Host.Outcome.next.inj h
  simp [hk, h_flt, h_rcd, h_tm, h_ucp, h_28, h_ob_11776_10, h_recLostCount, h_tk_3, h_tk_4, h_tk_5, h_tk_8, h_tk_9]

theorem execGoffStepApply_kept {F : Foot} {s t : State} (h_eth : F.eth = true) (h_flt : F.flt = true) (h_rcd : F.rcd = true)
    (h_tm : F.tm = true) (h_ucp : F.ucp = true) (h_28 : F.grp 40) (h_ob_11776_10 : F.idx (ob 11776 10) = true) (h_recLostCount :
    F.idx (recLostCount) = true) (h_tk_18 : F.idx (tk 18) = true) (h_tk_19 : F.idx (tk 19) = true) (h_tk_4 : F.idx (tk 4) = true)
    (h : execGoffStepApply s = .next t) : Kept F s t := by
  have hk := Kept.refl F s
  obtain rfl := Host.Outcome.next.inj h
  simp [hk, h_eth, h_flt, h_rcd, h_tm, h_ucp, h_28, h_ob_11776_10, h_recLostCount, h_tk_18, h_tk_19, h_tk_4]

theorem execPpsPulse_kept {F : Foot} {s t : State} (off : Bool) (h_eth : F.eth = true) (h_flt : F.flt = true) (h_rcd : F.rcd =
    true) (h_tm : F.tm = true) (h_ucp : F.ucp = true) (h_28 : F.grp 40) (h_ob_11776_10 : F.idx (ob 11776 10) = true)
    (h_recLostCount : F.idx (recLostCount) = true) (h_tk_18 : F.idx (tk 18) = true) (h_tk_19 : F.idx (tk 19) = true) (h_tk_4 :
    F.idx (tk 4) = true) (h : execPpsPulse off s = .next t) : Kept F s t := by
  have hk := Kept.refl F s
  obtain rfl := Host.Outcome.next.inj h
  simp [hk, h_eth, h_flt, h_rcd, h_tm, h_ucp, h_28, h_ob_11776_10, h_recLostCount, h_tk_18, h_tk_19, h_tk_4]

theorem execPulseReport_kept {F : Foot} {s t : State} (h_flt : F.flt = true) (h_rcd : F.rcd = true) (h_tm : F.tm = true)
    (h_ucp : F.ucp = true) (h_28 : F.grp 40) (h_ob_11776_10 : F.idx (ob 11776 10) = true) (h_recLostCount : F.idx (recLostCount) =
    true) (h_tk_24 : F.idx (tk 24) = true) (h_tk_25 : F.idx (tk 25) = true) (h : execPulseReport s = .next t) : Kept F s t := by
  have hk := Kept.refl F s
  obtain rfl := Host.Outcome.next.inj h
  simp [hk, h_flt, h_rcd, h_tm, h_ucp, h_28, h_ob_11776_10, h_recLostCount, h_tk_24, h_tk_25]

theorem execMtStore_kept {F : Foot} {s t : State} (h_nv : F.nv = true) (h : execMtStore s = .next t) : Kept F s t := by
  have hk := Kept.refl F s
  obtain rfl := Host.Outcome.next.inj h
  simp [hk, h_nv]

theorem execStandbyOscMeasure_kept {F : Foot} {s t : State} (offset : Int) (h_tk_26 : F.idx (tk 26) = true) (h :
    execStandbyOscMeasure offset s = .next t) : Kept F s t := by
  have hk := Kept.refl F s
  obtain rfl := Host.Outcome.next.inj h
  simp [hk, h_tk_26]

theorem execLeapSecond_kept {F : Foot} {s t : State} (l : Nat) (h_flt : F.flt = true) (h_rcd : F.rcd = true) (h_tm : F.tm =
    true) (h_ucp : F.ucp = true) (h_28 : F.grp 40) (h_ob_11776_10 : F.idx (ob 11776 10) = true) (h_recLostCount : F.idx
    (recLostCount) = true) (h_tk_5 : F.idx (tk 5) = true) (h_tk_7 : F.idx (tk 7) = true) (h : execLeapSecond l s = .next t) : Kept
    F s t := by
  have hk := Kept.refl F s
  obtain rfl := Host.Outcome.next.inj h
  simp [hk, h_flt, h_rcd, h_tm, h_ucp, h_28, h_ob_11776_10, h_recLostCount, h_tk_5, h_tk_7]

theorem execCalOffWrite_kept {F : Foot} {s t : State} (who : Who) (value : Int) (h_flt : F.flt = true) (h_img : F.img = true)
    (h_rcd : F.rcd = true) (h_ucp : F.ucp = true) (h_28 : F.grp 40) (h_ob_11776_10 : F.idx (ob 11776 10) = true) (h_ob_12288_4 :
    F.idx (ob 12288 4) = true) (h_ob_4608_4 : F.idx (ob 4608 4) = true) (h_ob_4608_5 : F.idx (ob 4608 5) = true) (h_ob_4608_6 :
    F.idx (ob 4608 6) = true) (h_ob_4608_7 : F.idx (ob 4608 7) = true) (h_ob_4608_8 : F.idx (ob 4608 8) = true) (h_recLostCount :
    F.idx (recLostCount) = true) (h_tk_5 : F.idx (tk 5) = true) (h : execCalOffWrite who value s = .next t) : Kept F s t := by
  have hk := Kept.refl F s
  obtain rfl := Host.Outcome.next.inj h
  simp [hk, h_flt, h_img, h_rcd, h_ucp, h_28, h_ob_11776_10, h_ob_12288_4, h_ob_4608_4, h_ob_4608_5, h_ob_4608_6, h_ob_4608_7, h_ob_4608_8, h_recLostCount, h_tk_5]

theorem execInputEdge_kept {F : Foot} {s t : State} (ch : Fin 64) (up : Bool) (both : Bool) (stamp : Nat) (h_inp : F.inp =
    true) (h_ik27 : ∀ p, F.idx (ik p 27) = true) (h : execInputEdge ch up both stamp s = .next t) : Kept F s t := by
  have hk := Kept.refl F s
  obtain rfl := Host.Outcome.next.inj h
  simp [hk, h_inp, h_ik27]

theorem execInputDiagFault_kept {F : Foot} {s t : State} (ch : Fin 64) (high : Bool) (h_flt : F.flt = true) (h_inp : F.inp =
    true) (h_rcd : F.rcd = true) (h_ucp : F.ucp = true) (h_ik23 : ∀ p, F.idx (ik p 23) = true) (h_ik28 : ∀ p, F.idx (ik p 28) =
    true) (h_28 : F.grp 40) (h_ob_11776_10 : F.idx (ob 11776 10) = true) (h_recLostCount : F.idx (recLostCount) = true) (h :
    execInputDiagFault ch high s = .next t) : Kept F s t := by
  have hk := Kept.refl F s
  obtain rfl := Host.Outcome.next.inj h
  simp [hk, h_flt, h_inp, h_rcd, h_ucp, h_ik23, h_ik28, h_28, h_ob_11776_10, h_recLostCount]

theorem execCurrentInputProtect_kept {F : Foot} {s t : State} (ch : Fin 64) (h_inp : F.inp = true) (h_timers : F.timers =
    true) (h_ik23 : ∀ p, F.idx (ik p 23) = true) (h : execCurrentInputProtect ch s = .next t) : Kept F s t := by
  have hk := Kept.refl F s
  obtain rfl := Host.Outcome.next.inj h
  simp [hk, h_inp, h_timers, h_ik23]

theorem execCurrentInputTrial_kept {F : Foot} {s t : State} (ch : Fin 64) (h_inp : F.inp = true) (h_timers : F.timers = true)
    (h : execCurrentInputTrial ch s = .next t) : Kept F s t := by
  have hk := Kept.refl F s
  obtain rfl := Host.Outcome.next.inj h
  simp [hk, h_inp, h_timers]

theorem execSettlingEnd_kept {F : Foot} {s t : State} (ch : Fin 64) (h_inp : F.inp = true) (h : execSettlingEnd ch s = .next
    t) : Kept F s t := by
  have hk := Kept.refl F s
  obtain rfl := Host.Outcome.next.inj h
  simp [hk, h_inp]

theorem execSupTrip_kept {F : Foot} {s t : State} (k : Fin 8) (h_flt : F.flt = true) (h_rcd : F.rcd = true) (h_timers :
    F.timers = true) (h_ucp : F.ucp = true) (h_21 : F.grp 33) (h_28 : F.grp 40) (h_ob_11776_10 : F.idx (ob 11776 10) = true)
    (h_recLostCount : F.idx (recLostCount) = true) (h : execSupTrip k s = .next t) : Kept F s t := by
  have hk := Kept.refl F s
  obtain rfl := Host.Outcome.next.inj h
  simp [hk, h_flt, h_rcd, h_timers, h_ucp, h_21, h_28, h_ob_11776_10, h_recLostCount]

theorem execSupRetry_kept {F : Foot} {s t : State} (k : Fin 8) (h_flt : F.flt = true) (h_inp : F.inp = true) (h_rcd : F.rcd =
    true) (h_timers : F.timers = true) (h_ucp : F.ucp = true) (h_21 : F.grp 33) (h_28 : F.grp 40) (h_ob_11776_10 : F.idx (ob 11776
    10) = true) (h_recLostCount : F.idx (recLostCount) = true) (h : execSupRetry k s = .next t) : Kept F s t := by
  have hk := Kept.refl F s
  obtain rfl := Host.Outcome.next.inj h
  simp [hk, h_flt, h_inp, h_rcd, h_timers, h_ucp, h_21, h_28, h_ob_11776_10, h_recLostCount]

theorem execSupUndervolt_kept {F : Foot} {s t : State} (k : Fin 8) (h_21 : F.grp 33) (h : execSupUndervolt k s = .next t) :
    Kept F s t := by
  have hk := Kept.refl F s
  obtain rfl := Host.Outcome.next.inj h
  simp [hk, h_21]

theorem execSupOvervolt_kept {F : Foot} {s t : State} (k : Fin 8) (h_flt : F.flt = true) (h_rcd : F.rcd = true) (h_timers :
    F.timers = true) (h_ucp : F.ucp = true) (h_21 : F.grp 33) (h_28 : F.grp 40) (h_ob_11776_10 : F.idx (ob 11776 10) = true)
    (h_recLostCount : F.idx (recLostCount) = true) (h : execSupOvervolt k s = .next t) : Kept F s t := by
  have hk := Kept.refl F s
  obtain rfl := Host.Outcome.next.inj h
  simp [hk, h_flt, h_rcd, h_timers, h_ucp, h_21, h_28, h_ob_11776_10, h_recLostCount]

theorem execSupRetryReset_kept {F : Foot} {s t : State} (k : Fin 8) (h_inp : F.inp = true) (h_timers : F.timers = true) (h :
    execSupRetryReset k s = .next t) : Kept F s t := by
  have hk := Kept.refl F s
  obtain rfl := Host.Outcome.next.inj h
  simp [hk, h_inp, h_timers]

theorem execSupRestart_kept {F : Foot} {s t : State} (who : Who) (mask : Nat) (h_flt : F.flt = true) (h_img : F.img = true)
    (h_inp : F.inp = true) (h_rcd : F.rcd = true) (h_ucp : F.ucp = true) (h_21 : F.grp 33) (h_28 : F.grp 40) (h_ob_11776_10 :
    F.idx (ob 11776 10) = true) (h_ob_12288_4 : F.idx (ob 12288 4) = true) (h_ob_4608_4 : F.idx (ob 4608 4) = true) (h_ob_4608_5 :
    F.idx (ob 4608 5) = true) (h_ob_4608_6 : F.idx (ob 4608 6) = true) (h_ob_4608_7 : F.idx (ob 4608 7) = true) (h_ob_4608_8 :
    F.idx (ob 4608 8) = true) (h_recLostCount : F.idx (recLostCount) = true) (h : execSupRestart who mask s = .next t) : Kept F s
    t := by
  have hk := Kept.refl F s
  obtain rfl := Host.Outcome.next.inj h
  simp [hk, h_flt, h_img, h_inp, h_rcd, h_ucp, h_21, h_28, h_ob_11776_10, h_ob_12288_4, h_ob_4608_4, h_ob_4608_5, h_ob_4608_6, h_ob_4608_7, h_ob_4608_8, h_recLostCount]

theorem execSupplyTestPulse_kept {F : Foot} {s t : State} (k : Fin 8) (h_inp : F.inp = true) (h_21 : F.grp 33) (h :
    execSupplyTestPulse k s = .next t) : Kept F s t := by
  have hk := Kept.refl F s
  obtain rfl := Host.Outcome.next.inj h
  simp [hk, h_inp, h_21]

theorem execShadowWindowEnd_kept {F : Foot} {s t : State} (g : Fin 8) (own : Int) (sp : Int) (counts : Bool) (h_flt : F.flt =
    true) (h_inp : F.inp = true) (h_rcd : F.rcd = true) (h_sp : F.sp = true) (h_timers : F.timers = true) (h_ucp : F.ucp = true)
    (h_28 : F.grp 40) (h_ob_11776_10 : F.idx (ob 11776 10) = true) (h_recLostCount : F.idx (recLostCount) = true) (h :
    execShadowWindowEnd g own sp counts s = .next t) : Kept F s t := by
  have hk := Kept.refl F s
  obtain rfl := Host.Outcome.next.inj h
  simp [hk, h_flt, h_inp, h_rcd, h_sp, h_timers, h_ucp, h_28, h_ob_11776_10, h_recLostCount]

theorem execConversionFail_kept {F : Foot} {s t : State} (ch : Fin 64) (h_flt : F.flt = true) (h_inp : F.inp = true) (h_rcd :
    F.rcd = true) (h_sp : F.sp = true) (h_timers : F.timers = true) (h_ucp : F.ucp = true) (h_28 : F.grp 40) (h_ob_11776_10 :
    F.idx (ob 11776 10) = true) (h_recLostCount : F.idx (recLostCount) = true) (h : execConversionFail ch s = .next t) : Kept F s
    t := by
  have hk := Kept.refl F s
  obtain rfl := Host.Outcome.next.inj h
  simp [hk, h_flt, h_inp, h_rcd, h_sp, h_timers, h_ucp, h_28, h_ob_11776_10, h_recLostCount]

theorem execSpareConverterSwitch_kept {F : Foot} {s t : State} (ch : Fin 64) (verify : List Bool) (dur : Nat) (h_flt : F.flt =
    true) (h_rcd : F.rcd = true) (h_sp : F.sp = true) (h_timers : F.timers = true) (h_ucp : F.ucp = true) (h_ik23 : ∀ p, F.idx (ik
    p 23) = true) (h_ik25 : ∀ p, F.idx (ik p 25) = true) (h_28 : F.grp 40) (h_29 : F.grp 41) (h_ob_11776_10 : F.idx (ob 11776 10)
    = true) (h_recLostCount : F.idx (recLostCount) = true) (h : execSpareConverterSwitch ch verify dur s = .next t) : Kept F s t
    := by
  have hk := Kept.refl F s
  obtain rfl := Host.Outcome.next.inj h
  simp [hk, h_flt, h_rcd, h_sp, h_timers, h_ucp, h_ik23, h_ik25, h_28, h_29, h_ob_11776_10, h_recLostCount]

theorem execSpareConfirmTimeout_kept {F : Foot} {s t : State} (ch : Fin 64) (h_sp : F.sp = true) (h_timers : F.timers = true)
    (h_ik23 : ∀ p, F.idx (ik p 23) = true) (h_ik25 : ∀ p, F.idx (ik p 25) = true) (h : execSpareConfirmTimeout ch s = .next t) :
    Kept F s t := by
  have hk := Kept.refl F s
  obtain rfl := Host.Outcome.next.inj h
  simp [hk, h_sp, h_timers, h_ik23, h_ik25]

theorem execSupplyMonitorFault_kept {F : Foot} {s t : State} (faulty : Bool) (h_flt : F.flt = true) (h_rcd : F.rcd = true)
    (h_ucp : F.ucp = true) (h_28 : F.grp 40) (h_ob_11776_10 : F.idx (ob 11776 10) = true) (h_recLostCount : F.idx (recLostCount) =
    true) (h : execSupplyMonitorFault faulty s = .next t) : Kept F s t := by
  have hk := Kept.refl F s
  obtain rfl := Host.Outcome.next.inj h
  simp [hk, h_flt, h_rcd, h_ucp, h_28, h_ob_11776_10, h_recLostCount]

theorem execTimeSolutionDelivery_kept {F : Foot} {s t : State} (b : Int) (d : Int) (sigma : Nat) (sf : Nat) (sats : Nat)
    (h_flt : F.flt = true) (h_rcd : F.rcd = true) (h_rx : F.rx = true) (h_tm : F.tm = true) (h_ucp : F.ucp = true) (h_28 : F.grp
    40) (h_ob_11776_10 : F.idx (ob 11776 10) = true) (h_recLostCount : F.idx (recLostCount) = true) (h_rk_37 : F.idx (rk 37) =
    true) (h_rk_5 : F.idx (rk 5) = true) (h_rk_6 : F.idx (rk 6) = true) (h_rk_7 : F.idx (rk 7) = true) (h_tk_4 : F.idx (tk 4) =
    true) (h_tk_9 : F.idx (tk 9) = true) (h : execTimeSolutionDelivery b d sigma sf sats s = .next t) : Kept F s t := by
  have hk := Kept.refl F s
  obtain rfl := Host.Outcome.next.inj h
  simp [hk, h_flt, h_rcd, h_rx, h_tm, h_ucp, h_28, h_ob_11776_10, h_recLostCount, h_rk_37, h_rk_5, h_rk_6, h_rk_7, h_tk_4, h_tk_9]

theorem execAntFeedShort_kept {F : Foot} {s t : State} (a : Fin 2) (h_flt : F.flt = true) (h_rcd : F.rcd = true) (h_rx : F.rx
    = true) (h_timers : F.timers = true) (h_ucp : F.ucp = true) (h_28 : F.grp 40) (h_ob_11776_10 : F.idx (ob 11776 10) = true)
    (h_recLostCount : F.idx (recLostCount) = true) (h_rk_26 : F.idx (rk 26) = true) (h : execAntFeedShort a s = .next t) : Kept F
    s t := by
  have hk := Kept.refl F s
  obtain rfl := Host.Outcome.next.inj h
  simp [hk, h_flt, h_rcd, h_rx, h_timers, h_ucp, h_28, h_ob_11776_10, h_recLostCount, h_rk_26]

theorem execAntFeedTrial_kept {F : Foot} {s t : State} (a : Fin 2) (h_rx : F.rx = true) (h_timers : F.timers = true) (h :
    execAntFeedTrial a s = .next t) : Kept F s t := by
  have hk := Kept.refl F s
  obtain rfl := Host.Outcome.next.inj h
  simp [hk, h_rx, h_timers]

theorem execAntFeedOpen_kept {F : Foot} {s t : State} (a : Fin 2) (h_flt : F.flt = true) (h_rcd : F.rcd = true) (h_ucp : F.ucp
    = true) (h_28 : F.grp 40) (h_ob_11776_10 : F.idx (ob 11776 10) = true) (h_recLostCount : F.idx (recLostCount) = true) (h_rk_26
    : F.idx (rk 26) = true) (h : execAntFeedOpen a s = .next t) : Kept F s t := by
  have hk := Kept.refl F s
  obtain rfl := Host.Outcome.next.inj h
  simp [hk, h_flt, h_rcd, h_ucp, h_28, h_ob_11776_10, h_recLostCount, h_rk_26]

theorem execAntFeedNormal_kept {F : Foot} {s t : State} (a : Fin 2) (h_flt : F.flt = true) (h_rcd : F.rcd = true) (h_ucp :
    F.ucp = true) (h_28 : F.grp 40) (h_ob_11776_10 : F.idx (ob 11776 10) = true) (h_recLostCount : F.idx (recLostCount) = true)
    (h_rk_26 : F.idx (rk 26) = true) (h : execAntFeedNormal a s = .next t) : Kept F s t := by
  have hk := Kept.refl F s
  obtain rfl := Host.Outcome.next.inj h
  simp [hk, h_flt, h_rcd, h_ucp, h_28, h_ob_11776_10, h_recLostCount, h_rk_26]

theorem execCorrelatorDump_kept {F : Foot} {s t : State} (d : Dump) (h_flt : F.flt = true) (h_rcd : F.rcd = true) (h_rx : F.rx
    = true) (h_sp : F.sp = true) (h_ucp : F.ucp = true) (h_28 : F.grp 40) (h_ob_11776_10 : F.idx (ob 11776 10) = true)
    (h_recLostCount : F.idx (recLostCount) = true) (h_rk_37 : F.idx (rk 37) = true) (h_rk_5 : F.idx (rk 5) = true) (h_rk_50 :
    F.idx (rk 50) = true) (h_rk_53 : F.idx (rk 53) = true) (h_rk_6 : F.idx (rk 6) = true) (h_rk_7 : F.idx (rk 7) = true) (h :
    execCorrelatorDump d s = .next t) : Kept F s t := by
  have hk := Kept.refl F s
  obtain rfl := Host.Outcome.next.inj h
  simp [hk, h_flt, h_rcd, h_rx, h_sp, h_ucp, h_28, h_ob_11776_10, h_recLostCount, h_rk_37, h_rk_5, h_rk_50, h_rk_53, h_rk_6, h_rk_7]

theorem execAidingTimeout_kept {F : Foot} {s t : State} (ch : Nat) (h_flt : F.flt = true) (h_rcd : F.rcd = true) (h_rx : F.rx
    = true) (h_ucp : F.ucp = true) (h_28 : F.grp 40) (h_ob_11776_10 : F.idx (ob 11776 10) = true) (h_recLostCount : F.idx
    (recLostCount) = true) (h_rk_5 : F.idx (rk 5) = true) (h_rk_53 : F.idx (rk 53) = true) (h_rk_6 : F.idx (rk 6) = true) (h_rk_7
    : F.idx (rk 7) = true) (h : execAidingTimeout ch s = .next t) : Kept F s t := by
  have hk := Kept.refl F s
  obtain rfl := Host.Outcome.next.inj h
  simp [hk, h_flt, h_rcd, h_rx, h_ucp, h_28, h_ob_11776_10, h_recLostCount, h_rk_5, h_rk_53, h_rk_6, h_rk_7]

theorem execAcquisitionDwellDone_kept {F : Foot} {s t : State} (eng : Fin 8) (above : Bool) (hits : Nat) (h_rx : F.rx = true)
    (h_rk_5 : F.idx (rk 5) = true) (h_rk_6 : F.idx (rk 6) = true) (h_rk_7 : F.idx (rk 7) = true) (h : execAcquisitionDwellDone eng
    above hits s = .next t) : Kept F s t := by
  have hk := Kept.refl F s
  obtain rfl := Host.Outcome.next.inj h
  simp [hk, h_rx, h_rk_5, h_rk_6, h_rk_7]

theorem execPullInTimeout_kept {F : Foot} {s t : State} (ch : Nat) (h_rx : F.rx = true) (h_rk_5 : F.idx (rk 5) = true) (h_rk_6
    : F.idx (rk 6) = true) (h_rk_7 : F.idx (rk 7) = true) (h : execPullInTimeout ch s = .next t) : Kept F s t := by
  have hk := Kept.refl F s
  obtain rfl := Host.Outcome.next.inj h
  simp [hk, h_rx, h_rk_5, h_rk_6, h_rk_7]

theorem execCarrierLoss_kept {F : Foot} {s t : State} (ch : Nat) (h_rx : F.rx = true) (h_rk_5 : F.idx (rk 5) = true) (h_rk_6 :
    F.idx (rk 6) = true) (h_rk_7 : F.idx (rk 7) = true) (h : execCarrierLoss ch s = .next t) : Kept F s t := by
  have hk := Kept.refl F s
  obtain rfl := Host.Outcome.next.inj h
  simp [hk, h_rx, h_rk_5, h_rk_6, h_rk_7]

theorem execCarrierRestore_kept {F : Foot} {s t : State} (ch : Nat) (h_rx : F.rx = true) (h_rk_5 : F.idx (rk 5) = true)
    (h_rk_6 : F.idx (rk 6) = true) (h_rk_7 : F.idx (rk 7) = true) (h : execCarrierRestore ch s = .next t) : Kept F s t := by
  have hk := Kept.refl F s
  obtain rfl := Host.Outcome.next.inj h
  simp [hk, h_rx, h_rk_5, h_rk_6, h_rk_7]

theorem execCodeLost_kept {F : Foot} {s t : State} (ch : Nat) (h_rx : F.rx = true) (h_rk_5 : F.idx (rk 5) = true) (h_rk_6 :
    F.idx (rk 6) = true) (h_rk_7 : F.idx (rk 7) = true) (h : execCodeLost ch s = .next t) : Kept F s t := by
  have hk := Kept.refl F s
  obtain rfl := Host.Outcome.next.inj h
  simp [hk, h_rx, h_rk_5, h_rk_6, h_rk_7]

theorem execCoastRecover_kept {F : Foot} {s t : State} (ch : Nat) (h_rx : F.rx = true) (h_rk_5 : F.idx (rk 5) = true) (h_rk_6
    : F.idx (rk 6) = true) (h_rk_7 : F.idx (rk 7) = true) (h : execCoastRecover ch s = .next t) : Kept F s t := by
  have hk := Kept.refl F s
  obtain rfl := Host.Outcome.next.inj h
  simp [hk, h_rx, h_rk_5, h_rk_6, h_rk_7]

theorem execCoastTimeout_kept {F : Foot} {s t : State} (ch : Nat) (h_rx : F.rx = true) (h_rk_5 : F.idx (rk 5) = true) (h_rk_6
    : F.idx (rk 6) = true) (h_rk_7 : F.idx (rk 7) = true) (h : execCoastTimeout ch s = .next t) : Kept F s t := by
  have hk := Kept.refl F s
  obtain rfl := Host.Outcome.next.inj h
  simp [hk, h_rx, h_rk_5, h_rk_6, h_rk_7]

theorem execReacqTimeout_kept {F : Foot} {s t : State} (ch : Nat) (h_rx : F.rx = true) (h_rk_5 : F.idx (rk 5) = true) (h_rk_6
    : F.idx (rk 6) = true) (h_rk_7 : F.idx (rk 7) = true) (h : execReacqTimeout ch s = .next t) : Kept F s t := by
  have hk := Kept.refl F s
  obtain rfl := Host.Outcome.next.inj h
  simp [hk, h_rx, h_rk_5, h_rk_6, h_rk_7]

theorem execBlankingWindow_kept {F : Foot} {s t : State} (c : Fin 4) (share : Nat) (n : Nat) (h_rx : F.rx = true) (h_23 :
    F.grp 35) (h : execBlankingWindow c share n s = .next t) : Kept F s t := by
  have hk := Kept.refl F s
  obtain rfl := Host.Outcome.next.inj h
  simp [hk, h_rx, h_23]

theorem execDetectorEpoch_kept {F : Foot} {s t : State} (c : Fin 4) (l : List Interferer) (h_rx : F.rx = true) (h_23 : F.grp
    35) (h : execDetectorEpoch c l s = .next t) : Kept F s t := by
  have hk := Kept.refl F s
  obtain rfl := Host.Outcome.next.inj h
  simp [hk, h_rx, h_23]

theorem execJammingMeasure_kept {F : Foot} {s t : State} (c : Fin 4) (jn : Nat) (agc : Nat) (limit : Bool) (pll : Bool) (h_flt
    : F.flt = true) (h_rcd : F.rcd = true) (h_rx : F.rx = true) (h_ucp : F.ucp = true) (h_23 : F.grp 35) (h_28 : F.grp 40)
    (h_ob_11776_10 : F.idx (ob 11776 10) = true) (h_recLostCount : F.idx (recLostCount) = true) (h : execJammingMeasure c jn agc
    limit pll s = .next t) : Kept F s t := by
  have hk := Kept.refl F s
  obtain rfl := Host.Outcome.next.inj h
  simp [hk, h_flt, h_rcd, h_rx, h_ucp, h_23, h_28, h_ob_11776_10, h_recLostCount]

theorem execGnssJamRaise_kept {F : Foot} {s t : State} (c : Fin 4) (h_flt : F.flt = true) (h_rcd : F.rcd = true) (h_ucp :
    F.ucp = true) (h_28 : F.grp 40) (h_ob_11776_10 : F.idx (ob 11776 10) = true) (h_recLostCount : F.idx (recLostCount) = true) (h
    : execGnssJamRaise c s = .next t) : Kept F s t := by
  have hk := Kept.refl F s
  obtain rfl := Host.Outcome.next.inj h
  simp [hk, h_flt, h_rcd, h_ucp, h_28, h_ob_11776_10, h_recLostCount]

theorem execChainOutOfUse_kept {F : Foot} {s t : State} (c : Fin 4) (h_flt : F.flt = true) (h_rcd : F.rcd = true) (h_rx : F.rx
    = true) (h_ucp : F.ucp = true) (h_23 : F.grp 35) (h_28 : F.grp 40) (h_ob_11776_10 : F.idx (ob 11776 10) = true)
    (h_recLostCount : F.idx (recLostCount) = true) (h : execChainOutOfUse c s = .next t) : Kept F s t := by
  have hk := Kept.refl F s
  obtain rfl := Host.Outcome.next.inj h
  simp [hk, h_flt, h_rcd, h_rx, h_ucp, h_23, h_28, h_ob_11776_10, h_recLostCount]

theorem execChainBackInUse_kept {F : Foot} {s t : State} (c : Fin 4) (h_flt : F.flt = true) (h_rcd : F.rcd = true) (h_rx :
    F.rx = true) (h_ucp : F.ucp = true) (h_23 : F.grp 35) (h_28 : F.grp 40) (h_ob_11776_10 : F.idx (ob 11776 10) = true)
    (h_recLostCount : F.idx (recLostCount) = true) (h : execChainBackInUse c s = .next t) : Kept F s t := by
  have hk := Kept.refl F s
  obtain rfl := Host.Outcome.next.inj h
  simp [hk, h_flt, h_rcd, h_rx, h_ucp, h_23, h_28, h_ob_11776_10, h_recLostCount]

theorem execMultipeakCheck_kept {F : Foot} {s t : State} (ch : Nat) (second : Bool) (h_flt : F.flt = true) (h_rcd : F.rcd =
    true) (h_rx : F.rx = true) (h_ucp : F.ucp = true) (h_28 : F.grp 40) (h_ob_11776_10 : F.idx (ob 11776 10) = true)
    (h_recLostCount : F.idx (recLostCount) = true) (h_rk_37 : F.idx (rk 37) = true) (h_rk_5 : F.idx (rk 5) = true) (h_rk_6 : F.idx
    (rk 6) = true) (h_rk_7 : F.idx (rk 7) = true) (h : execMultipeakCheck ch second s = .next t) : Kept F s t := by
  have hk := Kept.refl F s
  obtain rfl := Host.Outcome.next.inj h
  simp [hk, h_flt, h_rcd, h_rx, h_ucp, h_28, h_ob_11776_10, h_recLostCount, h_rk_37, h_rk_5, h_rk_6, h_rk_7]

theorem execFalseSignalClear_kept {F : Foot} {s t : State} (ch : Nat) (h_flt : F.flt = true) (h_rcd : F.rcd = true) (h_rx :
    F.rx = true) (h_ucp : F.ucp = true) (h_28 : F.grp 40) (h_ob_11776_10 : F.idx (ob 11776 10) = true) (h_recLostCount : F.idx
    (recLostCount) = true) (h_rk_37 : F.idx (rk 37) = true) (h_rk_5 : F.idx (rk 5) = true) (h_rk_6 : F.idx (rk 6) = true) (h_rk_7
    : F.idx (rk 7) = true) (h : execFalseSignalClear ch s = .next t) : Kept F s t := by
  have hk := Kept.refl F s
  obtain rfl := Host.Outcome.next.inj h
  simp [hk, h_flt, h_rcd, h_rx, h_ucp, h_28, h_ob_11776_10, h_recLostCount, h_rk_37, h_rk_5, h_rk_6, h_rk_7]

theorem execNmeaOutput_kept {F : Foot} {s t : State} (bytes : List Byte) (h_flt : F.flt = true) (h_rcd : F.rcd = true) (h_rx :
    F.rx = true) (h_ucp : F.ucp = true) (h_28 : F.grp 40) (h_ob_11776_10 : F.idx (ob 11776 10) = true) (h_recLostCount : F.idx
    (recLostCount) = true) (h : execNmeaOutput bytes s = .next t) : Kept F s t := by
  have hk := Kept.refl F s
  obtain rfl := Host.Outcome.next.inj h
  simp [hk, h_flt, h_rcd, h_rx, h_ucp, h_28, h_ob_11776_10, h_recLostCount]

theorem execCorrectionInput_kept {F : Foot} {s t : State} (who : Who) (off : Nat) (data : List Byte) (h_img : F.img = true)
    (h_rx : F.rx = true) (h_ucp : F.ucp = true) (h_ob_12288_4 : F.idx (ob 12288 4) = true) (h_ob_4608_4 : F.idx (ob 4608 4) =
    true) (h_ob_4608_5 : F.idx (ob 4608 5) = true) (h_ob_4608_6 : F.idx (ob 4608 6) = true) (h_ob_4608_7 : F.idx (ob 4608 7) =
    true) (h_ob_4608_8 : F.idx (ob 4608 8) = true) (h_rk_40 : F.idx (rk 40) = true) (h_rk_41 : F.idx (rk 41) = true) (h_rk_42 :
    F.idx (rk 42) = true) (h_rk_43 : F.idx (rk 43) = true) (h_rk_55 : F.idx (rk 55) = true) (h : execCorrectionInput who off data
    s = .next t) : Kept F s t := by
  have hk := Kept.refl F s
  obtain rfl := Host.Outcome.next.inj h
  simp [hk, h_img, h_rx, h_ucp, h_ob_12288_4, h_ob_4608_4, h_ob_4608_5, h_ob_4608_6, h_ob_4608_7, h_ob_4608_8, h_rk_40, h_rk_41, h_rk_42, h_rk_43, h_rk_55]

theorem execCorrectionEpochPass_kept {F : Foot} {s t : State} (age : Nat) (usable : Bool) (carrier : Bool) (h_flt : F.flt =
    true) (h_nav : F.nav = true) (h_rcd : F.rcd = true) (h_rx : F.rx = true) (h_ucp : F.ucp = true) (h_28 : F.grp 40)
    (h_ob_11776_10 : F.idx (ob 11776 10) = true) (h_recLostCount : F.idx (recLostCount) = true) (h : execCorrectionEpochPass age
    usable carrier s = .next t) : Kept F s t := by
  have hk := Kept.refl F s
  obtain rfl := Host.Outcome.next.inj h
  simp [hk, h_flt, h_nav, h_rcd, h_rx, h_ucp, h_28, h_ob_11776_10, h_recLostCount]

theorem execGnssCorrTimeout_kept {F : Foot} {s t : State} (h_flt : F.flt = true) (h_rcd : F.rcd = true) (h_ucp : F.ucp = true)
    (h_28 : F.grp 40) (h_ob_11776_10 : F.idx (ob 11776 10) = true) (h_recLostCount : F.idx (recLostCount) = true) (h :
    execGnssCorrTimeout s = .next t) : Kept F s t := by
  have hk := Kept.refl F s
  obtain rfl := Host.Outcome.next.inj h
  simp [hk, h_flt, h_rcd, h_ucp, h_28, h_ob_11776_10, h_recLostCount]

theorem execBankSwap_kept {F : Foot} {s t : State} (el : Nat) (verify : List Bool) (dur : Nat) (h_flt : F.flt = true) (h_rcd :
    F.rcd = true) (h_rx : F.rx = true) (h_sp : F.sp = true) (h_timers : F.timers = true) (h_ucp : F.ucp = true) (h_28 : F.grp 40)
    (h_29 : F.grp 41) (h_ob_11776_10 : F.idx (ob 11776 10) = true) (h_recLostCount : F.idx (recLostCount) = true) (h_rk_5 : F.idx
    (rk 5) = true) (h_rk_51 : F.idx (rk 51) = true) (h_rk_6 : F.idx (rk 6) = true) (h_rk_7 : F.idx (rk 7) = true) (h :
    execBankSwap el verify dur s = .next t) : Kept F s t := by
  have hk := Kept.refl F s
  obtain rfl := Host.Outcome.next.inj h
  simp [hk, h_flt, h_rcd, h_rx, h_sp, h_timers, h_ucp, h_28, h_29, h_ob_11776_10, h_recLostCount, h_rk_5, h_rk_51, h_rk_6, h_rk_7]

theorem execReceiverDataStore_kept {F : Foot} {s t : State} (mask : Nat) (sats : List Nat) (h_rx : F.rx = true) (h_rk_54 :
    F.idx (rk 54) = true) (h : execReceiverDataStore mask sats s = .next t) : Kept F s t := by
  have hk := Kept.refl F s
  obtain rfl := Host.Outcome.next.inj h
  simp [hk, h_rx, h_rk_54]

theorem execReceiverHotStart_kept {F : Foot} {s t : State} (who : Who) (directed : List SvSig) (known : Nat) (near : Bool)
    (h_img : F.img = true) (h_rx : F.rx = true) (h_ucp : F.ucp = true) (h_23 : F.grp 35) (h_ob_12288_4 : F.idx (ob 12288 4) =
    true) (h_ob_4608_4 : F.idx (ob 4608 4) = true) (h_ob_4608_5 : F.idx (ob 4608 5) = true) (h_ob_4608_6 : F.idx (ob 4608 6) =
    true) (h_ob_4608_7 : F.idx (ob 4608 7) = true) (h_ob_4608_8 : F.idx (ob 4608 8) = true) (h : execReceiverHotStart who directed
    known near s = .next t) : Kept F s t := by
  have hk := Kept.refl F s
  obtain rfl := Host.Outcome.next.inj h
  simp [hk, h_img, h_rx, h_ucp, h_23, h_ob_12288_4, h_ob_4608_4, h_ob_4608_5, h_ob_4608_6, h_ob_4608_7, h_ob_4608_8]

theorem execReceiverStartNoEph_kept {F : Foot} {s t : State} (who : Who) (directed : List SvSig) (known : Nat) (h_img : F.img
    = true) (h_rx : F.rx = true) (h_ucp : F.ucp = true) (h_23 : F.grp 35) (h_ob_12288_4 : F.idx (ob 12288 4) = true) (h_ob_4608_4
    : F.idx (ob 4608 4) = true) (h_ob_4608_5 : F.idx (ob 4608 5) = true) (h_ob_4608_6 : F.idx (ob 4608 6) = true) (h_ob_4608_7 :
    F.idx (ob 4608 7) = true) (h_ob_4608_8 : F.idx (ob 4608 8) = true) (h : execReceiverStartNoEph who directed known s = .next t)
    : Kept F s t := by
  have hk := Kept.refl F s
  obtain rfl := Host.Outcome.next.inj h
  simp [hk, h_img, h_rx, h_ucp, h_23, h_ob_12288_4, h_ob_4608_4, h_ob_4608_5, h_ob_4608_6, h_ob_4608_7, h_ob_4608_8]

theorem execReceiverColdStart_kept {F : Foot} {s t : State} (who : Who) (h_img : F.img = true) (h_rx : F.rx = true) (h_ucp :
    F.ucp = true) (h_23 : F.grp 35) (h_ob_12288_4 : F.idx (ob 12288 4) = true) (h_ob_4608_4 : F.idx (ob 4608 4) = true)
    (h_ob_4608_5 : F.idx (ob 4608 5) = true) (h_ob_4608_6 : F.idx (ob 4608 6) = true) (h_ob_4608_7 : F.idx (ob 4608 7) = true)
    (h_ob_4608_8 : F.idx (ob 4608 8) = true) (h : execReceiverColdStart who s = .next t) : Kept F s t := by
  have hk := Kept.refl F s
  obtain rfl := Host.Outcome.next.inj h
  simp [hk, h_img, h_rx, h_ucp, h_23, h_ob_12288_4, h_ob_4608_4, h_ob_4608_5, h_ob_4608_6, h_ob_4608_7, h_ob_4608_8]

theorem execAidingSetIssue_kept {F : Foot} {s t : State} (sets : List AidSet) (h_flt : F.flt = true) (h_rcd : F.rcd = true)
    (h_rx : F.rx = true) (h_ucp : F.ucp = true) (h_28 : F.grp 40) (h_ob_11776_10 : F.idx (ob 11776 10) = true) (h_recLostCount :
    F.idx (recLostCount) = true) (h_rk_5 : F.idx (rk 5) = true) (h_rk_6 : F.idx (rk 6) = true) (h_rk_7 : F.idx (rk 7) = true) (h :
    execAidingSetIssue sets s = .next t) : Kept F s t := by
  have hk := Kept.refl F s
  obtain rfl := Host.Outcome.next.inj h
  simp [hk, h_flt, h_rcd, h_rx, h_ucp, h_28, h_ob_11776_10, h_recLostCount, h_rk_5, h_rk_6, h_rk_7]

theorem execFuseStep_kept {F : Foot} {s t : State} (est : NavEst) (gnss : Option GnssMeas) (tests : List (Nat × F32)) (late :
    List LateSample) (h_flt : F.flt = true) (h_img : F.img = true) (h_nav : F.nav = true) (h_rcd : F.rcd = true) (h_rx : F.rx =
    true) (h_ucp : F.ucp = true) (h_24 : F.grp 36) (h_28 : F.grp 40) (h_ob_11776_10 : F.idx (ob 11776 10) = true) (h_recLostCount
    : F.idx (recLostCount) = true) (h_rk_37 : F.idx (rk 37) = true) (h_rk_5 : F.idx (rk 5) = true) (h_rk_6 : F.idx (rk 6) = true)
    (h_rk_7 : F.idx (rk 7) = true) (h : execFuseStep est gnss tests late s = .next t) : Kept F s t := by
  have hk := Kept.refl F s
  obtain rfl := Host.Outcome.next.inj h
  simp [hk, h_flt, h_img, h_nav, h_rcd, h_rx, h_ucp, h_24, h_28, h_ob_11776_10, h_recLostCount, h_rk_37, h_rk_5, h_rk_6, h_rk_7]

theorem execNavSolutionIssue_kept {F : Foot} {s t : State} (h_nav : F.nav = true) (h_nk_32 : F.idx (nk 32) = true) (h_nk_34 :
    F.idx (nk 34) = true) (h_nk_39 : F.idx (nk 39) = true) (h : execNavSolutionIssue s = .next t) : Kept F s t := by
  have hk := Kept.refl F s
  obtain rfl := Host.Outcome.next.inj h
  simp [hk, h_nav, h_nk_32, h_nk_34, h_nk_39]

theorem execImuSample_kept {F : Foot} {s t : State} (l : List ImuSample) (h_nav : F.nav = true) (h_24 : F.grp 36) (h :
    execImuSample l s = .next t) : Kept F s t := by
  have hk := Kept.refl F s
  obtain rfl := Host.Outcome.next.inj h
  simp [hk, h_nav, h_24]

theorem execImuExclude_kept {F : Foot} {s t : State} (n : Fin 4) (h_flt : F.flt = true) (h_nav : F.nav = true) (h_rcd : F.rcd
    = true) (h_sp : F.sp = true) (h_ucp : F.ucp = true) (h_24 : F.grp 36) (h_28 : F.grp 40) (h_29 : F.grp 41) (h_ob_11776_10 :
    F.idx (ob 11776 10) = true) (h_recLostCount : F.idx (recLostCount) = true) (h : execImuExclude n s = .next t) : Kept F s t :=
    by
  have hk := Kept.refl F s
  obtain rfl := Host.Outcome.next.inj h
  simp [hk, h_flt, h_nav, h_rcd, h_sp, h_ucp, h_24, h_28, h_29, h_ob_11776_10, h_recLostCount]

theorem execImuSwap_kept {F : Foot} {s t : State} (n : Fin 4) (verify : List Bool) (dur : Nat) (h_flt : F.flt = true) (h_rcd :
    F.rcd = true) (h_sp : F.sp = true) (h_timers : F.timers = true) (h_ucp : F.ucp = true) (h_24 : F.grp 36) (h_28 : F.grp 40)
    (h_29 : F.grp 41) (h_ob_11776_10 : F.idx (ob 11776 10) = true) (h_recLostCount : F.idx (recLostCount) = true) (h : execImuSwap
    n verify dur s = .next t) : Kept F s t := by
  have hk := Kept.refl F s
  obtain rfl := Host.Outcome.next.inj h
  simp [hk, h_flt, h_rcd, h_sp, h_timers, h_ucp, h_24, h_28, h_29, h_ob_11776_10, h_recLostCount]

theorem execInertialVoteLost_kept {F : Foot} {s t : State} (h_flt : F.flt = true) (h_nav : F.nav = true) (h_rcd : F.rcd =
    true) (h_ucp : F.ucp = true) (h_28 : F.grp 40) (h_ob_11776_10 : F.idx (ob 11776 10) = true) (h_recLostCount : F.idx
    (recLostCount) = true) (h : execInertialVoteLost s = .next t) : Kept F s t := by
  have hk := Kept.refl F s
  obtain rfl := Host.Outcome.next.inj h
  simp [hk, h_flt, h_nav, h_rcd, h_ucp, h_28, h_ob_11776_10, h_recLostCount]

theorem execInertialRestore_kept {F : Foot} {s t : State} (h_flt : F.flt = true) (h_nav : F.nav = true) (h_rcd : F.rcd = true)
    (h_ucp : F.ucp = true) (h_28 : F.grp 40) (h_ob_11776_10 : F.idx (ob 11776 10) = true) (h_recLostCount : F.idx (recLostCount) =
    true) (h : execInertialRestore s = .next t) : Kept F s t := by
  have hk := Kept.refl F s
  obtain rfl := Host.Outcome.next.inj h
  simp [hk, h_flt, h_nav, h_rcd, h_ucp, h_28, h_ob_11776_10, h_recLostCount]

theorem execImuReadmit_kept {F : Foot} {s t : State} (n : Fin 4) (h_flt : F.flt = true) (h_rcd : F.rcd = true) (h_sp : F.sp =
    true) (h_ucp : F.ucp = true) (h_24 : F.grp 36) (h_28 : F.grp 40) (h_29 : F.grp 41) (h_ob_11776_10 : F.idx (ob 11776 10) =
    true) (h_recLostCount : F.idx (recLostCount) = true) (h : execImuReadmit n s = .next t) : Kept F s t := by
  have hk := Kept.refl F s
  obtain rfl := Host.Outcome.next.inj h
  simp [hk, h_flt, h_rcd, h_sp, h_ucp, h_24, h_28, h_29, h_ob_11776_10, h_recLostCount]

theorem execSpeedContradiction_kept {F : Foot} {s t : State} (h_flt : F.flt = true) (h_nav : F.nav = true) (h_rcd : F.rcd =
    true) (h_ucp : F.ucp = true) (h_24 : F.grp 36) (h_28 : F.grp 40) (h_ob_11776_10 : F.idx (ob 11776 10) = true) (h_recLostCount
    : F.idx (recLostCount) = true) (h : execSpeedContradiction s = .next t) : Kept F s t := by
  have hk := Kept.refl F s
  obtain rfl := Host.Outcome.next.inj h
  simp [hk, h_flt, h_nav, h_rcd, h_ucp, h_24, h_28, h_ob_11776_10, h_recLostCount]

theorem execSpeedSourceReadmit_kept {F : Foot} {s t : State} (a : Fin 7) (h_flt : F.flt = true) (h_nav : F.nav = true) (h_rcd
    : F.rcd = true) (h_ucp : F.ucp = true) (h_24 : F.grp 36) (h_28 : F.grp 40) (h_ob_11776_10 : F.idx (ob 11776 10) = true)
    (h_recLostCount : F.idx (recLostCount) = true) (h : execSpeedSourceReadmit a s = .next t) : Kept F s t := by
  have hk := Kept.refl F s
  obtain rfl := Host.Outcome.next.inj h
  simp [hk, h_flt, h_nav, h_rcd, h_ucp, h_24, h_28, h_ob_11776_10, h_recLostCount]

theorem execWheelNoEdge_kept {F : Foot} {s t : State} (k : Fin 4) (h_flt : F.flt = true) (h_nav : F.nav = true) (h_rcd : F.rcd
    = true) (h_ucp : F.ucp = true) (h_24 : F.grp 36) (h_28 : F.grp 40) (h_ob_11776_10 : F.idx (ob 11776 10) = true)
    (h_recLostCount : F.idx (recLostCount) = true) (h : execWheelNoEdge k s = .next t) : Kept F s t := by
  have hk := Kept.refl F s
  obtain rfl := Host.Outcome.next.inj h
  simp [hk, h_flt, h_nav, h_rcd, h_ucp, h_24, h_28, h_ob_11776_10, h_recLostCount]

theorem execZeroVelocityUpdate_kept {F : Foot} {s t : State} (h_nav : F.nav = true) (h : execZeroVelocityUpdate s = .next t) :
    Kept F s t := by
  have hk := Kept.refl F s
  obtain rfl := Host.Outcome.next.inj h
  simp [hk, h_nav]

theorem execChannelReadmit_kept {F : Foot} {s t : State} (ch : Nat) (h_rx : F.rx = true) (h_rk_5 : F.idx (rk 5) = true)
    (h_rk_6 : F.idx (rk 6) = true) (h_rk_7 : F.idx (rk 7) = true) (h : execChannelReadmit ch s = .next t) : Kept F s t := by
  have hk := Kept.refl F s
  obtain rfl := Host.Outcome.next.inj h
  simp [hk, h_rx, h_rk_5, h_rk_6, h_rk_7]

theorem execRtkCorrectionEpoch_kept {F : Foot} {s t : State} (held : Bool) (ratio : F32) (sats : Nat) (near : Bool) (h_nav :
    F.nav = true) (h_nk_32 : F.idx (nk 32) = true) (h_nk_37 : F.idx (nk 37) = true) (h : execRtkCorrectionEpoch held ratio sats
    near s = .next t) : Kept F s t := by
  have hk := Kept.refl F s
  obtain rfl := Host.Outcome.next.inj h
  simp [hk, h_nav, h_nk_32, h_nk_37]

theorem execNavHeadingRaise_kept {F : Foot} {s t : State} (h_flt : F.flt = true) (h_rcd : F.rcd = true) (h_ucp : F.ucp = true)
    (h_28 : F.grp 40) (h_ob_11776_10 : F.idx (ob 11776 10) = true) (h_recLostCount : F.idx (recLostCount) = true) (h :
    execNavHeadingRaise s = .next t) : Kept F s t := by
  have hk := Kept.refl F s
  obtain rfl := Host.Outcome.next.inj h
  simp [hk, h_flt, h_rcd, h_ucp, h_28, h_ob_11776_10, h_recLostCount]

theorem execLineBiasStore_kept {F : Foot} {s t : State} (l1 : F32) (l5 : F32) (h_nk_28 : F.idx (nk 28) = true) (h_nk_29 :
    F.idx (nk 29) = true) (h_nk_30 : F.idx (nk 30) = true) (h : execLineBiasStore l1 l5 s = .next t) : Kept F s t := by
  have hk := Kept.refl F s
  obtain rfl := Host.Outcome.next.inj h
  simp [hk, h_nk_28, h_nk_29, h_nk_30]

theorem execLineBiasReset_kept {F : Foot} {s t : State} (who : Who) (h_img : F.img = true) (h_nav : F.nav = true) (h_ucp :
    F.ucp = true) (h_nk_28 : F.idx (nk 28) = true) (h_nk_29 : F.idx (nk 29) = true) (h_nk_30 : F.idx (nk 30) = true) (h_ob_12288_4
    : F.idx (ob 12288 4) = true) (h_ob_4608_4 : F.idx (ob 4608 4) = true) (h_ob_4608_5 : F.idx (ob 4608 5) = true) (h_ob_4608_6 :
    F.idx (ob 4608 6) = true) (h_ob_4608_7 : F.idx (ob 4608 7) = true) (h_ob_4608_8 : F.idx (ob 4608 8) = true) (h :
    execLineBiasReset who s = .next t) : Kept F s t := by
  have hk := Kept.refl F s
  obtain rfl := Host.Outcome.next.inj h
  simp [hk, h_img, h_nav, h_ucp, h_nk_28, h_nk_29, h_nk_30, h_ob_12288_4, h_ob_4608_4, h_ob_4608_5, h_ob_4608_6, h_ob_4608_7, h_ob_4608_8]

theorem execAlignLevel_kept {F : Foot} {s t : State} (h_nk_40 : F.idx (nk 40) = true) (h : execAlignLevel s = .next t) : Kept
    F s t := by
  have hk := Kept.refl F s
  obtain rfl := Host.Outcome.next.inj h
  simp [hk, h_nk_40]

theorem execAlignHeading_kept {F : Foot} {s t : State} (h_nk_32 : F.idx (nk 32) = true) (h_nk_40 : F.idx (nk 40) = true) (h :
    execAlignHeading s = .next t) : Kept F s t := by
  have hk := Kept.refl F s
  obtain rfl := Host.Outcome.next.inj h
  simp [hk, h_nk_32, h_nk_40]

theorem execRepropagationDone_kept {F : Foot} {s t : State} (h_nav : F.nav = true) (h_nk_35 : F.idx (nk 35) = true) (h :
    execRepropagationDone s = .next t) : Kept F s t := by
  have hk := Kept.refl F s
  obtain rfl := Host.Outcome.next.inj h
  simp [hk, h_nav, h_nk_35]

theorem execLateEvaluation_kept {F : Foot} {s t : State} (h_flt : F.flt = true) (h_nav : F.nav = true) (h_rcd : F.rcd = true)
    (h_ucp : F.ucp = true) (h_24 : F.grp 36) (h_28 : F.grp 40) (h_ob_11776_10 : F.idx (ob 11776 10) = true) (h_recLostCount :
    F.idx (recLostCount) = true) (h : execLateEvaluation s = .next t) : Kept F s t := by
  have hk := Kept.refl F s
  obtain rfl := Host.Outcome.next.inj h
  simp [hk, h_flt, h_nav, h_rcd, h_ucp, h_24, h_28, h_ob_11776_10, h_recLostCount]

theorem execDeadReckoningEntry_kept {F : Foot} {s t : State} (h_nav : F.nav = true) (h_nk_32 : F.idx (nk 32) = true) (h :
    execDeadReckoningEntry s = .next t) : Kept F s t := by
  have hk := Kept.refl F s
  obtain rfl := Host.Outcome.next.inj h
  simp [hk, h_nav, h_nk_32]

theorem execDeadReckoningLimit_kept {F : Foot} {s t : State} (h_flt : F.flt = true) (h_nav : F.nav = true) (h_rcd : F.rcd =
    true) (h_ucp : F.ucp = true) (h_28 : F.grp 40) (h_nk_32 : F.idx (nk 32) = true) (h_ob_11776_10 : F.idx (ob 11776 10) = true)
    (h_recLostCount : F.idx (recLostCount) = true) (h : execDeadReckoningLimit s = .next t) : Kept F s t := by
  have hk := Kept.refl F s
  obtain rfl := Host.Outcome.next.inj h
  simp [hk, h_flt, h_nav, h_rcd, h_ucp, h_28, h_nk_32, h_ob_11776_10, h_recLostCount]

theorem execInertialOnlyLimit_kept {F : Foot} {s t : State} (h_nav : F.nav = true) (h_nk_33 : F.idx (nk 33) = true) (h :
    execInertialOnlyLimit s = .next t) : Kept F s t := by
  have hk := Kept.refl F s
  obtain rfl := Host.Outcome.next.inj h
  simp [hk, h_nav, h_nk_33]

theorem execExternalSpeedSample_kept {F : Foot} {s t : State} (who : Who) (j : Fin 2) (mt : Nat) (h_img : F.img = true) (h_nav
    : F.nav = true) (h_ucp : F.ucp = true) (h_24 : F.grp 36) (h_ob_12288_4 : F.idx (ob 12288 4) = true) (h_ob_4608_4 : F.idx (ob
    4608 4) = true) (h_ob_4608_5 : F.idx (ob 4608 5) = true) (h_ob_4608_6 : F.idx (ob 4608 6) = true) (h_ob_4608_7 : F.idx (ob
    4608 7) = true) (h_ob_4608_8 : F.idx (ob 4608 8) = true) (h : execExternalSpeedSample who j mt s = .next t) : Kept F s t := by
  have hk := Kept.refl F s
  obtain rfl := Host.Outcome.next.inj h
  simp [hk, h_img, h_nav, h_ucp, h_24, h_ob_12288_4, h_ob_4608_4, h_ob_4608_5, h_ob_4608_6, h_ob_4608_7, h_ob_4608_8]

theorem execMeasurementEpoch_kept {F : Foot} {s t : State} (l : List Meas) (aoa : List Nat) (h : Option HeadingRes) (h_flt :
    F.flt = true) (h_nav : F.nav = true) (h_rcd : F.rcd = true) (h_rx : F.rx = true) (h_ucp : F.ucp = true) (h_28 : F.grp 40)
    (h_nk_30 : F.idx (nk 30) = true) (h_ob_11776_10 : F.idx (ob 11776 10) = true) (h_recLostCount : F.idx (recLostCount) = true)
    (h_rk_37 : F.idx (rk 37) = true) (h_rk_45 : F.idx (rk 45) = true) (h_rk_5 : F.idx (rk 5) = true) (h_rk_6 : F.idx (rk 6) =
    true) (h_rk_7 : F.idx (rk 7) = true) (h : execMeasurementEpoch l aoa h s = .next t) : Kept F s t := by
  have hk := Kept.refl F s
  obtain rfl := Host.Outcome.next.inj h
  simp [hk, h_flt, h_nav, h_rcd, h_rx, h_ucp, h_28, h_nk_30, h_ob_11776_10, h_recLostCount, h_rk_37, h_rk_45, h_rk_5, h_rk_6, h_rk_7]

theorem execHeadingFixTimeout_kept {F : Foot} {s t : State} (h_nav : F.nav = true) (h : execHeadingFixTimeout s = .next t) :
    Kept F s t := by
  have hk := Kept.refl F s
  obtain rfl := Host.Outcome.next.inj h
  simp [hk, h_nav]

theorem execAmbiguityDiscard_kept {F : Foot} {s t : State} (h_nav : F.nav = true) (h_nk_32 : F.idx (nk 32) = true) (h :
    execAmbiguityDiscard s = .next t) : Kept F s t := by
  have hk := Kept.refl F s
  obtain rfl := Host.Outcome.next.inj h
  simp [hk, h_nav, h_nk_32]

theorem execCrop_kept {F : Foot} {s t : State} (h_crop : F.crop = true) (h_flt : F.flt = true) (h_free : F.free = true) (h_rcd
    : F.rcd = true) (h_ucp : F.ucp = true) (h_22 : F.grp 34) (h_28 : F.grp 40) (h_ob_11776_10 : F.idx (ob 11776 10) = true)
    (h_recLostCount : F.idx (recLostCount) = true) (h : execCrop s = .next t) : Kept F s t := by
  have hk := Kept.refl F s
  obtain rfl := Host.Outcome.next.inj h
  simp [hk, h_crop, h_flt, h_free, h_rcd, h_ucp, h_22, h_28, h_ob_11776_10, h_recLostCount]

theorem execLossSensorQuiet_kept {F : Foot} {s t : State} (k : Fin 8) (h_flt : F.flt = true) (h_rcd : F.rcd = true) (h_ucp :
    F.ucp = true) (h_22 : F.grp 34) (h_28 : F.grp 40) (h_ob_11776_10 : F.idx (ob 11776 10) = true) (h_recLostCount : F.idx
    (recLostCount) = true) (h : execLossSensorQuiet k s = .next t) : Kept F s t := by
  have hk := Kept.refl F s
  obtain rfl := Host.Outcome.next.inj h
  simp [hk, h_flt, h_rcd, h_ucp, h_22, h_28, h_ob_11776_10, h_recLostCount]

theorem execLossSensorNoisy_kept {F : Foot} {s t : State} (k : Fin 8) (h_flt : F.flt = true) (h_rcd : F.rcd = true) (h_ucp :
    F.ucp = true) (h_22 : F.grp 34) (h_28 : F.grp 40) (h_ob_11776_10 : F.idx (ob 11776 10) = true) (h_recLostCount : F.idx
    (recLostCount) = true) (h : execLossSensorNoisy k s = .next t) : Kept F s t := by
  have hk := Kept.refl F s
  obtain rfl := Host.Outcome.next.inj h
  simp [hk, h_flt, h_rcd, h_ucp, h_22, h_28, h_ob_11776_10, h_recLostCount]

theorem execLossSensorClear_kept {F : Foot} {s t : State} (k : Fin 8) (noisy : Bool) (h_flt : F.flt = true) (h_rcd : F.rcd =
    true) (h_ucp : F.ucp = true) (h_22 : F.grp 34) (h_28 : F.grp 40) (h_ob_11776_10 : F.idx (ob 11776 10) = true) (h_recLostCount
    : F.idx (recLostCount) = true) (h : execLossSensorClear k noisy s = .next t) : Kept F s t := by
  have hk := Kept.refl F s
  obtain rfl := Host.Outcome.next.inj h
  simp [hk, h_flt, h_rcd, h_ucp, h_22, h_28, h_ob_11776_10, h_recLostCount]

theorem execCropFlowTimeout_kept {F : Foot} {s t : State} (h_flt : F.flt = true) (h_rcd : F.rcd = true) (h_ucp : F.ucp = true)
    (h_28 : F.grp 40) (h_ob_11776_10 : F.idx (ob 11776 10) = true) (h_recLostCount : F.idx (recLostCount) = true) (h :
    execCropFlowTimeout s = .next t) : Kept F s t := by
  have hk := Kept.refl F s
  obtain rfl := Host.Outcome.next.inj h
  simp [hk, h_flt, h_rcd, h_ucp, h_28, h_ob_11776_10, h_recLostCount]

theorem execMoistTimeout_kept {F : Foot} {s t : State} (h_flt : F.flt = true) (h_rcd : F.rcd = true) (h_ucp : F.ucp = true)
    (h_28 : F.grp 40) (h_hk_43 : F.idx (hk 43) = true) (h_ob_11776_10 : F.idx (ob 11776 10) = true) (h_recLostCount : F.idx
    (recLostCount) = true) (h : execMoistTimeout s = .next t) : Kept F s t := by
  have hk := Kept.refl F s
  obtain rfl := Host.Outcome.next.inj h
  simp [hk, h_flt, h_rcd, h_ucp, h_28, h_hk_43, h_ob_11776_10, h_recLostCount]

theorem execZeroRequest_kept {F : Foot} {s t : State} (who : Who) (h_crop : F.crop = true) (h_img : F.img = true) (h_ucp :
    F.ucp = true) (h_hk_11 : F.idx (hk 11) = true) (h_hk_43 : F.idx (hk 43) = true) (h_ob_12288_4 : F.idx (ob 12288 4) = true)
    (h_ob_4608_4 : F.idx (ob 4608 4) = true) (h_ob_4608_5 : F.idx (ob 4608 5) = true) (h_ob_4608_6 : F.idx (ob 4608 6) = true)
    (h_ob_4608_7 : F.idx (ob 4608 7) = true) (h_ob_4608_8 : F.idx (ob 4608 8) = true) (h : execZeroRequest who s = .next t) : Kept
    F s t := by
  have hk := Kept.refl F s
  obtain rfl := Host.Outcome.next.inj h
  simp [hk, h_crop, h_img, h_ucp, h_hk_11, h_hk_43, h_ob_12288_4, h_ob_4608_4, h_ob_4608_5, h_ob_4608_6, h_ob_4608_7, h_ob_4608_8]

theorem execZeroDone_kept {F : Foot} {s t : State} (h_hk_11 : F.idx (hk 11) = true) (h_hk_43 : F.idx (hk 43) = true) (h_hk_9 :
    F.idx (hk 9) = true) (h : execZeroDone s = .next t) : Kept F s t := by
  have hk := Kept.refl F s
  obtain rfl := Host.Outcome.next.inj h
  simp [hk, h_hk_11, h_hk_43, h_hk_9]

theorem execRecordClose_kept {F : Foot} {s t : State} (h_crop : F.crop = true) (h_flt : F.flt = true) (h_free : F.free = true)
    (h_rcd : F.rcd = true) (h_ucp : F.ucp = true) (h_28 : F.grp 40) (h_hk_35 : F.idx (hk 35) = true) (h_hk_36 : F.idx (hk 36) =
    true) (h_hk_38 : F.idx (hk 38) = true) (h_hk_39 : F.idx (hk 39) = true) (h_hk_40 : F.idx (hk 40) = true) (h_hk_43 : F.idx (hk
    43) = true) (h_hk_44 : F.idx (hk 44) = true) (h_ob_11776_10 : F.idx (ob 11776 10) = true) (h_recLostCount : F.idx
    (recLostCount) = true) (h : execRecordClose s = .next t) : Kept F s t := by
  have hk := Kept.refl F s
  obtain rfl := Host.Outcome.next.inj h
  simp [hk, h_crop, h_flt, h_free, h_rcd, h_ucp, h_28, h_hk_35, h_hk_36, h_hk_38, h_hk_39, h_hk_40, h_hk_43, h_hk_44, h_ob_11776_10, h_recLostCount]

theorem execBufferClear_kept {F : Foot} {s t : State} (who : Who) (h_flt : F.flt = true) (h_img : F.img = true) (h_rcd : F.rcd
    = true) (h_ucp : F.ucp = true) (h_28 : F.grp 40) (h_hk_43 : F.idx (hk 43) = true) (h_hk_44 : F.idx (hk 44) = true)
    (h_ob_11776_10 : F.idx (ob 11776 10) = true) (h_ob_12288_4 : F.idx (ob 12288 4) = true) (h_ob_4608_4 : F.idx (ob 4608 4) =
    true) (h_ob_4608_5 : F.idx (ob 4608 5) = true) (h_ob_4608_6 : F.idx (ob 4608 6) = true) (h_ob_4608_7 : F.idx (ob 4608 7) =
    true) (h_ob_4608_8 : F.idx (ob 4608 8) = true) (h_recLostCount : F.idx (recLostCount) = true) (h : execBufferClear who s =
    .next t) : Kept F s t := by
  have hk := Kept.refl F s
  obtain rfl := Host.Outcome.next.inj h
  simp [hk, h_flt, h_img, h_rcd, h_ucp, h_28, h_hk_43, h_hk_44, h_ob_11776_10, h_ob_12288_4, h_ob_4608_4, h_ob_4608_5, h_ob_4608_6, h_ob_4608_7, h_ob_4608_8, h_recLostCount]

theorem execTotalsReset_kept {F : Foot} {s t : State} (who : Who) (h_crop : F.crop = true) (h_img : F.img = true) (h_ucp :
    F.ucp = true) (h_hk_38 : F.idx (hk 38) = true) (h_hk_39 : F.idx (hk 39) = true) (h_hk_40 : F.idx (hk 40) = true) (h_ob_12288_4
    : F.idx (ob 12288 4) = true) (h_ob_4608_4 : F.idx (ob 4608 4) = true) (h_ob_4608_5 : F.idx (ob 4608 5) = true) (h_ob_4608_6 :
    F.idx (ob 4608 6) = true) (h_ob_4608_7 : F.idx (ob 4608 7) = true) (h_ob_4608_8 : F.idx (ob 4608 8) = true) (h :
    execTotalsReset who s = .next t) : Kept F s t := by
  have hk := Kept.refl F s
  obtain rfl := Host.Outcome.next.inj h
  simp [hk, h_crop, h_img, h_ucp, h_hk_38, h_hk_39, h_hk_40, h_ob_12288_4, h_ob_4608_4, h_ob_4608_5, h_ob_4608_6, h_ob_4608_7, h_ob_4608_8]

theorem execControl_kept {F : Foot} {s t : State} (upsets : List (Nat × Nat)) (h_flt : F.flt = true) (h_lark : F.lark = true)
    (h_rcd : F.rcd = true) (h_snap : F.snap = true) (h_sp : F.sp = true) (h_timers : F.timers = true) (h_ucp : F.ucp = true) (h_25
    : F.grp 37) (h_28 : F.grp 40) (h_29 : F.grp 41) (h_ob_11776_10 : F.idx (ob 11776 10) = true) (h_ob_4608_4 : F.idx (ob 4608 4)
    = true) (h_ob_4608_5 : F.idx (ob 4608 5) = true) (h_ob_4608_6 : F.idx (ob 4608 6) = true) (h_ob_4608_7 : F.idx (ob 4608 7) =
    true) (h_ob_4608_8 : F.idx (ob 4608 8) = true) (h_ob_4864_7 : F.idx (ob 4864 7) = true) (h_ob_4864_8 : F.idx (ob 4864 8) =
    true) (h_recLostCount : F.idx (recLostCount) = true) (h : execControl upsets s = .next t) : Kept F s t := by
  have hk := Kept.refl F s
  obtain rfl := Host.Outcome.next.inj h
  simp [hk, h_flt, h_lark, h_rcd, h_snap, h_sp, h_timers, h_ucp, h_25, h_28, h_29, h_ob_11776_10, h_ob_4608_4, h_ob_4608_5, h_ob_4608_6, h_ob_4608_7, h_ob_4608_8, h_ob_4864_7, h_ob_4864_8, h_recLostCount]

theorem execSlotCmdClose_kept {F : Foot} {s t : State} (who : Who) (n : Fin 96) (h_img : F.img = true) (h_lark : F.lark =
    true) (h_ucp : F.ucp = true) (h_sk31 : ∀ p, F.idx (sk p 31) = true) (h_ob_12288_4 : F.idx (ob 12288 4) = true) (h_ob_4608_4 :
    F.idx (ob 4608 4) = true) (h_ob_4608_5 : F.idx (ob 4608 5) = true) (h_ob_4608_6 : F.idx (ob 4608 6) = true) (h_ob_4608_7 :
    F.idx (ob 4608 7) = true) (h_ob_4608_8 : F.idx (ob 4608 8) = true) (h : execSlotCmdClose who n s = .next t) : Kept F s t := by
  have hk := Kept.refl F s
  obtain rfl := Host.Outcome.next.inj h
  simp [hk, h_img, h_lark, h_ucp, h_sk31, h_ob_12288_4, h_ob_4608_4, h_ob_4608_5, h_ob_4608_6, h_ob_4608_7, h_ob_4608_8]

theorem execSlotCmdOpen_kept {F : Foot} {s t : State} (who : Who) (n : Fin 96) (h_img : F.img = true) (h_lark : F.lark = true)
    (h_ucp : F.ucp = true) (h_sk31 : ∀ p, F.idx (sk p 31) = true) (h_ob_12288_4 : F.idx (ob 12288 4) = true) (h_ob_4608_4 : F.idx
    (ob 4608 4) = true) (h_ob_4608_5 : F.idx (ob 4608 5) = true) (h_ob_4608_6 : F.idx (ob 4608 6) = true) (h_ob_4608_7 : F.idx (ob
    4608 7) = true) (h_ob_4608_8 : F.idx (ob 4608 8) = true) (h : execSlotCmdOpen who n s = .next t) : Kept F s t := by
  have hk := Kept.refl F s
  obtain rfl := Host.Outcome.next.inj h
  simp [hk, h_img, h_lark, h_ucp, h_sk31, h_ob_12288_4, h_ob_4608_4, h_ob_4608_5, h_ob_4608_6, h_ob_4608_7, h_ob_4608_8]

theorem execSlotCmdHold_kept {F : Foot} {s t : State} (who : Who) (n : Fin 96) (h_img : F.img = true) (h_lark : F.lark = true)
    (h_ucp : F.ucp = true) (h_sk31 : ∀ p, F.idx (sk p 31) = true) (h_ob_12288_4 : F.idx (ob 12288 4) = true) (h_ob_4608_4 : F.idx
    (ob 4608 4) = true) (h_ob_4608_5 : F.idx (ob 4608 5) = true) (h_ob_4608_6 : F.idx (ob 4608 6) = true) (h_ob_4608_7 : F.idx (ob
    4608 7) = true) (h_ob_4608_8 : F.idx (ob 4608 8) = true) (h : execSlotCmdHold who n s = .next t) : Kept F s t := by
  have hk := Kept.refl F s
  obtain rfl := Host.Outcome.next.inj h
  simp [hk, h_img, h_lark, h_ucp, h_sk31, h_ob_12288_4, h_ob_4608_4, h_ob_4608_5, h_ob_4608_6, h_ob_4608_7, h_ob_4608_8]

theorem execBankSelect_kept {F : Foot} {s t : State} (who : Who) (n : Fin 96) (b : Nat) (h_img : F.img = true) (h_lark :
    F.lark = true) (h_ucp : F.ucp = true) (h_sk25 : ∀ p, F.idx (sk p 25) = true) (h_ob_12288_4 : F.idx (ob 12288 4) = true)
    (h_ob_4608_4 : F.idx (ob 4608 4) = true) (h_ob_4608_5 : F.idx (ob 4608 5) = true) (h_ob_4608_6 : F.idx (ob 4608 6) = true)
    (h_ob_4608_7 : F.idx (ob 4608 7) = true) (h_ob_4608_8 : F.idx (ob 4608 8) = true) (h : execBankSelect who n b s = .next t) :
    Kept F s t := by
  have hk := Kept.refl F s
  obtain rfl := Host.Outcome.next.inj h
  simp [hk, h_img, h_lark, h_ucp, h_sk25, h_ob_12288_4, h_ob_4608_4, h_ob_4608_5, h_ob_4608_6, h_ob_4608_7, h_ob_4608_8]

theorem execLaneSelftestDone_kept {F : Foot} {s t : State} (lane : Fin 4) (pass : Bool) (h_flt : F.flt = true) (h_rcd : F.rcd
    = true) (h_sp : F.sp = true) (h_timers : F.timers = true) (h_ucp : F.ucp = true) (h_28 : F.grp 40) (h_29 : F.grp 41)
    (h_ob_11776_10 : F.idx (ob 11776 10) = true) (h_ob_9568_2 : F.idx (ob 9568 2) = true) (h_recLostCount : F.idx (recLostCount) =
    true) (h : execLaneSelftestDone lane pass s = .next t) : Kept F s t := by
  have hk := Kept.refl F s
  obtain rfl := Host.Outcome.next.inj h
  simp [hk, h_flt, h_rcd, h_sp, h_timers, h_ucp, h_28, h_29, h_ob_11776_10, h_ob_9568_2, h_recLostCount]

theorem execScale_kept {F : Foot} {s t : State} (blk : List ChBlock) (mon : List SupMon) (sense : List SenseBlk) (h_flt :
    F.flt = true) (h_inp : F.inp = true) (h_outs : F.outs = true) (h_rcd : F.rcd = true) (h_ucp : F.ucp = true) (h_21 : F.grp 33)
    (h_26 : F.grp 38) (h_28 : F.grp 40) (h_ob_11776_10 : F.idx (ob 11776 10) = true) (h_recLostCount : F.idx (recLostCount) =
    true) (h : execScale blk mon sense s = .next t) : Kept F s t := by
  have hk := Kept.refl F s
  obtain rfl := Host.Outcome.next.inj h
  simp [hk, h_flt, h_inp, h_outs, h_rcd, h_ucp, h_21, h_26, h_28, h_ob_11776_10, h_recLostCount]

theorem execLoad_kept {F : Foot} {s t : State} (bad : Nat) (h_flt : F.flt = true) (h_free : F.free = true) (h_img : F.img =
    true) (h_lark : F.lark = true) (h_outs : F.outs = true) (h_rcd : F.rcd = true) (h_ucp : F.ucp = true) (h_xk29 : ∀ p, F.idx (xk
    p 29) = true) (h_xk30 : ∀ p, F.idx (xk p 30) = true) (h_xk31 : ∀ p, F.idx (xk p 31) = true) (h_xk36 : ∀ p, F.idx (xk p 36) =
    true) (h_28 : F.grp 40) (h_ob_11776_10 : F.idx (ob 11776 10) = true) (h_recLostCount : F.idx (recLostCount) = true) (h :
    execLoad bad s = .next t) : Kept F s t := by
  have hk := Kept.refl F s
  obtain rfl := Host.Outcome.next.inj h
  simp [hk, h_flt, h_free, h_img, h_lark, h_outs, h_rcd, h_ucp, h_xk29, h_xk30, h_xk31, h_xk36, h_28, h_ob_11776_10, h_recLostCount]

theorem execConductionEnd_kept {F : Foot} {s t : State} (ch : Fin 64) (h_outs : F.outs = true) (h : execConductionEnd ch s =
    .next t) : Kept F s t := by
  have hk := Kept.refl F s
  obtain rfl := Host.Outcome.next.inj h
  simp [hk, h_outs]

theorem execInrushWindowClose_kept {F : Foot} {s t : State} (ch : Fin 64) (h_outs : F.outs = true) (h : execInrushWindowClose
    ch s = .next t) : Kept F s t := by
  have hk := Kept.refl F s
  obtain rfl := Host.Outcome.next.inj h
  simp [hk, h_outs]

theorem execOvercurrentTrip_kept {F : Foot} {s t : State} (ch : Fin 64) (h_flt : F.flt = true) (h_outs : F.outs = true) (h_rcd
    : F.rcd = true) (h_ucp : F.ucp = true) (h_xk31 : ∀ p, F.idx (xk p 31) = true) (h_xk33 : ∀ p, F.idx (xk p 33) = true) (h_28 :
    F.grp 40) (h_ob_11776_10 : F.idx (ob 11776 10) = true) (h_recLostCount : F.idx (recLostCount) = true) (h : execOvercurrentTrip
    ch s = .next t) : Kept F s t := by
  have hk := Kept.refl F s
  obtain rfl := Host.Outcome.next.inj h
  simp [hk, h_flt, h_outs, h_rcd, h_ucp, h_xk31, h_xk33, h_28, h_ob_11776_10, h_recLostCount]

theorem execShortTrip_kept {F : Foot} {s t : State} (ch : Fin 64) (collapse : Bool) (h_flt : F.flt = true) (h_outs : F.outs =
    true) (h_rcd : F.rcd = true) (h_ucp : F.ucp = true) (h_xk31 : ∀ p, F.idx (xk p 31) = true) (h_xk33 : ∀ p, F.idx (xk p 33) =
    true) (h_28 : F.grp 40) (h_ob_11776_10 : F.idx (ob 11776 10) = true) (h_recLostCount : F.idx (recLostCount) = true) (h :
    execShortTrip ch collapse s = .next t) : Kept F s t := by
  have hk := Kept.refl F s
  obtain rfl := Host.Outcome.next.inj h
  simp [hk, h_flt, h_outs, h_rcd, h_ucp, h_xk31, h_xk33, h_28, h_ob_11776_10, h_recLostCount]

theorem execLsOvercurrentTrip_kept {F : Foot} {s t : State} (ch : Fin 64) (h_flt : F.flt = true) (h_outs : F.outs = true)
    (h_rcd : F.rcd = true) (h_ucp : F.ucp = true) (h_xk31 : ∀ p, F.idx (xk p 31) = true) (h_xk33 : ∀ p, F.idx (xk p 33) = true)
    (h_28 : F.grp 40) (h_ob_11776_10 : F.idx (ob 11776 10) = true) (h_recLostCount : F.idx (recLostCount) = true) (h :
    execLsOvercurrentTrip ch s = .next t) : Kept F s t := by
  have hk := Kept.refl F s
  obtain rfl := Host.Outcome.next.inj h
  simp [hk, h_flt, h_outs, h_rcd, h_ucp, h_xk31, h_xk33, h_28, h_ob_11776_10, h_recLostCount]

theorem execOpenLoadOn_kept {F : Foot} {s t : State} (ch : Fin 64) (h_flt : F.flt = true) (h_outs : F.outs = true) (h_rcd :
    F.rcd = true) (h_ucp : F.ucp = true) (h_xk40 : ∀ p, F.idx (xk p 40) = true) (h_28 : F.grp 40) (h_ob_11776_10 : F.idx (ob 11776
    10) = true) (h_recLostCount : F.idx (recLostCount) = true) (h : execOpenLoadOn ch s = .next t) : Kept F s t := by
  have hk := Kept.refl F s
  obtain rfl := Host.Outcome.next.inj h
  simp [hk, h_flt, h_outs, h_rcd, h_ucp, h_xk40, h_28, h_ob_11776_10, h_recLostCount]

theorem execOpenLoadClear_kept {F : Foot} {s t : State} (ch : Fin 64) (h_flt : F.flt = true) (h_outs : F.outs = true) (h_rcd :
    F.rcd = true) (h_ucp : F.ucp = true) (h_28 : F.grp 40) (h_ob_11776_10 : F.idx (ob 11776 10) = true) (h_recLostCount : F.idx
    (recLostCount) = true) (h : execOpenLoadClear ch s = .next t) : Kept F s t := by
  have hk := Kept.refl F s
  obtain rfl := Host.Outcome.next.inj h
  simp [hk, h_flt, h_outs, h_rcd, h_ucp, h_28, h_ob_11776_10, h_recLostCount]

theorem execOffStateTest_kept {F : Foot} {s t : State} (ch : Fin 64) (level : Nat) (h_flt : F.flt = true) (h_outs : F.outs =
    true) (h_rcd : F.rcd = true) (h_ucp : F.ucp = true) (h_xk31 : ∀ p, F.idx (xk p 31) = true) (h_28 : F.grp 40) (h_ob_11776_10 :
    F.idx (ob 11776 10) = true) (h_recLostCount : F.idx (recLostCount) = true) (h : execOffStateTest ch level s = .next t) : Kept
    F s t := by
  have hk := Kept.refl F s
  obtain rfl := Host.Outcome.next.inj h
  simp [hk, h_flt, h_outs, h_rcd, h_ucp, h_xk31, h_28, h_ob_11776_10, h_recLostCount]

theorem execThermalAbsTrip_kept {F : Foot} {s t : State} (ch : Fin 64) (h_flt : F.flt = true) (h_outs : F.outs = true) (h_rcd
    : F.rcd = true) (h_ucp : F.ucp = true) (h_xk31 : ∀ p, F.idx (xk p 31) = true) (h_xk33 : ∀ p, F.idx (xk p 33) = true) (h_28 :
    F.grp 40) (h_ob_11776_10 : F.idx (ob 11776 10) = true) (h_recLostCount : F.idx (recLostCount) = true) (h : execThermalAbsTrip
    ch s = .next t) : Kept F s t := by
  have hk := Kept.refl F s
  obtain rfl := Host.Outcome.next.inj h
  simp [hk, h_flt, h_outs, h_rcd, h_ucp, h_xk31, h_xk33, h_28, h_ob_11776_10, h_recLostCount]

theorem execThermalDeltaTrip_kept {F : Foot} {s t : State} (ch : Fin 64) (h_flt : F.flt = true) (h_outs : F.outs = true)
    (h_rcd : F.rcd = true) (h_ucp : F.ucp = true) (h_xk31 : ∀ p, F.idx (xk p 31) = true) (h_xk33 : ∀ p, F.idx (xk p 33) = true)
    (h_28 : F.grp 40) (h_ob_11776_10 : F.idx (ob 11776 10) = true) (h_recLostCount : F.idx (recLostCount) = true) (h :
    execThermalDeltaTrip ch s = .next t) : Kept F s t := by
  have hk := Kept.refl F s
  obtain rfl := Host.Outcome.next.inj h
  simp [hk, h_flt, h_outs, h_rcd, h_ucp, h_xk31, h_xk33, h_28, h_ob_11776_10, h_recLostCount]

theorem execThermalLatchClear_kept {F : Foot} {s t : State} (ch : Fin 64) (h_flt : F.flt = true) (h_outs : F.outs = true)
    (h_rcd : F.rcd = true) (h_ucp : F.ucp = true) (h_xk31 : ∀ p, F.idx (xk p 31) = true) (h_28 : F.grp 40) (h_ob_11776_10 : F.idx
    (ob 11776 10) = true) (h_recLostCount : F.idx (recLostCount) = true) (h : execThermalLatchClear ch s = .next t) : Kept F s t
    := by
  have hk := Kept.refl F s
  obtain rfl := Host.Outcome.next.inj h
  simp [hk, h_flt, h_outs, h_rcd, h_ucp, h_xk31, h_28, h_ob_11776_10, h_recLostCount]

theorem execSenseMissing_kept {F : Foot} {s t : State} (g : Fin 8) (selfFail : Bool) (h_flt : F.flt = true) (h_outs : F.outs =
    true) (h_rcd : F.rcd = true) (h_ucp : F.ucp = true) (h_gk3 : ∀ p, F.idx (gk p 3) = true) (h_gk5 : ∀ p, F.idx (gk p 5) = true)
    (h_28 : F.grp 40) (h_ob_11776_10 : F.idx (ob 11776 10) = true) (h_recLostCount : F.idx (recLostCount) = true) (h :
    execSenseMissing g selfFail s = .next t) : Kept F s t := by
  have hk := Kept.refl F s
  obtain rfl := Host.Outcome.next.inj h
  simp [hk, h_flt, h_outs, h_rcd, h_ucp, h_gk3, h_gk5, h_28, h_ob_11776_10, h_recLostCount]

theorem execRefDeviation_kept {F : Foot} {s t : State} (ch : Fin 64) (h_flt : F.flt = true) (h_outs : F.outs = true) (h_rcd :
    F.rcd = true) (h_ucp : F.ucp = true) (h_28 : F.grp 40) (h_ob_11776_10 : F.idx (ob 11776 10) = true) (h_recLostCount : F.idx
    (recLostCount) = true) (h : execRefDeviation ch s = .next t) : Kept F s t := by
  have hk := Kept.refl F s
  obtain rfl := Host.Outcome.next.inj h
  simp [hk, h_flt, h_outs, h_rcd, h_ucp, h_28, h_ob_11776_10, h_recLostCount]

theorem execRefDevClear_kept {F : Foot} {s t : State} (ch : Fin 64) (h_flt : F.flt = true) (h_outs : F.outs = true) (h_rcd :
    F.rcd = true) (h_ucp : F.ucp = true) (h_28 : F.grp 40) (h_ob_11776_10 : F.idx (ob 11776 10) = true) (h_recLostCount : F.idx
    (recLostCount) = true) (h : execRefDevClear ch s = .next t) : Kept F s t := by
  have hk := Kept.refl F s
  obtain rfl := Host.Outcome.next.inj h
  simp [hk, h_flt, h_outs, h_rcd, h_ucp, h_28, h_ob_11776_10, h_recLostCount]

theorem execRetry_kept {F : Foot} {s t : State} (ch : Fin 64) (h_flt : F.flt = true) (h_outs : F.outs = true) (h_rcd : F.rcd =
    true) (h_ucp : F.ucp = true) (h_xk31 : ∀ p, F.idx (xk p 31) = true) (h_xk32 : ∀ p, F.idx (xk p 32) = true) (h_28 : F.grp 40)
    (h_ob_11776_10 : F.idx (ob 11776 10) = true) (h_recLostCount : F.idx (recLostCount) = true) (h : execRetry ch s = .next t) :
    Kept F s t := by
  have hk := Kept.refl F s
  obtain rfl := Host.Outcome.next.inj h
  simp [hk, h_flt, h_outs, h_rcd, h_ucp, h_xk31, h_xk32, h_28, h_ob_11776_10, h_recLostCount]

theorem execRetryCounterReload_kept {F : Foot} {s t : State} (ch : Fin 64) (h_outs : F.outs = true) (h_xk32 : ∀ p, F.idx (xk p
    32) = true) (h : execRetryCounterReload ch s = .next t) : Kept F s t := by
  have hk := Kept.refl F s
  obtain rfl := Host.Outcome.next.inj h
  simp [hk, h_outs, h_xk32]

theorem execChannelRestart_kept {F : Foot} {s t : State} (who : Who) (ch : Fin 64) (h_flt : F.flt = true) (h_img : F.img =
    true) (h_outs : F.outs = true) (h_rcd : F.rcd = true) (h_ucp : F.ucp = true) (h_xk31 : ∀ p, F.idx (xk p 31) = true) (h_xk32 :
    ∀ p, F.idx (xk p 32) = true) (h_28 : F.grp 40) (h_ob_11776_10 : F.idx (ob 11776 10) = true) (h_ob_12288_4 : F.idx (ob 12288 4)
    = true) (h_ob_4608_4 : F.idx (ob 4608 4) = true) (h_ob_4608_5 : F.idx (ob 4608 5) = true) (h_ob_4608_6 : F.idx (ob 4608 6) =
    true) (h_ob_4608_7 : F.idx (ob 4608 7) = true) (h_ob_4608_8 : F.idx (ob 4608 8) = true) (h_recLostCount : F.idx (recLostCount)
    = true) (h : execChannelRestart who ch s = .next t) : Kept F s t := by
  have hk := Kept.refl F s
  obtain rfl := Host.Outcome.next.inj h
  simp [hk, h_flt, h_img, h_outs, h_rcd, h_ucp, h_xk31, h_xk32, h_28, h_ob_11776_10, h_ob_12288_4, h_ob_4608_4, h_ob_4608_5, h_ob_4608_6, h_ob_4608_7, h_ob_4608_8, h_recLostCount]

theorem execGroupGuardOff_kept {F : Foot} {s t : State} (g : Fin 8) (h_flt : F.flt = true) (h_outs : F.outs = true) (h_rcd :
    F.rcd = true) (h_ucp : F.ucp = true) (h_gk3 : ∀ p, F.idx (gk p 3) = true) (h_gk4 : ∀ p, F.idx (gk p 4) = true) (h_28 : F.grp
    40) (h_ob_11776_10 : F.idx (ob 11776 10) = true) (h_recLostCount : F.idx (recLostCount) = true) (h : execGroupGuardOff g s =
    .next t) : Kept F s t := by
  have hk := Kept.refl F s
  obtain rfl := Host.Outcome.next.inj h
  simp [hk, h_flt, h_outs, h_rcd, h_ucp, h_gk3, h_gk4, h_28, h_ob_11776_10, h_recLostCount]

theorem execGroupRestore_kept {F : Foot} {s t : State} (g : Fin 8) (h_flt : F.flt = true) (h_outs : F.outs = true) (h_rcd :
    F.rcd = true) (h_ucp : F.ucp = true) (h_gk3 : ∀ p, F.idx (gk p 3) = true) (h_xk31 : ∀ p, F.idx (xk p 31) = true) (h_28 : F.grp
    40) (h_ob_11776_10 : F.idx (ob 11776 10) = true) (h_recLostCount : F.idx (recLostCount) = true) (h : execGroupRestore g s =
    .next t) : Kept F s t := by
  have hk := Kept.refl F s
  obtain rfl := Host.Outcome.next.inj h
  simp [hk, h_flt, h_outs, h_rcd, h_ucp, h_gk3, h_xk31, h_28, h_ob_11776_10, h_recLostCount]

theorem execDissipationEstimate_kept {F : Foot} {s t : State} (base : Int) (clamp : Nat) (h_flt : F.flt = true) (h_outs :
    F.outs = true) (h_rcd : F.rcd = true) (h_ucp : F.ucp = true) (h_gk3 : ∀ p, F.idx (gk p 3) = true) (h_28 : F.grp 40)
    (h_ob_11776_10 : F.idx (ob 11776 10) = true) (h_ob_9800_1 : F.idx (ob 9800 1) = true) (h_ob_9800_2 : F.idx (ob 9800 2) = true)
    (h_ob_9800_3 : F.idx (ob 9800 3) = true) (h_ob_9800_4 : F.idx (ob 9800 4) = true) (h_recLostCount : F.idx (recLostCount) =
    true) (h : execDissipationEstimate base clamp s = .next t) : Kept F s t := by
  have hk := Kept.refl F s
  obtain rfl := Host.Outcome.next.inj h
  simp [hk, h_flt, h_outs, h_rcd, h_ucp, h_gk3, h_28, h_ob_11776_10, h_ob_9800_1, h_ob_9800_2, h_ob_9800_3, h_ob_9800_4, h_recLostCount]

theorem execCellSwap_kept {F : Foot} {s t : State} (ch : Fin 64) (side : Fin 2) (failed : Bool) (verify : List Bool) (dur :
    Nat) (h_flt : F.flt = true) (h_rcd : F.rcd = true) (h_sp : F.sp = true) (h_timers : F.timers = true) (h_ucp : F.ucp = true)
    (h_xk39 : ∀ p, F.idx (xk p 39) = true) (h_28 : F.grp 40) (h_29 : F.grp 41) (h_ob_11776_10 : F.idx (ob 11776 10) = true)
    (h_recLostCount : F.idx (recLostCount) = true) (h : execCellSwap ch side failed verify dur s = .next t) : Kept F s t := by
  have hk := Kept.refl F s
  obtain rfl := Host.Outcome.next.inj h
  simp [hk, h_flt, h_rcd, h_sp, h_timers, h_ucp, h_xk39, h_28, h_29, h_ob_11776_10, h_recLostCount]

theorem execCellFaultTrip_kept {F : Foot} {s t : State} (ch : Fin 64) (side : Fin 2) (short : Bool) (h_flt : F.flt = true)
    (h_outs : F.outs = true) (h_rcd : F.rcd = true) (h_sp : F.sp = true) (h_timers : F.timers = true) (h_ucp : F.ucp = true)
    (h_xk31 : ∀ p, F.idx (xk p 31) = true) (h_xk33 : ∀ p, F.idx (xk p 33) = true) (h_xk39 : ∀ p, F.idx (xk p 39) = true) (h_28 :
    F.grp 40) (h_29 : F.grp 41) (h_ob_11776_10 : F.idx (ob 11776 10) = true) (h_ob_9984_30 : F.idx (ob 9984 30) = true)
    (h_recLostCount : F.idx (recLostCount) = true) (h : execCellFaultTrip ch side short s = .next t) : Kept F s t := by
  have hk := Kept.refl F s
  obtain rfl := Host.Outcome.next.inj h
  simp [hk, h_flt, h_outs, h_rcd, h_sp, h_timers, h_ucp, h_xk31, h_xk33, h_xk39, h_28, h_29, h_ob_11776_10, h_ob_9984_30, h_recLostCount]

theorem execPermissionWithdraw_kept {F : Foot} {s t : State} (ch : Fin 64) (h_flt : F.flt = true) (h_outs : F.outs = true)
    (h_rcd : F.rcd = true) (h_ucp : F.ucp = true) (h_xk31 : ∀ p, F.idx (xk p 31) = true) (h_28 : F.grp 40) (h_ob_11776_10 : F.idx
    (ob 11776 10) = true) (h_recLostCount : F.idx (recLostCount) = true) (h : execPermissionWithdraw ch s = .next t) : Kept F s t
    := by
  have hk := Kept.refl F s
  obtain rfl := Host.Outcome.next.inj h
  simp [hk, h_flt, h_outs, h_rcd, h_ucp, h_xk31, h_28, h_ob_11776_10, h_recLostCount]

theorem execPermissionReturn_kept {F : Foot} {s t : State} (ch : Fin 64) (h_flt : F.flt = true) (h_outs : F.outs = true)
    (h_rcd : F.rcd = true) (h_ucp : F.ucp = true) (h_xk31 : ∀ p, F.idx (xk p 31) = true) (h_28 : F.grp 40) (h_ob_11776_10 : F.idx
    (ob 11776 10) = true) (h_recLostCount : F.idx (recLostCount) = true) (h : execPermissionReturn ch s = .next t) : Kept F s t :=
    by
  have hk := Kept.refl F s
  obtain rfl := Host.Outcome.next.inj h
  simp [hk, h_flt, h_outs, h_rcd, h_ucp, h_xk31, h_28, h_ob_11776_10, h_recLostCount]

theorem execSwitchLinkLoss_kept {F : Foot} {s t : State} (g : Fin 8) (h_flt : F.flt = true) (h_outs : F.outs = true) (h_rcd :
    F.rcd = true) (h_ucp : F.ucp = true) (h_gk3 : ∀ p, F.idx (gk p 3) = true) (h_gk7 : ∀ p, F.idx (gk p 7) = true) (h_xk31 : ∀ p,
    F.idx (xk p 31) = true) (h_28 : F.grp 40) (h_ob_11776_10 : F.idx (ob 11776 10) = true) (h_recLostCount : F.idx (recLostCount)
    = true) (h : execSwitchLinkLoss g s = .next t) : Kept F s t := by
  have hk := Kept.refl F s
  obtain rfl := Host.Outcome.next.inj h
  simp [hk, h_flt, h_outs, h_rcd, h_ucp, h_gk3, h_gk7, h_xk31, h_28, h_ob_11776_10, h_recLostCount]

theorem execSwitchLinkRestore_kept {F : Foot} {s t : State} (g : Fin 8) (h_flt : F.flt = true) (h_outs : F.outs = true) (h_rcd
    : F.rcd = true) (h_ucp : F.ucp = true) (h_gk3 : ∀ p, F.idx (gk p 3) = true) (h_xk31 : ∀ p, F.idx (xk p 31) = true) (h_28 :
    F.grp 40) (h_ob_11776_10 : F.idx (ob 11776 10) = true) (h_recLostCount : F.idx (recLostCount) = true) (h :
    execSwitchLinkRestore g s = .next t) : Kept F s t := by
  have hk := Kept.refl F s
  obtain rfl := Host.Outcome.next.inj h
  simp [hk, h_flt, h_outs, h_rcd, h_ucp, h_gk3, h_xk31, h_28, h_ob_11776_10, h_recLostCount]

theorem execTestStart_kept {F : Foot} {s t : State} (who : Who) (n : Fin 96) (h_img : F.img = true) (h_lark : F.lark = true)
    (h_ucp : F.ucp = true) (h_ob_12288_4 : F.idx (ob 12288 4) = true) (h_ob_4608_4 : F.idx (ob 4608 4) = true) (h_ob_4608_5 :
    F.idx (ob 4608 5) = true) (h_ob_4608_6 : F.idx (ob 4608 6) = true) (h_ob_4608_7 : F.idx (ob 4608 7) = true) (h_ob_4608_8 :
    F.idx (ob 4608 8) = true) (h : execTestStart who n s = .next t) : Kept F s t := by
  have hk := Kept.refl F s
  obtain rfl := Host.Outcome.next.inj h
  simp [hk, h_img, h_lark, h_ucp, h_ob_12288_4, h_ob_4608_4, h_ob_4608_5, h_ob_4608_6, h_ob_4608_7, h_ob_4608_8]

theorem execTestStop_kept {F : Foot} {s t : State} (who : Who) (n : Fin 96) (h_img : F.img = true) (h_lark : F.lark = true)
    (h_ucp : F.ucp = true) (h_ob_12288_4 : F.idx (ob 12288 4) = true) (h_ob_4608_4 : F.idx (ob 4608 4) = true) (h_ob_4608_5 :
    F.idx (ob 4608 5) = true) (h_ob_4608_6 : F.idx (ob 4608 6) = true) (h_ob_4608_7 : F.idx (ob 4608 7) = true) (h_ob_4608_8 :
    F.idx (ob 4608 8) = true) (h : execTestStop who n s = .next t) : Kept F s t := by
  have hk := Kept.refl F s
  obtain rfl := Host.Outcome.next.inj h
  simp [hk, h_img, h_lark, h_ucp, h_ob_12288_4, h_ob_4608_4, h_ob_4608_5, h_ob_4608_6, h_ob_4608_7, h_ob_4608_8]

theorem execTestComplete_kept {F : Foot} {s t : State} (n : Fin 96) (h_lark : F.lark = true) (h_sk138 : ∀ p, F.idx (sk p 138)
    = true) (h_sk139 : ∀ p, F.idx (sk p 139) = true) (h_sk140 : ∀ p, F.idx (sk p 140) = true) (h : execTestComplete n s = .next t)
    : Kept F s t := by
  have hk := Kept.refl F s
  obtain rfl := Host.Outcome.next.inj h
  simp [hk, h_lark, h_sk138, h_sk139, h_sk140]

theorem execPeakReset_kept {F : Foot} {s t : State} (who : Who) (n : Fin 96) (h_img : F.img = true) (h_ucp : F.ucp = true)
    (h_sk118 : ∀ p, F.idx (sk p 118) = true) (h_ob_12288_4 : F.idx (ob 12288 4) = true) (h_ob_4608_4 : F.idx (ob 4608 4) = true)
    (h_ob_4608_5 : F.idx (ob 4608 5) = true) (h_ob_4608_6 : F.idx (ob 4608 6) = true) (h_ob_4608_7 : F.idx (ob 4608 7) = true)
    (h_ob_4608_8 : F.idx (ob 4608 8) = true) (h : execPeakReset who n s = .next t) : Kept F s t := by
  have hk := Kept.refl F s
  obtain rfl := Host.Outcome.next.inj h
  simp [hk, h_img, h_ucp, h_sk118, h_ob_12288_4, h_ob_4608_4, h_ob_4608_5, h_ob_4608_6, h_ob_4608_7, h_ob_4608_8]

theorem execCaptureArm_kept {F : Foot} {s t : State} (who : Who) (k : Fin 4) (h_img : F.img = true) (h_lark : F.lark = true)
    (h_ucp : F.ucp = true) (h_ck10 : ∀ p, F.idx (ck p 10) = true) (h_ck11 : ∀ p, F.idx (ck p 11) = true) (h_ck9 : ∀ p, F.idx (ck p
    9) = true) (h_ob_12288_4 : F.idx (ob 12288 4) = true) (h_ob_4608_4 : F.idx (ob 4608 4) = true) (h_ob_4608_5 : F.idx (ob 4608
    5) = true) (h_ob_4608_6 : F.idx (ob 4608 6) = true) (h_ob_4608_7 : F.idx (ob 4608 7) = true) (h_ob_4608_8 : F.idx (ob 4608 8)
    = true) (h : execCaptureArm who k s = .next t) : Kept F s t := by
  have hk := Kept.refl F s
  obtain rfl := Host.Outcome.next.inj h
  simp [hk, h_img, h_lark, h_ucp, h_ck10, h_ck11, h_ck9, h_ob_12288_4, h_ob_4608_4, h_ob_4608_5, h_ob_4608_6, h_ob_4608_7, h_ob_4608_8]

theorem execCaptureStop_kept {F : Foot} {s t : State} (who : Who) (k : Fin 4) (h_img : F.img = true) (h_lark : F.lark = true)
    (h_ucp : F.ucp = true) (h_ck10 : ∀ p, F.idx (ck p 10) = true) (h_ck11 : ∀ p, F.idx (ck p 11) = true) (h_ck9 : ∀ p, F.idx (ck p
    9) = true) (h_ob_12288_4 : F.idx (ob 12288 4) = true) (h_ob_4608_4 : F.idx (ob 4608 4) = true) (h_ob_4608_5 : F.idx (ob 4608
    5) = true) (h_ob_4608_6 : F.idx (ob 4608 6) = true) (h_ob_4608_7 : F.idx (ob 4608 7) = true) (h_ob_4608_8 : F.idx (ob 4608 8)
    = true) (h : execCaptureStop who k s = .next t) : Kept F s t := by
  have hk := Kept.refl F s
  obtain rfl := Host.Outcome.next.inj h
  simp [hk, h_img, h_lark, h_ucp, h_ck10, h_ck11, h_ck9, h_ob_12288_4, h_ob_4608_4, h_ob_4608_5, h_ob_4608_6, h_ob_4608_7, h_ob_4608_8]

theorem execCaptureForce_kept {F : Foot} {s t : State} (who : Who) (k : Fin 4) (h_img : F.img = true) (h_lark : F.lark = true)
    (h_ucp : F.ucp = true) (h_ck10 : ∀ p, F.idx (ck p 10) = true) (h_ck11 : ∀ p, F.idx (ck p 11) = true) (h_ck9 : ∀ p, F.idx (ck p
    9) = true) (h_ob_12288_4 : F.idx (ob 12288 4) = true) (h_ob_4608_4 : F.idx (ob 4608 4) = true) (h_ob_4608_5 : F.idx (ob 4608
    5) = true) (h_ob_4608_6 : F.idx (ob 4608 6) = true) (h_ob_4608_7 : F.idx (ob 4608 7) = true) (h_ob_4608_8 : F.idx (ob 4608 8)
    = true) (h : execCaptureForce who k s = .next t) : Kept F s t := by
  have hk := Kept.refl F s
  obtain rfl := Host.Outcome.next.inj h
  simp [hk, h_img, h_lark, h_ucp, h_ck10, h_ck11, h_ck9, h_ob_12288_4, h_ob_4608_4, h_ob_4608_5, h_ob_4608_6, h_ob_4608_7, h_ob_4608_8]

theorem execCaptureRow_kept {F : Foot} {s t : State} (k : Fin 4) (h_lark : F.lark = true) (h_ck10 : ∀ p, F.idx (ck p 10) =
    true) (h_ck9 : ∀ p, F.idx (ck p 9) = true) (h : execCaptureRow k s = .next t) : Kept F s t := by
  have hk := Kept.refl F s
  obtain rfl := Host.Outcome.next.inj h
  simp [hk, h_lark, h_ck10, h_ck9]

theorem execExchange_kept {F : Foot} {s t : State} (ok : Bool) (sched : Bool) (h_flt : F.flt = true) (h_fox : F.fox = true)
    (h_inp : F.inp = true) (h_rcd : F.rcd = true) (h_ucp : F.ucp = true) (h_27 : F.grp 39) (h_28 : F.grp 40) (h_ob_11776_10 :
    F.idx (ob 11776 10) = true) (h_recLostCount : F.idx (recLostCount) = true) (h : execExchange ok sched s = .next t) : Kept F s
    t := by
  have hk := Kept.refl F s
  obtain rfl := Host.Outcome.next.inj h
  simp [hk, h_flt, h_fox, h_inp, h_rcd, h_ucp, h_27, h_28, h_ob_11776_10, h_recLostCount]

theorem execCrossCheckLinkLost_kept {F : Foot} {s t : State} (h_flt : F.flt = true) (h_fox : F.fox = true) (h_rcd : F.rcd =
    true) (h_ucp : F.ucp = true) (h_27 : F.grp 39) (h_28 : F.grp 40) (h_ob_11776_10 : F.idx (ob 11776 10) = true) (h_recLostCount
    : F.idx (recLostCount) = true) (h : execCrossCheckLinkLost s = .next t) : Kept F s t := by
  have hk := Kept.refl F s
  obtain rfl := Host.Outcome.next.inj h
  simp [hk, h_flt, h_fox, h_rcd, h_ucp, h_27, h_28, h_ob_11776_10, h_recLostCount]

theorem execTimebaseDeviation_kept {F : Foot} {s t : State} (beyond : Bool) (h_flt : F.flt = true) (h_fox : F.fox = true)
    (h_rcd : F.rcd = true) (h_ucp : F.ucp = true) (h_27 : F.grp 39) (h_28 : F.grp 40) (h_ob_11776_10 : F.idx (ob 11776 10) = true)
    (h_recLostCount : F.idx (recLostCount) = true) (h : execTimebaseDeviation beyond s = .next t) : Kept F s t := by
  have hk := Kept.refl F s
  obtain rfl := Host.Outcome.next.inj h
  simp [hk, h_flt, h_fox, h_rcd, h_ucp, h_27, h_28, h_ob_11776_10, h_recLostCount]

theorem execRailDisagreement_kept {F : Foot} {s t : State} (h_flt : F.flt = true) (h_fox : F.fox = true) (h_rcd : F.rcd =
    true) (h_ucp : F.ucp = true) (h_27 : F.grp 39) (h_28 : F.grp 40) (h_ob_11776_10 : F.idx (ob 11776 10) = true) (h_recLostCount
    : F.idx (recLostCount) = true) (h : execRailDisagreement s = .next t) : Kept F s t := by
  have hk := Kept.refl F s
  obtain rfl := Host.Outcome.next.inj h
  simp [hk, h_flt, h_fox, h_rcd, h_ucp, h_27, h_28, h_ob_11776_10, h_recLostCount]

theorem execFoxgloveRegulatorFault_kept {F : Foot} {s t : State} (dropout : Bool) (h_flt : F.flt = true) (h_fox : F.fox =
    true) (h_rcd : F.rcd = true) (h_ucp : F.ucp = true) (h_27 : F.grp 39) (h_28 : F.grp 40) (h_ob_11776_10 : F.idx (ob 11776 10) =
    true) (h_recLostCount : F.idx (recLostCount) = true) (h : execFoxgloveRegulatorFault dropout s = .next t) : Kept F s t := by
  have hk := Kept.refl F s
  obtain rfl := Host.Outcome.next.inj h
  simp [hk, h_flt, h_fox, h_rcd, h_ucp, h_27, h_28, h_ob_11776_10, h_recLostCount]

theorem execFoxgloveRegulatorRecover_kept {F : Foot} {s t : State} (h_flt : F.flt = true) (h_fox : F.fox = true) (h_rcd :
    F.rcd = true) (h_ucp : F.ucp = true) (h_21 : F.grp 33) (h_27 : F.grp 39) (h_28 : F.grp 40) (h_ob_11776_10 : F.idx (ob 11776
    10) = true) (h_recLostCount : F.idx (recLostCount) = true) (h : execFoxgloveRegulatorRecover s = .next t) : Kept F s t := by
  have hk := Kept.refl F s
  obtain rfl := Host.Outcome.next.inj h
  simp [hk, h_flt, h_fox, h_rcd, h_ucp, h_21, h_27, h_28, h_ob_11776_10, h_recLostCount]

theorem execSafetyInputChange_kept {F : Foot} {s t : State} (n : Fin 16) (high : Bool) (h_flt : F.flt = true) (h_fox : F.fox =
    true) (h_rcd : F.rcd = true) (h_ucp : F.ucp = true) (h_27 : F.grp 39) (h_28 : F.grp 40) (h_ob_11776_10 : F.idx (ob 11776 10) =
    true) (h_recLostCount : F.idx (recLostCount) = true) (h : execSafetyInputChange n high s = .next t) : Kept F s t := by
  have hk := Kept.refl F s
  obtain rfl := Host.Outcome.next.inj h
  simp [hk, h_flt, h_fox, h_rcd, h_ucp, h_27, h_28, h_ob_11776_10, h_recLostCount]

theorem execInputPulseCheck_kept {F : Foot} {s t : State} (n : Fin 16) (sup : Fin 4) (fail : Bool) (h_flt : F.flt = true)
    (h_fox : F.fox = true) (h_rcd : F.rcd = true) (h_ucp : F.ucp = true) (h_27 : F.grp 39) (h_28 : F.grp 40) (h_ob_11776_10 :
    F.idx (ob 11776 10) = true) (h_recLostCount : F.idx (recLostCount) = true) (h : execInputPulseCheck n sup fail s = .next t) :
    Kept F s t := by
  have hk := Kept.refl F s
  obtain rfl := Host.Outcome.next.inj h
  simp [hk, h_flt, h_fox, h_rcd, h_ucp, h_27, h_28, h_ob_11776_10, h_recLostCount]

theorem execSupplyPulseCheck_kept {F : Foot} {s t : State} (sup : Fin 4) (fail : Bool) (h_flt : F.flt = true) (h_fox : F.fox =
    true) (h_rcd : F.rcd = true) (h_ucp : F.ucp = true) (h_21 : F.grp 33) (h_27 : F.grp 39) (h_28 : F.grp 40) (h_ob_11776_10 :
    F.idx (ob 11776 10) = true) (h_recLostCount : F.idx (recLostCount) = true) (h : execSupplyPulseCheck sup fail s = .next t) :
    Kept F s t := by
  have hk := Kept.refl F s
  obtain rfl := Host.Outcome.next.inj h
  simp [hk, h_flt, h_fox, h_rcd, h_ucp, h_21, h_27, h_28, h_ob_11776_10, h_recLostCount]

theorem execDiscrepancy_kept {F : Foot} {s t : State} (p : Fin 8) (h_flt : F.flt = true) (h_fox : F.fox = true) (h_rcd : F.rcd
    = true) (h_ucp : F.ucp = true) (h_27 : F.grp 39) (h_28 : F.grp 40) (h_ob_11776_10 : F.idx (ob 11776 10) = true)
    (h_recLostCount : F.idx (recLostCount) = true) (h : execDiscrepancy p s = .next t) : Kept F s t := by
  have hk := Kept.refl F s
  obtain rfl := Host.Outcome.next.inj h
  simp [hk, h_flt, h_fox, h_rcd, h_ucp, h_27, h_28, h_ob_11776_10, h_recLostCount]

theorem execStopDelayExpire_kept {F : Foot} {s t : State} (f : Fin 16) (h_flt : F.flt = true) (h_fox : F.fox = true) (h_rcd :
    F.rcd = true) (h_ucp : F.ucp = true) (h_27 : F.grp 39) (h_28 : F.grp 40) (h_ob_11776_10 : F.idx (ob 11776 10) = true)
    (h_recLostCount : F.idx (recLostCount) = true) (h : execStopDelayExpire f s = .next t) : Kept F s t := by
  have hk := Kept.refl F s
  obtain rfl := Host.Outcome.next.inj h
  simp [hk, h_flt, h_fox, h_rcd, h_ucp, h_27, h_28, h_ob_11776_10, h_recLostCount]

theorem execResetPress_kept {F : Foot} {s t : State} (n : Fin 2) (ms : Nat) (h_flt : F.flt = true) (h_fox : F.fox = true)
    (h_rcd : F.rcd = true) (h_ucp : F.ucp = true) (h_21 : F.grp 33) (h_27 : F.grp 39) (h_28 : F.grp 40) (h_ob_11776_10 : F.idx (ob
    11776 10) = true) (h_recLostCount : F.idx (recLostCount) = true) (h : execResetPress n ms s = .next t) : Kept F s t := by
  have hk := Kept.refl F s
  obtain rfl := Host.Outcome.next.inj h
  simp [hk, h_flt, h_fox, h_rcd, h_ucp, h_21, h_27, h_28, h_ob_11776_10, h_recLostCount]

theorem execResetStuck_kept {F : Foot} {s t : State} (n : Fin 2) (h_flt : F.flt = true) (h_fox : F.fox = true) (h_rcd : F.rcd
    = true) (h_ucp : F.ucp = true) (h_27 : F.grp 39) (h_28 : F.grp 40) (h_ob_11776_10 : F.idx (ob 11776 10) = true)
    (h_recLostCount : F.idx (recLostCount) = true) (h : execResetStuck n s = .next t) : Kept F s t := by
  have hk := Kept.refl F s
  obtain rfl := Host.Outcome.next.inj h
  simp [hk, h_flt, h_fox, h_rcd, h_ucp, h_27, h_28, h_ob_11776_10, h_recLostCount]

theorem execResetUnblock_kept {F : Foot} {s t : State} (n : Fin 2) (h_flt : F.flt = true) (h_fox : F.fox = true) (h_rcd :
    F.rcd = true) (h_ucp : F.ucp = true) (h_27 : F.grp 39) (h_28 : F.grp 40) (h_ob_11776_10 : F.idx (ob 11776 10) = true)
    (h_recLostCount : F.idx (recLostCount) = true) (h : execResetUnblock n s = .next t) : Kept F s t := by
  have hk := Kept.refl F s
  obtain rfl := Host.Outcome.next.inj h
  simp [hk, h_flt, h_fox, h_rcd, h_ucp, h_27, h_28, h_ob_11776_10, h_recLostCount]

theorem execDarkPulse_kept {F : Foot} {s t : State} (g : Fin 8) (ok : Bool) (counts : Bool) (h_flt : F.flt = true) (h_fox :
    F.fox = true) (h_outs : F.outs = true) (h_rcd : F.rcd = true) (h_ucp : F.ucp = true) (h_27 : F.grp 39) (h_28 : F.grp 40)
    (h_ob_11776_10 : F.idx (ob 11776 10) = true) (h_recLostCount : F.idx (recLostCount) = true) (h : execDarkPulse g ok counts s =
    .next t) : Kept F s t := by
  have hk := Kept.refl F s
  obtain rfl := Host.Outcome.next.inj h
  simp [hk, h_flt, h_fox, h_outs, h_rcd, h_ucp, h_27, h_28, h_ob_11776_10, h_recLostCount]

theorem execDemandRequestWrite_kept {F : Foot} {s t : State} (who : Who) (v : Nat) (h_img : F.img = true) (h_ucp : F.ucp =
    true) (h_fx_15 : F.idx (fx 15) = true) (h_ob_12288_4 : F.idx (ob 12288 4) = true) (h_ob_4608_4 : F.idx (ob 4608 4) = true)
    (h_ob_4608_5 : F.idx (ob 4608 5) = true) (h_ob_4608_6 : F.idx (ob 4608 6) = true) (h_ob_4608_7 : F.idx (ob 4608 7) = true)
    (h_ob_4608_8 : F.idx (ob 4608 8) = true) (h : execDemandRequestWrite who v s = .next t) : Kept F s t := by
  have hk := Kept.refl F s
  obtain rfl := Host.Outcome.next.inj h
  simp [hk, h_img, h_ucp, h_fx_15, h_ob_12288_4, h_ob_4608_4, h_ob_4608_5, h_ob_4608_6, h_ob_4608_7, h_ob_4608_8]

theorem execSafeSnsSample_kept {F : Foot} {s t : State} (high : Bool) (counts : Bool) (h_flt : F.flt = true) (h_fox : F.fox =
    true) (h_rcd : F.rcd = true) (h_ucp : F.ucp = true) (h_28 : F.grp 40) (h_fx_7 : F.idx (fx 7) = true) (h_ob_11776_10 : F.idx
    (ob 11776 10) = true) (h_recLostCount : F.idx (recLostCount) = true) (h : execSafeSnsSample high counts s = .next t) : Kept F
    s t := by
  have hk := Kept.refl F s
  obtain rfl := Host.Outcome.next.inj h
  simp [hk, h_flt, h_fox, h_rcd, h_ucp, h_28, h_fx_7, h_ob_11776_10, h_recLostCount]

theorem execSealRead_kept {F : Foot} {s t : State} (reading : Nat) (h_flt : F.flt = true) (h_fox : F.fox = true) (h_rcd :
    F.rcd = true) (h_ucp : F.ucp = true) (h_27 : F.grp 39) (h_28 : F.grp 40) (h_ob_11776_10 : F.idx (ob 11776 10) = true)
    (h_recLostCount : F.idx (recLostCount) = true) (h : execSealRead reading s = .next t) : Kept F s t := by
  have hk := Kept.refl F s
  obtain rfl := Host.Outcome.next.inj h
  simp [hk, h_flt, h_fox, h_rcd, h_ucp, h_27, h_28, h_ob_11776_10, h_recLostCount]

theorem execStagingOpen_kept {F : Foot} {s t : State} (who : Who) (h_conf : F.conf = true) (h_flt : F.flt = true) (h_fox :
    F.fox = true) (h_img : F.img = true) (h_rcd : F.rcd = true) (h_ucp : F.ucp = true) (h_27 : F.grp 39) (h_28 : F.grp 40)
    (h_ob_11776_10 : F.idx (ob 11776 10) = true) (h_ob_12288_4 : F.idx (ob 12288 4) = true) (h_ob_12288_8 : F.idx (ob 12288 8) =
    true) (h_ob_4608_4 : F.idx (ob 4608 4) = true) (h_ob_4608_5 : F.idx (ob 4608 5) = true) (h_ob_4608_6 : F.idx (ob 4608 6) =
    true) (h_ob_4608_7 : F.idx (ob 4608 7) = true) (h_ob_4608_8 : F.idx (ob 4608 8) = true) (h_recLostCount : F.idx (recLostCount)
    = true) (h : execStagingOpen who s = .next t) : Kept F s t := by
  have hk := Kept.refl F s
  obtain rfl := Host.Outcome.next.inj h
  simp [hk, h_conf, h_flt, h_fox, h_img, h_rcd, h_ucp, h_27, h_28, h_ob_11776_10, h_ob_12288_4, h_ob_12288_8, h_ob_4608_4, h_ob_4608_5, h_ob_4608_6, h_ob_4608_7, h_ob_4608_8, h_recLostCount]

theorem execStagingDiscard_kept {F : Foot} {s t : State} (who : Who) (h_conf : F.conf = true) (h_flt : F.flt = true) (h_fox :
    F.fox = true) (h_img : F.img = true) (h_rcd : F.rcd = true) (h_ucp : F.ucp = true) (h_27 : F.grp 39) (h_28 : F.grp 40)
    (h_ob_11776_10 : F.idx (ob 11776 10) = true) (h_ob_12288_4 : F.idx (ob 12288 4) = true) (h_ob_12288_8 : F.idx (ob 12288 8) =
    true) (h_ob_4608_4 : F.idx (ob 4608 4) = true) (h_ob_4608_5 : F.idx (ob 4608 5) = true) (h_ob_4608_6 : F.idx (ob 4608 6) =
    true) (h_ob_4608_7 : F.idx (ob 4608 7) = true) (h_ob_4608_8 : F.idx (ob 4608 8) = true) (h_recLostCount : F.idx (recLostCount)
    = true) (h : execStagingDiscard who s = .next t) : Kept F s t := by
  have hk := Kept.refl F s
  obtain rfl := Host.Outcome.next.inj h
  simp [hk, h_conf, h_flt, h_fox, h_img, h_rcd, h_ucp, h_27, h_28, h_ob_11776_10, h_ob_12288_4, h_ob_12288_8, h_ob_4608_4, h_ob_4608_5, h_ob_4608_6, h_ob_4608_7, h_ob_4608_8, h_recLostCount]

theorem execRwsEdit_kept {F : Foot} {s t : State} (who : Who) (k : Nat) (v : Nat) (h_flt : F.flt = true) (h_fox : F.fox =
    true) (h_img : F.img = true) (h_rcd : F.rcd = true) (h_ucp : F.ucp = true) (h_28 : F.grp 40) (h_ob_11776_10 : F.idx (ob 11776
    10) = true) (h_ob_12288_4 : F.idx (ob 12288 4) = true) (h_ob_4608_4 : F.idx (ob 4608 4) = true) (h_ob_4608_5 : F.idx (ob 4608
    5) = true) (h_ob_4608_6 : F.idx (ob 4608 6) = true) (h_ob_4608_7 : F.idx (ob 4608 7) = true) (h_ob_4608_8 : F.idx (ob 4608 8)
    = true) (h_recLostCount : F.idx (recLostCount) = true) (h : execRwsEdit who k v s = .next t) : Kept F s t := by
  have hk := Kept.refl F s
  obtain rfl := Host.Outcome.next.inj h
  simp [hk, h_flt, h_fox, h_img, h_rcd, h_ucp, h_28, h_ob_11776_10, h_ob_12288_4, h_ob_4608_4, h_ob_4608_5, h_ob_4608_6, h_ob_4608_7, h_ob_4608_8, h_recLostCount]

theorem execSign_kept {F : Foot} {s t : State} (who : Who) (off : Nat) (data : List Byte) (h_flt : F.flt = true) (h_fox :
    F.fox = true) (h_img : F.img = true) (h_rcd : F.rcd = true) (h_ucp : F.ucp = true) (h_28 : F.grp 40) (h_fx_16 : F.idx (fx 16)
    = true) (h_fx_18 : F.idx (fx 18) = true) (h_fx_23 : F.idx (fx 23) = true) (h_ob_11776_10 : F.idx (ob 11776 10) = true)
    (h_ob_12032_28 : F.idx (ob 12032 28) = true) (h_ob_12288_4 : F.idx (ob 12288 4) = true) (h_ob_4352_6 : F.idx (ob 4352 6) =
    true) (h_ob_4608_4 : F.idx (ob 4608 4) = true) (h_ob_4608_5 : F.idx (ob 4608 5) = true) (h_ob_4608_6 : F.idx (ob 4608 6) =
    true) (h_ob_4608_7 : F.idx (ob 4608 7) = true) (h_ob_4608_8 : F.idx (ob 4608 8) = true) (h_recLostCount : F.idx (recLostCount)
    = true) (h : execSign who off data s = .next t) : Kept F s t := by
  have hk := Kept.refl F s
  obtain rfl := Host.Outcome.next.inj h
  simp [hk, h_flt, h_fox, h_img, h_rcd, h_ucp, h_28, h_fx_16, h_fx_18, h_fx_23, h_ob_11776_10, h_ob_12032_28, h_ob_12288_4, h_ob_4352_6, h_ob_4608_4, h_ob_4608_5, h_ob_4608_6, h_ob_4608_7, h_ob_4608_8, h_recLostCount]

theorem execCountersign_kept {F : Foot} {s t : State} (who : Who) (off : Nat) (data : List Byte) (h_conf : F.conf = true)
    (h_flt : F.flt = true) (h_fox : F.fox = true) (h_img : F.img = true) (h_rcd : F.rcd = true) (h_ucp : F.ucp = true) (h_27 :
    F.grp 39) (h_28 : F.grp 40) (h_ob_11776_10 : F.idx (ob 11776 10) = true) (h_ob_12032_28 : F.idx (ob 12032 28) = true)
    (h_ob_12288_1 : F.idx (ob 12288 1) = true) (h_ob_12288_14 : F.idx (ob 12288 14) = true) (h_ob_12288_2 : F.idx (ob 12288 2) =
    true) (h_ob_12288_4 : F.idx (ob 12288 4) = true) (h_ob_12288_7 : F.idx (ob 12288 7) = true) (h_ob_12288_8 : F.idx (ob 12288 8)
    = true) (h_ob_4352_6 : F.idx (ob 4352 6) = true) (h_ob_4608_4 : F.idx (ob 4608 4) = true) (h_ob_4608_5 : F.idx (ob 4608 5) =
    true) (h_ob_4608_6 : F.idx (ob 4608 6) = true) (h_ob_4608_7 : F.idx (ob 4608 7) = true) (h_ob_4608_8 : F.idx (ob 4608 8) =
    true) (h_recLostCount : F.idx (recLostCount) = true) (h : execCountersign who off data s = .next t) : Kept F s t := by
  have hk := Kept.refl F s
  obtain rfl := Host.Outcome.next.inj h
  simp [hk, h_conf, h_flt, h_fox, h_img, h_rcd, h_ucp, h_27, h_28, h_ob_11776_10, h_ob_12032_28, h_ob_12288_1, h_ob_12288_14, h_ob_12288_2, h_ob_12288_4, h_ob_12288_7, h_ob_12288_8, h_ob_4352_6, h_ob_4608_4, h_ob_4608_5, h_ob_4608_6, h_ob_4608_7, h_ob_4608_8, h_recLostCount]

theorem execChangeExpire_kept {F : Foot} {s t : State} (h_conf : F.conf = true) (h_flt : F.flt = true) (h_fox : F.fox = true)
    (h_rcd : F.rcd = true) (h_ucp : F.ucp = true) (h_27 : F.grp 39) (h_28 : F.grp 40) (h_ob_11776_10 : F.idx (ob 11776 10) = true)
    (h_ob_12288_8 : F.idx (ob 12288 8) = true) (h_recLostCount : F.idx (recLostCount) = true) (h : execChangeExpire s = .next t) :
    Kept F s t := by
  have hk := Kept.refl F s
  obtain rfl := Host.Outcome.next.inj h
  simp [hk, h_conf, h_flt, h_fox, h_rcd, h_ucp, h_27, h_28, h_ob_11776_10, h_ob_12288_8, h_recLostCount]

theorem execProfileTransferDone_kept {F : Foot} {s t : State} (crcOk : Bool) (h_flt : F.flt = true) (h_fox : F.fox = true)
    (h_rcd : F.rcd = true) (h_ucp : F.ucp = true) (h_all : ∀ i, F.idx i = true) (h : execProfileTransferDone crcOk s = .next t) :
    Kept F s t := by
  have hk := Kept.refl F s
  obtain rfl := Host.Outcome.next.inj h
  simp [hk, h_flt, h_fox, h_rcd, h_ucp, h_all]

theorem execFoxgloveSelftest_kept {F : Foot} {s t : State} (pass : Bool) (h_flt : F.flt = true) (h_fox : F.fox = true) (h_rcd
    : F.rcd = true) (h_ucp : F.ucp = true) (h_27 : F.grp 39) (h_28 : F.grp 40) (h_ob_11776_10 : F.idx (ob 11776 10) = true)
    (h_recLostCount : F.idx (recLostCount) = true) (h : execFoxgloveSelftest pass s = .next t) : Kept F s t := by
  have hk := Kept.refl F s
  obtain rfl := Host.Outcome.next.inj h
  simp [hk, h_flt, h_fox, h_rcd, h_ucp, h_27, h_28, h_ob_11776_10, h_recLostCount]

theorem execFoxgloveProfileVerified_kept {F : Foot} {s t : State} (crcOk : Bool) (h_flt : F.flt = true) (h_fox : F.fox = true)
    (h_rcd : F.rcd = true) (h_ucp : F.ucp = true) (h_27 : F.grp 39) (h_28 : F.grp 40) (h_ob_11776_10 : F.idx (ob 11776 10) = true)
    (h_recLostCount : F.idx (recLostCount) = true) (h : execFoxgloveProfileVerified crcOk s = .next t) : Kept F s t := by
  have hk := Kept.refl F s
  obtain rfl := Host.Outcome.next.inj h
  simp [hk, h_flt, h_fox, h_rcd, h_ucp, h_27, h_28, h_ob_11776_10, h_recLostCount]

theorem execMapApply_kept {F : Foot} {s t : State} (who : Who) (h_img : F.img = true) (h_ucp : F.ucp = true) (h_ob_12288_4 :
    F.idx (ob 12288 4) = true) (h_ob_4608_4 : F.idx (ob 4608 4) = true) (h_ob_4608_5 : F.idx (ob 4608 5) = true) (h_ob_4608_6 :
    F.idx (ob 4608 6) = true) (h_ob_4608_7 : F.idx (ob 4608 7) = true) (h_ob_4608_8 : F.idx (ob 4608 8) = true) (h_ob_4864_3 :
    F.idx (ob 4864 3) = true) (h_ob_4864_6 : F.idx (ob 4864 6) = true) (h : execMapApply who s = .next t) : Kept F s t := by
  have hk := Kept.refl F s
  obtain rfl := Host.Outcome.next.inj h
  simp [hk, h_img, h_ucp, h_ob_12288_4, h_ob_4608_4, h_ob_4608_5, h_ob_4608_6, h_ob_4608_7, h_ob_4608_8, h_ob_4864_3, h_ob_4864_6]

theorem execAppTableApply_kept {F : Foot} {s t : State} (who : Who) (h_img : F.img = true) (h_ucp : F.ucp = true)
    (h_ob_12288_4 : F.idx (ob 12288 4) = true) (h_ob_4608_4 : F.idx (ob 4608 4) = true) (h_ob_4608_5 : F.idx (ob 4608 5) = true)
    (h_ob_4608_6 : F.idx (ob 4608 6) = true) (h_ob_4608_7 : F.idx (ob 4608 7) = true) (h_ob_4608_8 : F.idx (ob 4608 8) = true)
    (h_ob_4864_6 : F.idx (ob 4864 6) = true) (h_ob_4864_9 : F.idx (ob 4864 9) = true) (h : execAppTableApply who s = .next t) :
    Kept F s t := by
  have hk := Kept.refl F s
  obtain rfl := Host.Outcome.next.inj h
  simp [hk, h_img, h_ucp, h_ob_12288_4, h_ob_4608_4, h_ob_4608_5, h_ob_4608_6, h_ob_4608_7, h_ob_4608_8, h_ob_4864_6, h_ob_4864_9]

theorem execHello_kept {F : Foot} {s t : State} (r : Route) (src : Nat) (data : List Byte) (h_flt : F.flt = true) (h_free :
    F.free = true) (h_rcd : F.rcd = true) (h_sec : F.sec = true) (h_ucp : F.ucp = true) (h_28 : F.grp 40) (h_ob_11776_10 : F.idx
    (ob 11776 10) = true) (h_ob_12032_28 : F.idx (ob 12032 28) = true) (h_ob_4352_6 : F.idx (ob 4352 6) = true) (h_ob_4352_7 :
    F.idx (ob 4352 7) = true) (h_recLostCount : F.idx (recLostCount) = true) (h : execHello r src data s = .next t) : Kept F s t
    := by
  have hk := Kept.refl F s
  obtain rfl := Host.Outcome.next.inj h
  simp [hk, h_flt, h_free, h_rcd, h_sec, h_ucp, h_28, h_ob_11776_10, h_ob_12032_28, h_ob_4352_6, h_ob_4352_7, h_recLostCount]

theorem execFinish_kept {F : Foot} {s t : State} (n : Nat) (data : List Byte) (h_flt : F.flt = true) (h_rcd : F.rcd = true)
    (h_sec : F.sec = true) (h_ucp : F.ucp = true) (h_28 : F.grp 40) (h_ob_11776_10 : F.idx (ob 11776 10) = true) (h_ob_12032_28 :
    F.idx (ob 12032 28) = true) (h_ob_4352_1 : F.idx (ob 4352 1) = true) (h_ob_4352_6 : F.idx (ob 4352 6) = true) (h_ob_4352_7 :
    F.idx (ob 4352 7) = true) (h_recLostCount : F.idx (recLostCount) = true) (h : execFinish n data s = .next t) : Kept F s t :=
    by
  have hk := Kept.refl F s
  obtain rfl := Host.Outcome.next.inj h
  simp [hk, h_flt, h_rcd, h_sec, h_ucp, h_28, h_ob_11776_10, h_ob_12032_28, h_ob_4352_1, h_ob_4352_6, h_ob_4352_7, h_recLostCount]

theorem execClose_kept {F : Foot} {s t : State} (n : Nat) (h_flt : F.flt = true) (h_lark : F.lark = true) (h_rcd : F.rcd =
    true) (h_sec : F.sec = true) (h_ucp : F.ucp = true) (h_28 : F.grp 40) (h_ob_11776_10 : F.idx (ob 11776 10) = true)
    (h_ob_11776_14 : F.idx (ob 11776 14) = true) (h_ob_4352_1 : F.idx (ob 4352 1) = true) (h_recLostCount : F.idx (recLostCount) =
    true) (h : execClose n s = .next t) : Kept F s t := by
  have hk := Kept.refl F s
  obtain rfl := Host.Outcome.next.inj h
  simp [hk, h_flt, h_lark, h_rcd, h_sec, h_ucp, h_28, h_ob_11776_10, h_ob_11776_14, h_ob_4352_1, h_recLostCount]

theorem execAttest_kept {F : Foot} {s t : State} (nonce : List Byte) (h_ucp : F.ucp = true) (h : execAttest nonce s = .next t)
    : Kept F s t := by
  have hk := Kept.refl F s
  obtain rfl := Host.Outcome.next.inj h
  simp [hk, h_ucp]

theorem execHandshakeTimeout_kept {F : Foot} {s t : State} (n : Nat) (h_sec : F.sec = true) (h : execHandshakeTimeout n s =
    .next t) : Kept F s t := by
  have hk := Kept.refl F s
  obtain rfl := Host.Outcome.next.inj h
  simp [hk, h_sec]

theorem execSessionIdleTimeout_kept {F : Foot} {s t : State} (n : Nat) (h_flt : F.flt = true) (h_lark : F.lark = true) (h_rcd
    : F.rcd = true) (h_sec : F.sec = true) (h_ucp : F.ucp = true) (h_28 : F.grp 40) (h_ob_11776_10 : F.idx (ob 11776 10) = true)
    (h_ob_11776_14 : F.idx (ob 11776 14) = true) (h_ob_4352_1 : F.idx (ob 4352 1) = true) (h_recLostCount : F.idx (recLostCount) =
    true) (h : execSessionIdleTimeout n s = .next t) : Kept F s t := by
  have hk := Kept.refl F s
  obtain rfl := Host.Outcome.next.inj h
  simp [hk, h_flt, h_lark, h_rcd, h_sec, h_ucp, h_28, h_ob_11776_10, h_ob_11776_14, h_ob_4352_1, h_recLostCount]

theorem execSessionLifetimeEnd_kept {F : Foot} {s t : State} (n : Nat) (h_flt : F.flt = true) (h_lark : F.lark = true) (h_rcd
    : F.rcd = true) (h_sec : F.sec = true) (h_ucp : F.ucp = true) (h_28 : F.grp 40) (h_ob_11776_10 : F.idx (ob 11776 10) = true)
    (h_ob_11776_14 : F.idx (ob 11776 14) = true) (h_ob_4352_1 : F.idx (ob 4352 1) = true) (h_recLostCount : F.idx (recLostCount) =
    true) (h : execSessionLifetimeEnd n s = .next t) : Kept F s t := by
  have hk := Kept.refl F s
  obtain rfl := Host.Outcome.next.inj h
  simp [hk, h_flt, h_lark, h_rcd, h_sec, h_ucp, h_28, h_ob_11776_10, h_ob_11776_14, h_ob_4352_1, h_recLostCount]

theorem execCredentialExpiryCheck_kept {F : Foot} {s t : State} (h_flt : F.flt = true) (h_lark : F.lark = true) (h_rcd : F.rcd
    = true) (h_sec : F.sec = true) (h_timers : F.timers = true) (h_ucp : F.ucp = true) (h_28 : F.grp 40) (h_ob_11776_10 : F.idx
    (ob 11776 10) = true) (h_ob_11776_14 : F.idx (ob 11776 14) = true) (h_ob_4352_1 : F.idx (ob 4352 1) = true) (h_ob_4352_8 :
    F.idx (ob 4352 8) = true) (h_recLostCount : F.idx (recLostCount) = true) (h : execCredentialExpiryCheck s = .next t) : Kept F
    s t := by
  have hk := Kept.refl F s
  obtain rfl := Host.Outcome.next.inj h
  simp [hk, h_flt, h_lark, h_rcd, h_sec, h_timers, h_ucp, h_28, h_ob_11776_10, h_ob_11776_14, h_ob_4352_1, h_ob_4352_8, h_recLostCount]

theorem execEndSession_kept {F : Foot} {s t : State} (who : Who) (n : Nat) (h_flt : F.flt = true) (h_img : F.img = true)
    (h_lark : F.lark = true) (h_rcd : F.rcd = true) (h_sec : F.sec = true) (h_ucp : F.ucp = true) (h_28 : F.grp 40) (h_ob_11776_10
    : F.idx (ob 11776 10) = true) (h_ob_11776_14 : F.idx (ob 11776 14) = true) (h_ob_12288_4 : F.idx (ob 12288 4) = true)
    (h_ob_4352_1 : F.idx (ob 4352 1) = true) (h_ob_4608_4 : F.idx (ob 4608 4) = true) (h_ob_4608_5 : F.idx (ob 4608 5) = true)
    (h_ob_4608_6 : F.idx (ob 4608 6) = true) (h_ob_4608_7 : F.idx (ob 4608 7) = true) (h_ob_4608_8 : F.idx (ob 4608 8) = true)
    (h_recLostCount : F.idx (recLostCount) = true) (h : execEndSession who n s = .next t) : Kept F s t := by
  have hk := Kept.refl F s
  obtain rfl := Host.Outcome.next.inj h
  simp [hk, h_flt, h_img, h_lark, h_rcd, h_sec, h_ucp, h_28, h_ob_11776_10, h_ob_11776_14, h_ob_12288_4, h_ob_4352_1, h_ob_4608_4, h_ob_4608_5, h_ob_4608_6, h_ob_4608_7, h_ob_4608_8, h_recLostCount]

theorem execLockoutEnd_kept {F : Foot} {s t : State} (r : Route) (h_sec : F.sec = true) (h : execLockoutEnd r s = .next t) :
    Kept F s t := by
  have hk := Kept.refl F s
  obtain rfl := Host.Outcome.next.inj h
  simp [hk, h_sec]

theorem execRevocationApply_kept {F : Foot} {s t : State} (who : Who) (h_conf : F.conf = true) (h_flt : F.flt = true) (h_fox :
    F.fox = true) (h_img : F.img = true) (h_lark : F.lark = true) (h_rcd : F.rcd = true) (h_sec : F.sec = true) (h_ucp : F.ucp =
    true) (h_27 : F.grp 39) (h_28 : F.grp 40) (h_ob_11776_10 : F.idx (ob 11776 10) = true) (h_ob_11776_14 : F.idx (ob 11776 14) =
    true) (h_ob_12032_28 : F.idx (ob 12032 28) = true) (h_ob_12288_4 : F.idx (ob 12288 4) = true) (h_ob_12288_8 : F.idx (ob 12288
    8) = true) (h_ob_4352_1 : F.idx (ob 4352 1) = true) (h_ob_4352_6 : F.idx (ob 4352 6) = true) (h_ob_4608_4 : F.idx (ob 4608 4)
    = true) (h_ob_4608_5 : F.idx (ob 4608 5) = true) (h_ob_4608_6 : F.idx (ob 4608 6) = true) (h_ob_4608_7 : F.idx (ob 4608 7) =
    true) (h_ob_4608_8 : F.idx (ob 4608 8) = true) (h_recLostCount : F.idx (recLostCount) = true) (h_sk2F_11 : F.idx (sk2F 11) =
    true) (h_sk2F_9 : F.idx (sk2F 9) = true) (h : execRevocationApply who s = .next t) : Kept F s t := by
  have hk := Kept.refl F s
  obtain rfl := Host.Outcome.next.inj h
  simp [hk, h_conf, h_flt, h_fox, h_img, h_lark, h_rcd, h_sec, h_ucp, h_27, h_28, h_ob_11776_10, h_ob_11776_14, h_ob_12032_28, h_ob_12288_4, h_ob_12288_8, h_ob_4352_1, h_ob_4352_6, h_ob_4608_4, h_ob_4608_5, h_ob_4608_6, h_ob_4608_7, h_ob_4608_8, h_recLostCount, h_sk2F_11, h_sk2F_9]

theorem execAnchorApply_kept {F : Foot} {s t : State} (who : Who) (h_flt : F.flt = true) (h_img : F.img = true) (h_lark :
    F.lark = true) (h_rcd : F.rcd = true) (h_sec : F.sec = true) (h_ucp : F.ucp = true) (h_28 : F.grp 40) (h_ob_11776_10 : F.idx
    (ob 11776 10) = true) (h_ob_11776_14 : F.idx (ob 11776 14) = true) (h_ob_12032_28 : F.idx (ob 12032 28) = true) (h_ob_12288_4
    : F.idx (ob 12288 4) = true) (h_ob_4352_1 : F.idx (ob 4352 1) = true) (h_ob_4352_6 : F.idx (ob 4352 6) = true) (h_ob_4608_4 :
    F.idx (ob 4608 4) = true) (h_ob_4608_5 : F.idx (ob 4608 5) = true) (h_ob_4608_6 : F.idx (ob 4608 6) = true) (h_ob_4608_7 :
    F.idx (ob 4608 7) = true) (h_ob_4608_8 : F.idx (ob 4608 8) = true) (h_recLostCount : F.idx (recLostCount) = true) (h_sk2F_11 :
    F.idx (sk2F 11) = true) (h_sk2F_131 : F.idx (sk2F 131) = true) (h_sk2F_3 : F.idx (sk2F 3) = true) (h : execAnchorApply who s =
    .next t) : Kept F s t := by
  have hk := Kept.refl F s
  obtain rfl := Host.Outcome.next.inj h
  simp [hk, h_flt, h_img, h_lark, h_rcd, h_sec, h_ucp, h_28, h_ob_11776_10, h_ob_11776_14, h_ob_12032_28, h_ob_12288_4, h_ob_4352_1, h_ob_4352_6, h_ob_4608_4, h_ob_4608_5, h_ob_4608_6, h_ob_4608_7, h_ob_4608_8, h_recLostCount, h_sk2F_11, h_sk2F_131, h_sk2F_3]

theorem execMemberListApply_kept {F : Foot} {s t : State} (who : Who) (h_flt : F.flt = true) (h_img : F.img = true) (h_rcd :
    F.rcd = true) (h_sec : F.sec = true) (h_ucp : F.ucp = true) (h_28 : F.grp 40) (h_ob_11776_10 : F.idx (ob 11776 10) = true)
    (h_ob_12032_28 : F.idx (ob 12032 28) = true) (h_ob_12288_4 : F.idx (ob 12288 4) = true) (h_ob_4352_6 : F.idx (ob 4352 6) =
    true) (h_ob_4608_4 : F.idx (ob 4608 4) = true) (h_ob_4608_5 : F.idx (ob 4608 5) = true) (h_ob_4608_6 : F.idx (ob 4608 6) =
    true) (h_ob_4608_7 : F.idx (ob 4608 7) = true) (h_ob_4608_8 : F.idx (ob 4608 8) = true) (h_recLostCount : F.idx (recLostCount)
    = true) (h_sk2F_11 : F.idx (sk2F 11) = true) (h_sk2F_133 : F.idx (sk2F 133) = true) (h_sk2F_5 : F.idx (sk2F 5) = true) (h :
    execMemberListApply who s = .next t) : Kept F s t := by
  have hk := Kept.refl F s
  obtain rfl := Host.Outcome.next.inj h
  simp [hk, h_flt, h_img, h_rcd, h_sec, h_ucp, h_28, h_ob_11776_10, h_ob_12032_28, h_ob_12288_4, h_ob_4352_6, h_ob_4608_4, h_ob_4608_5, h_ob_4608_6, h_ob_4608_7, h_ob_4608_8, h_recLostCount, h_sk2F_11, h_sk2F_133, h_sk2F_5]

theorem execChallengeRenew_kept {F : Foot} {s t : State} (h_free : F.free = true) (h_sec : F.sec = true) (h :
    execChallengeRenew s = .next t) : Kept F s t := by
  have hk := Kept.refl F s
  obtain rfl := Host.Outcome.next.inj h
  simp [hk, h_free, h_sec]

theorem execDebugOpen_kept {F : Foot} {s t : State} (who : Who) (data : List Byte) (h_flt : F.flt = true) (h_free : F.free =
    true) (h_img : F.img = true) (h_rcd : F.rcd = true) (h_sec : F.sec = true) (h_ucp : F.ucp = true) (h_28 : F.grp 40)
    (h_ob_11776_10 : F.idx (ob 11776 10) = true) (h_ob_12032_28 : F.idx (ob 12032 28) = true) (h_ob_12288_4 : F.idx (ob 12288 4) =
    true) (h_ob_4352_6 : F.idx (ob 4352 6) = true) (h_ob_4608_4 : F.idx (ob 4608 4) = true) (h_ob_4608_5 : F.idx (ob 4608 5) =
    true) (h_ob_4608_6 : F.idx (ob 4608 6) = true) (h_ob_4608_7 : F.idx (ob 4608 7) = true) (h_ob_4608_8 : F.idx (ob 4608 8) =
    true) (h_recLostCount : F.idx (recLostCount) = true) (h_sk2F_24 : F.idx (sk2F 24) = true) (h : execDebugOpen who data s =
    .next t) : Kept F s t := by
  have hk := Kept.refl F s
  obtain rfl := Host.Outcome.next.inj h
  simp [hk, h_flt, h_free, h_img, h_rcd, h_sec, h_ucp, h_28, h_ob_11776_10, h_ob_12032_28, h_ob_12288_4, h_ob_4352_6, h_ob_4608_4, h_ob_4608_5, h_ob_4608_6, h_ob_4608_7, h_ob_4608_8, h_recLostCount, h_sk2F_24]

theorem execDebugClose_kept {F : Foot} {s t : State} (who : Who) (h_flt : F.flt = true) (h_img : F.img = true) (h_rcd : F.rcd
    = true) (h_sec : F.sec = true) (h_ucp : F.ucp = true) (h_28 : F.grp 40) (h_ob_11776_10 : F.idx (ob 11776 10) = true)
    (h_ob_12288_4 : F.idx (ob 12288 4) = true) (h_ob_4608_4 : F.idx (ob 4608 4) = true) (h_ob_4608_5 : F.idx (ob 4608 5) = true)
    (h_ob_4608_6 : F.idx (ob 4608 6) = true) (h_ob_4608_7 : F.idx (ob 4608 7) = true) (h_ob_4608_8 : F.idx (ob 4608 8) = true)
    (h_recLostCount : F.idx (recLostCount) = true) (h_sk2F_24 : F.idx (sk2F 24) = true) (h : execDebugClose who s = .next t) :
    Kept F s t := by
  have hk := Kept.refl F s
  obtain rfl := Host.Outcome.next.inj h
  simp [hk, h_flt, h_img, h_rcd, h_sec, h_ucp, h_28, h_ob_11776_10, h_ob_12288_4, h_ob_4608_4, h_ob_4608_5, h_ob_4608_6, h_ob_4608_7, h_ob_4608_8, h_recLostCount, h_sk2F_24]

theorem execDebugTimeout_kept {F : Foot} {s t : State} (h_flt : F.flt = true) (h_rcd : F.rcd = true) (h_sec : F.sec = true)
    (h_ucp : F.ucp = true) (h_28 : F.grp 40) (h_ob_11776_10 : F.idx (ob 11776 10) = true) (h_recLostCount : F.idx (recLostCount) =
    true) (h_sk2F_24 : F.idx (sk2F 24) = true) (h : execDebugTimeout s = .next t) : Kept F s t := by
  have hk := Kept.refl F s
  obtain rfl := Host.Outcome.next.inj h
  simp [hk, h_flt, h_rcd, h_sec, h_ucp, h_28, h_ob_11776_10, h_recLostCount, h_sk2F_24]

theorem execDebugLock_kept {F : Foot} {s t : State} (who : Who) (value : Nat) (h_flt : F.flt = true) (h_img : F.img = true)
    (h_rcd : F.rcd = true) (h_ucp : F.ucp = true) (h_28 : F.grp 40) (h_ob_11776_10 : F.idx (ob 11776 10) = true) (h_ob_12288_4 :
    F.idx (ob 12288 4) = true) (h_ob_4096_9 : F.idx (ob 4096 9) = true) (h_ob_4608_4 : F.idx (ob 4608 4) = true) (h_ob_4608_5 :
    F.idx (ob 4608 5) = true) (h_ob_4608_6 : F.idx (ob 4608 6) = true) (h_ob_4608_7 : F.idx (ob 4608 7) = true) (h_ob_4608_8 :
    F.idx (ob 4608 8) = true) (h_recLostCount : F.idx (recLostCount) = true) (h_sk2F_24 : F.idx (sk2F 24) = true) (h :
    execDebugLock who value s = .next t) : Kept F s t := by
  have hk := Kept.refl F s
  obtain rfl := Host.Outcome.next.inj h
  simp [hk, h_flt, h_img, h_rcd, h_ucp, h_28, h_ob_11776_10, h_ob_12288_4, h_ob_4096_9, h_ob_4608_4, h_ob_4608_5, h_ob_4608_6, h_ob_4608_7, h_ob_4608_8, h_recLostCount, h_sk2F_24]

theorem execRandomSourceHealthFail_kept {F : Foot} {s t : State} (h_flt : F.flt = true) (h_rcd : F.rcd = true) (h_ucp : F.ucp
    = true) (h_28 : F.grp 40) (h_ob_11776_10 : F.idx (ob 11776 10) = true) (h_recLostCount : F.idx (recLostCount) = true)
    (h_sk2F_29 : F.idx (sk2F 29) = true) (h : execRandomSourceHealthFail s = .next t) : Kept F s t := by
  have hk := Kept.refl F s
  obtain rfl := Host.Outcome.next.inj h
  simp [hk, h_flt, h_rcd, h_ucp, h_28, h_ob_11776_10, h_recLostCount, h_sk2F_29]

theorem execConfigCommit_kept {F : Foot} {s t : State} (who : Who) (h_conf : F.conf = true) (h_flt : F.flt = true) (h_img :
    F.img = true) (h_rcd : F.rcd = true) (h_ucp : F.ucp = true) (h_28 : F.grp 40) (h_ob_11776_10 : F.idx (ob 11776 10) = true)
    (h_ob_12288_1 : F.idx (ob 12288 1) = true) (h_ob_12288_14 : F.idx (ob 12288 14) = true) (h_ob_12288_2 : F.idx (ob 12288 2) =
    true) (h_ob_12288_3 : F.idx (ob 12288 3) = true) (h_ob_12288_4 : F.idx (ob 12288 4) = true) (h_ob_12288_7 : F.idx (ob 12288 7)
    = true) (h_ob_4608_4 : F.idx (ob 4608 4) = true) (h_ob_4608_5 : F.idx (ob 4608 5) = true) (h_ob_4608_6 : F.idx (ob 4608 6) =
    true) (h_ob_4608_7 : F.idx (ob 4608 7) = true) (h_ob_4608_8 : F.idx (ob 4608 8) = true) (h_recLostCount : F.idx (recLostCount)
    = true) (h : execConfigCommit who s = .next t) : Kept F s t := by
  have hk := Kept.refl F s
  obtain rfl := Host.Outcome.next.inj h
  simp [hk, h_conf, h_flt, h_img, h_rcd, h_ucp, h_28, h_ob_11776_10, h_ob_12288_1, h_ob_12288_14, h_ob_12288_2, h_ob_12288_3, h_ob_12288_4, h_ob_12288_7, h_ob_4608_4, h_ob_4608_5, h_ob_4608_6, h_ob_4608_7, h_ob_4608_8, h_recLostCount]

theorem execConfigReturn_kept {F : Foot} {s t : State} (who : Who) (v : Nat) (h_conf : F.conf = true) (h_flt : F.flt = true)
    (h_fox : F.fox = true) (h_img : F.img = true) (h_rcd : F.rcd = true) (h_ucp : F.ucp = true) (h_28 : F.grp 40) (h_fx_16 : F.idx
    (fx 16) = true) (h_ob_11776_10 : F.idx (ob 11776 10) = true) (h_ob_12288_1 : F.idx (ob 12288 1) = true) (h_ob_12288_14 : F.idx
    (ob 12288 14) = true) (h_ob_12288_2 : F.idx (ob 12288 2) = true) (h_ob_12288_4 : F.idx (ob 12288 4) = true) (h_ob_12288_7 :
    F.idx (ob 12288 7) = true) (h_ob_12288_8 : F.idx (ob 12288 8) = true) (h_ob_4608_4 : F.idx (ob 4608 4) = true) (h_ob_4608_5 :
    F.idx (ob 4608 5) = true) (h_ob_4608_6 : F.idx (ob 4608 6) = true) (h_ob_4608_7 : F.idx (ob 4608 7) = true) (h_ob_4608_8 :
    F.idx (ob 4608 8) = true) (h_recLostCount : F.idx (recLostCount) = true) (h : execConfigReturn who v s = .next t) : Kept F s t
    := by
  have hk := Kept.refl F s
  obtain rfl := Host.Outcome.next.inj h
  simp [hk, h_conf, h_flt, h_fox, h_img, h_rcd, h_ucp, h_28, h_fx_16, h_ob_11776_10, h_ob_12288_1, h_ob_12288_14, h_ob_12288_2, h_ob_12288_4, h_ob_12288_7, h_ob_12288_8, h_ob_4608_4, h_ob_4608_5, h_ob_4608_6, h_ob_4608_7, h_ob_4608_8, h_recLostCount]

theorem execImageBlock_kept {F : Foot} {s t : State} (who : Who) (off : Nat) (data : List Byte) (h_flt : F.flt = true) (h_img
    : F.img = true) (h_rcd : F.rcd = true) (h_ucp : F.ucp = true) (h_upd : F.upd = true) (h_28 : F.grp 40) (h_ob_11776_10 : F.idx
    (ob 11776 10) = true) (h_ob_12288_4 : F.idx (ob 12288 4) = true) (h_ob_4128_2 : F.idx (ob 4128 2) = true) (h_ob_4608_4 : F.idx
    (ob 4608 4) = true) (h_ob_4608_5 : F.idx (ob 4608 5) = true) (h_ob_4608_6 : F.idx (ob 4608 6) = true) (h_ob_4608_7 : F.idx (ob
    4608 7) = true) (h_ob_4608_8 : F.idx (ob 4608 8) = true) (h_recLostCount : F.idx (recLostCount) = true) (h_uk_10 : F.idx (uk
    10) = true) (h_uk_11 : F.idx (uk 11) = true) (h_uk_12 : F.idx (uk 12) = true) (h_uk_14 : F.idx (uk 14) = true) (h_uk_2 : F.idx
    (uk 2) = true) (h_uk_4 : F.idx (uk 4) = true) (h : execImageBlock who off data s = .next t) : Kept F s t := by
  have hk := Kept.refl F s
  obtain rfl := Host.Outcome.next.inj h
  simp [hk, h_flt, h_img, h_rcd, h_ucp, h_upd, h_28, h_ob_11776_10, h_ob_12288_4, h_ob_4128_2, h_ob_4608_4, h_ob_4608_5, h_ob_4608_6, h_ob_4608_7, h_ob_4608_8, h_recLostCount, h_uk_10, h_uk_11, h_uk_12, h_uk_14, h_uk_2, h_uk_4]

theorem execImageVerify_kept {F : Foot} {s t : State} (who : Who) (built : Bool) (h_flt : F.flt = true) (h_img : F.img = true)
    (h_rcd : F.rcd = true) (h_ucp : F.ucp = true) (h_upd : F.upd = true) (h_10 : F.grp 16) (h_28 : F.grp 40) (h_ob_11776_10 :
    F.idx (ob 11776 10) = true) (h_ob_12288_4 : F.idx (ob 12288 4) = true) (h_ob_4608_4 : F.idx (ob 4608 4) = true) (h_ob_4608_5 :
    F.idx (ob 4608 5) = true) (h_ob_4608_6 : F.idx (ob 4608 6) = true) (h_ob_4608_7 : F.idx (ob 4608 7) = true) (h_ob_4608_8 :
    F.idx (ob 4608 8) = true) (h_recLostCount : F.idx (recLostCount) = true) (h_uk_12 : F.idx (uk 12) = true) (h_uk_4 : F.idx (uk
    4) = true) (h : execImageVerify who built s = .next t) : Kept F s t := by
  have hk := Kept.refl F s
  obtain rfl := Host.Outcome.next.inj h
  simp [hk, h_flt, h_img, h_rcd, h_ucp, h_upd, h_10, h_28, h_ob_11776_10, h_ob_12288_4, h_ob_4608_4, h_ob_4608_5, h_ob_4608_6, h_ob_4608_7, h_ob_4608_8, h_recLostCount, h_uk_12, h_uk_4]

theorem execArmA_kept {F : Foot} {s t : State} (who : Who) (h_flt : F.flt = true) (h_img : F.img = true) (h_rcd : F.rcd =
    true) (h_ucp : F.ucp = true) (h_upd : F.upd = true) (h_28 : F.grp 40) (h_ob_11776_10 : F.idx (ob 11776 10) = true)
    (h_ob_12288_4 : F.idx (ob 12288 4) = true) (h_ob_4608_4 : F.idx (ob 4608 4) = true) (h_ob_4608_5 : F.idx (ob 4608 5) = true)
    (h_ob_4608_6 : F.idx (ob 4608 6) = true) (h_ob_4608_7 : F.idx (ob 4608 7) = true) (h_ob_4608_8 : F.idx (ob 4608 8) = true)
    (h_recLostCount : F.idx (recLostCount) = true) (h_uk_10 : F.idx (uk 10) = true) (h_uk_11 : F.idx (uk 11) = true) (h_uk_12 :
    F.idx (uk 12) = true) (h_uk_14 : F.idx (uk 14) = true) (h_uk_2 : F.idx (uk 2) = true) (h_uk_4 : F.idx (uk 4) = true) (h_uk_6 :
    F.idx (uk 6) = true) (h : execArmA who s = .next t) : Kept F s t := by
  have hk := Kept.refl F s
  obtain rfl := Host.Outcome.next.inj h
  simp [hk, h_flt, h_img, h_rcd, h_ucp, h_upd, h_28, h_ob_11776_10, h_ob_12288_4, h_ob_4608_4, h_ob_4608_5, h_ob_4608_6, h_ob_4608_7, h_ob_4608_8, h_recLostCount, h_uk_10, h_uk_11, h_uk_12, h_uk_14, h_uk_2, h_uk_4, h_uk_6]

theorem execArmN_kept {F : Foot} {s t : State} (who : Who) (h_flt : F.flt = true) (h_img : F.img = true) (h_rcd : F.rcd =
    true) (h_ucp : F.ucp = true) (h_upd : F.upd = true) (h_28 : F.grp 40) (h_ob_11776_10 : F.idx (ob 11776 10) = true)
    (h_ob_12288_4 : F.idx (ob 12288 4) = true) (h_ob_4608_4 : F.idx (ob 4608 4) = true) (h_ob_4608_5 : F.idx (ob 4608 5) = true)
    (h_ob_4608_6 : F.idx (ob 4608 6) = true) (h_ob_4608_7 : F.idx (ob 4608 7) = true) (h_ob_4608_8 : F.idx (ob 4608 8) = true)
    (h_recLostCount : F.idx (recLostCount) = true) (h_uk_10 : F.idx (uk 10) = true) (h_uk_11 : F.idx (uk 11) = true) (h_uk_12 :
    F.idx (uk 12) = true) (h_uk_14 : F.idx (uk 14) = true) (h_uk_2 : F.idx (uk 2) = true) (h_uk_4 : F.idx (uk 4) = true) (h_uk_6 :
    F.idx (uk 6) = true) (h : execArmN who s = .next t) : Kept F s t := by
  have hk := Kept.refl F s
  obtain rfl := Host.Outcome.next.inj h
  simp [hk, h_flt, h_img, h_rcd, h_ucp, h_upd, h_28, h_ob_11776_10, h_ob_12288_4, h_ob_4608_4, h_ob_4608_5, h_ob_4608_6, h_ob_4608_7, h_ob_4608_8, h_recLostCount, h_uk_10, h_uk_11, h_uk_12, h_uk_14, h_uk_2, h_uk_4, h_uk_6]

theorem execActivateNow_kept {F : Foot} {s t : State} (who : Who) (h_flt : F.flt = true) (h_img : F.img = true) (h_rcd : F.rcd
    = true) (h_ucp : F.ucp = true) (h_upd : F.upd = true) (h_28 : F.grp 40) (h_ob_11776_10 : F.idx (ob 11776 10) = true)
    (h_ob_12288_4 : F.idx (ob 12288 4) = true) (h_ob_4608_4 : F.idx (ob 4608 4) = true) (h_ob_4608_5 : F.idx (ob 4608 5) = true)
    (h_ob_4608_6 : F.idx (ob 4608 6) = true) (h_ob_4608_7 : F.idx (ob 4608 7) = true) (h_ob_4608_8 : F.idx (ob 4608 8) = true)
    (h_recLostCount : F.idx (recLostCount) = true) (h_uk_10 : F.idx (uk 10) = true) (h_uk_11 : F.idx (uk 11) = true) (h_uk_12 :
    F.idx (uk 12) = true) (h_uk_14 : F.idx (uk 14) = true) (h_uk_2 : F.idx (uk 2) = true) (h_uk_4 : F.idx (uk 4) = true) (h_uk_6 :
    F.idx (uk 6) = true) (h : execActivateNow who s = .next t) : Kept F s t := by
  have hk := Kept.refl F s
  obtain rfl := Host.Outcome.next.inj h
  simp [hk, h_flt, h_img, h_rcd, h_ucp, h_upd, h_28, h_ob_11776_10, h_ob_12288_4, h_ob_4608_4, h_ob_4608_5, h_ob_4608_6, h_ob_4608_7, h_ob_4608_8, h_recLostCount, h_uk_10, h_uk_11, h_uk_12, h_uk_14, h_uk_2, h_uk_4, h_uk_6]

theorem execDisarmReject_kept {F : Foot} {s t : State} (who : Who) (h_flt : F.flt = true) (h_img : F.img = true) (h_rcd :
    F.rcd = true) (h_ucp : F.ucp = true) (h_upd : F.upd = true) (h_28 : F.grp 40) (h_ob_11776_10 : F.idx (ob 11776 10) = true)
    (h_ob_12288_4 : F.idx (ob 12288 4) = true) (h_ob_4608_4 : F.idx (ob 4608 4) = true) (h_ob_4608_5 : F.idx (ob 4608 5) = true)
    (h_ob_4608_6 : F.idx (ob 4608 6) = true) (h_ob_4608_7 : F.idx (ob 4608 7) = true) (h_ob_4608_8 : F.idx (ob 4608 8) = true)
    (h_recLostCount : F.idx (recLostCount) = true) (h_uk_10 : F.idx (uk 10) = true) (h_uk_11 : F.idx (uk 11) = true) (h_uk_12 :
    F.idx (uk 12) = true) (h_uk_14 : F.idx (uk 14) = true) (h_uk_2 : F.idx (uk 2) = true) (h_uk_4 : F.idx (uk 4) = true) (h_uk_6 :
    F.idx (uk 6) = true) (h : execDisarmReject who s = .next t) : Kept F s t := by
  have hk := Kept.refl F s
  obtain rfl := Host.Outcome.next.inj h
  simp [hk, h_flt, h_img, h_rcd, h_ucp, h_upd, h_28, h_ob_11776_10, h_ob_12288_4, h_ob_4608_4, h_ob_4608_5, h_ob_4608_6, h_ob_4608_7, h_ob_4608_8, h_recLostCount, h_uk_10, h_uk_11, h_uk_12, h_uk_14, h_uk_2, h_uk_4, h_uk_6]

theorem execUpdateDiscard_kept {F : Foot} {s t : State} (who : Who) (h_flt : F.flt = true) (h_img : F.img = true) (h_rcd :
    F.rcd = true) (h_ucp : F.ucp = true) (h_upd : F.upd = true) (h_28 : F.grp 40) (h_ob_11776_10 : F.idx (ob 11776 10) = true)
    (h_ob_12288_4 : F.idx (ob 12288 4) = true) (h_ob_4608_4 : F.idx (ob 4608 4) = true) (h_ob_4608_5 : F.idx (ob 4608 5) = true)
    (h_ob_4608_6 : F.idx (ob 4608 6) = true) (h_ob_4608_7 : F.idx (ob 4608 7) = true) (h_ob_4608_8 : F.idx (ob 4608 8) = true)
    (h_recLostCount : F.idx (recLostCount) = true) (h_uk_10 : F.idx (uk 10) = true) (h_uk_11 : F.idx (uk 11) = true) (h_uk_12 :
    F.idx (uk 12) = true) (h_uk_14 : F.idx (uk 14) = true) (h_uk_2 : F.idx (uk 2) = true) (h_uk_4 : F.idx (uk 4) = true) (h_uk_6 :
    F.idx (uk 6) = true) (h : execUpdateDiscard who s = .next t) : Kept F s t := by
  have hk := Kept.refl F s
  obtain rfl := Host.Outcome.next.inj h
  simp [hk, h_flt, h_img, h_rcd, h_ucp, h_upd, h_28, h_ob_11776_10, h_ob_12288_4, h_ob_4608_4, h_ob_4608_5, h_ob_4608_6, h_ob_4608_7, h_ob_4608_8, h_recLostCount, h_uk_10, h_uk_11, h_uk_12, h_uk_14, h_uk_2, h_uk_4, h_uk_6]

theorem execUpdateConfirm_kept {F : Foot} {s t : State} (who : Who) (h_flt : F.flt = true) (h_img : F.img = true) (h_rcd :
    F.rcd = true) (h_ucp : F.ucp = true) (h_upd : F.upd = true) (h_10 : F.grp 16) (h_28 : F.grp 40) (h_ob_11776_10 : F.idx (ob
    11776 10) = true) (h_ob_12288_4 : F.idx (ob 12288 4) = true) (h_ob_4608_4 : F.idx (ob 4608 4) = true) (h_ob_4608_5 : F.idx (ob
    4608 5) = true) (h_ob_4608_6 : F.idx (ob 4608 6) = true) (h_ob_4608_7 : F.idx (ob 4608 7) = true) (h_ob_4608_8 : F.idx (ob
    4608 8) = true) (h_recLostCount : F.idx (recLostCount) = true) (h_uk_10 : F.idx (uk 10) = true) (h_uk_11 : F.idx (uk 11) =
    true) (h_uk_14 : F.idx (uk 14) = true) (h_uk_2 : F.idx (uk 2) = true) (h_uk_4 : F.idx (uk 4) = true) (h : execUpdateConfirm
    who s = .next t) : Kept F s t := by
  have hk := Kept.refl F s
  obtain rfl := Host.Outcome.next.inj h
  simp [hk, h_flt, h_img, h_rcd, h_ucp, h_upd, h_10, h_28, h_ob_11776_10, h_ob_12288_4, h_ob_4608_4, h_ob_4608_5, h_ob_4608_6, h_ob_4608_7, h_ob_4608_8, h_recLostCount, h_uk_10, h_uk_11, h_uk_14, h_uk_2, h_uk_4]

theorem execTrialHealthy_kept {F : Foot} {s t : State} (h_flt : F.flt = true) (h_rcd : F.rcd = true) (h_ucp : F.ucp = true)
    (h_upd : F.upd = true) (h_10 : F.grp 16) (h_28 : F.grp 40) (h_ob_11776_10 : F.idx (ob 11776 10) = true) (h_recLostCount :
    F.idx (recLostCount) = true) (h_uk_10 : F.idx (uk 10) = true) (h_uk_11 : F.idx (uk 11) = true) (h_uk_14 : F.idx (uk 14) =
    true) (h_uk_2 : F.idx (uk 2) = true) (h_uk_4 : F.idx (uk 4) = true) (h : execTrialHealthy s = .next t) : Kept F s t := by
  have hk := Kept.refl F s
  obtain rfl := Host.Outcome.next.inj h
  simp [hk, h_flt, h_rcd, h_ucp, h_upd, h_10, h_28, h_ob_11776_10, h_recLostCount, h_uk_10, h_uk_11, h_uk_14, h_uk_2, h_uk_4]

theorem execClassNActivate_kept {F : Foot} {s t : State} (h_flt : F.flt = true) (h_rcd : F.rcd = true) (h_ucp : F.ucp = true)
    (h_upd : F.upd = true) (h_28 : F.grp 40) (h_ob_11776_10 : F.idx (ob 11776 10) = true) (h_ob_4096_7 : F.idx (ob 4096 7) = true)
    (h_ob_4096_8 : F.idx (ob 4096 8) = true) (h_ob_4128_1 : F.idx (ob 4128 1) = true) (h_ob_4128_2 : F.idx (ob 4128 2) = true)
    (h_recLostCount : F.idx (recLostCount) = true) (h_uk_10 : F.idx (uk 10) = true) (h_uk_4 : F.idx (uk 4) = true) (h :
    execClassNActivate s = .next t) : Kept F s t := by
  have hk := Kept.refl F s
  obtain rfl := Host.Outcome.next.inj h
  simp [hk, h_flt, h_rcd, h_ucp, h_upd, h_28, h_ob_11776_10, h_ob_4096_7, h_ob_4096_8, h_ob_4128_1, h_ob_4128_2, h_recLostCount, h_uk_10, h_uk_4]

theorem execActivationTimeMissed_kept {F : Foot} {s t : State} (h_flt : F.flt = true) (h_rcd : F.rcd = true) (h_ucp : F.ucp =
    true) (h_28 : F.grp 40) (h_ob_11776_10 : F.idx (ob 11776 10) = true) (h_recLostCount : F.idx (recLostCount) = true) (h :
    execActivationTimeMissed s = .next t) : Kept F s t := by
  have hk := Kept.refl F s
  obtain rfl := Host.Outcome.next.inj h
  simp [hk, h_flt, h_rcd, h_ucp, h_28, h_ob_11776_10, h_recLostCount]

theorem execPacketReceive_kept {F : Foot} {s t : State} (r : Route) (bytes : List Byte) (h_eth : F.eth = true) (h_flt : F.flt
    = true) (h_rcd : F.rcd = true) (h_sec : F.sec = true) (h_ucp : F.ucp = true) (h_28 : F.grp 40) (h_ob_11776_10 : F.idx (ob
    11776 10) = true) (h_recLostCount : F.idx (recLostCount) = true) (h_uc_15 : F.idx (uc 15) = true) (h_uc_5 : F.idx (uc 5) =
    true) (h_uc_6 : F.idx (uc 6) = true) (h_uc_7 : F.idx (uc 7) = true) (h_uc_8 : F.idx (uc 8) = true) (h_uc_9 : F.idx (uc 9) =
    true) (h : execPacketReceive r bytes s = .next t) : Kept F s t := by
  have hk := Kept.refl F s
  obtain rfl := Host.Outcome.next.inj h
  simp [hk, h_eth, h_flt, h_rcd, h_sec, h_ucp, h_28, h_ob_11776_10, h_recLostCount, h_uc_15, h_uc_5, h_uc_6, h_uc_7, h_uc_8, h_uc_9]

theorem execSubscribe_kept {F : Foot} {s t : State} (who : Who) (r : Route) (cls : Nat) (divider : Nat) (h_ucp : F.ucp = true)
    (h_uc_14 : F.idx (uc 14) = true) (h : execSubscribe who r cls divider s = .next t) : Kept F s t := by
  have hk := Kept.refl F s
  obtain rfl := Host.Outcome.next.inj h
  simp [hk, h_ucp, h_uc_14]

theorem execUnsubscribe_kept {F : Foot} {s t : State} (who : Who) (r : Route) (cls : Nat) (h_ucp : F.ucp = true) (h_uc_14 :
    F.idx (uc 14) = true) (h : execUnsubscribe who r cls s = .next t) : Kept F s t := by
  have hk := Kept.refl F s
  obtain rfl := Host.Outcome.next.inj h
  simp [hk, h_ucp, h_uc_14]

theorem execNop_kept {F : Foot} {s t : State} (data : List Byte) (h_ucp : F.ucp = true) (h : execNop data s = .next t) : Kept
    F s t := by
  have hk := Kept.refl F s
  obtain rfl := Host.Outcome.next.inj h
  simp [hk, h_ucp]

theorem execOutboundTransmit_kept {F : Foot} {s t : State} (port : Fin 12) (h_can : F.can = true) (h_flt : F.flt = true)
    (h_lark : F.lark = true) (h_parts : F.parts = true) (h_rcd : F.rcd = true) (h_sec : F.sec = true) (h_ucp : F.ucp = true) (h_28
    : F.grp 40) (h_ob_11776_10 : F.idx (ob 11776 10) = true) (h_ob_11776_14 : F.idx (ob 11776 14) = true) (h_ob_4352_1 : F.idx (ob
    4352 1) = true) (h_recLostCount : F.idx (recLostCount) = true) (h : execOutboundTransmit port s = .next t) : Kept F s t := by
  have hk := Kept.refl F s
  obtain rfl := Host.Outcome.next.inj h
  simp [hk, h_can, h_flt, h_lark, h_parts, h_rcd, h_sec, h_ucp, h_28, h_ob_11776_10, h_ob_11776_14, h_ob_4352_1, h_recLostCount]

theorem execTagQuarantineEnd_kept {F : Foot} {s t : State} (sp : Space) (epoch : Nat) (tag : Nat) (h_ucp : F.ucp = true) (h :
    execTagQuarantineEnd sp epoch tag s = .next t) : Kept F s t := by
  have hk := Kept.refl F s
  obtain rfl := Host.Outcome.next.inj h
  simp [hk, h_ucp]

theorem execUcpSegmentReceive_kept {F : Foot} {s t : State} (p : Fin 8) (node : Fin 128) (data : List Byte) (h_eth : F.eth =
    true) (h_flt : F.flt = true) (h_rcd : F.rcd = true) (h_sec : F.sec = true) (h_ucp : F.ucp = true) (h_28 : F.grp 40)
    (h_ob_11776_10 : F.idx (ob 11776 10) = true) (h_recLostCount : F.idx (recLostCount) = true) (h_uc_11 : F.idx (uc 11) = true)
    (h_uc_15 : F.idx (uc 15) = true) (h_uc_5 : F.idx (uc 5) = true) (h_uc_6 : F.idx (uc 6) = true) (h_uc_7 : F.idx (uc 7) = true)
    (h_uc_8 : F.idx (uc 8) = true) (h_uc_9 : F.idx (uc 9) = true) (h : execUcpSegmentReceive p node data s = .next t) : Kept F s t
    := by
  have hk := Kept.refl F s
  obtain rfl := Host.Outcome.next.inj h
  simp [hk, h_eth, h_flt, h_rcd, h_sec, h_ucp, h_28, h_ob_11776_10, h_recLostCount, h_uc_11, h_uc_15, h_uc_5, h_uc_6, h_uc_7, h_uc_8, h_uc_9]

theorem execUcpStreamTimeout_kept {F : Foot} {s t : State} (p : Fin 8) (node : Fin 128) (stream : Fin 16) (h_ucp : F.ucp =
    true) (h_uc_11 : F.idx (uc 11) = true) (h : execUcpStreamTimeout p node stream s = .next t) : Kept F s t := by
  have hk := Kept.refl F s
  obtain rfl := Host.Outcome.next.inj h
  simp [hk, h_ucp, h_uc_11]

theorem execAnnounce_kept {F : Foot} {s t : State} (h_eth : F.eth = true) (h_ucp : F.ucp = true) (h : execAnnounce s = .next
    t) : Kept F s t := by
  have hk := Kept.refl F s
  obtain rfl := Host.Outcome.next.inj h
  simp [hk, h_eth, h_ucp]

theorem execDupaddrClear_kept {F : Foot} {s t : State} (h_eth : F.eth = true) (h_flt : F.flt = true) (h_rcd : F.rcd = true)
    (h_ucp : F.ucp = true) (h_28 : F.grp 40) (h_ob_11776_10 : F.idx (ob 11776 10) = true) (h_recLostCount : F.idx (recLostCount) =
    true) (h : execDupaddrClear s = .next t) : Kept F s t := by
  have hk := Kept.refl F s
  obtain rfl := Host.Outcome.next.inj h
  simp [hk, h_eth, h_flt, h_rcd, h_ucp, h_28, h_ob_11776_10, h_recLostCount]

theorem execFleetSend_kept {F : Foot} {s t : State} (who : Who) (h_flt : F.flt = true) (h_free : F.free = true) (h_img : F.img
    = true) (h_rcd : F.rcd = true) (h_ucp : F.ucp = true) (h_28 : F.grp 40) (h_ob_11776_10 : F.idx (ob 11776 10) = true)
    (h_ob_12288_4 : F.idx (ob 12288 4) = true) (h_ob_4608_4 : F.idx (ob 4608 4) = true) (h_ob_4608_5 : F.idx (ob 4608 5) = true)
    (h_ob_4608_6 : F.idx (ob 4608 6) = true) (h_ob_4608_7 : F.idx (ob 4608 7) = true) (h_ob_4608_8 : F.idx (ob 4608 8) = true)
    (h_recLostCount : F.idx (recLostCount) = true) (h_uc_128 : F.idx (uc 128) = true) (h_uc_130 : F.idx (uc 130) = true) (h_uc_132
    : F.idx (uc 132) = true) (h : execFleetSend who s = .next t) : Kept F s t := by
  have hk := Kept.refl F s
  obtain rfl := Host.Outcome.next.inj h
  simp [hk, h_flt, h_free, h_img, h_rcd, h_ucp, h_28, h_ob_11776_10, h_ob_12288_4, h_ob_4608_4, h_ob_4608_5, h_ob_4608_6, h_ob_4608_7, h_ob_4608_8, h_recLostCount, h_uc_128, h_uc_130, h_uc_132]

theorem execFleetDeliver_kept {F : Foot} {s t : State} (who : Who) (h_flt : F.flt = true) (h_img : F.img = true) (h_rcd :
    F.rcd = true) (h_sec : F.sec = true) (h_ucp : F.ucp = true) (h_28 : F.grp 40) (h_ob_11776_10 : F.idx (ob 11776 10) = true)
    (h_ob_12288_4 : F.idx (ob 12288 4) = true) (h_ob_4608_4 : F.idx (ob 4608 4) = true) (h_ob_4608_5 : F.idx (ob 4608 5) = true)
    (h_ob_4608_6 : F.idx (ob 4608 6) = true) (h_ob_4608_7 : F.idx (ob 4608 7) = true) (h_ob_4608_8 : F.idx (ob 4608 8) = true)
    (h_recLostCount : F.idx (recLostCount) = true) (h_uc_133 : F.idx (uc 133) = true) (h_uc_136 : F.idx (uc 136) = true) (h_uc_138
    : F.idx (uc 138) = true) (h : execFleetDeliver who s = .next t) : Kept F s t := by
  have hk := Kept.refl F s
  obtain rfl := Host.Outcome.next.inj h
  simp (contextual := true) (maxDischargeDepth := 60) [hk, h_flt, h_img, h_rcd, h_sec, h_ucp, h_28, h_ob_11776_10, h_ob_12288_4, h_ob_4608_4, h_ob_4608_5, h_ob_4608_6, h_ob_4608_7, h_ob_4608_8, h_recLostCount, h_uc_133, h_uc_136, h_uc_138]

theorem execGptpSyncSend_kept {F : Foot} {s t : State} (p : Fin 6) (h_eth : F.eth = true) (h_timers : F.timers = true) (h_2E :
    F.grp 46) (h : execGptpSyncSend p s = .next t) : Kept F s t := by
  have hk := Kept.refl F s
  obtain rfl := Host.Outcome.next.inj h
  simp [hk, h_eth, h_timers, h_2E]

theorem execGptpMessageReceive_kept {F : Foot} {s t : State} (p : Fin 6) (m : GptpMsg) (h_eth : F.eth = true) (h_tm : F.tm =
    true) (h_2E : F.grp 46) (h : execGptpMessageReceive p m s = .next t) : Kept F s t := by
  have hk := Kept.refl F s
  obtain rfl := Host.Outcome.next.inj h
  simp [hk, h_eth, h_tm, h_2E]

theorem execEthFrameForward_kept {F : Foot} {s t : State} (p : Fin 6) (f : EthFrame) (h_eth : F.eth = true) (h_2E : F.grp 46)
    (h : execEthFrameForward p f s = .next t) : Kept F s t := by
  have hk := Kept.refl F s
  obtain rfl := Host.Outcome.next.inj h
  simp [hk, h_eth, h_2E]

theorem execEthLinkDown_kept {F : Foot} {s t : State} (p : Fin 6) (h_eth : F.eth = true) (h_flt : F.flt = true) (h_rcd : F.rcd
    = true) (h_ucp : F.ucp = true) (h_28 : F.grp 40) (h_2E : F.grp 46) (h_recLostCount : F.idx (recLostCount) = true) (h :
    execEthLinkDown p s = .next t) : Kept F s t := by
  have hk := Kept.refl F s
  obtain rfl := Host.Outcome.next.inj h
  simp [hk, h_eth, h_flt, h_rcd, h_ucp, h_28, h_2E, h_recLostCount]

theorem execEthLinkUp_kept {F : Foot} {s t : State} (p : Fin 6) (quality : Nat) (h_eth : F.eth = true) (h_flt : F.flt = true)
    (h_rcd : F.rcd = true) (h_ucp : F.ucp = true) (h_28 : F.grp 40) (h_2E : F.grp 46) (h_recLostCount : F.idx (recLostCount) =
    true) (h : execEthLinkUp p quality s = .next t) : Kept F s t := by
  have hk := Kept.refl F s
  obtain rfl := Host.Outcome.next.inj h
  simp [hk, h_eth, h_flt, h_rcd, h_ucp, h_28, h_2E, h_recLostCount]

theorem execRingTestSend_kept {F : Foot} {s t : State} (h_eth : F.eth = true) (h_flt : F.flt = true) (h_rcd : F.rcd = true)
    (h_timers : F.timers = true) (h_ucp : F.ucp = true) (h_28 : F.grp 40) (h_2E : F.grp 46) (h_recLostCount : F.idx (recLostCount)
    = true) (h : execRingTestSend s = .next t) : Kept F s t := by
  have hk := Kept.refl F s
  obtain rfl := Host.Outcome.next.inj h
  simp [hk, h_eth, h_flt, h_rcd, h_timers, h_ucp, h_28, h_2E, h_recLostCount]

theorem execRingFrameReceive_kept {F : Foot} {s t : State} (p : Fin 2) (kind : Fin 4) (node : Nat) (h_eth : F.eth = true)
    (h_flt : F.flt = true) (h_rcd : F.rcd = true) (h_ucp : F.ucp = true) (h_24 : F.grp 36) (h_28 : F.grp 40) (h_2E : F.grp 46)
    (h_recLostCount : F.idx (recLostCount) = true) (h : execRingFrameReceive p kind node s = .next t) : Kept F s t := by
  have hk := Kept.refl F s
  obtain rfl := Host.Outcome.next.inj h
  simp [hk, h_eth, h_flt, h_rcd, h_ucp, h_24, h_28, h_2E, h_recLostCount]

theorem execRingTestTimeout_kept {F : Foot} {s t : State} (h_eth : F.eth = true) (h_flt : F.flt = true) (h_rcd : F.rcd = true)
    (h_ucp : F.ucp = true) (h_28 : F.grp 40) (h_2E : F.grp 46) (h_recLostCount : F.idx (recLostCount) = true) (h :
    execRingTestTimeout s = .next t) : Kept F s t := by
  have hk := Kept.refl F s
  obtain rfl := Host.Outcome.next.inj h
  simp [hk, h_eth, h_flt, h_rcd, h_ucp, h_28, h_2E, h_recLostCount]

theorem execRingManagerTimeout_kept {F : Foot} {s t : State} (h_eth : F.eth = true) (h_flt : F.flt = true) (h_rcd : F.rcd =
    true) (h_ucp : F.ucp = true) (h_28 : F.grp 40) (h_ob_11776_10 : F.idx (ob 11776 10) = true) (h_recLostCount : F.idx
    (recLostCount) = true) (h_uc_17 : F.idx (uc 17) = true) (h_uc_18 : F.idx (uc 18) = true) (h : execRingManagerTimeout s = .next
    t) : Kept F s t := by
  have hk := Kept.refl F s
  obtain rfl := Host.Outcome.next.inj h
  simp [hk, h_eth, h_flt, h_rcd, h_ucp, h_28, h_ob_11776_10, h_recLostCount, h_uc_17, h_uc_18]

theorem execIcmpv6MessageReceive_kept {F : Foot} {s t : State} (p : Fin 6) (typ : Nat) (src : Nat) (target : Nat) (data : List
    Byte) (h_eth : F.eth = true) (h_2E : F.grp 46) (h : execIcmpv6MessageReceive p typ src target data s = .next t) : Kept F s t
    := by
  have hk := Kept.refl F s
  obtain rfl := Host.Outcome.next.inj h
  simp [hk, h_eth, h_2E]

theorem execCanFrameReceive_kept {F : Foot} {s t : State} (p : Fin 8) (f : CanFrame) (err : Nat) (h_can : F.can = true) (h_eth
    : F.eth = true) (h_flt : F.flt = true) (h_free : F.free = true) (h_rcd : F.rcd = true) (h_sec : F.sec = true) (h_ucp : F.ucp =
    true) (h_28 : F.grp 40) (h_2B : F.grp 43) (h_ob_11776_10 : F.idx (ob 11776 10) = true) (h_recLostCount : F.idx (recLostCount)
    = true) (h_uc_11 : F.idx (uc 11) = true) (h_uc_15 : F.idx (uc 15) = true) (h_uc_5 : F.idx (uc 5) = true) (h_uc_6 : F.idx (uc
    6) = true) (h_uc_7 : F.idx (uc 7) = true) (h_uc_8 : F.idx (uc 8) = true) (h_uc_9 : F.idx (uc 9) = true) (h :
    execCanFrameReceive p f err s = .next t) : Kept F s t := by
  have hk := Kept.refl F s
  obtain rfl := Host.Outcome.next.inj h
  simp [hk, h_can, h_eth, h_flt, h_free, h_rcd, h_sec, h_ucp, h_28, h_2B, h_ob_11776_10, h_recLostCount, h_uc_11, h_uc_15, h_uc_5, h_uc_6, h_uc_7, h_uc_8, h_uc_9]

theorem execCanProtocolException_kept {F : Foot} {s t : State} (p : Fin 8) (h_can : F.can = true) (h_flt : F.flt = true)
    (h_rcd : F.rcd = true) (h_ucp : F.ucp = true) (h_cank20 : ∀ p, F.idx (cank p 20) = true) (h_cank28 : ∀ p, F.idx (cank p 28) =
    true) (h_28 : F.grp 40) (h_ob_11776_10 : F.idx (ob 11776 10) = true) (h_recLostCount : F.idx (recLostCount) = true) (h :
    execCanProtocolException p s = .next t) : Kept F s t := by
  have hk := Kept.refl F s
  obtain rfl := Host.Outcome.next.inj h
  simp [hk, h_can, h_flt, h_rcd, h_ucp, h_cank20, h_cank28, h_28, h_ob_11776_10, h_recLostCount]

theorem execCanRxTimeout_kept {F : Foot} {s t : State} (p : Fin 8) (n : Fin 256) (h_can : F.can = true) (h : execCanRxTimeout
    p n s = .next t) : Kept F s t := by
  have hk := Kept.refl F s
  obtain rfl := Host.Outcome.next.inj h
  simp [hk, h_can]

theorem execCanTxDue_kept {F : Foot} {s t : State} (h_can : F.can = true) (h_cank61 : ∀ p, F.idx (cank p 61) = true) (h :
    execCanTxDue s = .next t) : Kept F s t := by
  have hk := Kept.refl F s
  obtain rfl := Host.Outcome.next.inj h
  simp [hk, h_can, h_cank61]

theorem execCanFrameTransmit_kept {F : Foot} {s t : State} (p : Fin 8) (err : Fin 8) (afterArb : Bool) (sof : Nat) (delay :
    Nat) (h_can : F.can = true) (h_flt : F.flt = true) (h_rcd : F.rcd = true) (h_ucp : F.ucp = true) (h_28 : F.grp 40) (h_2B :
    F.grp 43) (h_ob_11776_10 : F.idx (ob 11776 10) = true) (h_recLostCount : F.idx (recLostCount) = true) (h :
    execCanFrameTransmit p err afterArb sof delay s = .next t) : Kept F s t := by
  have hk := Kept.refl F s
  obtain rfl := Host.Outcome.next.inj h
  simp [hk, h_can, h_flt, h_rcd, h_ucp, h_28, h_2B, h_ob_11776_10, h_recLostCount]

theorem execCanBusOff_kept {F : Foot} {s t : State} (p : Fin 8) (h_flt : F.flt = true) (h_rcd : F.rcd = true) (h_ucp : F.ucp =
    true) (h_cank20 : ∀ p, F.idx (cank p 20) = true) (h_cank23 : ∀ p, F.idx (cank p 23) = true) (h_28 : F.grp 40) (h_ob_11776_10 :
    F.idx (ob 11776 10) = true) (h_recLostCount : F.idx (recLostCount) = true) (h : execCanBusOff p s = .next t) : Kept F s t :=
    by
  have hk := Kept.refl F s
  obtain rfl := Host.Outcome.next.inj h
  simp [hk, h_flt, h_rcd, h_ucp, h_cank20, h_cank23, h_28, h_ob_11776_10, h_recLostCount]

theorem execCanRecoveryRequest_kept {F : Foot} {s t : State} (who : Who) (p : Fin 8) (h_flt : F.flt = true) (h_img : F.img =
    true) (h_rcd : F.rcd = true) (h_ucp : F.ucp = true) (h_cank20 : ∀ p, F.idx (cank p 20) = true) (h_28 : F.grp 40)
    (h_ob_11776_10 : F.idx (ob 11776 10) = true) (h_ob_12288_4 : F.idx (ob 12288 4) = true) (h_ob_4608_4 : F.idx (ob 4608 4) =
    true) (h_ob_4608_5 : F.idx (ob 4608 5) = true) (h_ob_4608_6 : F.idx (ob 4608 6) = true) (h_ob_4608_7 : F.idx (ob 4608 7) =
    true) (h_ob_4608_8 : F.idx (ob 4608 8) = true) (h_recLostCount : F.idx (recLostCount) = true) (h : execCanRecoveryRequest who
    p s = .next t) : Kept F s t := by
  have hk := Kept.refl F s
  obtain rfl := Host.Outcome.next.inj h
  simp [hk, h_flt, h_img, h_rcd, h_ucp, h_cank20, h_28, h_ob_11776_10, h_ob_12288_4, h_ob_4608_4, h_ob_4608_5, h_ob_4608_6, h_ob_4608_7, h_ob_4608_8, h_recLostCount]

theorem execCanRecoveryDone_kept {F : Foot} {s t : State} (p : Fin 8) (h_flt : F.flt = true) (h_rcd : F.rcd = true) (h_ucp :
    F.ucp = true) (h_cank20 : ∀ p, F.idx (cank p 20) = true) (h_cank21 : ∀ p, F.idx (cank p 21) = true) (h_cank22 : ∀ p, F.idx
    (cank p 22) = true) (h_28 : F.grp 40) (h_ob_11776_10 : F.idx (ob 11776 10) = true) (h_recLostCount : F.idx (recLostCount) =
    true) (h : execCanRecoveryDone p s = .next t) : Kept F s t := by
  have hk := Kept.refl F s
  obtain rfl := Host.Outcome.next.inj h
  simp [hk, h_flt, h_rcd, h_ucp, h_cank20, h_cank21, h_cank22, h_28, h_ob_11776_10, h_recLostCount]

theorem execCanTimingApply_kept {F : Foot} {s t : State} (who : Who) (p : Fin 8) (h_can : F.can = true) (h_flt : F.flt = true)
    (h_img : F.img = true) (h_rcd : F.rcd = true) (h_ucp : F.ucp = true) (h_cank13 : ∀ p, F.idx (cank p 13) = true) (h_cank14 : ∀
    p, F.idx (cank p 14) = true) (h_cank20 : ∀ p, F.idx (cank p 20) = true) (h_28 : F.grp 40) (h_ob_11776_10 : F.idx (ob 11776 10)
    = true) (h_ob_12288_4 : F.idx (ob 12288 4) = true) (h_ob_4608_4 : F.idx (ob 4608 4) = true) (h_ob_4608_5 : F.idx (ob 4608 5) =
    true) (h_ob_4608_6 : F.idx (ob 4608 6) = true) (h_ob_4608_7 : F.idx (ob 4608 7) = true) (h_ob_4608_8 : F.idx (ob 4608 8) =
    true) (h_recLostCount : F.idx (recLostCount) = true) (h : execCanTimingApply who p s = .next t) : Kept F s t := by
  have hk := Kept.refl F s
  obtain rfl := Host.Outcome.next.inj h
  simp [hk, h_can, h_flt, h_img, h_rcd, h_ucp, h_cank13, h_cank14, h_cank20, h_28, h_ob_11776_10, h_ob_12288_4, h_ob_4608_4, h_ob_4608_5, h_ob_4608_6, h_ob_4608_7, h_ob_4608_8, h_recLostCount]

theorem execCanJoinCheckEnd_kept {F : Foot} {s t : State} (p : Fin 8) (h_can : F.can = true) (h_flt : F.flt = true) (h_rcd :
    F.rcd = true) (h_ucp : F.ucp = true) (h_cank20 : ∀ p, F.idx (cank p 20) = true) (h_cank53 : ∀ p, F.idx (cank p 53) = true)
    (h_cank54 : ∀ p, F.idx (cank p 54) = true) (h_28 : F.grp 40) (h_ob_11776_10 : F.idx (ob 11776 10) = true) (h_recLostCount :
    F.idx (recLostCount) = true) (h : execCanJoinCheckEnd p s = .next t) : Kept F s t := by
  have hk := Kept.refl F s
  obtain rfl := Host.Outcome.next.inj h
  simp [hk, h_can, h_flt, h_rcd, h_ucp, h_cank20, h_cank53, h_cank54, h_28, h_ob_11776_10, h_recLostCount]

theorem execCanTxdTimeout_kept {F : Foot} {s t : State} (p : Fin 8) (h_flt : F.flt = true) (h_rcd : F.rcd = true) (h_ucp :
    F.ucp = true) (h_cank32 : ∀ p, F.idx (cank p 32) = true) (h_28 : F.grp 40) (h_ob_11776_10 : F.idx (ob 11776 10) = true)
    (h_recLostCount : F.idx (recLostCount) = true) (h : execCanTxdTimeout p s = .next t) : Kept F s t := by
  have hk := Kept.refl F s
  obtain rfl := Host.Outcome.next.inj h
  simp [hk, h_flt, h_rcd, h_ucp, h_cank32, h_28, h_ob_11776_10, h_recLostCount]

theorem execCanTableApply_kept {F : Foot} {s t : State} (who : Who) (mask : Nat) (h_can : F.can = true) (h_img : F.img = true)
    (h_ucp : F.ucp = true) (h_2C : F.grp 44) (h_ob_12288_4 : F.idx (ob 12288 4) = true) (h_ob_4608_4 : F.idx (ob 4608 4) = true)
    (h_ob_4608_5 : F.idx (ob 4608 5) = true) (h_ob_4608_6 : F.idx (ob 4608 6) = true) (h_ob_4608_7 : F.idx (ob 4608 7) = true)
    (h_ob_4608_8 : F.idx (ob 4608 8) = true) (h : execCanTableApply who mask s = .next t) : Kept F s t := by
  have hk := Kept.refl F s
  obtain rfl := Host.Outcome.next.inj h
  simp [hk, h_can, h_img, h_ucp, h_2C, h_ob_12288_4, h_ob_4608_4, h_ob_4608_5, h_ob_4608_6, h_ob_4608_7, h_ob_4608_8]

theorem execReferenceMessageSend_kept {F : Foot} {s t : State} (p : Fin 8) (h_can : F.can = true) (h :
    execReferenceMessageSend p s = .next t) : Kept F s t := by
  have hk := Kept.refl F s
  obtain rfl := Host.Outcome.next.inj h
  simp [hk, h_can]

theorem execCanTimeLost_kept {F : Foot} {s t : State} (p : Fin 8) (h_flt : F.flt = true) (h_rcd : F.rcd = true) (h_ucp : F.ucp
    = true) (h_cank45 : ∀ p, F.idx (cank p 45) = true) (h_28 : F.grp 40) (h_ob_11776_10 : F.idx (ob 11776 10) = true)
    (h_recLostCount : F.idx (recLostCount) = true) (h : execCanTimeLost p s = .next t) : Kept F s t := by
  have hk := Kept.refl F s
  obtain rfl := Host.Outcome.next.inj h
  simp [hk, h_flt, h_rcd, h_ucp, h_cank45, h_28, h_ob_11776_10, h_recLostCount]

theorem execAddressClaimSend_kept {F : Foot} {s t : State} (p : Fin 8) (h_can : F.can = true) (h : execAddressClaimSend p s =
    .next t) : Kept F s t := by
  have hk := Kept.refl F s
  obtain rfl := Host.Outcome.next.inj h
  simp [hk, h_can]

theorem execAddressHeld_kept {F : Foot} {s t : State} (p : Fin 8) (h_cank53 : ∀ p, F.idx (cank p 53) = true) (h_cank54 : ∀ p,
    F.idx (cank p 54) = true) (h : execAddressHeld p s = .next t) : Kept F s t := by
  have hk := Kept.refl F s
  obtain rfl := Host.Outcome.next.inj h
  simp [hk, h_cank53, h_cank54]

theorem execCannotClaimSend_kept {F : Foot} {s t : State} (p : Fin 8) (h_can : F.can = true) (h_flt : F.flt = true) (h_rcd :
    F.rcd = true) (h_ucp : F.ucp = true) (h_cank54 : ∀ p, F.idx (cank p 54) = true) (h_28 : F.grp 40) (h_ob_11776_10 : F.idx (ob
    11776 10) = true) (h_recLostCount : F.idx (recLostCount) = true) (h : execCannotClaimSend p s = .next t) : Kept F s t := by
  have hk := Kept.refl F s
  obtain rfl := Host.Outcome.next.inj h
  simp [hk, h_can, h_flt, h_rcd, h_ucp, h_cank54, h_28, h_ob_11776_10, h_recLostCount]

theorem execTransportSessionTimeout_kept {F : Foot} {s t : State} (p : Fin 8) (tx : Bool) (bam : Bool) (peer : Nat) (h_can :
    F.can = true) (h_cank61 : ∀ p, F.idx (cank p 61) = true) (h : execTransportSessionTimeout p tx bam peer s = .next t) : Kept F
    s t := by
  have hk := Kept.refl F s
  obtain rfl := Host.Outcome.next.inj h
  simp [hk, h_can, h_cank61]

theorem execIsoSend_kept {F : Foot} {s t : State} (who : Who) (p : Fin 8) (h_can : F.can = true) (h_img : F.img = true) (h_ucp
    : F.ucp = true) (h_cank57 : ∀ p, F.idx (cank p 57) = true) (h_cank59 : ∀ p, F.idx (cank p 59) = true) (h_cank61 : ∀ p, F.idx
    (cank p 61) = true) (h_ob_12288_4 : F.idx (ob 12288 4) = true) (h_ob_4608_4 : F.idx (ob 4608 4) = true) (h_ob_4608_5 : F.idx
    (ob 4608 5) = true) (h_ob_4608_6 : F.idx (ob 4608 6) = true) (h_ob_4608_7 : F.idx (ob 4608 7) = true) (h_ob_4608_8 : F.idx (ob
    4608 8) = true) (h : execIsoSend who p s = .next t) : Kept F s t := by
  have hk := Kept.refl F s
  obtain rfl := Host.Outcome.next.inj h
  simp [hk, h_can, h_img, h_ucp, h_cank57, h_cank59, h_cank61, h_ob_12288_4, h_ob_4608_4, h_ob_4608_5, h_ob_4608_6, h_ob_4608_7, h_ob_4608_8]

theorem execIsoSendDone_kept {F : Foot} {s t : State} (p : Fin 8) (h_can : F.can = true) (h_cank59 : ∀ p, F.idx (cank p 59) =
    true) (h_cank60 : ∀ p, F.idx (cank p 60) = true) (h : execIsoSendDone p s = .next t) : Kept F s t := by
  have hk := Kept.refl F s
  obtain rfl := Host.Outcome.next.inj h
  simp [hk, h_can, h_cank59, h_cank60]

theorem execCanShadowCompare_kept {F : Foot} {s t : State} (c : Fin 2) (differs : Bool) (hard : Bool) (h_can : F.can = true)
    (h_sp : F.sp = true) (h : execCanShadowCompare c differs hard s = .next t) : Kept F s t := by
  have hk := Kept.refl F s
  obtain rfl := Host.Outcome.next.inj h
  simp [hk, h_can, h_sp]

theorem execCanControllerSwap_kept {F : Foot} {s t : State} (p : Fin 8) (verify : List Bool) (dur : Nat) (transmitting : Bool)
    (h_can : F.can = true) (h_flt : F.flt = true) (h_rcd : F.rcd = true) (h_sp : F.sp = true) (h_timers : F.timers = true) (h_ucp
    : F.ucp = true) (h_cank19 : ∀ p, F.idx (cank p 19) = true) (h_28 : F.grp 40) (h_29 : F.grp 41) (h_ob_11776_10 : F.idx (ob
    11776 10) = true) (h_recLostCount : F.idx (recLostCount) = true) (h : execCanControllerSwap p verify dur transmitting s =
    .next t) : Kept F s t := by
  have hk := Kept.refl F s
  obtain rfl := Host.Outcome.next.inj h
  simp [hk, h_can, h_flt, h_rcd, h_sp, h_timers, h_ucp, h_cank19, h_28, h_29, h_ob_11776_10, h_recLostCount]

theorem execCanPortFailed_kept {F : Foot} {s t : State} (p : Fin 8) (h_flt : F.flt = true) (h_rcd : F.rcd = true) (h_sp : F.sp
    = true) (h_timers : F.timers = true) (h_ucp : F.ucp = true) (h_cank19 : ∀ p, F.idx (cank p 19) = true) (h_cank20 : ∀ p, F.idx
    (cank p 20) = true) (h_28 : F.grp 40) (h_29 : F.grp 41) (h_ob_11776_10 : F.idx (ob 11776 10) = true) (h_recLostCount : F.idx
    (recLostCount) = true) (h : execCanPortFailed p s = .next t) : Kept F s t := by
  have hk := Kept.refl F s
  obtain rfl := Host.Outcome.next.inj h
  simp [hk, h_flt, h_rcd, h_sp, h_timers, h_ucp, h_cank19, h_cank20, h_28, h_29, h_ob_11776_10, h_recLostCount]

theorem execCanShadowRotate_kept {F : Foot} {s t : State} (c : Fin 2) (h_can : F.can = true) (h : execCanShadowRotate c s =
    .next t) : Kept F s t := by
  have hk := Kept.refl F s
  obtain rfl := Host.Outcome.next.inj h
  simp [hk, h_can]

theorem execBlockReset_kept {F : Foot} {s t : State} (b : Fin 25) (h_eth : F.eth = true) (h_flt : F.flt = true) (h_lark :
    F.lark = true) (h_rx : F.rx = true) (h_ucp : F.ucp = true) (h_ck10 : ∀ p, F.idx (ck p 10) = true) (h_ck9 : ∀ p, F.idx (ck p 9)
    = true) (h_28 : F.grp 40) (h : execBlockReset b s = .next t) : Kept F s t := by
  have hk := Kept.refl F s
  obtain rfl := Host.Outcome.next.inj h
  simp [hk, h_eth, h_flt, h_lark, h_rx, h_ucp, h_ck10, h_ck9, h_28]

theorem execBlockResetEnd_kept {F : Foot} {s t : State} (b : Fin 25) (pass : Nat) (directed : List SvSig) (known : Nat) (near
    : Bool) (h_can : F.can = true) (h_crop : F.crop = true) (h_flt : F.flt = true) (h_inp : F.inp = true) (h_lark : F.lark = true)
    (h_nav : F.nav = true) (h_rcd : F.rcd = true) (h_rx : F.rx = true) (h_sp : F.sp = true) (h_timers : F.timers = true) (h_ucp :
    F.ucp = true) (h_cank20 : ∀ p, F.idx (cank p 20) = true) (h_23 : F.grp 35) (h_25 : F.grp 37) (h_28 : F.grp 40) (h_29 : F.grp
    41) (h_nk_40 : F.idx (nk 40) = true) (h_ob_11776_10 : F.idx (ob 11776 10) = true) (h_recLostCount : F.idx (recLostCount) =
    true) (h : execBlockResetEnd b pass directed known near s = .next t) : Kept F s t := by
  have hk := Kept.refl F s
  obtain rfl := Host.Outcome.next.inj h
  simp [hk, h_can, h_crop, h_flt, h_inp, h_lark, h_nav, h_rcd, h_rx, h_sp, h_timers, h_ucp, h_cank20, h_23, h_25, h_28, h_29, h_nk_40, h_ob_11776_10, h_recLostCount]

theorem execChipReset_kept {F : Foot} {s t : State} (h_apps : F.apps = true) (h_can : F.can = true) (h_conf : F.conf = true)
    (h_crop : F.crop = true) (h_eth : F.eth = true) (h_flt : F.flt = true) (h_fox : F.fox = true) (h_img : F.img = true) (h_inp :
    F.inp = true) (h_lark : F.lark = true) (h_nav : F.nav = true) (h_outs : F.outs = true) (h_parts : F.parts = true) (h_pwr :
    F.pwr = true) (h_rcd : F.rcd = true) (h_rx : F.rx = true) (h_sec : F.sec = true) (h_sp : F.sp = true) (h_timers : F.timers =
    true) (h_tm : F.tm = true) (h_ucp : F.ucp = true) (h_upd : F.upd = true) (h_all : ∀ i, F.idx i = true) (h : execChipReset s =
    .next t) : Kept F s t := by
  have hk := Kept.refl F s
  obtain rfl := Host.Outcome.next.inj h
  simp [hk, h_apps, h_can, h_conf, h_crop, h_eth, h_flt, h_fox, h_img, h_inp, h_lark, h_nav, h_outs, h_parts, h_pwr, h_rcd, h_rx, h_sec, h_sp, h_timers, h_tm, h_ucp, h_upd, h_all]

theorem execChipResetEnd_kept {F : Foot} {s t : State} (h_flt : F.flt = true) (h_fox : F.fox = true) (h_inp : F.inp = true)
    (h_pwr : F.pwr = true) (h_rcd : F.rcd = true) (h_ucp : F.ucp = true) (h_27 : F.grp 39) (h_28 : F.grp 40) (h_ob_11776_10 :
    F.idx (ob 11776 10) = true) (h_recLostCount : F.idx (recLostCount) = true) (h : execChipResetEnd s = .next t) : Kept F s t :=
    by
  have hk := Kept.refl F s
  obtain rfl := Host.Outcome.next.inj h
  simp [hk, h_flt, h_fox, h_inp, h_pwr, h_rcd, h_ucp, h_27, h_28, h_ob_11776_10, h_recLostCount]

theorem execStart_kept {F : Foot} {s t : State} (rtc : Nat) (root : Fin 3) (slots : Nat) (pass0 : Bool) (pass1 : Bool) (bad :
    List Nat) (fails : List (Nat × Nat)) (directed : List SvSig) (known : Nat) (near : Bool) (h_apps : F.apps = true) (h_can :
    F.can = true) (h_conf : F.conf = true) (h_crop : F.crop = true) (h_eth : F.eth = true) (h_flt : F.flt = true) (h_fox : F.fox =
    true) (h_img : F.img = true) (h_inp : F.inp = true) (h_lark : F.lark = true) (h_nav : F.nav = true) (h_nv : F.nv = true)
    (h_outs : F.outs = true) (h_parts : F.parts = true) (h_pwr : F.pwr = true) (h_rcd : F.rcd = true) (h_rx : F.rx = true) (h_sec
    : F.sec = true) (h_snap : F.snap = true) (h_sp : F.sp = true) (h_timers : F.timers = true) (h_tm : F.tm = true) (h_ucp : F.ucp
    = true) (h_upd : F.upd = true) (h_all : ∀ i, F.idx i = true) (h : execStart rtc root slots pass0 pass1 bad fails directed
    known near s = .next t) : Kept F s t := by
  have hk := Kept.refl F s
  obtain rfl := Host.Outcome.next.inj h
  simp [hk, h_apps, h_can, h_conf, h_crop, h_eth, h_flt, h_fox, h_img, h_inp, h_lark, h_nav, h_nv, h_outs, h_parts, h_pwr, h_rcd, h_rx, h_sec, h_snap, h_sp, h_timers, h_tm, h_ucp, h_upd, h_all]

theorem execStartComplete_kept {F : Foot} {s t : State} (h_conf : F.conf = true) (h_flt : F.flt = true) (h_fox : F.fox = true)
    (h_img : F.img = true) (h_pwr : F.pwr = true) (h_rcd : F.rcd = true) (h_sec : F.sec = true) (h_ucp : F.ucp = true) (h_gk3 : ∀
    p, F.idx (gk p 3) = true) (h_xk22 : ∀ p, F.idx (xk p 22) = true) (h_27 : F.grp 39) (h_28 : F.grp 40) (h_ob_11776_10 : F.idx
    (ob 11776 10) = true) (h_ob_12288_8 : F.idx (ob 12288 8) = true) (h_ob_4608_1 : F.idx (ob 4608 1) = true) (h_ob_4608_2 : F.idx
    (ob 4608 2) = true) (h_ob_4608_9 : F.idx (ob 4608 9) = true) (h_recLostCount : F.idx (recLostCount) = true) (h_sk12_13 : F.idx
    (sk12 13) = true) (h_sk2F_24 : F.idx (sk2F 24) = true) (h : execStartComplete s = .next t) : Kept F s t := by
  have hk := Kept.refl F s
  obtain rfl := Host.Outcome.next.inj h
  simp [hk, h_conf, h_flt, h_fox, h_img, h_pwr, h_rcd, h_sec, h_ucp, h_gk3, h_xk22, h_27, h_28, h_ob_11776_10, h_ob_12288_8, h_ob_4608_1, h_ob_4608_2, h_ob_4608_9, h_recLostCount, h_sk12_13, h_sk2F_24]

theorem execStandbyRequest_kept {F : Foot} {s t : State} (who : Who) (h_img : F.img = true) (h_pwr : F.pwr = true) (h_ucp :
    F.ucp = true) (h_ob_12288_4 : F.idx (ob 12288 4) = true) (h_ob_4608_4 : F.idx (ob 4608 4) = true) (h_ob_4608_5 : F.idx (ob
    4608 5) = true) (h_ob_4608_6 : F.idx (ob 4608 6) = true) (h_ob_4608_7 : F.idx (ob 4608 7) = true) (h_ob_4608_8 : F.idx (ob
    4608 8) = true) (h : execStandbyRequest who s = .next t) : Kept F s t := by
  have hk := Kept.refl F s
  obtain rfl := Host.Outcome.next.inj h
  simp [hk, h_img, h_pwr, h_ucp, h_ob_12288_4, h_ob_4608_4, h_ob_4608_5, h_ob_4608_6, h_ob_4608_7, h_ob_4608_8]

theorem execConfigureRequest_kept {F : Foot} {s t : State} (who : Who) (h_img : F.img = true) (h_pwr : F.pwr = true) (h_ucp :
    F.ucp = true) (h_ob_12288_4 : F.idx (ob 12288 4) = true) (h_ob_4608_4 : F.idx (ob 4608 4) = true) (h_ob_4608_5 : F.idx (ob
    4608 5) = true) (h_ob_4608_6 : F.idx (ob 4608 6) = true) (h_ob_4608_7 : F.idx (ob 4608 7) = true) (h_ob_4608_8 : F.idx (ob
    4608 8) = true) (h : execConfigureRequest who s = .next t) : Kept F s t := by
  have hk := Kept.refl F s
  obtain rfl := Host.Outcome.next.inj h
  simp [hk, h_img, h_pwr, h_ucp, h_ob_12288_4, h_ob_4608_4, h_ob_4608_5, h_ob_4608_6, h_ob_4608_7, h_ob_4608_8]

theorem execRunRequest_kept {F : Foot} {s t : State} (who : Who) (h_img : F.img = true) (h_pwr : F.pwr = true) (h_ucp : F.ucp
    = true) (h_ob_12288_4 : F.idx (ob 12288 4) = true) (h_ob_4608_4 : F.idx (ob 4608 4) = true) (h_ob_4608_5 : F.idx (ob 4608 5) =
    true) (h_ob_4608_6 : F.idx (ob 4608 6) = true) (h_ob_4608_7 : F.idx (ob 4608 7) = true) (h_ob_4608_8 : F.idx (ob 4608 8) =
    true) (h : execRunRequest who s = .next t) : Kept F s t := by
  have hk := Kept.refl F s
  obtain rfl := Host.Outcome.next.inj h
  simp [hk, h_img, h_pwr, h_ucp, h_ob_12288_4, h_ob_4608_4, h_ob_4608_5, h_ob_4608_6, h_ob_4608_7, h_ob_4608_8]

theorem execLimpRequest_kept {F : Foot} {s t : State} (who : Who) (h_img : F.img = true) (h_pwr : F.pwr = true) (h_ucp : F.ucp
    = true) (h_ob_12288_4 : F.idx (ob 12288 4) = true) (h_ob_4608_4 : F.idx (ob 4608 4) = true) (h_ob_4608_5 : F.idx (ob 4608 5) =
    true) (h_ob_4608_6 : F.idx (ob 4608 6) = true) (h_ob_4608_7 : F.idx (ob 4608 7) = true) (h_ob_4608_8 : F.idx (ob 4608 8) =
    true) (h : execLimpRequest who s = .next t) : Kept F s t := by
  have hk := Kept.refl F s
  obtain rfl := Host.Outcome.next.inj h
  simp [hk, h_img, h_pwr, h_ucp, h_ob_12288_4, h_ob_4608_4, h_ob_4608_5, h_ob_4608_6, h_ob_4608_7, h_ob_4608_8]

theorem execSafeHoldRequest_kept {F : Foot} {s t : State} (who : Who) (h_img : F.img = true) (h_pwr : F.pwr = true) (h_ucp :
    F.ucp = true) (h_ob_12288_4 : F.idx (ob 12288 4) = true) (h_ob_4608_4 : F.idx (ob 4608 4) = true) (h_ob_4608_5 : F.idx (ob
    4608 5) = true) (h_ob_4608_6 : F.idx (ob 4608 6) = true) (h_ob_4608_7 : F.idx (ob 4608 7) = true) (h_ob_4608_8 : F.idx (ob
    4608 8) = true) (h : execSafeHoldRequest who s = .next t) : Kept F s t := by
  have hk := Kept.refl F s
  obtain rfl := Host.Outcome.next.inj h
  simp [hk, h_img, h_pwr, h_ucp, h_ob_12288_4, h_ob_4608_4, h_ob_4608_5, h_ob_4608_6, h_ob_4608_7, h_ob_4608_8]

theorem execServiceRequest_kept {F : Foot} {s t : State} (who : Who) (h_img : F.img = true) (h_pwr : F.pwr = true) (h_ucp :
    F.ucp = true) (h_ob_12288_4 : F.idx (ob 12288 4) = true) (h_ob_4608_4 : F.idx (ob 4608 4) = true) (h_ob_4608_5 : F.idx (ob
    4608 5) = true) (h_ob_4608_6 : F.idx (ob 4608 6) = true) (h_ob_4608_7 : F.idx (ob 4608 7) = true) (h_ob_4608_8 : F.idx (ob
    4608 8) = true) (h : execServiceRequest who s = .next t) : Kept F s t := by
  have hk := Kept.refl F s
  obtain rfl := Host.Outcome.next.inj h
  simp [hk, h_img, h_pwr, h_ucp, h_ob_12288_4, h_ob_4608_4, h_ob_4608_5, h_ob_4608_6, h_ob_4608_7, h_ob_4608_8]

theorem execRestartRequest_kept {F : Foot} {s t : State} (who : Who) (h_img : F.img = true) (h_pwr : F.pwr = true) (h_ucp :
    F.ucp = true) (h_ob_12288_4 : F.idx (ob 12288 4) = true) (h_ob_4608_4 : F.idx (ob 4608 4) = true) (h_ob_4608_5 : F.idx (ob
    4608 5) = true) (h_ob_4608_6 : F.idx (ob 4608 6) = true) (h_ob_4608_7 : F.idx (ob 4608 7) = true) (h_ob_4608_8 : F.idx (ob
    4608 8) = true) (h : execRestartRequest who s = .next t) : Kept F s t := by
  have hk := Kept.refl F s
  obtain rfl := Host.Outcome.next.inj h
  simp [hk, h_img, h_pwr, h_ucp, h_ob_12288_4, h_ob_4608_4, h_ob_4608_5, h_ob_4608_6, h_ob_4608_7, h_ob_4608_8]

theorem execAutoStateChange_kept {F : Foot} {s t : State} (h_conf : F.conf = true) (h_flt : F.flt = true) (h_fox : F.fox =
    true) (h_img : F.img = true) (h_pwr : F.pwr = true) (h_rcd : F.rcd = true) (h_sec : F.sec = true) (h_ucp : F.ucp = true)
    (h_xk22 : ∀ p, F.idx (xk p 22) = true) (h_27 : F.grp 39) (h_28 : F.grp 40) (h_ob_11776_10 : F.idx (ob 11776 10) = true)
    (h_ob_12288_8 : F.idx (ob 12288 8) = true) (h_ob_4608_1 : F.idx (ob 4608 1) = true) (h_ob_4608_2 : F.idx (ob 4608 2) = true)
    (h_ob_4608_9 : F.idx (ob 4608 9) = true) (h_recLostCount : F.idx (recLostCount) = true) (h_sk2F_24 : F.idx (sk2F 24) = true)
    (h : execAutoStateChange s = .next t) : Kept F s t := by
  have hk := Kept.refl F s
  obtain rfl := Host.Outcome.next.inj h
  simp [hk, h_conf, h_flt, h_fox, h_img, h_pwr, h_rcd, h_sec, h_ucp, h_xk22, h_27, h_28, h_ob_11776_10, h_ob_12288_8, h_ob_4608_1, h_ob_4608_2, h_ob_4608_9, h_recLostCount, h_sk2F_24]

theorem execHoldupSave_kept {F : Foot} {s t : State} (trig : Fin 4) (vlBack : Bool) (h_can : F.can = true) (h_conf : F.conf =
    true) (h_crop : F.crop = true) (h_eth : F.eth = true) (h_flt : F.flt = true) (h_fox : F.fox = true) (h_free : F.free = true)
    (h_lark : F.lark = true) (h_nv : F.nv = true) (h_outs : F.outs = true) (h_pwr : F.pwr = true) (h_rcd : F.rcd = true) (h_sec :
    F.sec = true) (h_timers : F.timers = true) (h_ucp : F.ucp = true) (h_ck10 : ∀ p, F.idx (ck p 10) = true) (h_ck9 : ∀ p, F.idx
    (ck p 9) = true) (h_xk31 : ∀ p, F.idx (xk p 31) = true) (h_21 : F.grp 33) (h_27 : F.grp 39) (h_28 : F.grp 40) (h_2E : F.grp
    46) (h_ck10_10 : F.idx (ck10 10) = true) (h_ck10_4 : F.idx (ck10 4) = true) (h_ck10_5 : F.idx (ck10 5) = true) (h_hk_35 :
    F.idx (hk 35) = true) (h_hk_36 : F.idx (hk 36) = true) (h_hk_38 : F.idx (hk 38) = true) (h_hk_39 : F.idx (hk 39) = true)
    (h_hk_40 : F.idx (hk 40) = true) (h_hk_43 : F.idx (hk 43) = true) (h_hk_44 : F.idx (hk 44) = true) (h_ob_12288_8 : F.idx (ob
    12288 8) = true) (h_ob_4112_5 : F.idx (ob 4112 5) = true) (h_ob_4352_1 : F.idx (ob 4352 1) = true) (h_ob_4352_8 : F.idx (ob
    4352 8) = true) (h_ob_4608_1 : F.idx (ob 4608 1) = true) (h_ob_4608_2 : F.idx (ob 4608 2) = true) (h_recArchived : F.idx
    (recArchived) = true) (h_recLostCount : F.idx (recLostCount) = true) (h_recNextSeq : F.idx (recNextSeq) = true) (h_sk12_10 :
    F.idx (sk12 10) = true) (h_sk12_11 : F.idx (sk12 11) = true) (h_sk12_12 : F.idx (sk12 12) = true) (h_sk12_9 : F.idx (sk12 9) =
    true) (h : execHoldupSave trig vlBack s = .next t) : Kept F s t := by
  have hk := Kept.refl F s
  obtain rfl := Host.Outcome.next.inj h
  simp [hk, h_can, h_conf, h_crop, h_eth, h_flt, h_fox, h_free, h_lark, h_nv, h_outs, h_pwr, h_rcd, h_sec, h_timers, h_ucp, h_ck10, h_ck9, h_xk31, h_21, h_27, h_28, h_2E, h_ck10_10, h_ck10_4, h_ck10_5, h_hk_35, h_hk_36, h_hk_38, h_hk_39, h_hk_40, h_hk_43, h_hk_44, h_ob_12288_8, h_ob_4112_5, h_ob_4352_1, h_ob_4352_8, h_ob_4608_1, h_ob_4608_2, h_recArchived, h_recLostCount, h_recNextSeq, h_sk12_10, h_sk12_11, h_sk12_12, h_sk12_9]

theorem execAfterRunExpire_kept {F : Foot} {s t : State} (h_conf : F.conf = true) (h_flt : F.flt = true) (h_fox : F.fox =
    true) (h_img : F.img = true) (h_pwr : F.pwr = true) (h_rcd : F.rcd = true) (h_sec : F.sec = true) (h_ucp : F.ucp = true)
    (h_xk22 : ∀ p, F.idx (xk p 22) = true) (h_27 : F.grp 39) (h_28 : F.grp 40) (h_ob_11776_10 : F.idx (ob 11776 10) = true)
    (h_ob_12288_8 : F.idx (ob 12288 8) = true) (h_ob_4608_1 : F.idx (ob 4608 1) = true) (h_ob_4608_2 : F.idx (ob 4608 2) = true)
    (h_ob_4608_9 : F.idx (ob 4608 9) = true) (h_recLostCount : F.idx (recLostCount) = true) (h_sk12_14 : F.idx (sk12 14) = true)
    (h_sk2F_24 : F.idx (sk2F 24) = true) (h : execAfterRunExpire s = .next t) : Kept F s t := by
  have hk := Kept.refl F s
  obtain rfl := Host.Outcome.next.inj h
  simp [hk, h_conf, h_flt, h_fox, h_img, h_pwr, h_rcd, h_sec, h_ucp, h_xk22, h_27, h_28, h_ob_11776_10, h_ob_12288_8, h_ob_4608_1, h_ob_4608_2, h_ob_4608_9, h_recLostCount, h_sk12_14, h_sk2F_24]

theorem execWake_kept {F : Foot} {s t : State} (src : Fin 3) (h_flt : F.flt = true) (h_fox : F.fox = true) (h_pwr : F.pwr =
    true) (h_rcd : F.rcd = true) (h_ucp : F.ucp = true) (h_21 : F.grp 33) (h_27 : F.grp 39) (h_28 : F.grp 40) (h_ck10_10 : F.idx
    (ck10 10) = true) (h_ck10_4 : F.idx (ck10 4) = true) (h_ck10_5 : F.idx (ck10 5) = true) (h_ob_11776_10 : F.idx (ob 11776 10) =
    true) (h_ob_4112_5 : F.idx (ob 4112 5) = true) (h_ob_4608_1 : F.idx (ob 4608 1) = true) (h_ob_4608_2 : F.idx (ob 4608 2) =
    true) (h_recLostCount : F.idx (recLostCount) = true) (h_sk12_9 : F.idx (sk12 9) = true) (h : execWake src s = .next t) : Kept
    F s t := by
  have hk := Kept.refl F s
  obtain rfl := Host.Outcome.next.inj h
  simp [hk, h_flt, h_fox, h_pwr, h_rcd, h_ucp, h_21, h_27, h_28, h_ck10_10, h_ck10_4, h_ck10_5, h_ob_11776_10, h_ob_4112_5, h_ob_4608_1, h_ob_4608_2, h_recLostCount, h_sk12_9]

theorem execVlRise_kept {F : Foot} {s t : State} (mv : Nat) (h_flt : F.flt = true) (h_fox : F.fox = true) (h_pwr : F.pwr =
    true) (h_rcd : F.rcd = true) (h_ucp : F.ucp = true) (h_21 : F.grp 33) (h_27 : F.grp 39) (h_28 : F.grp 40) (h_ck10_1 : F.idx
    (ck10 1) = true) (h_ck10_10 : F.idx (ck10 10) = true) (h_ck10_4 : F.idx (ck10 4) = true) (h_ck10_5 : F.idx (ck10 5) = true)
    (h_ob_11776_10 : F.idx (ob 11776 10) = true) (h_ob_4112_5 : F.idx (ob 4112 5) = true) (h_ob_4608_1 : F.idx (ob 4608 1) = true)
    (h_ob_4608_2 : F.idx (ob 4608 2) = true) (h_recLostCount : F.idx (recLostCount) = true) (h_sk12_9 : F.idx (sk12 9) = true) (h
    : execVlRise mv s = .next t) : Kept F s t := by
  have hk := Kept.refl F s
  obtain rfl := Host.Outcome.next.inj h
  simp [hk, h_flt, h_fox, h_pwr, h_rcd, h_ucp, h_21, h_27, h_28, h_ck10_1, h_ck10_10, h_ck10_4, h_ck10_5, h_ob_11776_10, h_ob_4112_5, h_ob_4608_1, h_ob_4608_2, h_recLostCount, h_sk12_9]

theorem execVlPrechargeTimeout_kept {F : Foot} {s t : State} (h_pwr : F.pwr = true) (h_ck10_7 : F.idx (ck10 7) = true) (h :
    execVlPrechargeTimeout s = .next t) : Kept F s t := by
  have hk := Kept.refl F s
  obtain rfl := Host.Outcome.next.inj h
  simp [hk, h_pwr, h_ck10_7]

theorem execHoldupStoreReady_kept {F : Foot} {s t : State} (mv : Nat) (h_ck10_5 : F.idx (ck10 5) = true) (h_ck10_6 : F.idx
    (ck10 6) = true) (h : execHoldupStoreReady mv s = .next t) : Kept F s t := by
  have hk := Kept.refl F s
  obtain rfl := Host.Outcome.next.inj h
  simp [hk, h_ck10_5, h_ck10_6]

theorem execVbakMeasure_kept {F : Foot} {s t : State} (vbak : Nat) (vl : Nat) (ma : Nat) (h_flt : F.flt = true) (h_pwr : F.pwr
    = true) (h_rcd : F.rcd = true) (h_ucp : F.ucp = true) (h_28 : F.grp 40) (h_ck10_1 : F.idx (ck10 1) = true) (h_ck10_10 : F.idx
    (ck10 10) = true) (h_ck10_11 : F.idx (ck10 11) = true) (h_ck10_2 : F.idx (ck10 2) = true) (h_ck10_3 : F.idx (ck10 3) = true)
    (h_ob_11776_10 : F.idx (ob 11776 10) = true) (h_recLostCount : F.idx (recLostCount) = true) (h : execVbakMeasure vbak vl ma s
    = .next t) : Kept F s t := by
  have hk := Kept.refl F s
  obtain rfl := Host.Outcome.next.inj h
  simp [hk, h_flt, h_pwr, h_rcd, h_ucp, h_28, h_ck10_1, h_ck10_10, h_ck10_11, h_ck10_2, h_ck10_3, h_ob_11776_10, h_recLostCount]

theorem execVbPrecharge_kept {F : Foot} {s t : State} (g : Fin 8) (mv : Nat) (h_gk1 : ∀ p, F.idx (gk p 1) = true) (h_gk3 : ∀
    p, F.idx (gk p 3) = true) (h : execVbPrecharge g mv s = .next t) : Kept F s t := by
  have hk := Kept.refl F s
  obtain rfl := Host.Outcome.next.inj h
  simp [hk, h_gk1, h_gk3]

theorem execVlLow_kept {F : Foot} {s t : State} (code : Fin 3) (mv : Nat) (h_flt : F.flt = true) (h_pwr : F.pwr = true) (h_rcd
    : F.rcd = true) (h_ucp : F.ucp = true) (h_28 : F.grp 40) (h_ck10_1 : F.idx (ck10 1) = true) (h_ck10_10 : F.idx (ck10 10) =
    true) (h_ck10_11 : F.idx (ck10 11) = true) (h_ob_11776_10 : F.idx (ob 11776 10) = true) (h_recLostCount : F.idx (recLostCount)
    = true) (h : execVlLow code mv s = .next t) : Kept F s t := by
  have hk := Kept.refl F s
  obtain rfl := Host.Outcome.next.inj h
  simp [hk, h_flt, h_pwr, h_rcd, h_ucp, h_28, h_ck10_1, h_ck10_10, h_ck10_11, h_ob_11776_10, h_recLostCount]

theorem execPresentMake_kept {F : Foot} {s t : State} (h_eth : F.eth = true) (h_pwr : F.pwr = true) (h_ck10_4 : F.idx (ck10 4)
    = true) (h_ob_4112_5 : F.idx (ob 4112 5) = true) (h : execPresentMake s = .next t) : Kept F s t := by
  have hk := Kept.refl F s
  obtain rfl := Host.Outcome.next.inj h
  simp [hk, h_eth, h_pwr, h_ck10_4, h_ob_4112_5]

theorem execPresentBreak_kept {F : Foot} {s t : State} (closed : Fin 15) (h_outs : F.outs = true) (h_pwr : F.pwr = true)
    (h_gk3 : ∀ p, F.idx (gk p 3) = true) (h_ck10_4 : F.idx (ck10 4) = true) (h_ck10_8 : F.idx (ck10 8) = true) (h_ob_4112_5 :
    F.idx (ob 4112 5) = true) (h : execPresentBreak closed s = .next t) : Kept F s t := by
  have hk := Kept.refl F s
  obtain rfl := Host.Outcome.next.inj h
  simp [hk, h_outs, h_pwr, h_gk3, h_ck10_4, h_ck10_8, h_ob_4112_5]

theorem execAddressRead_kept {F : Foot} {s t : State} (pins : Fin 256) (agree : Bool) (h_pwr : F.pwr = true) (h_ck10_9 : F.idx
    (ck10 9) = true) (h_ob_4112_1 : F.idx (ob 4112 1) = true) (h_ob_4112_2 : F.idx (ob 4112 2) = true) (h : execAddressRead pins
    agree s = .next t) : Kept F s t := by
  have hk := Kept.refl F s
  obtain rfl := Host.Outcome.next.inj h
  simp [hk, h_pwr, h_ck10_9, h_ob_4112_1, h_ob_4112_2]

theorem execAddressChange_kept {F : Foot} {s t : State} (pins : Fin 256) (h_ck10_9 : F.idx (ck10 9) = true) (h_ob_4112_2 :
    F.idx (ob 4112 2) = true) (h : execAddressChange pins s = .next t) : Kept F s t := by
  have hk := Kept.refl F s
  obtain rfl := Host.Outcome.next.inj h
  simp [hk, h_ck10_9, h_ob_4112_2]

theorem execWakeInLevel_kept {F : Foot} {s t : State} (high : Bool) (h_pwr : F.pwr = true) (h : execWakeInLevel high s = .next
    t) : Kept F s t := by
  have hk := Kept.refl F s
  obtain rfl := Host.Outcome.next.inj h
  simp [hk, h_pwr]

theorem execStatusPinOvercurrent_kept {F : Foot} {s t : State} (pin : Fin 2) (over_ : Bool) (h_pwr : F.pwr = true) (h :
    execStatusPinOvercurrent pin over_ s = .next t) : Kept F s t := by
  have hk := Kept.refl F s
  obtain rfl := Host.Outcome.next.inj h
  simp [hk, h_pwr]

theorem execVbakSupplyMonitorTrip_kept {F : Foot} {s t : State} (h_pwr : F.pwr = true) (h : execVbakSupplyMonitorTrip s =
    .next t) : Kept F s t := by
  have hk := Kept.refl F s
  obtain rfl := Host.Outcome.next.inj h
  simp [hk, h_pwr]

theorem execVlPrechargeRetry_kept {F : Foot} {s t : State} (h_pwr : F.pwr = true) (h : execVlPrechargeRetry s = .next t) :
    Kept F s t := by
  have hk := Kept.refl F s
  obtain rfl := Host.Outcome.next.inj h
  simp [hk, h_pwr]

theorem execRequestDequeue_kept {F : Foot} {s t : State} (f : Facts) (h_apps : F.apps = true) (h_can : F.can = true) (h_conf :
    F.conf = true) (h_crop : F.crop = true) (h_flt : F.flt = true) (h_fox : F.fox = true) (h_free : F.free = true) (h_img : F.img
    = true) (h_inp : F.inp = true) (h_lark : F.lark = true) (h_nav : F.nav = true) (h_outs : F.outs = true) (h_pwr : F.pwr = true)
    (h_rcd : F.rcd = true) (h_rx : F.rx = true) (h_sec : F.sec = true) (h_timers : F.timers = true) (h_ucp : F.ucp = true) (h_upd
    : F.upd = true) (h_all : ∀ i, F.idx i = true) (h : execRequestDequeue f s = .next t) : Kept F s t := by
  have hk := Kept.refl F s
  obtain rfl := Host.Outcome.next.inj h
  simp [hk, h_apps, h_can, h_conf, h_crop, h_flt, h_fox, h_free, h_img, h_inp, h_lark, h_nav, h_outs, h_pwr, h_rcd, h_rx, h_sec, h_timers, h_ucp, h_upd, h_all]

theorem execRead_kept {F : Foot} {s t : State} (who : Who) (i : Nat) (sub : Nat) (off : Nat) (n : Nat) (h_ucp : F.ucp = true)
    (h_ob_4608_4 : F.idx (ob 4608 4) = true) (h_ob_4608_5 : F.idx (ob 4608 5) = true) (h_ob_4608_6 : F.idx (ob 4608 6) = true)
    (h_ob_4608_7 : F.idx (ob 4608 7) = true) (h_ob_4608_8 : F.idx (ob 4608 8) = true) (h : execRead who i sub off n s = .next t) :
    Kept F s t := by
  have hk := Kept.refl F s
  obtain rfl := Host.Outcome.next.inj h
  simp [hk, h_ucp, h_ob_4608_4, h_ob_4608_5, h_ob_4608_6, h_ob_4608_7, h_ob_4608_8]

theorem execWrite_kept {F : Foot} {s t : State} (who : Who) (i : Nat) (sub : Nat) (off : Nat) (aux : Nat) (data : List Byte)
    (f : Facts) (h_apps : F.apps = true) (h_can : F.can = true) (h_conf : F.conf = true) (h_crop : F.crop = true) (h_flt : F.flt =
    true) (h_fox : F.fox = true) (h_free : F.free = true) (h_img : F.img = true) (h_inp : F.inp = true) (h_lark : F.lark = true)
    (h_nav : F.nav = true) (h_outs : F.outs = true) (h_pwr : F.pwr = true) (h_rcd : F.rcd = true) (h_rx : F.rx = true) (h_sec :
    F.sec = true) (h_timers : F.timers = true) (h_ucp : F.ucp = true) (h_upd : F.upd = true) (h_all : ∀ i, F.idx i = true) (h :
    execWrite who i sub off aux data f s = .next t) : Kept F s t := by
  have hk := Kept.refl F s
  obtain rfl := Host.Outcome.next.inj h
  simp [hk, h_apps, h_can, h_conf, h_crop, h_flt, h_fox, h_free, h_img, h_inp, h_lark, h_nav, h_outs, h_pwr, h_rcd, h_rx, h_sec, h_timers, h_ucp, h_upd, h_all]

theorem execSignedCommandExecute_kept {F : Foot} {s t : State} (who : Who) (f : Facts) (h_apps : F.apps = true) (h_can : F.can
    = true) (h_conf : F.conf = true) (h_crop : F.crop = true) (h_flt : F.flt = true) (h_fox : F.fox = true) (h_free : F.free =
    true) (h_img : F.img = true) (h_inp : F.inp = true) (h_lark : F.lark = true) (h_nav : F.nav = true) (h_outs : F.outs = true)
    (h_pwr : F.pwr = true) (h_rcd : F.rcd = true) (h_rx : F.rx = true) (h_sec : F.sec = true) (h_timers : F.timers = true) (h_ucp
    : F.ucp = true) (h_upd : F.upd = true) (h_all : ∀ i, F.idx i = true) (h : execSignedCommandExecute who f s = .next t) : Kept F
    s t := by
  have hk := Kept.refl F s
  obtain rfl := Host.Outcome.next.inj h
  simp [hk, h_apps, h_can, h_conf, h_crop, h_flt, h_fox, h_free, h_img, h_inp, h_lark, h_nav, h_outs, h_pwr, h_rcd, h_rx, h_sec, h_timers, h_ucp, h_upd, h_all]

theorem execConfigImport_kept {F : Foot} {s t : State} (who : Who) (f : Facts) (h_apps : F.apps = true) (h_can : F.can = true)
    (h_conf : F.conf = true) (h_crop : F.crop = true) (h_flt : F.flt = true) (h_fox : F.fox = true) (h_free : F.free = true)
    (h_img : F.img = true) (h_inp : F.inp = true) (h_lark : F.lark = true) (h_nav : F.nav = true) (h_outs : F.outs = true) (h_pwr
    : F.pwr = true) (h_rcd : F.rcd = true) (h_rx : F.rx = true) (h_sec : F.sec = true) (h_timers : F.timers = true) (h_ucp : F.ucp
    = true) (h_upd : F.upd = true) (h_all : ∀ i, F.idx i = true) (h : execConfigImport who f s = .next t) : Kept F s t := by
  have hk := Kept.refl F s
  obtain rfl := Host.Outcome.next.inj h
  simp [hk, h_apps, h_can, h_conf, h_crop, h_flt, h_fox, h_free, h_img, h_inp, h_lark, h_nav, h_outs, h_pwr, h_rcd, h_rx, h_sec, h_timers, h_ucp, h_upd, h_all]

theorem execSeal_kept {F : Foot} {s t : State} (h_apps : F.apps = true) (h_can : F.can = true) (h_conf : F.conf = true)
    (h_crop : F.crop = true) (h_eth : F.eth = true) (h_flt : F.flt = true) (h_fox : F.fox = true) (h_free : F.free = true) (h_img
    : F.img = true) (h_inp : F.inp = true) (h_lark : F.lark = true) (h_nav : F.nav = true) (h_outs : F.outs = true) (h_parts :
    F.parts = true) (h_pwr : F.pwr = true) (h_rcd : F.rcd = true) (h_rx : F.rx = true) (h_sec : F.sec = true) (h_snap : F.snap =
    true) (h_timers : F.timers = true) (h_tm : F.tm = true) (h_ucp : F.ucp = true) (h_upd : F.upd = true) (h_all : ∀ i, F.idx i =
    true) (h : execSeal s = .next t) : Kept F s t := by
  have hk := Kept.refl F s
  obtain rfl := Host.Outcome.next.inj h
  simp [hk, h_apps, h_can, h_conf, h_crop, h_eth, h_flt, h_fox, h_free, h_img, h_inp, h_lark, h_nav, h_outs, h_parts, h_pwr, h_rcd, h_rx, h_sec, h_snap, h_timers, h_tm, h_ucp, h_upd, h_all]

theorem execTake_kept {F : Foot} {s t : State} (h_apps : F.apps = true) (h_can : F.can = true) (h_conf : F.conf = true)
    (h_crop : F.crop = true) (h_flt : F.flt = true) (h_fox : F.fox = true) (h_free : F.free = true) (h_img : F.img = true) (h_inp
    : F.inp = true) (h_lark : F.lark = true) (h_nav : F.nav = true) (h_outs : F.outs = true) (h_parts : F.parts = true) (h_pwr :
    F.pwr = true) (h_rcd : F.rcd = true) (h_rx : F.rx = true) (h_sec : F.sec = true) (h_snap : F.snap = true) (h_timers : F.timers
    = true) (h_ucp : F.ucp = true) (h_upd : F.upd = true) (h_all : ∀ i, F.idx i = true) (h : execTake s = .next t) : Kept F s t :=
    by
  have hk := Kept.refl F s
  obtain rfl := Host.Outcome.next.inj h
  simp [hk, h_apps, h_can, h_conf, h_crop, h_flt, h_fox, h_free, h_img, h_inp, h_lark, h_nav, h_outs, h_parts, h_pwr, h_rcd, h_rx, h_sec, h_snap, h_timers, h_ucp, h_upd, h_all]

theorem execAssemble_kept {F : Foot} {s t : State} (h_can : F.can = true) (h_img : F.img = true) (h : execAssemble s = .next
    t) : Kept F s t := by
  have hk := Kept.refl F s
  obtain rfl := Host.Outcome.next.inj h
  simp [hk, h_can, h_img]

theorem execPublish_kept {F : Foot} {s t : State} (h_img : F.img = true) (h_parts : F.parts = true) (h : execPublish s = .next
    t) : Kept F s t := by
  have hk := Kept.refl F s
  obtain rfl := Host.Outcome.next.inj h
  simp [hk, h_img, h_parts]

theorem execPhaseOverrun_kept {F : Foot} {s t : State} (h_flt : F.flt = true) (h_img : F.img = true) (h_lark : F.lark = true)
    (h_rcd : F.rcd = true) (h_ucp : F.ucp = true) (h_28 : F.grp 40) (h_ob_11776_10 : F.idx (ob 11776 10) = true) (h_ob_5120_4 :
    F.idx (ob 5120 4) = true) (h_recLostCount : F.idx (recLostCount) = true) (h : execPhaseOverrun s = .next t) : Kept F s t := by
  have hk := Kept.refl F s
  obtain rfl := Host.Outcome.next.inj h
  simp [hk, h_flt, h_img, h_lark, h_rcd, h_ucp, h_28, h_ob_11776_10, h_ob_5120_4, h_recLostCount]

theorem execLockstepMismatch_kept {F : Foot} {s t : State} (pair : Fin 4) (h_flt : F.flt = true) (h_parts : F.parts = true)
    (h_rcd : F.rcd = true) (h_sp : F.sp = true) (h_ucp : F.ucp = true) (h_28 : F.grp 40) (h_ob_11776_10 : F.idx (ob 11776 10) =
    true) (h_recLostCount : F.idx (recLostCount) = true) (h : execLockstepMismatch pair s = .next t) : Kept F s t := by
  have hk := Kept.refl F s
  obtain rfl := Host.Outcome.next.inj h
  simp [hk, h_flt, h_parts, h_rcd, h_sp, h_ucp, h_28, h_ob_11776_10, h_recLostCount]

theorem execPartitionResume_kept {F : Foot} {s t : State} (p : Fin 3) (verify : List Bool) (dur : Nat) (h_flt : F.flt = true)
    (h_lark : F.lark = true) (h_parts : F.parts = true) (h_rcd : F.rcd = true) (h_sp : F.sp = true) (h_timers : F.timers = true)
    (h_ucp : F.ucp = true) (h_14 : F.grp 20) (h_28 : F.grp 40) (h_29 : F.grp 41) (h_ob_11776_10 : F.idx (ob 11776 10) = true)
    (h_recLostCount : F.idx (recLostCount) = true) (h : execPartitionResume p verify dur s = .next t) : Kept F s t := by
  have hk := Kept.refl F s
  obtain rfl := Host.Outcome.next.inj h
  simp [hk, h_flt, h_lark, h_parts, h_rcd, h_sp, h_timers, h_ucp, h_14, h_28, h_29, h_ob_11776_10, h_recLostCount]

theorem execCkpt_kept {F : Foot} {s t : State} (p : Fin 3) (addr : Nat) (h_parts : F.parts = true) (h : execCkpt p addr s =
    .next t) : Kept F s t := by
  have hk := Kept.refl F s
  obtain rfl := Host.Outcome.next.inj h
  simp [hk, h_parts]

theorem execCkptDone_kept {F : Foot} {s t : State} (p : Fin 3) (h_parts : F.parts = true) (h_sp : F.sp = true) (h :
    execCkptDone p s = .next t) : Kept F s t := by
  have hk := Kept.refl F s
  obtain rfl := Host.Outcome.next.inj h
  simp [hk, h_parts, h_sp]

theorem execPiCommit_kept {F : Foot} {s t : State} (p : Fin 3) (entries : List (Nat × Nat)) (h_flt : F.flt = true) (h_img :
    F.img = true) (h_parts : F.parts = true) (h_rcd : F.rcd = true) (h_ucp : F.ucp = true) (h_28 : F.grp 40) (h_ob_11776_10 :
    F.idx (ob 11776 10) = true) (h_ob_5120_5 : F.idx (ob 5120 5) = true) (h_recLostCount : F.idx (recLostCount) = true) (h :
    execPiCommit p entries s = .next t) : Kept F s t := by
  have hk := Kept.refl F s
  obtain rfl := Host.Outcome.next.inj h
  simp [hk, h_flt, h_img, h_parts, h_rcd, h_ucp, h_28, h_ob_11776_10, h_ob_5120_5, h_recLostCount]

theorem execAppBusError_kept {F : Foot} {s t : State} (h_ob_5120_5 : F.idx (ob 5120 5) = true) (h : execAppBusError s = .next
    t) : Kept F s t := by
  have hk := Kept.refl F s
  obtain rfl := Host.Outcome.next.inj h
  simp [hk, h_ob_5120_5]

theorem execPiTimeout_kept {F : Foot} {s t : State} (p : Fin 3) (h_flt : F.flt = true) (h_parts : F.parts = true) (h_rcd :
    F.rcd = true) (h_ucp : F.ucp = true) (h_28 : F.grp 40) (h_ob_11776_10 : F.idx (ob 11776 10) = true) (h_ob_5120_2 : F.idx (ob
    5120 2) = true) (h_recLostCount : F.idx (recLostCount) = true) (h : execPiTimeout p s = .next t) : Kept F s t := by
  have hk := Kept.refl F s
  obtain rfl := Host.Outcome.next.inj h
  simp [hk, h_flt, h_parts, h_rcd, h_ucp, h_28, h_ob_11776_10, h_ob_5120_2, h_recLostCount]

theorem execCmdTail_kept {F : Foot} {s t : State} (p : Fin 3) (door : Option Door) (tail : Nat) (packets : List (List Byte))
    (h_eth : F.eth = true) (h_flt : F.flt = true) (h_parts : F.parts = true) (h_rcd : F.rcd = true) (h_sec : F.sec = true) (h_ucp
    : F.ucp = true) (h_28 : F.grp 40) (h_ob_11776_10 : F.idx (ob 11776 10) = true) (h_recLostCount : F.idx (recLostCount) = true)
    (h_uc_15 : F.idx (uc 15) = true) (h_uc_5 : F.idx (uc 5) = true) (h_uc_6 : F.idx (uc 6) = true) (h_uc_7 : F.idx (uc 7) = true)
    (h_uc_8 : F.idx (uc 8) = true) (h_uc_9 : F.idx (uc 9) = true) (h : execCmdTail p door tail packets s = .next t) : Kept F s t
    := by
  have hk := Kept.refl F s
  obtain rfl := Host.Outcome.next.inj h
  simp [hk, h_eth, h_flt, h_parts, h_rcd, h_sec, h_ucp, h_28, h_ob_11776_10, h_recLostCount, h_uc_15, h_uc_5, h_uc_6, h_uc_7, h_uc_8, h_uc_9]

theorem execRspTail_kept {F : Foot} {s t : State} (p : Fin 3) (tail : Nat) (h_can : F.can = true) (h_flt : F.flt = true)
    (h_lark : F.lark = true) (h_parts : F.parts = true) (h_rcd : F.rcd = true) (h_sec : F.sec = true) (h_ucp : F.ucp = true) (h_28
    : F.grp 40) (h_ob_11776_10 : F.idx (ob 11776 10) = true) (h_ob_11776_14 : F.idx (ob 11776 14) = true) (h_ob_4352_1 : F.idx (ob
    4352 1) = true) (h_recLostCount : F.idx (recLostCount) = true) (h : execRspTail p tail s = .next t) : Kept F s t := by
  have hk := Kept.refl F s
  obtain rfl := Host.Outcome.next.inj h
  simp [hk, h_can, h_flt, h_lark, h_parts, h_rcd, h_sec, h_ucp, h_28, h_ob_11776_10, h_ob_11776_14, h_ob_4352_1, h_recLostCount]

theorem execIrqStatus_kept {F : Foot} {s t : State} (p : Fin 3) (w : Nat) (h_parts : F.parts = true) (h : execIrqStatus p w s
    = .next t) : Kept F s t := by
  have hk := Kept.refl F s
  obtain rfl := Host.Outcome.next.inj h
  simp [hk, h_parts]

/-- Whatever the command, the queue of those that wait is left alone, and the store keeps its canonical form. -/
theorem exec_full {i : Instr} {s t : State} (he : exec i s = .next t) : Kept Foot.full s t := by
  cases i with
  | sealFrame => exact execSeal_kept  rfl rfl rfl rfl rfl rfl rfl rfl rfl rfl rfl rfl rfl rfl rfl rfl rfl rfl rfl rfl rfl rfl rfl (fun _ => rfl) he
  | take => exact execTake_kept  rfl rfl rfl rfl rfl rfl rfl rfl rfl rfl rfl rfl rfl rfl rfl rfl rfl rfl rfl rfl rfl (fun _ => rfl) he
  | scale blk mon sense => exact execScale_kept blk mon sense rfl rfl rfl rfl rfl (fun _ _ => rfl) (fun _ _ => rfl) (fun _ _ => rfl) rfl rfl he
  | crop => exact execCrop_kept  rfl rfl rfl rfl rfl (fun _ _ => rfl) (fun _ _ => rfl) rfl rfl he
  | fuseStep est gnss tests late => exact execFuseStep_kept est gnss tests late rfl rfl rfl rfl rfl rfl (fun _ _ => rfl) (fun _ _ => rfl) rfl rfl rfl rfl rfl rfl he
  | control upsets => exact execControl_kept upsets rfl rfl rfl rfl rfl rfl rfl (fun _ _ => rfl) (fun _ _ => rfl) (fun _ _ => rfl) rfl rfl rfl rfl rfl rfl rfl rfl rfl he
  | load bad => exact execLoad_kept bad rfl rfl rfl rfl rfl rfl rfl (fun _ => rfl) (fun _ => rfl) (fun _ => rfl) (fun _ => rfl) (fun _ _ => rfl) rfl rfl he
  | assemble => exact execAssemble_kept  rfl rfl he
  | publish => exact execPublish_kept  rfl rfl he
  | exchange ok sched => exact execExchange_kept ok sched rfl rfl rfl rfl rfl (fun _ _ => rfl) (fun _ _ => rfl) rfl rfl he
  | crossCheckLinkLost => exact execCrossCheckLinkLost_kept  rfl rfl rfl rfl (fun _ _ => rfl) (fun _ _ => rfl) rfl rfl he
  | phaseOverrun => exact execPhaseOverrun_kept  rfl rfl rfl rfl rfl (fun _ _ => rfl) rfl rfl rfl he
  | timebaseDeviation beyond => exact execTimebaseDeviation_kept beyond rfl rfl rfl rfl (fun _ _ => rfl) (fun _ _ => rfl) rfl rfl he
  | lockstepMismatch pair => exact execLockstepMismatch_kept pair rfl rfl rfl rfl rfl (fun _ _ => rfl) rfl rfl he
  | partitionResume p verify dur => exact execPartitionResume_kept p verify dur rfl rfl rfl rfl rfl rfl rfl (fun _ _ => rfl) (fun _ _ => rfl) (fun _ _ => rfl) rfl rfl he
  | ckpt p addr => exact execCkpt_kept p addr rfl he
  | ckptDone p => exact execCkptDone_kept p rfl rfl he
  | piCommit p entries => exact execPiCommit_kept p entries rfl rfl rfl rfl rfl (fun _ _ => rfl) rfl rfl rfl he
  | appBusError => exact execAppBusError_kept  rfl he
  | piTimeout p => exact execPiTimeout_kept p rfl rfl rfl rfl (fun _ _ => rfl) rfl rfl rfl he
  | cmdTail p door tail packets => exact execCmdTail_kept p door tail packets rfl rfl rfl rfl rfl rfl (fun _ _ => rfl) rfl rfl rfl rfl rfl rfl rfl rfl he
  | rspTail p tail => exact execRspTail_kept p tail rfl rfl rfl rfl rfl rfl rfl (fun _ _ => rfl) rfl rfl rfl rfl he
  | irqStatus p w => exact execIrqStatus_kept p w rfl he
  | clkPllLoss lost => exact execClkPllLoss_kept lost rfl rfl rfl (fun _ _ => rfl) rfl rfl he
  | secondBoundary dT => exact execSecondBoundary_kept dT rfl rfl rfl rfl (fun _ _ => rfl) rfl rfl rfl rfl rfl rfl rfl he
  | timeSolutionDelivery b d sigma sf sats => exact execTimeSolutionDelivery_kept b d sigma sf sats rfl rfl rfl rfl rfl (fun _ _ => rfl) rfl rfl rfl rfl rfl rfl rfl rfl he
  | timeSolutionDeadline => exact execTimeSolutionDeadline_kept  rfl he
  | goffStepApply => exact execGoffStepApply_kept  rfl rfl rfl rfl rfl (fun _ _ => rfl) rfl rfl rfl rfl rfl he
  | ppsPulse off => exact execPpsPulse_kept off rfl rfl rfl rfl rfl (fun _ _ => rfl) rfl rfl rfl rfl rfl he
  | pulseReport => exact execPulseReport_kept  rfl rfl rfl rfl (fun _ _ => rfl) rfl rfl rfl rfl he
  | mtStore => exact execMtStore_kept  rfl he
  | standbyOscMeasure offset => exact execStandbyOscMeasure_kept offset rfl he
  | leapSecond l => exact execLeapSecond_kept l rfl rfl rfl rfl (fun _ _ => rfl) rfl rfl rfl rfl he
  | calOffWrite who value => exact execCalOffWrite_kept who value rfl rfl rfl rfl (fun _ _ => rfl) rfl rfl rfl rfl rfl rfl rfl rfl rfl he
  | gptpSyncSend p => exact execGptpSyncSend_kept p rfl rfl (fun _ _ => rfl) he
  | gptpMessageReceive p m => exact execGptpMessageReceive_kept p m rfl rfl (fun _ _ => rfl) he
  | inputEdge ch up both stamp => exact execInputEdge_kept ch up both stamp rfl (fun _ => rfl) he
  | inputDiagFault ch high => exact execInputDiagFault_kept ch high rfl rfl rfl rfl (fun _ => rfl) (fun _ => rfl) (fun _ _ => rfl) rfl rfl he
  | currentInputProtect ch => exact execCurrentInputProtect_kept ch rfl rfl (fun _ => rfl) he
  | currentInputTrial ch => exact execCurrentInputTrial_kept ch rfl rfl he
  | settlingEnd ch => exact execSettlingEnd_kept ch rfl he
  | supTrip k => exact execSupTrip_kept k rfl rfl rfl rfl (fun _ _ => rfl) (fun _ _ => rfl) rfl rfl he
  | supRetry k => exact execSupRetry_kept k rfl rfl rfl rfl rfl (fun _ _ => rfl) (fun _ _ => rfl) rfl rfl he
  | supUndervolt k => exact execSupUndervolt_kept k (fun _ _ => rfl) he
  | supOvervolt k => exact execSupOvervolt_kept k rfl rfl rfl rfl (fun _ _ => rfl) (fun _ _ => rfl) rfl rfl he
  | supRetryReset k => exact execSupRetryReset_kept k rfl rfl he
  | supRestart who mask => exact execSupRestart_kept who mask rfl rfl rfl rfl rfl (fun _ _ => rfl) (fun _ _ => rfl) rfl rfl rfl rfl rfl rfl rfl rfl he
  | supplyTestPulse k => exact execSupplyTestPulse_kept k rfl (fun _ _ => rfl) he
  | shadowWindowEnd g own sp counts => exact execShadowWindowEnd_kept g own sp counts rfl rfl rfl rfl rfl rfl (fun _ _ => rfl) rfl rfl he
  | conversionFail ch => exact execConversionFail_kept ch rfl rfl rfl rfl rfl rfl (fun _ _ => rfl) rfl rfl he
  | spareConverterSwitch ch verify dur => exact execSpareConverterSwitch_kept ch verify dur rfl rfl rfl rfl rfl (fun _ => rfl) (fun _ => rfl) (fun _ _ => rfl) (fun _ _ => rfl) rfl rfl he
  | spareConfirmTimeout ch => exact execSpareConfirmTimeout_kept ch rfl rfl (fun _ => rfl) (fun _ => rfl) he
  | lossSensorQuiet k => exact execLossSensorQuiet_kept k rfl rfl rfl (fun _ _ => rfl) (fun _ _ => rfl) rfl rfl he
  | lossSensorNoisy k => exact execLossSensorNoisy_kept k rfl rfl rfl (fun _ _ => rfl) (fun _ _ => rfl) rfl rfl he
  | lossSensorClear k noisy => exact execLossSensorClear_kept k noisy rfl rfl rfl (fun _ _ => rfl) (fun _ _ => rfl) rfl rfl he
  | cropFlowTimeout => exact execCropFlowTimeout_kept  rfl rfl rfl (fun _ _ => rfl) rfl rfl he
  | moistTimeout => exact execMoistTimeout_kept  rfl rfl rfl (fun _ _ => rfl) rfl rfl rfl he
  | zeroRequest who => exact execZeroRequest_kept who rfl rfl rfl rfl rfl rfl rfl rfl rfl rfl rfl he
  | zeroDone => exact execZeroDone_kept  rfl rfl rfl he
  | recordClose => exact execRecordClose_kept  rfl rfl rfl rfl rfl (fun _ _ => rfl) rfl rfl rfl rfl rfl rfl rfl rfl rfl he
  | bufferClear who => exact execBufferClear_kept who rfl rfl rfl rfl (fun _ _ => rfl) rfl rfl rfl rfl rfl rfl rfl rfl rfl rfl he
  | totalsReset who => exact execTotalsReset_kept who rfl rfl rfl rfl rfl rfl rfl rfl rfl rfl rfl rfl he
  | antFeedShort a => exact execAntFeedShort_kept a rfl rfl rfl rfl rfl (fun _ _ => rfl) rfl rfl rfl he
  | antFeedTrial a => exact execAntFeedTrial_kept a rfl rfl he
  | antFeedOpen a => exact execAntFeedOpen_kept a rfl rfl rfl (fun _ _ => rfl) rfl rfl rfl he
  | antFeedNormal a => exact execAntFeedNormal_kept a rfl rfl rfl (fun _ _ => rfl) rfl rfl rfl he
  | correlatorDump d => exact execCorrelatorDump_kept d rfl rfl rfl rfl rfl (fun _ _ => rfl) rfl rfl rfl rfl rfl rfl rfl rfl he
  | aidingTimeout ch => exact execAidingTimeout_kept ch rfl rfl rfl rfl (fun _ _ => rfl) rfl rfl rfl rfl rfl rfl he
  | acquisitionDwellDone eng above hits => exact execAcquisitionDwellDone_kept eng above hits rfl rfl rfl rfl he
  | pullInTimeout ch => exact execPullInTimeout_kept ch rfl rfl rfl rfl he
  | carrierLoss ch => exact execCarrierLoss_kept ch rfl rfl rfl rfl he
  | carrierRestore ch => exact execCarrierRestore_kept ch rfl rfl rfl rfl he
  | codeLost ch => exact execCodeLost_kept ch rfl rfl rfl rfl he
  | coastRecover ch => exact execCoastRecover_kept ch rfl rfl rfl rfl he
  | coastTimeout ch => exact execCoastTimeout_kept ch rfl rfl rfl rfl he
  | reacqTimeout ch => exact execReacqTimeout_kept ch rfl rfl rfl rfl he
  | blankingWindow c share n => exact execBlankingWindow_kept c share n rfl (fun _ _ => rfl) he
  | detectorEpoch c l => exact execDetectorEpoch_kept c l rfl (fun _ _ => rfl) he
  | jammingMeasure c jn agc limit pll => exact execJammingMeasure_kept c jn agc limit pll rfl rfl rfl rfl (fun _ _ => rfl) (fun _ _ => rfl) rfl rfl he
  | gnssJamRaise c => exact execGnssJamRaise_kept c rfl rfl rfl (fun _ _ => rfl) rfl rfl he
  | chainOutOfUse c => exact execChainOutOfUse_kept c rfl rfl rfl rfl (fun _ _ => rfl) (fun _ _ => rfl) rfl rfl he
  | multipeakCheck ch second => exact execMultipeakCheck_kept ch second rfl rfl rfl rfl (fun _ _ => rfl) rfl rfl rfl rfl rfl rfl he
  | falseSignalClear ch => exact execFalseSignalClear_kept ch rfl rfl rfl rfl (fun _ _ => rfl) rfl rfl rfl rfl rfl rfl he
  | measurementEpoch l aoa h => exact execMeasurementEpoch_kept l aoa h rfl rfl rfl rfl rfl (fun _ _ => rfl) rfl rfl rfl rfl rfl rfl rfl rfl he
  | nmeaOutput bytes => exact execNmeaOutput_kept bytes rfl rfl rfl rfl (fun _ _ => rfl) rfl rfl he
  | correctionInput who off data => exact execCorrectionInput_kept who off data rfl rfl rfl rfl rfl rfl rfl rfl rfl rfl rfl rfl rfl rfl he
  | correctionEpochPass age usable carrier => exact execCorrectionEpochPass_kept age usable carrier rfl rfl rfl rfl rfl (fun _ _ => rfl) rfl rfl he
  | gnssCorrTimeout => exact execGnssCorrTimeout_kept  rfl rfl rfl (fun _ _ => rfl) rfl rfl he
  | bankSwap el verify dur => exact execBankSwap_kept el verify dur rfl rfl rfl rfl rfl rfl (fun _ _ => rfl) (fun _ _ => rfl) rfl rfl rfl rfl rfl rfl he
  | receiverDataStore mask sats => exact execReceiverDataStore_kept mask sats rfl rfl he
  | receiverHotStart who directed known near => exact execReceiverHotStart_kept who directed known near rfl rfl rfl (fun _ _ => rfl) rfl rfl rfl rfl rfl rfl he
  | receiverStartNoEph who directed known => exact execReceiverStartNoEph_kept who directed known rfl rfl rfl (fun _ _ => rfl) rfl rfl rfl rfl rfl rfl he
  | receiverColdStart who => exact execReceiverColdStart_kept who rfl rfl rfl (fun _ _ => rfl) rfl rfl rfl rfl rfl rfl he
  | aidingSetIssue sets => exact execAidingSetIssue_kept sets rfl rfl rfl rfl (fun _ _ => rfl) rfl rfl rfl rfl rfl he
  | navSolutionIssue => exact execNavSolutionIssue_kept  rfl rfl rfl rfl he
  | imuSample l => exact execImuSample_kept l rfl (fun _ _ => rfl) he
  | imuExclude n => exact execImuExclude_kept n rfl rfl rfl rfl rfl (fun _ _ => rfl) (fun _ _ => rfl) (fun _ _ => rfl) rfl rfl he
  | imuSwap n verify dur => exact execImuSwap_kept n verify dur rfl rfl rfl rfl rfl (fun _ _ => rfl) (fun _ _ => rfl) (fun _ _ => rfl) rfl rfl he
  | inertialVoteLost => exact execInertialVoteLost_kept  rfl rfl rfl rfl (fun _ _ => rfl) rfl rfl he
  | inertialRestore => exact execInertialRestore_kept  rfl rfl rfl rfl (fun _ _ => rfl) rfl rfl he
  | imuReadmit n => exact execImuReadmit_kept n rfl rfl rfl rfl (fun _ _ => rfl) (fun _ _ => rfl) (fun _ _ => rfl) rfl rfl he
  | speedContradiction => exact execSpeedContradiction_kept  rfl rfl rfl rfl (fun _ _ => rfl) (fun _ _ => rfl) rfl rfl he
  | speedSourceReadmit a => exact execSpeedSourceReadmit_kept a rfl rfl rfl rfl (fun _ _ => rfl) (fun _ _ => rfl) rfl rfl he
  | wheelNoEdge k => exact execWheelNoEdge_kept k rfl rfl rfl rfl (fun _ _ => rfl) (fun _ _ => rfl) rfl rfl he
  | zeroVelocityUpdate => exact execZeroVelocityUpdate_kept  rfl he
  | channelReadmit ch => exact execChannelReadmit_kept ch rfl rfl rfl rfl he
  | rtkCorrectionEpoch held ratio sats near => exact execRtkCorrectionEpoch_kept held ratio sats near rfl rfl rfl he
  | navHeadingRaise => exact execNavHeadingRaise_kept  rfl rfl rfl (fun _ _ => rfl) rfl rfl he
  | lineBiasStore l1 l5 => exact execLineBiasStore_kept l1 l5 rfl rfl rfl he
  | lineBiasReset who => exact execLineBiasReset_kept who rfl rfl rfl rfl rfl rfl rfl rfl rfl rfl rfl rfl he
  | alignLevel => exact execAlignLevel_kept  rfl he
  | alignHeading => exact execAlignHeading_kept  rfl rfl he
  | repropagationDone => exact execRepropagationDone_kept  rfl rfl he
  | lateEvaluation => exact execLateEvaluation_kept  rfl rfl rfl rfl (fun _ _ => rfl) (fun _ _ => rfl) rfl rfl he
  | deadReckoningEntry => exact execDeadReckoningEntry_kept  rfl rfl he
  | deadReckoningLimit => exact execDeadReckoningLimit_kept  rfl rfl rfl rfl (fun _ _ => rfl) rfl rfl rfl he
  | inertialOnlyLimit => exact execInertialOnlyLimit_kept  rfl rfl he
  | externalSpeedSample who j mt => exact execExternalSpeedSample_kept who j mt rfl rfl rfl (fun _ _ => rfl) rfl rfl rfl rfl rfl rfl he
  | slotCmdClose who n => exact execSlotCmdClose_kept who n rfl rfl rfl (fun _ => rfl) rfl rfl rfl rfl rfl rfl he
  | slotCmdOpen who n => exact execSlotCmdOpen_kept who n rfl rfl rfl (fun _ => rfl) rfl rfl rfl rfl rfl rfl he
  | slotCmdHold who n => exact execSlotCmdHold_kept who n rfl rfl rfl (fun _ => rfl) rfl rfl rfl rfl rfl rfl he
  | bankSelect who n b => exact execBankSelect_kept who n b rfl rfl rfl (fun _ => rfl) rfl rfl rfl rfl rfl rfl he
  | laneSelftestDone lane pass => exact execLaneSelftestDone_kept lane pass rfl rfl rfl rfl rfl (fun _ _ => rfl) (fun _ _ => rfl) rfl rfl rfl he
  | testStart who n => exact execTestStart_kept who n rfl rfl rfl rfl rfl rfl rfl rfl rfl he
  | testStop who n => exact execTestStop_kept who n rfl rfl rfl rfl rfl rfl rfl rfl rfl he
  | testComplete n => exact execTestComplete_kept n rfl (fun _ => rfl) (fun _ => rfl) (fun _ => rfl) he
  | peakReset who n => exact execPeakReset_kept who n rfl rfl (fun _ => rfl) rfl rfl rfl rfl rfl rfl he
  | captureArm who k => exact execCaptureArm_kept who k rfl rfl rfl (fun _ => rfl) (fun _ => rfl) (fun _ => rfl) rfl rfl rfl rfl rfl rfl he
  | captureStop who k => exact execCaptureStop_kept who k rfl rfl rfl (fun _ => rfl) (fun _ => rfl) (fun _ => rfl) rfl rfl rfl rfl rfl rfl he
  | captureForce who k => exact execCaptureForce_kept who k rfl rfl rfl (fun _ => rfl) (fun _ => rfl) (fun _ => rfl) rfl rfl rfl rfl rfl rfl he
  | captureRow k => exact execCaptureRow_kept k rfl (fun _ => rfl) (fun _ => rfl) he
  | conductionEnd ch => exact execConductionEnd_kept ch rfl he
  | inrushWindowClose ch => exact execInrushWindowClose_kept ch rfl he
  | overcurrentTrip ch => exact execOvercurrentTrip_kept ch rfl rfl rfl rfl (fun _ => rfl) (fun _ => rfl) (fun _ _ => rfl) rfl rfl he
  | shortTrip ch collapse => exact execShortTrip_kept ch collapse rfl rfl rfl rfl (fun _ => rfl) (fun _ => rfl) (fun _ _ => rfl) rfl rfl he
  | lsOvercurrentTrip ch => exact execLsOvercurrentTrip_kept ch rfl rfl rfl rfl (fun _ => rfl) (fun _ => rfl) (fun _ _ => rfl) rfl rfl he
  | openLoadOn ch => exact execOpenLoadOn_kept ch rfl rfl rfl rfl (fun _ => rfl) (fun _ _ => rfl) rfl rfl he
  | offStateTest ch level => exact execOffStateTest_kept ch level rfl rfl rfl rfl (fun _ => rfl) (fun _ _ => rfl) rfl rfl he
  | thermalAbsTrip ch => exact execThermalAbsTrip_kept ch rfl rfl rfl rfl (fun _ => rfl) (fun _ => rfl) (fun _ _ => rfl) rfl rfl he
  | thermalDeltaTrip ch => exact execThermalDeltaTrip_kept ch rfl rfl rfl rfl (fun _ => rfl) (fun _ => rfl) (fun _ _ => rfl) rfl rfl he
  | thermalLatchClear ch => exact execThermalLatchClear_kept ch rfl rfl rfl rfl (fun _ => rfl) (fun _ _ => rfl) rfl rfl he
  | senseMissing g selfFail => exact execSenseMissing_kept g selfFail rfl rfl rfl rfl (fun _ => rfl) (fun _ => rfl) (fun _ _ => rfl) rfl rfl he
  | refDeviation ch => exact execRefDeviation_kept ch rfl rfl rfl rfl (fun _ _ => rfl) rfl rfl he
  | retry ch => exact execRetry_kept ch rfl rfl rfl rfl (fun _ => rfl) (fun _ => rfl) (fun _ _ => rfl) rfl rfl he
  | retryCounterReload ch => exact execRetryCounterReload_kept ch rfl (fun _ => rfl) he
  | channelRestart who ch => exact execChannelRestart_kept who ch rfl rfl rfl rfl rfl (fun _ => rfl) (fun _ => rfl) (fun _ _ => rfl) rfl rfl rfl rfl rfl rfl rfl rfl he
  | groupGuardOff g => exact execGroupGuardOff_kept g rfl rfl rfl rfl (fun _ => rfl) (fun _ => rfl) (fun _ _ => rfl) rfl rfl he
  | groupRestore g => exact execGroupRestore_kept g rfl rfl rfl rfl (fun _ => rfl) (fun _ => rfl) (fun _ _ => rfl) rfl rfl he
  | dissipationEstimate base clamp => exact execDissipationEstimate_kept base clamp rfl rfl rfl rfl (fun _ => rfl) (fun _ _ => rfl) rfl rfl rfl rfl rfl rfl he
  | cellSwap ch side failed verify dur => exact execCellSwap_kept ch side failed verify dur rfl rfl rfl rfl rfl (fun _ => rfl) (fun _ _ => rfl) (fun _ _ => rfl) rfl rfl he
  | cellFaultTrip ch side short => exact execCellFaultTrip_kept ch side short rfl rfl rfl rfl rfl rfl (fun _ => rfl) (fun _ => rfl) (fun _ => rfl) (fun _ _ => rfl) (fun _ _ => rfl) rfl rfl rfl he
  | permissionWithdraw ch => exact execPermissionWithdraw_kept ch rfl rfl rfl rfl (fun _ => rfl) (fun _ _ => rfl) rfl rfl he
  | permissionReturn ch => exact execPermissionReturn_kept ch rfl rfl rfl rfl (fun _ => rfl) (fun _ _ => rfl) rfl rfl he
  | switchLinkLoss g => exact execSwitchLinkLoss_kept g rfl rfl rfl rfl (fun _ => rfl) (fun _ => rfl) (fun _ => rfl) (fun _ _ => rfl) rfl rfl he
  | switchLinkRestore g => exact execSwitchLinkRestore_kept g rfl rfl rfl rfl (fun _ => rfl) (fun _ => rfl) (fun _ _ => rfl) rfl rfl he
  | railDisagreement => exact execRailDisagreement_kept  rfl rfl rfl rfl (fun _ _ => rfl) (fun _ _ => rfl) rfl rfl he
  | foxgloveRegulatorFault dropout => exact execFoxgloveRegulatorFault_kept dropout rfl rfl rfl rfl (fun _ _ => rfl) (fun _ _ => rfl) rfl rfl he
  | safetyInputChange n high => exact execSafetyInputChange_kept n high rfl rfl rfl rfl (fun _ _ => rfl) (fun _ _ => rfl) rfl rfl he
  | inputPulseCheck n sup fail => exact execInputPulseCheck_kept n sup fail rfl rfl rfl rfl (fun _ _ => rfl) (fun _ _ => rfl) rfl rfl he
  | supplyPulseCheck sup fail => exact execSupplyPulseCheck_kept sup fail rfl rfl rfl rfl (fun _ _ => rfl) (fun _ _ => rfl) (fun _ _ => rfl) rfl rfl he
  | discrepancy p => exact execDiscrepancy_kept p rfl rfl rfl rfl (fun _ _ => rfl) (fun _ _ => rfl) rfl rfl he
  | stopDelayExpire f => exact execStopDelayExpire_kept f rfl rfl rfl rfl (fun _ _ => rfl) (fun _ _ => rfl) rfl rfl he
  | resetPress n ms => exact execResetPress_kept n ms rfl rfl rfl rfl (fun _ _ => rfl) (fun _ _ => rfl) (fun _ _ => rfl) rfl rfl he
  | resetStuck n => exact execResetStuck_kept n rfl rfl rfl rfl (fun _ _ => rfl) (fun _ _ => rfl) rfl rfl he
  | resetUnblock n => exact execResetUnblock_kept n rfl rfl rfl rfl (fun _ _ => rfl) (fun _ _ => rfl) rfl rfl he
  | darkPulse g ok counts => exact execDarkPulse_kept g ok counts rfl rfl rfl rfl rfl (fun _ _ => rfl) (fun _ _ => rfl) rfl rfl he
  | demandRequestWrite who v => exact execDemandRequestWrite_kept who v rfl rfl rfl rfl rfl rfl rfl rfl rfl he
  | safeSnsSample high counts => exact execSafeSnsSample_kept high counts rfl rfl rfl rfl (fun _ _ => rfl) rfl rfl rfl he
  | sealRead reading => exact execSealRead_kept reading rfl rfl rfl rfl (fun _ _ => rfl) (fun _ _ => rfl) rfl rfl he
  | stagingOpen who => exact execStagingOpen_kept who rfl rfl rfl rfl rfl rfl (fun _ _ => rfl) (fun _ _ => rfl) rfl rfl rfl rfl rfl rfl rfl rfl rfl he
  | stagingDiscard who => exact execStagingDiscard_kept who rfl rfl rfl rfl rfl rfl (fun _ _ => rfl) (fun _ _ => rfl) rfl rfl rfl rfl rfl rfl rfl rfl rfl he
  | rwsEdit who k v => exact execRwsEdit_kept who k v rfl rfl rfl rfl rfl (fun _ _ => rfl) rfl rfl rfl rfl rfl rfl rfl rfl he
  | sign who off data => exact execSign_kept who off data rfl rfl rfl rfl rfl (fun _ _ => rfl) rfl rfl rfl rfl rfl rfl rfl rfl rfl rfl rfl rfl rfl he
  | countersign who off data => exact execCountersign_kept who off data rfl rfl rfl rfl rfl rfl (fun _ _ => rfl) (fun _ _ => rfl) rfl rfl rfl rfl rfl rfl rfl rfl rfl rfl rfl rfl rfl rfl rfl he
  | changeExpire => exact execChangeExpire_kept  rfl rfl rfl rfl rfl (fun _ _ => rfl) (fun _ _ => rfl) rfl rfl rfl he
  | profileTransferDone crcOk => exact execProfileTransferDone_kept crcOk rfl rfl rfl rfl (fun _ => rfl) he
  | foxgloveSelftest pass => exact execFoxgloveSelftest_kept pass rfl rfl rfl rfl (fun _ _ => rfl) (fun _ _ => rfl) rfl rfl he
  | foxgloveProfileVerified crcOk => exact execFoxgloveProfileVerified_kept crcOk rfl rfl rfl rfl (fun _ _ => rfl) (fun _ _ => rfl) rfl rfl he
  | faultOccurrence src code => exact execFaultOccurrence_kept src code rfl rfl rfl (fun _ _ => rfl) rfl rfl he
  | faultAutoClear src => exact execFaultAutoClear_kept src rfl rfl rfl (fun _ _ => rfl) rfl rfl he
  | conseqModeEnd blk => exact execConseqModeEnd_kept blk rfl rfl rfl (fun _ _ => rfl) rfl rfl he
  | stepDecay src => exact execStepDecay_kept src (fun _ _ => rfl) he
  | blockReset b => exact execBlockReset_kept b rfl rfl rfl rfl rfl (fun _ => rfl) (fun _ => rfl) (fun _ _ => rfl) he
  | blockResetEnd b pass directed known near => exact execBlockResetEnd_kept b pass directed known near rfl rfl rfl rfl rfl rfl rfl rfl rfl rfl rfl (fun _ => rfl) (fun _ _ => rfl) (fun _ _ => rfl) (fun _ _ => rfl) (fun _ _ => rfl) rfl rfl rfl he
  | chipReset => exact execChipReset_kept  rfl rfl rfl rfl rfl rfl rfl rfl rfl rfl rfl rfl rfl rfl rfl rfl rfl rfl rfl rfl rfl rfl (fun _ => rfl) he
  | chipResetEnd => exact execChipResetEnd_kept  rfl rfl rfl rfl rfl rfl (fun _ _ => rfl) (fun _ _ => rfl) rfl rfl he
  | faultClearRequest who src => exact execFaultClearRequest_kept who src rfl rfl rfl rfl (fun _ _ => rfl) rfl rfl rfl rfl rfl rfl rfl rfl he
  | faultClearAll who => exact execFaultClearAll_kept who rfl rfl rfl rfl (fun _ _ => rfl) rfl rfl rfl rfl rfl rfl rfl rfl he
  | forceSet who src => exact execForceSet_kept who src rfl rfl rfl rfl (fun _ _ => rfl) rfl rfl rfl rfl rfl rfl rfl rfl he
  | forceClear who src => exact execForceClear_kept who src rfl rfl rfl rfl (fun _ _ => rfl) rfl rfl rfl rfl rfl rfl rfl rfl he
  | faultSnsSample high counts => exact execFaultSnsSample_kept high counts rfl rfl rfl (fun _ _ => rfl) rfl rfl he
  | wearCrossing pool el gauge level v1 v2 => exact execWearCrossing_kept pool el gauge level v1 v2 rfl he
  | spareSwap pool el verify dur => exact execSpareSwap_kept pool el verify dur rfl rfl rfl rfl rfl (fun _ _ => rfl) (fun _ _ => rfl) rfl rfl he
  | sramBankCopy bank words verify dur => exact execSramBankCopy_kept bank words verify dur rfl rfl rfl rfl rfl (fun _ _ => rfl) (fun _ _ => rfl) rfl rfl he
  | elementSelftestDone pool el pass => exact execElementSelftestDone_kept pool el pass rfl rfl rfl rfl rfl (fun _ _ => rfl) (fun _ _ => rfl) rfl rfl he
  | spareTest pool el pass => exact execSpareTest_kept pool el pass rfl rfl rfl rfl (fun _ _ => rfl) (fun _ _ => rfl) rfl rfl he
  | sramScrub bank lastHour new sameWord => exact execSramScrub_kept bank lastHour new sameWord rfl rfl rfl rfl (fun _ _ => rfl) rfl rfl he
  | recordPost => exact execRecordPost_kept  rfl rfl rfl (fun _ _ => rfl) rfl rfl rfl rfl he
  | recordLost => exact execRecordLost_kept  rfl rfl rfl rfl rfl he
  | archiveCopy ok => exact execArchiveCopy_kept ok rfl rfl rfl rfl (fun _ _ => rfl) rfl rfl rfl he
  | heldClearWrite => exact execHeldClearWrite_kept  rfl rfl rfl (fun _ _ => rfl) rfl rfl rfl rfl he
  | recBankFail bank verify => exact execRecBankFail_kept bank verify rfl rfl rfl (fun _ _ => rfl) rfl rfl rfl rfl he
  | recDualFail => exact execRecDualFail_kept  rfl rfl rfl (fun _ _ => rfl) rfl rfl rfl rfl rfl rfl he
  | dualFailReset who => exact execDualFailReset_kept who rfl rfl rfl rfl (fun _ _ => rfl) rfl rfl rfl rfl rfl rfl rfl rfl rfl he
  | recorderClear who => exact execRecorderClear_kept who rfl rfl rfl rfl rfl rfl rfl rfl rfl rfl rfl rfl rfl rfl rfl he
  | applicationRecord who value => exact execApplicationRecord_kept who value rfl rfl rfl rfl (fun _ _ => rfl) rfl rfl rfl rfl rfl rfl rfl rfl he
  | counterStore => exact execCounterStore_kept  rfl he
  | packetReceive r bytes => exact execPacketReceive_kept r bytes rfl rfl rfl rfl rfl (fun _ _ => rfl) rfl rfl rfl rfl rfl rfl rfl rfl he
  | requestDequeue f => exact execRequestDequeue_kept f rfl rfl rfl rfl rfl rfl rfl rfl rfl rfl rfl rfl rfl rfl rfl rfl rfl rfl rfl (fun _ => rfl) he
  | read who i sub off n => exact execRead_kept who i sub off n rfl rfl rfl rfl rfl rfl he
  | write who i sub off aux data f => exact execWrite_kept who i sub off aux data f rfl rfl rfl rfl rfl rfl rfl rfl rfl rfl rfl rfl rfl rfl rfl rfl rfl rfl rfl (fun _ => rfl) he
  | subscribe who r cls divider => exact execSubscribe_kept who r cls divider rfl rfl he
  | unsubscribe who r cls => exact execUnsubscribe_kept who r cls rfl rfl he
  | nop data => exact execNop_kept data rfl he
  | outboundTransmit port => exact execOutboundTransmit_kept port rfl rfl rfl rfl rfl rfl rfl (fun _ _ => rfl) rfl rfl rfl rfl he
  | tagQuarantineEnd sp epoch tag => exact execTagQuarantineEnd_kept sp epoch tag rfl he
  | ucpSegmentReceive p node data => exact execUcpSegmentReceive_kept p node data rfl rfl rfl rfl rfl (fun _ _ => rfl) rfl rfl rfl rfl rfl rfl rfl rfl rfl he
  | ucpStreamTimeout p node stream => exact execUcpStreamTimeout_kept p node stream rfl rfl he
  | announce => exact execAnnounce_kept  rfl rfl he
  | dupaddrClear => exact execDupaddrClear_kept  rfl rfl rfl rfl (fun _ _ => rfl) rfl rfl he
  | ethFrameForward p f => exact execEthFrameForward_kept p f rfl (fun _ _ => rfl) he
  | ethLinkDown p => exact execEthLinkDown_kept p rfl rfl rfl rfl (fun _ _ => rfl) (fun _ _ => rfl) rfl he
  | ethLinkUp p quality => exact execEthLinkUp_kept p quality rfl rfl rfl rfl (fun _ _ => rfl) (fun _ _ => rfl) rfl he
  | ringTestSend => exact execRingTestSend_kept  rfl rfl rfl rfl rfl (fun _ _ => rfl) (fun _ _ => rfl) rfl he
  | ringFrameReceive p kind node => exact execRingFrameReceive_kept p kind node rfl rfl rfl rfl (fun _ _ => rfl) (fun _ _ => rfl) (fun _ _ => rfl) rfl he
  | ringTestTimeout => exact execRingTestTimeout_kept  rfl rfl rfl rfl (fun _ _ => rfl) (fun _ _ => rfl) rfl he
  | fleetSend who => exact execFleetSend_kept who rfl rfl rfl rfl rfl (fun _ _ => rfl) rfl rfl rfl rfl rfl rfl rfl rfl rfl rfl rfl he
  | fleetDeliver who => exact execFleetDeliver_kept who rfl rfl rfl rfl rfl (fun _ _ => rfl) rfl rfl rfl rfl rfl rfl rfl rfl rfl rfl rfl he
  | mapApply who => exact execMapApply_kept who rfl rfl rfl rfl rfl rfl rfl rfl rfl rfl he
  | appTableApply who => exact execAppTableApply_kept who rfl rfl rfl rfl rfl rfl rfl rfl rfl rfl he
  | canFrameReceive p f err => exact execCanFrameReceive_kept p f err rfl rfl rfl rfl rfl rfl rfl (fun _ _ => rfl) (fun _ _ => rfl) rfl rfl rfl rfl rfl rfl rfl rfl rfl he
  | canProtocolException p => exact execCanProtocolException_kept p rfl rfl rfl rfl (fun _ => rfl) (fun _ => rfl) (fun _ _ => rfl) rfl rfl he
  | canRxTimeout p n => exact execCanRxTimeout_kept p n rfl he
  | canTxDue => exact execCanTxDue_kept  rfl (fun _ => rfl) he
  | canFrameTransmit p err afterArb sof delay => exact execCanFrameTransmit_kept p err afterArb sof delay rfl rfl rfl rfl (fun _ _ => rfl) (fun _ _ => rfl) rfl rfl he
  | canBusOff p => exact execCanBusOff_kept p rfl rfl rfl (fun _ => rfl) (fun _ => rfl) (fun _ _ => rfl) rfl rfl he
  | canRecoveryRequest who p => exact execCanRecoveryRequest_kept who p rfl rfl rfl rfl (fun _ => rfl) (fun _ _ => rfl) rfl rfl rfl rfl rfl rfl rfl rfl he
  | canRecoveryDone p => exact execCanRecoveryDone_kept p rfl rfl rfl (fun _ => rfl) (fun _ => rfl) (fun _ => rfl) (fun _ _ => rfl) rfl rfl he
  | canTimingApply who p => exact execCanTimingApply_kept who p rfl rfl rfl rfl rfl (fun _ => rfl) (fun _ => rfl) (fun _ => rfl) (fun _ _ => rfl) rfl rfl rfl rfl rfl rfl rfl rfl he
  | canJoinCheckEnd p => exact execCanJoinCheckEnd_kept p rfl rfl rfl rfl (fun _ => rfl) (fun _ => rfl) (fun _ => rfl) (fun _ _ => rfl) rfl rfl he
  | canTxdTimeout p => exact execCanTxdTimeout_kept p rfl rfl rfl (fun _ => rfl) (fun _ _ => rfl) rfl rfl he
  | canTableApply who mask => exact execCanTableApply_kept who mask rfl rfl rfl (fun _ _ => rfl) rfl rfl rfl rfl rfl rfl he
  | referenceMessageSend p => exact execReferenceMessageSend_kept p rfl he
  | canTimeLost p => exact execCanTimeLost_kept p rfl rfl rfl (fun _ => rfl) (fun _ _ => rfl) rfl rfl he
  | addressClaimSend p => exact execAddressClaimSend_kept p rfl he
  | addressHeld p => exact execAddressHeld_kept p (fun _ => rfl) (fun _ => rfl) he
  | cannotClaimSend p => exact execCannotClaimSend_kept p rfl rfl rfl rfl (fun _ => rfl) (fun _ _ => rfl) rfl rfl he
  | transportSessionTimeout p tx bam peer => exact execTransportSessionTimeout_kept p tx bam peer rfl (fun _ => rfl) he
  | isoSend who p => exact execIsoSend_kept who p rfl rfl rfl (fun _ => rfl) (fun _ => rfl) (fun _ => rfl) rfl rfl rfl rfl rfl rfl he
  | isoSendDone p => exact execIsoSendDone_kept p rfl (fun _ => rfl) (fun _ => rfl) he
  | canShadowCompare c differs hard => exact execCanShadowCompare_kept c differs hard rfl rfl he
  | canControllerSwap p verify dur transmitting => exact execCanControllerSwap_kept p verify dur transmitting rfl rfl rfl rfl rfl rfl (fun _ => rfl) (fun _ _ => rfl) (fun _ _ => rfl) rfl rfl he
  | canPortFailed p => exact execCanPortFailed_kept p rfl rfl rfl rfl rfl (fun _ => rfl) (fun _ => rfl) (fun _ _ => rfl) (fun _ _ => rfl) rfl rfl he
  | hello r src data => exact execHello_kept r src data rfl rfl rfl rfl rfl (fun _ _ => rfl) rfl rfl rfl rfl rfl he
  | finish n data => exact execFinish_kept n data rfl rfl rfl rfl (fun _ _ => rfl) rfl rfl rfl rfl rfl rfl he
  | close n => exact execClose_kept n rfl rfl rfl rfl rfl (fun _ _ => rfl) rfl rfl rfl rfl he
  | attest nonce => exact execAttest_kept nonce rfl he
  | handshakeTimeout n => exact execHandshakeTimeout_kept n rfl he
  | sessionIdleTimeout n => exact execSessionIdleTimeout_kept n rfl rfl rfl rfl rfl (fun _ _ => rfl) rfl rfl rfl rfl he
  | sessionLifetimeEnd n => exact execSessionLifetimeEnd_kept n rfl rfl rfl rfl rfl (fun _ _ => rfl) rfl rfl rfl rfl he
  | credentialExpiryCheck => exact execCredentialExpiryCheck_kept  rfl rfl rfl rfl rfl rfl (fun _ _ => rfl) rfl rfl rfl rfl rfl he
  | endSession who n => exact execEndSession_kept who n rfl rfl rfl rfl rfl rfl (fun _ _ => rfl) rfl rfl rfl rfl rfl rfl rfl rfl rfl rfl he
  | lockoutEnd r => exact execLockoutEnd_kept r rfl he
  | revocationApply who => exact execRevocationApply_kept who rfl rfl rfl rfl rfl rfl rfl rfl (fun _ _ => rfl) (fun _ _ => rfl) rfl rfl rfl rfl rfl rfl rfl rfl rfl rfl rfl rfl rfl rfl rfl he
  | anchorApply who => exact execAnchorApply_kept who rfl rfl rfl rfl rfl rfl (fun _ _ => rfl) rfl rfl rfl rfl rfl rfl rfl rfl rfl rfl rfl rfl rfl rfl rfl he
  | memberListApply who => exact execMemberListApply_kept who rfl rfl rfl rfl rfl (fun _ _ => rfl) rfl rfl rfl rfl rfl rfl rfl rfl rfl rfl rfl rfl rfl he
  | signedCommandExecute who f => exact execSignedCommandExecute_kept who f rfl rfl rfl rfl rfl rfl rfl rfl rfl rfl rfl rfl rfl rfl rfl rfl rfl rfl rfl (fun _ => rfl) he
  | challengeRenew => exact execChallengeRenew_kept  rfl rfl he
  | debugOpen who data => exact execDebugOpen_kept who data rfl rfl rfl rfl rfl rfl (fun _ _ => rfl) rfl rfl rfl rfl rfl rfl rfl rfl rfl rfl rfl he
  | debugClose who => exact execDebugClose_kept who rfl rfl rfl rfl rfl (fun _ _ => rfl) rfl rfl rfl rfl rfl rfl rfl rfl rfl he
  | debugTimeout => exact execDebugTimeout_kept  rfl rfl rfl rfl (fun _ _ => rfl) rfl rfl rfl he
  | debugLock who value => exact execDebugLock_kept who value rfl rfl rfl rfl (fun _ _ => rfl) rfl rfl rfl rfl rfl rfl rfl rfl rfl rfl he
  | configCommit who => exact execConfigCommit_kept who rfl rfl rfl rfl rfl (fun _ _ => rfl) rfl rfl rfl rfl rfl rfl rfl rfl rfl rfl rfl rfl rfl he
  | configReturn who v => exact execConfigReturn_kept who v rfl rfl rfl rfl rfl rfl (fun _ _ => rfl) rfl rfl rfl rfl rfl rfl rfl rfl rfl rfl rfl rfl rfl rfl he
  | configImport who f => exact execConfigImport_kept who f rfl rfl rfl rfl rfl rfl rfl rfl rfl rfl rfl rfl rfl rfl rfl rfl rfl rfl rfl (fun _ => rfl) he
  | imageBlock who off data => exact execImageBlock_kept who off data rfl rfl rfl rfl rfl (fun _ _ => rfl) rfl rfl rfl rfl rfl rfl rfl rfl rfl rfl rfl rfl rfl rfl rfl he
  | imageVerify who built => exact execImageVerify_kept who built rfl rfl rfl rfl rfl (fun _ _ => rfl) (fun _ _ => rfl) rfl rfl rfl rfl rfl rfl rfl rfl rfl rfl he
  | armA who => exact execArmA_kept who rfl rfl rfl rfl rfl (fun _ _ => rfl) rfl rfl rfl rfl rfl rfl rfl rfl rfl rfl rfl rfl rfl rfl rfl he
  | armN who => exact execArmN_kept who rfl rfl rfl rfl rfl (fun _ _ => rfl) rfl rfl rfl rfl rfl rfl rfl rfl rfl rfl rfl rfl rfl rfl rfl he
  | activateNow who => exact execActivateNow_kept who rfl rfl rfl rfl rfl (fun _ _ => rfl) rfl rfl rfl rfl rfl rfl rfl rfl rfl rfl rfl rfl rfl rfl rfl he
  | disarmReject who => exact execDisarmReject_kept who rfl rfl rfl rfl rfl (fun _ _ => rfl) rfl rfl rfl rfl rfl rfl rfl rfl rfl rfl rfl rfl rfl rfl rfl he
  | updateDiscard who => exact execUpdateDiscard_kept who rfl rfl rfl rfl rfl (fun _ _ => rfl) rfl rfl rfl rfl rfl rfl rfl rfl rfl rfl rfl rfl rfl rfl rfl he
  | updateConfirm who => exact execUpdateConfirm_kept who rfl rfl rfl rfl rfl (fun _ _ => rfl) (fun _ _ => rfl) rfl rfl rfl rfl rfl rfl rfl rfl rfl rfl rfl rfl rfl he
  | trialHealthy => exact execTrialHealthy_kept  rfl rfl rfl rfl (fun _ _ => rfl) (fun _ _ => rfl) rfl rfl rfl rfl rfl rfl rfl he
  | classNActivate => exact execClassNActivate_kept  rfl rfl rfl rfl (fun _ _ => rfl) rfl rfl rfl rfl rfl rfl rfl rfl he
  | start rtc root slots pass0 pass1 bad fails directed known near => exact execStart_kept rtc root slots pass0 pass1 bad fails directed known near rfl rfl rfl rfl rfl rfl rfl rfl rfl rfl rfl rfl rfl rfl rfl rfl rfl rfl rfl rfl rfl rfl rfl rfl (fun _ => rfl) he
  | startComplete => exact execStartComplete_kept  rfl rfl rfl rfl rfl rfl rfl rfl (fun _ => rfl) (fun _ => rfl) (fun _ _ => rfl) (fun _ _ => rfl) rfl rfl rfl rfl rfl rfl rfl rfl he
  | standbyRequest who => exact execStandbyRequest_kept who rfl rfl rfl rfl rfl rfl rfl rfl rfl he
  | configureRequest who => exact execConfigureRequest_kept who rfl rfl rfl rfl rfl rfl rfl rfl rfl he
  | runRequest who => exact execRunRequest_kept who rfl rfl rfl rfl rfl rfl rfl rfl rfl he
  | limpRequest who => exact execLimpRequest_kept who rfl rfl rfl rfl rfl rfl rfl rfl rfl he
  | safeHoldRequest who => exact execSafeHoldRequest_kept who rfl rfl rfl rfl rfl rfl rfl rfl rfl he
  | serviceRequest who => exact execServiceRequest_kept who rfl rfl rfl rfl rfl rfl rfl rfl rfl he
  | restartRequest who => exact execRestartRequest_kept who rfl rfl rfl rfl rfl rfl rfl rfl rfl he
  | autoStateChange => exact execAutoStateChange_kept  rfl rfl rfl rfl rfl rfl rfl rfl (fun _ => rfl) (fun _ _ => rfl) (fun _ _ => rfl) rfl rfl rfl rfl rfl rfl rfl he
  | holdupSave trig vlBack => exact execHoldupSave_kept trig vlBack rfl rfl rfl rfl rfl rfl rfl rfl rfl rfl rfl rfl rfl rfl rfl (fun _ => rfl) (fun _ => rfl) (fun _ => rfl) (fun _ _ => rfl) (fun _ _ => rfl) (fun _ _ => rfl) (fun _ _ => rfl) rfl rfl rfl rfl rfl rfl rfl rfl rfl rfl rfl rfl rfl rfl rfl rfl rfl rfl rfl rfl rfl rfl rfl he
  | afterRunExpire => exact execAfterRunExpire_kept  rfl rfl rfl rfl rfl rfl rfl rfl (fun _ => rfl) (fun _ _ => rfl) (fun _ _ => rfl) rfl rfl rfl rfl rfl rfl rfl rfl he
  | wake src => exact execWake_kept src rfl rfl rfl rfl rfl (fun _ _ => rfl) (fun _ _ => rfl) (fun _ _ => rfl) rfl rfl rfl rfl rfl rfl rfl rfl rfl he
  | vlRise mv => exact execVlRise_kept mv rfl rfl rfl rfl rfl (fun _ _ => rfl) (fun _ _ => rfl) (fun _ _ => rfl) rfl rfl rfl rfl rfl rfl rfl rfl rfl rfl he
  | vlPrechargeTimeout => exact execVlPrechargeTimeout_kept  rfl rfl he
  | holdupStoreReady mv => exact execHoldupStoreReady_kept mv rfl rfl he
  | vbakMeasure vbak vl ma => exact execVbakMeasure_kept vbak vl ma rfl rfl rfl rfl (fun _ _ => rfl) rfl rfl rfl rfl rfl rfl rfl he
  | vbPrecharge g mv => exact execVbPrecharge_kept g mv (fun _ => rfl) (fun _ => rfl) he
  | vlLow code mv => exact execVlLow_kept code mv rfl rfl rfl rfl (fun _ _ => rfl) rfl rfl rfl rfl rfl he
  | presentMake => exact execPresentMake_kept  rfl rfl rfl rfl he
  | presentBreak closed => exact execPresentBreak_kept closed rfl rfl (fun _ => rfl) rfl rfl rfl he
  | addressRead pins agree => exact execAddressRead_kept pins agree rfl rfl rfl rfl he
  | addressChange pins => exact execAddressChange_kept pins rfl rfl he
  | wakeInLevel high => exact execWakeInLevel_kept high rfl he
  | statusPinOvercurrent pin over_ => exact execStatusPinOvercurrent_kept pin over_ rfl he
  | foxgloveRegulatorRecover => exact execFoxgloveRegulatorRecover_kept  rfl rfl rfl rfl (fun _ _ => rfl) (fun _ _ => rfl) (fun _ _ => rfl) rfl rfl he
  | vbakSupplyMonitorTrip => exact execVbakSupplyMonitorTrip_kept  rfl he
  | randomSourceHealthFail => exact execRandomSourceHealthFail_kept  rfl rfl rfl (fun _ _ => rfl) rfl rfl rfl he
  | dieTempExceed hot => exact execDieTempExceed_kept hot rfl rfl rfl (fun _ _ => rfl) rfl rfl he
  | hollyhockRailMismatch disagree => exact execHollyhockRailMismatch_kept disagree rfl rfl rfl (fun _ _ => rfl) rfl rfl he
  | lupinRailMismatch => exact execLupinRailMismatch_kept  rfl rfl rfl (fun _ _ => rfl) rfl rfl he
  | sramUncorrectableError bank word => exact execSramUncorrectableError_kept bank word rfl rfl rfl (fun _ _ => rfl) rfl rfl rfl he
  | supplyMonitorFault faulty => exact execSupplyMonitorFault_kept faulty rfl rfl rfl (fun _ _ => rfl) rfl rfl he
  | activationTimeMissed => exact execActivationTimeMissed_kept  rfl rfl rfl (fun _ _ => rfl) rfl rfl he
  | vlPrechargeRetry => exact execVlPrechargeRetry_kept  rfl he
  | icmpv6MessageReceive p typ src target data => exact execIcmpv6MessageReceive_kept p typ src target data rfl (fun _ _ => rfl) he
  | ringManagerTimeout => exact execRingManagerTimeout_kept  rfl rfl rfl rfl (fun _ _ => rfl) rfl rfl rfl rfl he
  | openLoadClear ch => exact execOpenLoadClear_kept ch rfl rfl rfl rfl (fun _ _ => rfl) rfl rfl he
  | refDevClear ch => exact execRefDevClear_kept ch rfl rfl rfl rfl (fun _ _ => rfl) rfl rfl he
  | chainBackInUse c => exact execChainBackInUse_kept c rfl rfl rfl rfl (fun _ _ => rfl) (fun _ _ => rfl) rfl rfl he
  | headingFixTimeout => exact execHeadingFixTimeout_kept  rfl he
  | ambiguityDiscard => exact execAmbiguityDiscard_kept  rfl rfl he
  | canShadowRotate c => exact execCanShadowRotate_kept c rfl he

end Sys2Proof.Machine
end

