-- ==== Sys2Proof/Laws/Raise.lean ====
section
/-! SUPPORT. What a source's status word and counters hold after an occurrence, a rise, a fall and a clear of the source. -/

namespace Sys2Proof.Machine

open Sys2Proof

theorem State.push_only (s : State) (kind subject code flags : Nat) (conts : List Cont) {k : Nat} (h : k ≠ recLostCount) :
    (s.push kind subject code flags conts).get k = s.get k :=
  (State.push_kept (F := { flt := true, rcd := true, idx := fun j => decide (j = recLostCount) }) s kind subject code flags conts
    rfl rfl (by simp) (Kept.refl _ s)).get_eq (by simpa using h)

theorem State.send_only (s : State) (cls : Nat) (data : List Byte) (aux : Nat) {k : Nat} (h : k ≠ ob 0x2E00 0x0A) :
    (s.send cls data aux).get k = s.get k :=
  (State.send_kept (F := { flt := true, ucp := true, idx := fun j => decide (j = ob 0x2E00 0x0A) }) s cls data aux
    rfl rfl (by simp) (Kept.refl _ s)).get_eq (by simpa using h)

theorem State.get_flt (s : State) (f : FaultSt) (k : Nat) : ({ s with flt := f } : State).get k = s.get k := rfl

/-- The low bits of a status word: RAW, FORCED and ACTIVE. -/
theorem testBit_of_div {a c i j : Nat} (h : i < j) (e : a / 2 ^ (i + 1) = c / 2 ^ (i + 1)) : Nat.testBit a j = Nat.testBit c j := by
  have := congrArg (fun n => Nat.testBit n (j - (i + 1))) e
  simpa [Nat.testBit_div_two_pow, Nat.sub_add_cancel (show i + 1 ≤ j from h)] using this

theorem bit_setBit_gt (w : Nat) {i j : Nat} (b : Bool) (h : i < j) : bit (setBit w i b) j = bit w j := by
  unfold bit setBit
  have hp : 0 < 2 ^ i := Nat.two_pow_pos i
  have hq : ∀ n : Nat, n / 2 ^ (i + 1) = n / 2 ^ i / 2 := fun n => by rw [Nat.div_div_eq_div_mul, Nat.pow_succ]
  cases b <;> by_cases hw : Nat.testBit w i <;> simp only [hw, if_true, Bool.false_eq_true, if_false]
  all_goals
    refine testBit_of_div h ?_
    rw [Nat.testBit_eq_decide_div_mod_eq, decide_eq_true_eq] at hw
    rw [hq, hq]
  · have := Nat.ge_two_pow_of_testBit (by rwa [Nat.testBit_eq_decide_div_mod_eq, decide_eq_true_eq] : Nat.testBit w i = true)
    have e : (w - 2 ^ i) / 2 ^ i = w / 2 ^ i - 1 := by
      obtain ⟨d, rfl⟩ := Nat.exists_eq_add_of_le' this
      rw [Nat.add_sub_cancel, Nat.add_div_right _ hp]; simp
    rw [e]; generalize w / 2 ^ i = q at hw ⊢; omega
  · rw [Nat.add_div_right _ hp]; generalize w / 2 ^ i = q at hw ⊢; omega

theorem State.get_put_bit (s : State) {k j v i : Nat} (h : bit v i = bit (s.get k) i) : bit ((s.put k v).get j) i = bit (s.get j) i := by
  by_cases e : j = k
  · subst e; rw [State.get_put]; exact h
  · rw [State.get_put_ne _ _ e]

theorem State.drivePin_get' (s : State) {k : Nat} (h : k ≠ faultPin) : s.drivePin.get k = s.get k := State.get_putBit_ne _ _ _ h

theorem State.setPending_low (s : State) (src : Nat) (on pin : Bool) (x : Nat) {i : Nat} (hi : i < 3) :
    bit ((s.setPending src on pin).get (stKey x)) i = bit (s.get (stKey x)) i := by
  unfold State.setPending
  lift_lets
  intro was wasPin s1 s2 nowPin s3 f
  rw [State.drivePin_get' _ stKey_ne_pin]
  refine (congrArg (fun n => bit n i) (State.get_flt s3 _ _)).trans ?_
  have h1 : s1.get (stKey x) = (s.putBit (stKey src) 3 on).get (stKey x) := State.get_putBit_ne _ _ _ stKey_ne_pend
  have h2 : s2.get (stKey x) = s1.get (stKey x) := by
    simp only [s2]; split
    · exact State.get_put_ne _ _ stKey_ne_low
    · split
      · exact State.get_put_ne _ _ stKey_ne_low
      · rfl
  have h3 : s3.get (stKey x) = s2.get (stKey x) := by
    simp only [s3]; split
    · exact State.get_put_ne _ _ stKey_ne_low
    · split
      · exact State.get_put_ne _ _ stKey_ne_low
      · rfl
  rw [h3, h2, h1]
  exact State.get_put_bit _ (bit_setBit_lt _ _ hi)

theorem State.occurWord_low (s : State) (src w : Nat) {i : Nat} (hi : i < 3) : bit (s.occurWord src w) i = bit w i := by
  unfold State.occurWord
  dsimp only
  rw [bit_setBit_lt _ _ (by omega), bit_setBits_lt _ _ _ (by omega), bit_setBits_lt _ _ _ (by omega), bit_setBit_lt _ _ (by omega)]

theorem State.occurWord_pending (s : State) (src w : Nat) : bit (s.occurWord src w) 3 = bit w 3 := by
  unfold State.occurWord
  dsimp only
  rw [bit_setBit_lt _ _ (by omega), bit_setBits_lt _ _ _ (by omega), bit_setBits_lt _ _ _ (by omega), bit_setBit_lt _ _ (by omega)]

/-- What the records and the event of an occurrence leave alone. -/
theorem State.occurTell_only (s : State) (src : Nat) (t : State) {k : Nat} (h1 : k ≠ recLostCount) (h2 : k ≠ ob 0x2E00 0x0A)
    (h3 : k ≠ ob 0x2800 0x0E) : (s.occurTell src t).get k = t.get k := by
  unfold State.occurTell
  dsimp only
  split <;> split <;> simp [State.send_only, State.push_only, State.get_inc32_ne, h1, h2, h3]

theorem State.occurConseq_low (s : State) (src x : Nat) {i : Nat} (hi : i < 3) :
    bit ((s.occurConseq src).get (stKey x)) i = bit (s.get (stKey x)) i := by
  unfold State.occurConseq
  lift_lets
  intro s1 w s2 f s3
  have h1 : bit (s1.get (stKey x)) i = bit (s.get (stKey x)) i := by
    refine (State.setPending_low _ _ _ _ _ hi).trans ?_
    rw [State.get_inc32_ne _ stKey_ne_low, State.get_inc32_ne _ stKey_ne_cnt]
  have h2 : bit (s2.get (stKey x)) i = bit (s1.get (stKey x)) i :=
    State.get_put_bit _ (by simp only [w]; rw [bit_setBits_lt _ _ _ (by omega), bit_setBit_lt _ _ (by omega)])
  have h3 : s3.get (stKey x) = s2.get (stKey x) := rfl
  clear_value s3 s2 s1
  rw [State.push_only _ _ _ _ _ _ stKey_ne_lost, h3, h2, h1]

theorem State.occurMark_low (s : State) (src x : Nat) {i : Nat} (hi : i < 3) :
    bit ((s.occurMark src).get (stKey x)) i = bit (s.get (stKey x)) i := by
  unfold State.occurMark
  lift_lets
  intro s1 s2
  have h1 : bit (s1.get (stKey x)) i = bit (s.get (stKey x)) i := by
    refine (State.setPending_low _ _ _ _ _ hi).trans ?_
    rw [State.get_inc32_ne _ stKey_ne_cnt]
  have h2 : bit (s2.get (stKey x)) i = bit (s1.get (stKey x)) i := State.get_put_bit _ (State.occurWord_low _ _ _ hi)
  clear_value s2 s1
  exact (congrArg (fun n => bit n i) (State.get_flt s2 _ _)).trans (h2.trans h1)

theorem State.occurBase_low (s : State) (src x : Nat) {i : Nat} (hi : i < 3) :
    bit ((s.occurBase src).get (stKey x)) i = bit (s.get (stKey x)) i := by
  unfold State.occurBase
  split
  · exact State.occurConseq_low _ _ _ hi
  · rw [State.occurTell_only _ _ _ stKey_ne_lost stKey_ne_evq stKey_ne_low]
    exact State.occurMark_low _ _ _ hi

theorem bit_setBit_02 (w : Nat) {i : Nat} (hi : i < 3) : bit (setBit (setBit w 0 true) 2 true) i = (bit w i || decide (i ≠ 1)) := by
  match i, hi with
  | 0, _ => rw [bit_setBit_lt _ _ (by omega), bit_setBit_same]; simp
  | 1, _ => rw [bit_setBit_lt _ _ (by omega), bit_setBit_gt _ _ (by omega)]; simp
  | 2, _ => rw [bit_setBit_same]; simp

/-- A raise by the operations themselves makes its source RAW and ACTIVE and touches no other's low bits. -/
theorem State.raiseEvent_low (s : State) (src code x : Nat) {i : Nat} (hi : i < 3) :
    bit ((s.raiseEvent src code).get (stKey x)) i =
      (bit (s.get (stKey x)) i || (decide (stKey x = stKey src) && !(s.active src) && decide (i ≠ 1))) := by
  unfold State.raiseEvent
  split
  · rename_i h; simp [h]
  · rename_i h
    lift_lets
    intro s1 f
    rw [State.occurBase_low _ _ _ hi]
    refine (congrArg (fun n => bit n i) (State.get_flt s1 _ _)).trans ?_
    by_cases hx : stKey x = stKey src
    · simp only [s1, hx, State.get_put]
      rw [bit_setBit_02 _ hi]; simp [h]
    · simp only [s1]
      rw [State.get_put_ne _ _ hx, State.get_put_ne _ _ stKey_ne_code]; simp [hx]

theorem State.settle_up (s : State) (x : Nat) {i : Nat} (hi : i < 3) (h : bit (s.get (stKey x)) i = true) :
    bit (s.settle.get (stKey x)) i = true := by
  unfold State.settle
  lift_lets
  intro f0 s1 f1 s2 f2
  refine (congrArg (fun n => bit n i) (State.get_flt s2 _ _)).trans ?_
  have h1 : bit (s1.get (stKey x)) i = true := by
    simp only [s1]; split
    · rw [State.raiseEvent_low _ _ _ _ hi]; exact Bool.or_eq_true_iff.mpr (.inl h)
    · exact h
  simp only [s2]; split
  · rw [State.raiseEvent_low _ _ _ _ hi]; exact Bool.or_eq_true_iff.mpr (.inl h1)
  · exact h1

/-- Settling raises only the two sources of a lost record and of a lost event. -/
theorem State.settle_low (s : State) (x : Nat) {i : Nat} (hi : i < 3)
    (h1 : stKey x ≠ stKey srcREC_LOST) (h2 : stKey x ≠ stKey srcUCP_EVQ) :
    bit (s.settle.get (stKey x)) i = bit (s.get (stKey x)) i := by
  unfold State.settle
  lift_lets
  intro f0 s1 f1 s2 f2
  refine (congrArg (fun n => bit n i) (State.get_flt s2 _ _)).trans ?_
  have e1 : bit (s1.get (stKey x)) i = bit (s.get (stKey x)) i := by
    simp only [s1]; split
    · rw [State.raiseEvent_low _ _ _ _ hi]; simp only [h1, decide_false, Bool.false_and, Bool.or_false]; rfl
    · rfl
  rw [← e1]
  simp only [s2]; split
  · rw [State.raiseEvent_low _ _ _ _ hi]; simp only [h2, decide_false, Bool.false_and, Bool.or_false]; rfl
  · rfl

/-- What follows a change of a RAW source leaves it RAW. -/
theorem State.afterActive_raw (s : State) (src : Nat) (was : Bool) (h : s.raw src = true) : (s.afterActive src was).raw src = true := by
  unfold State.afterActive
  lift_lets
  intro now t
  have ht : bit (t.get (stKey src)) 0 = true := by
    simp only [t, State.putBit, State.get_put]; rw [bit_setBit_lt _ _ (by omega)]; exact h
  have hn : now = true := by simp [now, h]
  split
  · exact State.settle_up _ _ (by omega) (by rw [State.occurBase_low _ _ _ (by omega)]; exact ht)
  · simp only [hn, Bool.not_true, Bool.and_false, Bool.false_eq_true, if_false]; exact ht

/-- A source that is raised is RAW afterwards. -/
theorem State.raise_raw (s : State) (src code : Nat) : (s.raise src code).raw src = true := by
  unfold State.raise State.setRaw
  lift_lets
  intro was s1 s2 f s3
  have h0 : bit (s1.get (stKey src)) 0 = true := by simp [s1, State.putBit, State.get_put]
  have h2 : s2.get (stKey src) = s1.get (stKey src) := State.get_put_ne _ _ stKey_ne_code
  have h3 : s3.get (stKey src) = s2.get (stKey src) := by
    simp only [s3]; split
    · exact State.get_flt s2 _ _
    · rfl
  refine State.afterActive_raw s3 _ _ ?_
  unfold State.raw
  rw [h3, h2, h0]

/-- A level source that follows its condition is RAW exactly where the condition stands, or falls through `setRaw`. -/
theorem State.follow_raw (s : State) (src code : Nat) : (s.follow src true code).raw src = true := by
  unfold State.follow
  split
  · rename_i h; exact h.symm
  · exact State.raise_raw s src code

/-- What follows a change of a RAW source leaves it ACTIVE. -/
theorem State.afterActive_active (s : State) (src : Nat) (was : Bool) (h : s.raw src = true) : (s.afterActive src was).active src = true := by
  unfold State.afterActive
  lift_lets
  intro now t
  have hn : now = true := by simp [now, h]
  have ht : bit (t.get (stKey src)) 2 = true := by simp [t, State.putBit, State.get_put, hn]
  split
  · exact State.settle_up _ _ (by omega) (by rw [State.occurBase_low _ _ _ (by omega)]; exact ht)
  · simp only [hn, Bool.not_true, Bool.and_false, Bool.false_eq_true, if_false]; exact ht

/-- The state in which `setRaw` looks for what follows. -/
theorem State.setRaw_eq (s : State) (src : Nat) (on : Bool) (code : Nat) :
    ∃ t : State, s.setRaw src on code = t.afterActive src (s.active src) ∧ t.raw src = on ∧
      (∀ i, 0 < i → bit (t.get (stKey src)) i = bit (s.get (stKey src)) i) ∧
      (∀ k, k ≠ stKey src → (k ≠ codeKey src ∨ on = false) → t.get k = s.get k) ∧
      (on = true → t.get (codeKey src) = code) := by
  unfold State.setRaw
  lift_lets
  intro was s1 s2 f s3
  have h0 : s1.get (stKey src) = setBit (s.get (stKey src)) 0 on := by simp [s1, State.putBit, State.get_put]
  have h2 : s2.get (stKey src) = s1.get (stKey src) := by
    simp only [s2]; split
    · exact State.get_put_ne _ _ stKey_ne_code
    · rfl
  have h3 : ∀ k, s3.get k = s2.get k := by
    intro k; simp only [s3]; split
    · exact State.get_flt s2 _ _
    · rfl
  refine ⟨s3, rfl, ?_, ?_, ?_, ?_⟩
  · unfold State.raw; rw [h3, h2, h0, bit_setBit_same]
  · intro i hi; rw [h3, h2, h0, bit_setBit_gt _ _ hi]
  · intro k hk hc
    rw [h3]
    have h1 : s1.get k = s.get k := State.get_putBit_ne _ _ _ hk
    rw [← h1]
    simp only [s2]; split
    · rename_i ho
      rcases hc with hc | hc
      · exact State.get_put_ne _ _ hc
      · simp [ho] at hc
    · rfl
  · intro ho
    rw [h3]
    simp [s2, ho, State.get_put]

theorem State.raise_active (s : State) (src code : Nat) : (s.raise src code).active src = true := by
  obtain ⟨t, h, h1, -⟩ := State.setRaw_eq s src true code
  unfold State.raise
  rw [h]
  exact State.afterActive_active t _ _ h1

theorem State.clearSource_low (s : State) (src : Nat) (cred : Option (Nat × Nat)) (x : Nat) {i : Nat} (hi : i < 3)
    (h1 : stKey x ≠ stKey srcREC_LOST) (h2 : stKey x ≠ stKey srcUCP_EVQ) :
    bit ((s.clearSource src cred).get (stKey x)) i = bit (s.get (stKey x)) i := by
  unfold State.clearSource
  split
  · lift_lets
    intro s1 f s2 s3
    rw [State.settle_low _ _ hi h1 h2, State.send_only _ _ _ _ stKey_ne_evq]
    have h3 : s3.get (stKey x) = s2.get (stKey x) := by
      simp only [s3, State.clearRecord]
      split <;> exact State.push_only _ _ _ _ _ _ stKey_ne_lost
    rw [h3]
    refine (congrArg (fun n => bit n i) (State.get_flt s1 _ _)).trans ?_
    exact State.setPending_low _ _ _ _ _ hi
  · rfl

/-- A source whose raw state ends is not RAW afterwards, but for the two sources that settling itself raises. -/
theorem State.setRaw_off (s : State) (src code : Nat) (h1 : stKey src ≠ stKey srcREC_LOST) (h2 : stKey src ≠ stKey srcUCP_EVQ) :
    (s.setRaw src false code).raw src = false := by
  obtain ⟨t, h, hr, -⟩ := State.setRaw_eq s src false code
  rw [h]
  unfold State.afterActive
  lift_lets
  intro now u
  have hu : bit (u.get (stKey src)) 0 = false := by
    simp only [u, State.putBit, State.get_put]; rw [bit_setBit_lt _ _ (by omega)]; exact hr
  unfold State.raw
  split
  · rw [State.settle_low _ _ (by omega) h1 h2, State.occurBase_low _ _ _ (by omega)]; exact hu
  · split
    · split
      · exact hu
      · rw [State.clearSource_low _ _ _ _ (by omega) h1 h2]; exact hu
    · exact hu

/-- A level source follows its condition. -/
theorem State.follow_eq (s : State) (src : Nat) (on : Bool) (code : Nat) (h1 : stKey src ≠ stKey srcREC_LOST)
    (h2 : stKey src ≠ stKey srcUCP_EVQ) : (s.follow src on code).raw src = on := by
  cases on
  · unfold State.follow
    split
    · rename_i h; exact h.symm
    · exact State.setRaw_off s src code h1 h2
  · exact State.follow_raw s src code

/-- A change of one source's raw state leaves every other source's, but for the two that settling raises. -/
theorem State.setRaw_other (s : State) (src : Nat) (on : Bool) (code x : Nat) (hx : stKey x ≠ stKey src)
    (h1 : stKey x ≠ stKey srcREC_LOST) (h2 : stKey x ≠ stKey srcUCP_EVQ) : (s.setRaw src on code).raw x = s.raw x := by
  obtain ⟨t, h, -, -, hk, -⟩ := State.setRaw_eq s src on code
  rw [h]
  have e : t.raw x = s.raw x := by unfold State.raw; rw [hk _ hx (.inl stKey_ne_code)]
  rw [← e]
  unfold State.afterActive
  lift_lets
  intro now u
  have hu : u.get (stKey x) = t.get (stKey x) := State.get_putBit_ne _ _ _ hx
  unfold State.raw
  split
  · rw [State.settle_low _ _ (by omega) h1 h2, State.occurBase_low _ _ _ (by omega), hu]
  · split
    · split
      · rw [hu]
      · rw [State.clearSource_low _ _ _ _ (by omega) h1 h2, hu]
    · rw [hu]

theorem State.follow_other (s : State) (src : Nat) (on : Bool) (code x : Nat) (hx : stKey x ≠ stKey src)
    (h1 : stKey x ≠ stKey srcREC_LOST) (h2 : stKey x ≠ stKey srcUCP_EVQ) : (s.follow src on code).raw x = s.raw x := by
  unfold State.follow
  split
  · rfl
  · exact State.setRaw_other s src on code x hx h1 h2

/-! ### Pending -/

theorem State.setPending_bit (s : State) (src : Nat) (on pin : Bool) (x : Nat) :
    bit ((s.setPending src on pin).get (stKey x)) 3 = if stKey x = stKey src then on else bit (s.get (stKey x)) 3 := by
  unfold State.setPending
  lift_lets
  intro was wasPin s1 s2 nowPin s3 f
  rw [State.drivePin_get' _ stKey_ne_pin]
  refine (congrArg (fun n => bit n 3) (State.get_flt s3 _ _)).trans ?_
  have h1 : s1.get (stKey x) = (s.putBit (stKey src) 3 on).get (stKey x) := State.get_putBit_ne _ _ _ stKey_ne_pend
  have h2 : s2.get (stKey x) = s1.get (stKey x) := by
    simp only [s2]; split
    · exact State.get_put_ne _ _ stKey_ne_low
    · split
      · exact State.get_put_ne _ _ stKey_ne_low
      · rfl
  have h3 : s3.get (stKey x) = s2.get (stKey x) := by
    simp only [s3]; split
    · exact State.get_put_ne _ _ stKey_ne_low
    · split
      · exact State.get_put_ne _ _ stKey_ne_low
      · rfl
  rw [h3, h2, h1]
  split
  · rename_i e; rw [e]; simp [State.putBit, State.get_put]
  · rename_i e; rw [State.get_putBit_ne _ _ _ e]

/-- An occurrence makes its source pending and touches no other's PENDING. -/
theorem State.occurBase_isPending (s : State) (src x : Nat) :
    bit ((s.occurBase src).get (stKey x)) 3 = if stKey x = stKey src then true else bit (s.get (stKey x)) 3 := by
  unfold State.occurBase
  split
  · unfold State.occurConseq
    lift_lets
    intro s1 w s2 f s3
    have h1 : bit (s1.get (stKey x)) 3 = if stKey x = stKey src then true else bit (s.get (stKey x)) 3 := by
      refine (State.setPending_bit _ _ _ _ _).trans ?_
      rw [State.get_inc32_ne _ stKey_ne_low, State.get_inc32_ne _ stKey_ne_cnt]
    have h2 : bit (s2.get (stKey x)) 3 = bit (s1.get (stKey x)) 3 :=
      State.get_put_bit _ (by simp only [w]; rw [bit_setBits_lt _ _ _ (by omega), bit_setBit_lt _ _ (by omega)])
    have h3 : s3.get (stKey x) = s2.get (stKey x) := rfl
    clear_value s3 s2 s1
    rw [State.push_only _ _ _ _ _ _ stKey_ne_lost, h3, h2, h1]
  · rw [State.occurTell_only _ _ _ stKey_ne_lost stKey_ne_evq stKey_ne_low]
    unfold State.occurMark
    lift_lets
    intro s1 s2
    have h1 : bit (s1.get (stKey x)) 3 = if stKey x = stKey src then true else bit (s.get (stKey x)) 3 := by
      refine (State.setPending_bit _ _ _ _ _).trans ?_
      rw [State.get_inc32_ne _ stKey_ne_cnt]
    have h2 : bit (s2.get (stKey x)) 3 = bit (s1.get (stKey x)) 3 := State.get_put_bit _ (State.occurWord_pending _ _ _)
    clear_value s2 s1
    exact (congrArg (fun n => bit n 3) (State.get_flt s2 _ _)).trans (h2.trans h1)

theorem State.raiseEvent_isPending (s : State) (src code x : Nat) (h : bit (s.get (stKey x)) 3 = true) :
    bit ((s.raiseEvent src code).get (stKey x)) 3 = true := by
  unfold State.raiseEvent
  split
  · exact h
  · lift_lets
    intro s1 f
    rw [State.occurBase_isPending]
    split
    · rfl
    · rename_i hx
      refine (congrArg (fun n => bit n 3) (State.get_flt s1 _ _)).trans ?_
      simp only [s1]
      rw [State.get_put_ne _ _ hx, State.get_put_ne _ _ stKey_ne_code]; exact h

theorem State.settle_isPending (s : State) (x : Nat) (h : bit (s.get (stKey x)) 3 = true) :
    bit (s.settle.get (stKey x)) 3 = true := by
  unfold State.settle
  lift_lets
  intro f0 s1 f1 s2 f2
  refine (congrArg (fun n => bit n 3) (State.get_flt s2 _ _)).trans ?_
  have h1 : bit (s1.get (stKey x)) 3 = true := by
    simp only [s1]; split
    · exact State.raiseEvent_isPending _ _ _ _ h
    · exact h
  simp only [s2]; split
  · exact State.raiseEvent_isPending _ _ _ _ h1
  · exact h1

/-- A source that was not ACTIVE is pending once it is raised. -/
theorem State.raise_isPending (s : State) (src code : Nat) (h : s.active src = false) : (s.raise src code).isPending src = true := by
  obtain ⟨t, e, h1, -⟩ := State.setRaw_eq s src true code
  unfold State.raise
  rw [e]
  unfold State.afterActive
  lift_lets
  intro now u
  have hn : (now && !(s.active src)) = true := by simp [now, h1, h]
  rw [if_pos hn]
  exact State.settle_isPending _ _ (by rw [State.occurBase_isPending]; simp)

end Sys2Proof.Machine
end

