-- ==== Sys2Proof/Laws/Request.lean ====
section
/-! SUPPORT. A request whose checks pass is its handler's effect, with the answer, the count of changes and the note of the
written object beside it (R319, R330, R426). -/

namespace Sys2Proof.Machine

open Sys2Proof

theorem State.accepts_dev {s : State} {w : Who} {i sub : Nat} {v : Val} {h : Handler} (a : s.accepts w i sub v h = true) :
    s.dev ≠ dsSTANDBY := by
  unfold State.accepts at a; simp only [Bool.and_eq_true, decide_eq_true_eq] at a; exact a.1.1.1

/-- Where the checks pass, the write is the handler's effect, and what a completed write adds to it. -/
theorem State.write_accepts {s : State} {w : Who} {i sub : Nat} {v : Val} {h : Handler} (a : s.accepts w i sub v h = true) :
    (s.write w i sub v h).2 = (h.run s w v).2 ∧
      ((h.run s w v).2 ≠ stOK → (s.write w i sub v h).1 = (h.run s w v).1) ∧
      ((h.run s w v).2 = stOK → ∃ t : State, (t = (h.run s w v).1 ∨ t = (h.run s w v).1.touched) ∧
        ((s.write w i sub v h).1 = t ∨ (s.write w i sub v h).1 = t.noteWrite (ob i sub))) := by
  unfold State.accepts at a
  simp only [Bool.and_eq_true, decide_eq_true_eq] at a
  obtain ⟨⟨⟨a1, a2⟩, a3⟩, a4⟩ := a
  unfold State.write
  have e : ¬(s.dev = dsSTANDBY) := a1
  have e2 : ¬(s.checkWrite w i sub v h ≠ stOK) := fun x => x a2
  rw [if_neg e]
  dsimp only
  rw [if_neg e2, if_neg (show ¬_ by rw [a4]; cases hd : s.descOf i sub <;> simp only [hd] at a3 <;> simp [a3])]
  by_cases hr : (h.run s w v).2 = stOK
  · rw [if_neg (fun x => x hr)]
    refine ⟨rfl, fun x => (x hr).elim, fun _ => ⟨if s.isStored (ob i sub) then (h.run s w v).1.touched else (h.run s w v).1, ?_, ?_⟩⟩
    · split
      · exact .inr rfl
      · exact .inl rfl
    · split
      · exact .inl rfl
      · exact .inr rfl
  · rw [if_pos hr]
    exact ⟨rfl, fun _ => rfl, fun x => (hr x).elim⟩

/-- What holds of the handler's result, and is kept by what a completed write adds, holds of the request's. -/
theorem State.request_ind {s : State} {w : Who} {i sub : Nat} {v : Val} {h : Handler} (a : s.accepts w i sub v h = true)
    (P : State → Prop) (h0 : P (h.run s w v).1) (h1 : ∀ t, P t → P t.touched) (h2 : ∀ t k, P t → P (t.noteWrite k))
    (h3 : ∀ t st aux data, P t → P (t.answer st aux data)) : P (s.request w i sub v h) := by
  unfold State.request
  refine h3 _ _ _ _ ?_
  obtain ⟨-, hn, ho⟩ := State.write_accepts a
  by_cases hr : (h.run s w v).2 = stOK
  · obtain ⟨t, ht, e⟩ := ho hr
    have pt : P t := by rcases ht with rfl | rfl; exacts [h0, h1 _ h0]
    rcases e with e | e <;> rw [e]
    exacts [pt, h2 _ _ pt]
  · rw [hn hr]; exact h0

theorem State.noteWrite_objs (s : State) (k : Nat) : (s.noteWrite k).objs = s.objs := by unfold State.noteWrite; split <;> rfl
theorem State.noteWrite_blobs (s : State) (k : Nat) : (s.noteWrite k).blobs = s.blobs := by unfold State.noteWrite; split <;> rfl

theorem State.request_get {s : State} {w : Who} {i sub : Nat} {v : Val} {h : Handler} (a : s.accepts w i sub v h = true)
    {k : Nat} (hk : k ≠ ob 0x3000 4) : (s.request w i sub v h).get k = (h.run s w v).1.get k :=
  State.request_ind a (fun t => t.get k = (h.run s w v).1.get k) rfl
    (fun _ ht => (State.get_inc32_ne _ hk).trans ht)
    (fun t j ht => by unfold State.get at ht ⊢; rw [State.noteWrite_objs]; exact ht) (fun _ _ _ _ ht => ht)

theorem State.request_getB {s : State} {w : Who} {i sub : Nat} {v : Val} {h : Handler} (a : s.accepts w i sub v h = true)
    (k : Nat) : (s.request w i sub v h).getB k = (h.run s w v).1.getB k :=
  State.request_ind a (fun t => t.getB k = (h.run s w v).1.getB k) rfl (fun _ ht => ht)
    (fun t j ht => by unfold State.getB at ht ⊢; rw [State.noteWrite_blobs]; exact ht) (fun _ _ _ _ ht => ht)

/-- The answer of a request whose checks pass is its handler's status. -/
theorem State.request_status {s : State} {w : Who} {i sub : Nat} {v : Val} {h : Handler} (a : s.accepts w i sub v h = true) :
    (s.request w i sub v h).ucp.last.status = (h.run s w v).2 := (State.write_accepts a).1

theorem State.noteWrite_objs0 (s : State) (k : Nat) : (s.noteWrite k).objs0 = s.objs0 := by unfold State.noteWrite; split <;> rfl
theorem State.request_objs0 {s : State} {w : Who} {i sub : Nat} {v : Val} {h : Handler} (a : s.accepts w i sub v h = true) :
    (s.request w i sub v h).objs0 = (h.run s w v).1.objs0 :=
  State.request_ind a (fun t => t.objs0 = (h.run s w v).1.objs0) rfl (fun _ ht => ht)
    (fun t j ht => (State.noteWrite_objs0 t j).trans ht) (fun _ _ _ _ ht => ht)
theorem State.noteWrite_objsB (s : State) (k : Nat) : (s.noteWrite k).objsB = s.objsB := by unfold State.noteWrite; split <;> rfl
theorem State.request_objsB {s : State} {w : Who} {i sub : Nat} {v : Val} {h : Handler} (a : s.accepts w i sub v h = true) :
    (s.request w i sub v h).objsB = (h.run s w v).1.objsB :=
  State.request_ind a (fun t => t.objsB = (h.run s w v).1.objsB) rfl (fun _ ht => ht)
    (fun t j ht => (State.noteWrite_objsB t j).trans ht) (fun _ _ _ _ ht => ht)
theorem State.noteWrite_apps (s : State) (k : Nat) : (s.noteWrite k).apps = s.apps := by unfold State.noteWrite; split <;> rfl
theorem State.request_apps {s : State} {w : Who} {i sub : Nat} {v : Val} {h : Handler} (a : s.accepts w i sub v h = true) :
    (s.request w i sub v h).apps = (h.run s w v).1.apps :=
  State.request_ind a (fun t => t.apps = (h.run s w v).1.apps) rfl (fun _ ht => ht)
    (fun t j ht => (State.noteWrite_apps t j).trans ht) (fun _ _ _ _ ht => ht)
theorem State.noteWrite_tm (s : State) (k : Nat) : (s.noteWrite k).tm = s.tm := by unfold State.noteWrite; split <;> rfl
theorem State.request_tm {s : State} {w : Who} {i sub : Nat} {v : Val} {h : Handler} (a : s.accepts w i sub v h = true) :
    (s.request w i sub v h).tm = (h.run s w v).1.tm :=
  State.request_ind a (fun t => t.tm = (h.run s w v).1.tm) rfl (fun _ ht => ht)
    (fun t j ht => (State.noteWrite_tm t j).trans ht) (fun _ _ _ _ ht => ht)
theorem State.noteWrite_parts (s : State) (k : Nat) : (s.noteWrite k).parts = s.parts := by unfold State.noteWrite; split <;> rfl
theorem State.request_parts {s : State} {w : Who} {i sub : Nat} {v : Val} {h : Handler} (a : s.accepts w i sub v h = true) :
    (s.request w i sub v h).parts = (h.run s w v).1.parts :=
  State.request_ind a (fun t => t.parts = (h.run s w v).1.parts) rfl (fun _ ht => ht)
    (fun t j ht => (State.noteWrite_parts t j).trans ht) (fun _ _ _ _ ht => ht)
theorem State.noteWrite_inp (s : State) (k : Nat) : (s.noteWrite k).inp = s.inp := by unfold State.noteWrite; split <;> rfl
theorem State.request_inp {s : State} {w : Who} {i sub : Nat} {v : Val} {h : Handler} (a : s.accepts w i sub v h = true) :
    (s.request w i sub v h).inp = (h.run s w v).1.inp :=
  State.request_ind a (fun t => t.inp = (h.run s w v).1.inp) rfl (fun _ ht => ht)
    (fun t j ht => (State.noteWrite_inp t j).trans ht) (fun _ _ _ _ ht => ht)
theorem State.noteWrite_rx (s : State) (k : Nat) : (s.noteWrite k).rx = s.rx := by unfold State.noteWrite; split <;> rfl
theorem State.request_rx {s : State} {w : Who} {i sub : Nat} {v : Val} {h : Handler} (a : s.accepts w i sub v h = true) :
    (s.request w i sub v h).rx = (h.run s w v).1.rx :=
  State.request_ind a (fun t => t.rx = (h.run s w v).1.rx) rfl (fun _ ht => ht)
    (fun t j ht => (State.noteWrite_rx t j).trans ht) (fun _ _ _ _ ht => ht)
theorem State.noteWrite_nav (s : State) (k : Nat) : (s.noteWrite k).nav = s.nav := by unfold State.noteWrite; split <;> rfl
theorem State.request_nav {s : State} {w : Who} {i sub : Nat} {v : Val} {h : Handler} (a : s.accepts w i sub v h = true) :
    (s.request w i sub v h).nav = (h.run s w v).1.nav :=
  State.request_ind a (fun t => t.nav = (h.run s w v).1.nav) rfl (fun _ ht => ht)
    (fun t j ht => (State.noteWrite_nav t j).trans ht) (fun _ _ _ _ ht => ht)
theorem State.noteWrite_crop (s : State) (k : Nat) : (s.noteWrite k).crop = s.crop := by unfold State.noteWrite; split <;> rfl
theorem State.request_crop {s : State} {w : Who} {i sub : Nat} {v : Val} {h : Handler} (a : s.accepts w i sub v h = true) :
    (s.request w i sub v h).crop = (h.run s w v).1.crop :=
  State.request_ind a (fun t => t.crop = (h.run s w v).1.crop) rfl (fun _ ht => ht)
    (fun t j ht => (State.noteWrite_crop t j).trans ht) (fun _ _ _ _ ht => ht)
theorem State.noteWrite_lark (s : State) (k : Nat) : (s.noteWrite k).lark = s.lark := by unfold State.noteWrite; split <;> rfl
theorem State.request_lark {s : State} {w : Who} {i sub : Nat} {v : Val} {h : Handler} (a : s.accepts w i sub v h = true) :
    (s.request w i sub v h).lark = (h.run s w v).1.lark :=
  State.request_ind a (fun t => t.lark = (h.run s w v).1.lark) rfl (fun _ ht => ht)
    (fun t j ht => (State.noteWrite_lark t j).trans ht) (fun _ _ _ _ ht => ht)
theorem State.noteWrite_outs (s : State) (k : Nat) : (s.noteWrite k).outs = s.outs := by unfold State.noteWrite; split <;> rfl
theorem State.request_outs {s : State} {w : Who} {i sub : Nat} {v : Val} {h : Handler} (a : s.accepts w i sub v h = true) :
    (s.request w i sub v h).outs = (h.run s w v).1.outs :=
  State.request_ind a (fun t => t.outs = (h.run s w v).1.outs) rfl (fun _ ht => ht)
    (fun t j ht => (State.noteWrite_outs t j).trans ht) (fun _ _ _ _ ht => ht)
theorem State.noteWrite_fox (s : State) (k : Nat) : (s.noteWrite k).fox = s.fox := by unfold State.noteWrite; split <;> rfl
theorem State.request_fox {s : State} {w : Who} {i sub : Nat} {v : Val} {h : Handler} (a : s.accepts w i sub v h = true) :
    (s.request w i sub v h).fox = (h.run s w v).1.fox :=
  State.request_ind a (fun t => t.fox = (h.run s w v).1.fox) rfl (fun _ ht => ht)
    (fun t j ht => (State.noteWrite_fox t j).trans ht) (fun _ _ _ _ ht => ht)
theorem State.noteWrite_can (s : State) (k : Nat) : (s.noteWrite k).can = s.can := by unfold State.noteWrite; split <;> rfl
theorem State.request_can {s : State} {w : Who} {i sub : Nat} {v : Val} {h : Handler} (a : s.accepts w i sub v h = true) :
    (s.request w i sub v h).can = (h.run s w v).1.can :=
  State.request_ind a (fun t => t.can = (h.run s w v).1.can) rfl (fun _ ht => ht)
    (fun t j ht => (State.noteWrite_can t j).trans ht) (fun _ _ _ _ ht => ht)
theorem State.noteWrite_flt (s : State) (k : Nat) : (s.noteWrite k).flt = s.flt := by unfold State.noteWrite; split <;> rfl
theorem State.request_flt {s : State} {w : Who} {i sub : Nat} {v : Val} {h : Handler} (a : s.accepts w i sub v h = true) :
    (s.request w i sub v h).flt = (h.run s w v).1.flt :=
  State.request_ind a (fun t => t.flt = (h.run s w v).1.flt) rfl (fun _ ht => ht)
    (fun t j ht => (State.noteWrite_flt t j).trans ht) (fun _ _ _ _ ht => ht)
theorem State.noteWrite_rcd (s : State) (k : Nat) : (s.noteWrite k).rcd = s.rcd := by unfold State.noteWrite; split <;> rfl
theorem State.request_rcd {s : State} {w : Who} {i sub : Nat} {v : Val} {h : Handler} (a : s.accepts w i sub v h = true) :
    (s.request w i sub v h).rcd = (h.run s w v).1.rcd :=
  State.request_ind a (fun t => t.rcd = (h.run s w v).1.rcd) rfl (fun _ ht => ht)
    (fun t j ht => (State.noteWrite_rcd t j).trans ht) (fun _ _ _ _ ht => ht)
theorem State.noteWrite_nv (s : State) (k : Nat) : (s.noteWrite k).nv = s.nv := by unfold State.noteWrite; split <;> rfl
theorem State.request_nv {s : State} {w : Who} {i sub : Nat} {v : Val} {h : Handler} (a : s.accepts w i sub v h = true) :
    (s.request w i sub v h).nv = (h.run s w v).1.nv :=
  State.request_ind a (fun t => t.nv = (h.run s w v).1.nv) rfl (fun _ ht => ht)
    (fun t j ht => (State.noteWrite_nv t j).trans ht) (fun _ _ _ _ ht => ht)
theorem State.noteWrite_sp (s : State) (k : Nat) : (s.noteWrite k).sp = s.sp := by unfold State.noteWrite; split <;> rfl
theorem State.request_sp {s : State} {w : Who} {i sub : Nat} {v : Val} {h : Handler} (a : s.accepts w i sub v h = true) :
    (s.request w i sub v h).sp = (h.run s w v).1.sp :=
  State.request_ind a (fun t => t.sp = (h.run s w v).1.sp) rfl (fun _ ht => ht)
    (fun t j ht => (State.noteWrite_sp t j).trans ht) (fun _ _ _ _ ht => ht)
theorem State.noteWrite_sec (s : State) (k : Nat) : (s.noteWrite k).sec = s.sec := by unfold State.noteWrite; split <;> rfl
theorem State.request_sec {s : State} {w : Who} {i sub : Nat} {v : Val} {h : Handler} (a : s.accepts w i sub v h = true) :
    (s.request w i sub v h).sec = (h.run s w v).1.sec :=
  State.request_ind a (fun t => t.sec = (h.run s w v).1.sec) rfl (fun _ ht => ht)
    (fun t j ht => (State.noteWrite_sec t j).trans ht) (fun _ _ _ _ ht => ht)
theorem State.noteWrite_eth (s : State) (k : Nat) : (s.noteWrite k).eth = s.eth := by unfold State.noteWrite; split <;> rfl
theorem State.request_eth {s : State} {w : Who} {i sub : Nat} {v : Val} {h : Handler} (a : s.accepts w i sub v h = true) :
    (s.request w i sub v h).eth = (h.run s w v).1.eth :=
  State.request_ind a (fun t => t.eth = (h.run s w v).1.eth) rfl (fun _ ht => ht)
    (fun t j ht => (State.noteWrite_eth t j).trans ht) (fun _ _ _ _ ht => ht)
theorem State.noteWrite_conf (s : State) (k : Nat) : (s.noteWrite k).conf = s.conf := by unfold State.noteWrite; split <;> rfl
theorem State.request_conf {s : State} {w : Who} {i sub : Nat} {v : Val} {h : Handler} (a : s.accepts w i sub v h = true) :
    (s.request w i sub v h).conf = (h.run s w v).1.conf :=
  State.request_ind a (fun t => t.conf = (h.run s w v).1.conf) rfl (fun _ ht => ht)
    (fun t j ht => (State.noteWrite_conf t j).trans ht) (fun _ _ _ _ ht => ht)
theorem State.noteWrite_upd (s : State) (k : Nat) : (s.noteWrite k).upd = s.upd := by unfold State.noteWrite; split <;> rfl
theorem State.request_upd {s : State} {w : Who} {i sub : Nat} {v : Val} {h : Handler} (a : s.accepts w i sub v h = true) :
    (s.request w i sub v h).upd = (h.run s w v).1.upd :=
  State.request_ind a (fun t => t.upd = (h.run s w v).1.upd) rfl (fun _ ht => ht)
    (fun t j ht => (State.noteWrite_upd t j).trans ht) (fun _ _ _ _ ht => ht)
theorem State.noteWrite_pwr (s : State) (k : Nat) : (s.noteWrite k).pwr = s.pwr := by unfold State.noteWrite; split <;> rfl
theorem State.request_pwr {s : State} {w : Who} {i sub : Nat} {v : Val} {h : Handler} (a : s.accepts w i sub v h = true) :
    (s.request w i sub v h).pwr = (h.run s w v).1.pwr :=
  State.request_ind a (fun t => t.pwr = (h.run s w v).1.pwr) rfl (fun _ ht => ht)
    (fun t j ht => (State.noteWrite_pwr t j).trans ht) (fun _ _ _ _ ht => ht)
theorem State.noteWrite_timers (s : State) (k : Nat) : (s.noteWrite k).timers = s.timers := by unfold State.noteWrite; split <;> rfl
theorem State.request_timers {s : State} {w : Who} {i sub : Nat} {v : Val} {h : Handler} (a : s.accepts w i sub v h = true) :
    (s.request w i sub v h).timers = (h.run s w v).1.timers :=
  State.request_ind a (fun t => t.timers = (h.run s w v).1.timers) rfl (fun _ ht => ht)
    (fun t j ht => (State.noteWrite_timers t j).trans ht) (fun _ _ _ _ ht => ht)
theorem State.noteWrite_free (s : State) (k : Nat) : (s.noteWrite k).free = s.free := by unfold State.noteWrite; split <;> rfl
theorem State.request_free {s : State} {w : Who} {i sub : Nat} {v : Val} {h : Handler} (a : s.accepts w i sub v h = true) :
    (s.request w i sub v h).free = (h.run s w v).1.free :=
  State.request_ind a (fun t => t.free = (h.run s w v).1.free) rfl (fun _ ht => ht)
    (fun t j ht => (State.noteWrite_free t j).trans ht) (fun _ _ _ _ ht => ht)
theorem State.noteWrite_pending (s : State) (k : Nat) : (s.noteWrite k).pending = s.pending := by unfold State.noteWrite; split <;> rfl
theorem State.request_pending {s : State} {w : Who} {i sub : Nat} {v : Val} {h : Handler} (a : s.accepts w i sub v h = true) :
    (s.request w i sub v h).pending = (h.run s w v).1.pending :=
  State.request_ind a (fun t => t.pending = (h.run s w v).1.pending) rfl (fun _ ht => ht)
    (fun t j ht => (State.noteWrite_pending t j).trans ht) (fun _ _ _ _ ht => ht)

end Sys2Proof.Machine
end

