-- ==== Sys2Proof/WellFormed.lean ====
section
/-! DEFINITION. What a command's operands must satisfy beside their types: numbers that fit the fields they travel in,
elements that exist, and the shapes of the data the outside world supplies. A command that breaks one of these is none
that the block can receive. -/

namespace Sys2Proof.Machine

open Sys2Proof

/-- The number fits a field of `n` bits. -/
def fits (n v : Nat) : Bool := decide (v < 2 ^ n)
def below (n v : Nat) : Bool := decide (v < n)
def between (lo hi v : Nat) : Bool := decide (lo ≤ v) && decide (v ≤ hi)

/-- Elements of each pool (R285). -/
def elements (p : Nat) : Nat := [4, 4, 68, 256, 10, 26, 72, 4].getD p 0

/-- A block of bulk data is at most 4,096 bytes long (R325). -/
def block (l : List Byte) : Bool := decide (l.length ≤ 4096)
/-- A packet: 44 bytes of header, at most 4,096 of payload and a tag of 16 (R335, R337). -/
def packetFits (l : List Byte) : Bool := decide (l.length ≤ 44 + 4096 + 16)

/-- Sessions are 1 to 16, partitions 0 to 2 and signing roles 0 to 5 (R24, R319, R403). -/
def Who.wf : Who → Bool
  | .session n => between 1 0xFFFF n
  | .open_ => true
  | .port p => below 3 p
  | .mapped p => below 3 p
  | .signed role serial => below 6 role && fits 32 serial
def Route.wf : Route → Bool
  | .eth addr => fits 16 addr
  | .can c node => below 8 c && below 128 node
  | .port p => below 3 p
def Space.wf : Space → Bool
  | .session n => between 1 0xFFFF n
  | .addr node => fits 16 node
  | .port p => below 3 p

/-- 16-bit conversions of one of the 64 channels, at most 50 in a block (R51). -/
def ChBlock.wf (b : ChBlock) : Bool := below 64 b.ch && decide (b.convs.length ≤ 50) && b.convs.all (fun c => fits 16 c.code)
/-- Ten voltage samples of one of the eight supplies (R68). -/
def SupMon.wf (m : SupMon) : Bool := below 8 m.k && decide (m.volts.length = 10)
/-- Eight channels of one of the eight groups (R212). -/
def SenseBlk.wf (b : SenseBlk) : Bool := below 8 b.g && decide (b.chans.length = 8)
/-- Vectors have three components and there are four wheels (R134, R157). -/
def NavEst.wf (e : NavEst) : Bool :=
  [e.vel, e.att, e.rate, e.acc, e.sig].all (fun v => decide (v.length = 3)) && decide (e.scale.length = 4)
def LateSample.wf (l : LateSample) : Bool := below 11 l.sensor
def Door.wf (d : Door) : Bool := fits 32 d.cmdBase && fits 32 d.cmdSize && fits 32 d.rspBase && fits 32 d.rspSize && fits 32 d.irqEnable
def GptpMsg.wf (m : GptpMsg) : Bool := fits 4 m.typ && fits 8 m.domain && fits 8 m.prio1 && fits 8 m.cls && fits 64 m.ident
/-- 384 channels (R103). -/
def Dump.wf (d : Dump) : Bool := below 384 d.ch
def Interferer.wf (i : Interferer) : Bool := decide (i.width ≠ 0)
def Meas.wf (m : Meas) : Bool := below 384 m.ch
def AidSet.wf (a : AidSet) : Bool := below 384 a.ch
/-- Six axes and a bias for each, of one of four units (R135). -/
def ImuSample.wf (x : ImuSample) : Bool := below 4 x.unit && decide (x.axes.length = 6) && decide (x.bias.length = 6)
def EthFrame.wf (f : EthFrame) : Bool := fits 48 f.dst && fits 48 f.src && below 8 f.pcp
/-- A classical frame has at most 8 bytes, an FD frame one of the lengths to 64 and no remote request (R369, R370). -/
def CanFrame.wf (f : CanFrame) : Bool :=
  fits 30 f.id && (if f.fdf then !f.rtr && (decide (f.data.length ≤ 8) || [12, 16, 20, 24, 32, 48, 64].contains f.data.length)
    else decide (f.data.length ≤ 8) && !f.brs)
/-- Six systems and twelve signals on two antennas (R103). -/
def SvSig.wf (x : SvSig) : Bool := below 6 x.sys && below 12 x.sig && below 2 x.ant
def Facts.wf (f : Facts) : Bool := f.directed.all SvSig.wf && fits 6 f.known

end Sys2Proof.Machine

namespace Sys2Proof

open Sys2Proof.Machine

/-- The operands of a command are ones it can carry. -/
def Instr.wf : Instr → Bool
  | .sealFrame => true
  | .take => true
  | .scale blk mon sense => blk.all ChBlock.wf && mon.all SupMon.wf && sense.all SenseBlk.wf
  | .crop => true
  | .fuseStep est _ _ late => est.wf && late.all LateSample.wf
  | .control upsets => upsets.all (fun x => below 96 x.1 && fits 4 x.2)
  | .load bad => fits 64 bad
  | .assemble => true
  | .publish => true
  | .exchange _ _ => true
  | .crossCheckLinkLost => true
  | .phaseOverrun => true
  | .timebaseDeviation _ => true
  | .lockstepMismatch _ => true
  | .partitionResume _ _ _ => true
  | .ckpt _ addr => fits 32 addr
  | .ckptDone _ => true
  | .piCommit _ entries => entries.all (fun e => fits 18 e.1 && fits 64 e.2)
  | .appBusError => true
  | .piTimeout _ => true
  | .cmdTail _ door tail packets => door.all Door.wf && fits 32 tail && packets.all packetFits
  | .rspTail _ tail => fits 32 tail
  | .irqStatus _ w => fits 32 w
  | .clkPllLoss _ => true
  | .secondBoundary _ => true
  | .timeSolutionDelivery _ _ _ _ _ => true
  | .timeSolutionDeadline => true
  | .goffStepApply => true
  | .ppsPulse _ => true
  | .pulseReport => true
  | .mtStore => true
  | .standbyOscMeasure _ => true
  | .leapSecond l => fits 8 l
  | .calOffWrite who _ => who.wf
  | .gptpSyncSend _ => true
  | .gptpMessageReceive _ m => m.wf
  | .inputEdge _ _ _ _ => true
  | .inputDiagFault _ _ => true
  | .currentInputProtect _ => true
  | .currentInputTrial _ => true
  | .settlingEnd _ => true
  | .supTrip _ => true
  | .supRetry _ => true
  | .supUndervolt _ => true
  | .supOvervolt _ => true
  | .supRetryReset _ => true
  | .supRestart who mask => who.wf && fits 8 mask
  | .supplyTestPulse _ => true
  | .shadowWindowEnd _ _ _ _ => true
  | .conversionFail _ => true
  | .spareConverterSwitch _ _ _ => true
  | .spareConfirmTimeout _ => true
  | .lossSensorQuiet _ => true
  | .lossSensorNoisy _ => true
  | .lossSensorClear _ _ => true
  | .cropFlowTimeout => true
  | .moistTimeout => true
  | .zeroRequest who => who.wf
  | .zeroDone => true
  | .recordClose => true
  | .bufferClear who => who.wf
  | .totalsReset who => who.wf
  | .antFeedShort _ => true
  | .antFeedTrial _ => true
  | .antFeedOpen _ => true
  | .antFeedNormal _ => true
  | .correlatorDump d => d.wf
  | .aidingTimeout ch => below 384 ch
  | .acquisitionDwellDone _ _ _ => true
  | .pullInTimeout ch => below 384 ch
  | .carrierLoss ch => below 384 ch
  | .carrierRestore ch => below 384 ch
  | .codeLost ch => below 384 ch
  | .coastRecover ch => below 384 ch
  | .coastTimeout ch => below 384 ch
  | .reacqTimeout ch => below 384 ch
  | .blankingWindow _ _ _ => true
  | .detectorEpoch _ l => l.all Interferer.wf
  | .jammingMeasure _ _ _ _ _ => true
  | .gnssJamRaise _ => true
  | .chainOutOfUse _ => true
  | .multipeakCheck ch _ => below 384 ch
  | .falseSignalClear ch => below 384 ch
  | .measurementEpoch l _ _ => l.all Meas.wf
  | .nmeaOutput _ => true
  | .correctionInput who off data => who.wf && fits 32 off && block data
  | .correctionEpochPass _ _ _ => true
  | .gnssCorrTimeout => true
  | .bankSwap el _ _ => below 26 el
  | .receiverDataStore mask _ => fits 8 mask
  | .receiverHotStart who directed _ _ => who.wf && directed.all SvSig.wf
  | .receiverStartNoEph who directed _ => who.wf && directed.all SvSig.wf
  | .receiverColdStart who => who.wf
  | .aidingSetIssue sets => sets.all AidSet.wf
  | .navSolutionIssue => true
  | .imuSample l => l.all ImuSample.wf
  | .imuExclude _ => true
  | .imuSwap _ _ _ => true
  | .inertialVoteLost => true
  | .inertialRestore => true
  | .imuReadmit _ => true
  | .speedContradiction => true
  | .speedSourceReadmit _ => true
  | .wheelNoEdge _ => true
  | .zeroVelocityUpdate => true
  | .channelReadmit ch => below 384 ch
  | .rtkCorrectionEpoch _ _ _ _ => true
  | .navHeadingRaise => true
  | .lineBiasStore _ _ => true
  | .lineBiasReset who => who.wf
  | .alignLevel => true
  | .alignHeading => true
  | .repropagationDone => true
  | .lateEvaluation => true
  | .deadReckoningEntry => true
  | .deadReckoningLimit => true
  | .inertialOnlyLimit => true
  | .externalSpeedSample who _ mt => who.wf && fits 64 mt
  | .slotCmdClose who _ => who.wf
  | .slotCmdOpen who _ => who.wf
  | .slotCmdHold who _ => who.wf
  | .bankSelect who _ b => who.wf && fits 8 b
  | .laneSelftestDone _ _ => true
  | .testStart who _ => who.wf
  | .testStop who _ => who.wf
  | .testComplete _ => true
  | .peakReset who _ => who.wf
  | .captureArm who _ => who.wf
  | .captureStop who _ => who.wf
  | .captureForce who _ => who.wf
  | .captureRow _ => true
  | .conductionEnd _ => true
  | .inrushWindowClose _ => true
  | .overcurrentTrip _ => true
  | .shortTrip _ _ => true
  | .lsOvercurrentTrip _ => true
  | .openLoadOn _ => true
  | .offStateTest _ _ => true
  | .thermalAbsTrip _ => true
  | .thermalDeltaTrip _ => true
  | .thermalLatchClear _ => true
  | .senseMissing _ _ => true
  | .refDeviation _ => true
  | .retry _ => true
  | .retryCounterReload _ => true
  | .channelRestart who _ => who.wf
  | .groupGuardOff _ => true
  | .groupRestore _ => true
  | .dissipationEstimate _ _ => true
  | .cellSwap _ _ _ _ _ => true
  | .cellFaultTrip _ _ _ => true
  | .permissionWithdraw _ => true
  | .permissionReturn _ => true
  | .switchLinkLoss _ => true
  | .switchLinkRestore _ => true
  | .railDisagreement => true
  | .foxgloveRegulatorFault _ => true
  | .safetyInputChange _ _ => true
  | .inputPulseCheck _ _ _ => true
  | .supplyPulseCheck _ _ => true
  | .discrepancy _ => true
  | .stopDelayExpire _ => true
  | .resetPress _ _ => true
  | .resetStuck _ => true
  | .resetUnblock _ => true
  | .darkPulse _ _ _ => true
  | .demandRequestWrite who v => who.wf && fits 16 v
  | .safeSnsSample _ _ => true
  | .sealRead reading => fits 16 reading
  | .stagingOpen who => who.wf
  | .stagingDiscard who => who.wf
  | .rwsEdit who k v => who.wf && fits 24 k && fits 64 v
  | .sign who off data => who.wf && fits 32 off && block data
  | .countersign who off data => who.wf && fits 32 off && block data
  | .changeExpire => true
  | .profileTransferDone _ => true
  | .foxgloveSelftest _ => true
  | .foxgloveProfileVerified _ => true
  | .faultOccurrence _ code => fits 16 code
  | .faultAutoClear _ => true
  | .conseqModeEnd blk => below 25 blk
  | .stepDecay _ => true
  | .blockReset _ => true
  | .blockResetEnd _ pass directed _ _ => fits 4 pass && directed.all SvSig.wf
  | .chipReset => true
  | .chipResetEnd => true
  | .faultClearRequest who src => who.wf && fits 16 src
  | .faultClearAll who => who.wf
  | .forceSet who src => who.wf && fits 16 src
  | .forceClear who src => who.wf && fits 16 src
  | .faultSnsSample _ _ => true
  | .wearCrossing pool el gauge level _ _ => below (elements pool.val) el && between 1 5 gauge && fits 16 level
  | .spareSwap pool el _ _ => below (elements pool.val) el
  | .sramBankCopy _ _ _ _ => true
  | .elementSelftestDone pool el _ => below (elements pool.val) el
  | .spareTest pool el _ => below (elements pool.val) el
  | .sramScrub _ _ _ _ => true
  | .recordPost => true
  | .recordLost => true
  | .archiveCopy _ => true
  | .heldClearWrite => true
  | .recBankFail bank _ => below 2 bank
  | .recDualFail => true
  | .dualFailReset who => who.wf
  | .recorderClear who => who.wf
  | .applicationRecord who value => who.wf && fits 32 value
  | .counterStore => true
  | .packetReceive r bytes => r.wf && packetFits bytes
  | .requestDequeue f => f.wf
  | .read who i sub off n => who.wf && fits 16 i && fits 8 sub && fits 32 off && fits 32 n
  | .write who i sub off aux data f => who.wf && fits 16 i && fits 8 sub && fits 32 off && fits 32 aux && block data && f.wf
  | .subscribe who r cls divider => who.wf && r.wf && fits 16 cls && fits 32 divider
  | .unsubscribe who r cls => who.wf && r.wf && fits 16 cls
  | .nop _ => true
  | .outboundTransmit _ => true
  | .tagQuarantineEnd sp epoch tag => sp.wf && fits 4 epoch && fits 12 tag
  | .ucpSegmentReceive _ _ _ => true
  | .ucpStreamTimeout _ _ _ => true
  | .announce => true
  | .dupaddrClear => true
  | .ethFrameForward _ f => f.wf
  | .ethLinkDown _ => true
  | .ethLinkUp _ quality => fits 8 quality
  | .ringTestSend => true
  | .ringFrameReceive _ _ node => fits 16 node
  | .ringTestTimeout => true
  | .fleetSend who => who.wf
  | .fleetDeliver who => who.wf
  | .mapApply who => who.wf
  | .appTableApply who => who.wf
  | .canFrameReceive _ f _ => f.wf
  | .canProtocolException _ => true
  | .canRxTimeout _ _ => true
  | .canTxDue => true
  | .canFrameTransmit _ _ _ _ _ => true
  | .canBusOff _ => true
  | .canRecoveryRequest who _ => who.wf
  | .canRecoveryDone _ => true
  | .canTimingApply who _ => who.wf
  | .canJoinCheckEnd _ => true
  | .canTxdTimeout _ => true
  | .canTableApply who mask => who.wf && fits 8 mask
  | .referenceMessageSend _ => true
  | .canTimeLost _ => true
  | .addressClaimSend _ => true
  | .addressHeld _ => true
  | .cannotClaimSend _ => true
  | .transportSessionTimeout _ _ _ peer => fits 8 peer
  | .isoSend who _ => who.wf
  | .isoSendDone _ => true
  | .canShadowCompare _ _ _ => true
  | .canControllerSwap _ _ _ _ => true
  | .canPortFailed _ => true
  | .hello r src data => r.wf && fits 16 src && block data
  | .finish _ data => block data
  | .close _ => true
  | .attest _ => true
  | .handshakeTimeout _ => true
  | .sessionIdleTimeout _ => true
  | .sessionLifetimeEnd _ => true
  | .credentialExpiryCheck => true
  | .endSession who _ => who.wf
  | .lockoutEnd r => r.wf
  | .revocationApply who => who.wf
  | .anchorApply who => who.wf
  | .memberListApply who => who.wf
  | .signedCommandExecute who f => who.wf && f.wf
  | .challengeRenew => true
  | .debugOpen who _ => who.wf
  | .debugClose who => who.wf
  | .debugTimeout => true
  | .debugLock who value => who.wf && fits 32 value
  | .configCommit who => who.wf
  | .configReturn who v => who.wf && fits 32 v
  | .configImport who f => who.wf && f.wf
  | .imageBlock who off data => who.wf && fits 32 off && block data
  | .imageVerify who _ => who.wf
  | .armA who => who.wf
  | .armN who => who.wf
  | .activateNow who => who.wf
  | .disarmReject who => who.wf
  | .updateDiscard who => who.wf
  | .updateConfirm who => who.wf
  | .trialHealthy => true
  | .classNActivate => true
  | .start _ _ slots _ _ _ fails directed _ _ => fits 2 slots && fails.all (fun x => below 8 x.1 && below (elements x.1) x.2) && directed.all SvSig.wf
  | .startComplete => true
  | .standbyRequest who => who.wf
  | .configureRequest who => who.wf
  | .runRequest who => who.wf
  | .limpRequest who => who.wf
  | .safeHoldRequest who => who.wf
  | .serviceRequest who => who.wf
  | .restartRequest who => who.wf
  | .autoStateChange => true
  | .holdupSave _ _ => true
  | .afterRunExpire => true
  | .wake _ => true
  | .vlRise mv => fits 16 mv
  | .vlPrechargeTimeout => true
  | .holdupStoreReady mv => fits 16 mv
  | .vbakMeasure vbak vl ma => fits 16 vbak && fits 16 vl && fits 16 ma
  | .vbPrecharge _ mv => fits 16 mv
  | .vlLow _ mv => fits 16 mv
  | .presentMake => true
  | .presentBreak _ => true
  | .addressRead _ _ => true
  | .addressChange _ => true
  | .wakeInLevel _ => true
  | .statusPinOvercurrent _ _ => true
  | .foxgloveRegulatorRecover => true
  | .vbakSupplyMonitorTrip => true
  | .randomSourceHealthFail => true
  | .dieTempExceed _ => true
  | .hollyhockRailMismatch _ => true
  | .lupinRailMismatch => true
  | .sramUncorrectableError bank _ => below 64 bank
  | .supplyMonitorFault _ => true
  | .activationTimeMissed => true
  | .vlPrechargeRetry => true
  | .icmpv6MessageReceive _ _ _ _ _ => true
  | .ringManagerTimeout => true
  | .openLoadClear _ => true
  | .refDevClear _ => true
  | .chainBackInUse _ => true
  | .headingFixTimeout => true
  | .ambiguityDiscard => true
  | .canShadowRotate _ => true

end Sys2Proof
end

