-- ==== Sys2Proof/Tests/Slice0.lean ====
section
/-! SUPPORT. Small tests: for each statement a state and operands that meet its hypotheses, and the refusals of
`Instr.wf`. -/

open Sys2Proof Sys2Proof.Machine

set_option maxRecDepth 100000

/-- The reset state with the device state d, and MT at 1,000 s. -/
def wDev (d : Nat) : State := { State.reset.put (ob 0x1200 1) d with tm := { TimeSt.reset with mt := 1000000000000 } }

/-- The vendor's signed command, which may write what a Technician or a Maintainer may. -/
def wVen : Who := .signed 5 0

/-- Receiver channel 0 alone in use. -/
def wRx (f : RxChan → RxChan) : State := { wDev 3 with rx := { RxSt.reset with chans := [(0, f RxChan.reset)] } }
/-- Chain 0 of four, with its marks. -/
def wRf (f : RfChain → RfChain) : State := { wDev 3 with rx := { RxSt.reset with rf := [f RfChain.reset, RfChain.reset, RfChain.reset, RfChain.reset] } }

theorem test_front_met : ({ wDev 3 with pending := [.take, .publish] } : State).pending = .take :: [.publish] ∧ (wDev 3).pending = [] := by decide

theorem test_tables_met : (wDev 3).tablesOk = true ∧ step (wDev 3) = .next (wDev 3) := ⟨by decide, rfl⟩

theorem test_frame_met : exec .take (wDev 3) = .next (takePhase (wDev 3)) := rfl

theorem test_lock_met : let s : State := { wDev 3 with tm := { TimeSt.reset with good := 3 } };
    3 ≤ s.tm.good ∧ s.timeState ≠ tsLOCKED := by decide

theorem test_step_met : ({ wDev 3 with tm := { TimeSt.reset with step := some (-2300, 8) } } : State).tm.step = some (-2300, 8) := by decide
theorem test_pulse_met : let s : State := { (wDev 3).put (tk 3) 1 with tm := { TimeSt.reset with reported := true } };
    s.ppsOn = true ∧ s.tm.reported = true := by decide

theorem test_report_met : let s : State := ((wDev 3).put (tk 3) 1).putI32 (tk 9) (-10000000);
    s.ppsOn = true ∧ s.tm.reported = false ∧ s.rate.natAbs ≤ 10000000 := by decide

theorem test_calendar_met : let s : State := (wDev 3).put (tk 3) 1;
    s.tcfg 6 = 0 ∧ s.timeState ≠ tsFREE ∧
      (wDev 3).accepts wVen 0x2000 5 (.num (i64bits (-7))) hCalOff = true := by decide

theorem test_discipline_met : let s : State := (wDev 3).put (tk 3) 1;
    s.timeState = tsLOCKED ∧ s.get (rk 0x25) ≠ 2 ∧ s.rx.lastNeed = none := by decide

theorem test_edges_met :
    (let s : State := { wDev 3 with objs0 := [(ik 40 1, 4), (ik 42 1, 8), (ik 44 1, 5), (ik 45 1, 9)] };
      s.inReset blkFAB = false ∧ s.cfg (ik 40 1) = 4 ∧ s.cfg (ik 42 1) = 8 ∧ s.cfg (ik 44 1) = 5 ∧ s.cfg (ik 44 0x0E) = 4) := by decide

theorem test_channel_faults_met :
    let s : State := { (wDev 3).startTimer (tmProt 5) with
      objs0 := [(ik 5 1, 2)], tm := { TimeSt.reset with mt := 2000000000000 },
      inp := { State.reset.inp with chans := [(5, { ChanSt.reset with lowRun := 200, highRun := 200, protect := true, settling := true, settleLeft := 0 })] } };
    s.cfg (ik 5 0x14) * 20 ≤ (s.chan 5).lowRun ∧ (s.chan 5).diagLow = false ∧ s.cfg (ik 5 0x14) * 20 ≤ (s.chan 5).highRun ∧
      (s.chan 5).diagHigh = false ∧ s.cfg (ik 5 1) = 2 ∧ (s.chan 5).protect = true ∧ s.timerPast (tmProt 5) nsS = true ∧
      (s.chan 5).settling = true ∧ (s.chan 5).settleLeft = 0 := by decide

theorem test_supplies_met :
    (let s : State := { ((wDev 3).put (supk 5 1) 1).startTimer (tmSupReg 5) with tm := { TimeSt.reset with mt := 20000000000000, sched := 50 } };
      s.supOn 5 = true ∧ s.timerPast (tmSupReg 5) (10 * nsS) = true ∧ s.tm.sched = 50 * (5 - 4)) ∧
    (let s : State := { ((wDev 3).put (supk 2 5) 8).startTimer (tmSupRetry 2) with tm := { TimeSt.reset with mt := 2000000000000 } };
      supStatus s 2 3 = true ∧ supStatus s 2 4 = false ∧ s.timerPast (tmSupRetry 2) (100 * nsMs) = true) ∧
    (let s : State := (wDev 3).put (supk 2 5) 24;
      s.accepts wVen 0x2140 0x01 (.num 4) hSupRestart = true ∧ Nat.testBit 4 2 = true ∧ supStatus s 2 4 = true) := by decide

theorem test_converters_met :
    (let s : State := { (wDev 3).startTimer (tmConfirm 20) with
        objs0 := [(ik 16 1, 1), (ik 17 1, 1)]
        tm := { TimeSt.reset with mt := 2000000000000 }
        inp := { State.reset.inp with chans := [(16, { ChanSt.reset with disagree := 2 }), (17, { ChanSt.reset with lastBad := 2000000000000 }), (20, { ChanSt.reset with failed := true })] } };
      8 * 2 + Tbl.get 0 s.inp.shadow 2 = 16 ∧ (s.elem 6 66).state = 1 ∧ s.cfg (ik 16 1) ≠ 0 ∧ (s.chan 16).failed = false ∧ 2 ≤ (s.chan 16).disagree ∧
        s.cfg (ik 17 1) ≠ 0 ∧ (s.chan 17).failed = false ∧ (s.chan 17).lastBad ≠ 0 ∧ s.tm.mt + 1 ≤ (s.chan 17).lastBad + nsMs ∧
        (s.chan 16).lastBad = 0 ∧ (s.chan 20).failed = true ∧ s.get (ik 20 0x19) = 0 ∧ s.timerPast (tmConfirm 20) 100000 = true) ∧
    (5 * 2 ^ 32 < ((300000 * 65536 : Int) - 0).natAbs * 10000 ∧ ¬ 5 * 2 ^ 32 < ((0 : Int) - 0).natAbs * 10000) := by decide

theorem test_scale_met :
    (let s : State := { wDev 3 with objsB := [(ik 4 1, 8), (ik 6 1, 5), (ik 7 1, 9)] };
      s.inReset blkFAB = false ∧ s.cfgB (ik 4 1) = 8 ∧ s.cfgB (ik 0 1) = 0 ∧ s.cfgB (ik 7 1) = 9) ∧
    ((wDev 3).put blocksInReset (2 ^ blkFAB)).inReset blkFAB = true := by decide

theorem test_crop_watches_met :
    (let s := wDev dsRUN; s.accepts (.signed 5 0) 0x2200 0x0A (.num 1) hZero = true ∧ s.flowOk = false) ∧
    (let s : State := { ((wDev dsRUN).put (ik 2 0x17) 1) with
        objs0 := [(ik 2 1, 7), (hk 4, 2)]
        objsB := [(ik 2 1, 7)] };
      s.accepts (.signed 5 0) 0x2200 0x0A (.num 1) hZero = true ∧ s.cfg (hk 2) ≠ 1 ∧ s.cropHas 6 = false ∧ s.flowOk = true) ∧
    (let s : State := { ((wDev 3).put (hk 0x0B) 1).put (hk 0x2B) 4 with
        crop := { CropSt.reset with
          zeroN := 200000, flowBad := 20000, noFull := 2400000
          loss := [{ LossSt.reset with quietRun := 600000, quietFree := 200000, noisyFree := 200000, hist := [(0, 20001, 0, true)] }] } };
      s.get (hk 0x0B) = 1 ∧ 20 * s.cfg (hk 0x0C) ≤ s.crop.zeroN ∧ (s.crop.loss.getD 0 LossSt.reset).quietNow = true ∧
        (s.crop.loss.getD 0 LossSt.reset).noisyNow = true ∧ 200000 ≤ (s.crop.loss.getD 0 LossSt.reset).quietFree ∧
        200000 ≤ (s.crop.loss.getD 0 LossSt.reset).noisyFree ∧ 20000 ≤ s.crop.flowBad ∧ s.cropHas 2 = true ∧ 2400000 ≤ s.crop.noFull) := by decide

theorem test_yields_met :
    (let x : CutInt := { CutInt.new 0 1000000000 with cut := true }
     let s : State := { (wDev 3).put (hk 0x23) 5 with crop := { CropSt.reset with cuts := [x] } };
      s.closeMt x ≤ s.tm.mt ∧ s.get (hk 0x23) - s.get (hk 0x2C) < 1048576 ∧ Q.lt Q.zero (CutInt.new 0 1).wet = false ∧
        s.accepts wVen 0x2200 0x29 (.num 1) hTotalsReset = true) ∧
    (let s : State := { (wDev 3).put (hk 0x23) 1048580 with objs0 := [(hk 0x21, 1)] };
      1048576 ≤ s.get (hk 0x23) - s.get (hk 0x2C) ∧ s.cfg (hk 0x21) = 1) ∧
    (wDev dsSERVICE).accepts wVen 0x2200 0x25 (.num 1) hBufferClear = true := by decide

theorem test_crop_met :
    (wDev 3).cfg (hk 1) ≠ 1 ∧
    (let s : State := { (wDev 3).put blocksInReset (2 ^ blkCROP) with objs0 := [(hk 1, 1)] };
      s.cfg (hk 1) = 1 ∧ s.inReset blkCROP = true) ∧
    (let s : State := { (wDev 3) with objs0 := [(hk 1, 1)] };
      s.cfg (hk 1) = 1 ∧ s.inReset blkCROP = false ∧ (s.flowOk && s.elevOk) = false) := by decide

theorem test_feeds_met : let s : State := { ((wDev 3).put (rk 0x1A) 12).startTimer (tmFeed 1) with
      tm := { TimeSt.reset with mt := 2000000000000 }, rx := { RxSt.reset with feedOn := 2 } }
    s.feedEnabled 1 = true ∧ feedState s 1 = 3 ∧ s.timerPast (tmFeed 1) nsS = true ∧ bit s.rx.feedOn 1 = true := by decide

theorem test_carrier_met :
    (let s := wRx fun x => { x with state := rxTRACK, lowAt := 1, lostAt := 1 };
      (s.rxc 0).state = rxTRACK ∧ (s.rxc 0).codeOnly = false ∧ s.stood (s.rxc 0).lowAt (200 * nsMs) = true ∧
        s.stood (s.rxc 0).lostAt nsS = true ∧ (∀ i ∈ s.rx.work, i.ch ≠ some 0) ∧ none ∈ s.rx.engines) ∧
    (let s := wRx fun x => { x with state := rxTRACK, codeOnly := true, goodAt := 1, fails := 1, failAt := 1 };
      (s.rxc 0).state = rxTRACK ∧ (s.rxc 0).codeOnly = true ∧ s.stood (s.rxc 0).goodAt (100 * nsMs) = true ∧
        (s.rxc 0).fails ≠ 0 ∧ s.stood (s.rxc 0).failAt (30 * nsS) = true) ∧
    (let s := wRx fun x => { x with state := rxCOAST, recAt := 1 };
      (s.rxc 0).state = rxCOAST ∧ s.stood (s.rxc 0).recAt (100 * nsMs) = true ∧ (s.rxc 0).since + 5 * nsS ≤ s.tm.mt ∧
        ∀ i ∈ s.rx.work, i.ch ≠ some 0) := by decide

theorem test_acquisition_met :
    (∀ v : Bool, let w : AcqWork := ⟨⟨2, 0, 0, SvSig.reset, none⟩, 0, v⟩
      let s : State := { wRx (fun x => { x with state := rxSEARCH }) with
        rx := { RxSt.reset with chans := [(0, { RxChan.reset with state := rxSEARCH })], engines := [some w] } }
      s.rx.engines.getD 0 none = some w ∧ (s.rxc w.ch).state = rxSEARCH ∧ ∀ i ∈ s.rx.work, i.ch ≠ some w.ch) ∧
    (let s := wRx fun x => { x with state := rxPULL_IN };
      (s.rxc 0).state = rxPULL_IN ∧ (s.rxc 0).since + nsS ≤ s.tm.mt) ∧
    (let s := wRx fun x => { x with state := rxREACQ };
      (s.rxc 0).state = rxREACQ ∧ (s.rxc 0).since + 10 * nsS ≤ s.tm.mt ∧ ∀ i ∈ s.rx.work, i.ch = some 0) := by decide

def wDump : Dump := ⟨0, 4400, 900, 0, 0, 0, false⟩
theorem test_dump_met :
    (let s := wRx fun x => { x with state := rxTRACK, mode := 2 };
      s.inReset blkSUN = false ∧ (s.rxc wDump.ch).state = rxTRACK ∧ wDump.mismatch = false ∧
        (∀ i ∈ s.rx.work, i.ch ≠ some wDump.ch) ∧ s.tm.sched % 20 = 0 ∧ s.cfg (ob 0x2400 1) = 1 ∧ s.inReset blkYAR = false ∧
        s.aidAbsent (s.rxc 0) = true ∧ (s.rxc 0).mode ≠ 0 ∧ s.rx.aidEpisode = false) ∧
    (let s := wRx fun x => { x with state := rxCOAST };
      s.aidAbsent (s.rxc 0) = true ∧ (s.rxc 0).state = rxCOAST ∧ ∀ i ∈ s.rx.work, i.ch ≠ some 0) := by decide

theorem test_interference_met :
    (let s := wRf fun r => { r with overRun := 2, severeAt := 1, limitAt := 1, okAt := 1 };
      s.cfg (rk 0x1E) = 1 ∧ 10 * s.cfg (rk 0x21) < 400 ∧ 2 ≤ (s.rf 0).overRun ∧
        s.stood (s.rf 0).severeAt nsS = true ∧ s.stood (s.rf 0).limitAt nsS = true ∧ s.cfg (rk 1) = 1 ∧
        s.chainUsed 0 = false ∧ s.stood (s.rf 0).okAt nsS = true) ∧
    (let s : State := { wDev 3 with objs0 := [(rk 0x1B, 14)] };
      bit (s.cfg (rk 0x1B)) 0 = false) := by decide

theorem test_corrections_met :
    (wDev 3).accepts wVen 0x2300 0x26 (.blk 0 [0xD3]) hCorrection = true ∧
    (wDev 3).accepts wVen 0x2300 0x26 (.blk 1 [0xD3]) hCorrection = true ∧ (wDev 3).get (rk 0x37) = 0 ∧
    (let s : State := { wDev 3 with rx := { RxSt.reset with corr := some ⟨7, 0, true, false⟩, corrAt := 1 }, objs0 := [(rk 0x2E, 1)] };
      s.rx.corr = some ⟨7, 0, true, false⟩ ∧ 300 ≤ 10 * s.cfg (rk 0x27) ∧ 10 * s.cfg (rk 0x27) < 301 ∧
        s.stood s.rx.corrAt (s.cfg (rk 0x27) * nsS) = true ∧ s.cfg (rk 0x2E) ≠ 0) := by decide

theorem test_starts_met :
    (wDev 6).accepts wVen 0x2300 0x34 (.num 1) (hRxStart [] 0 true) = true ∧
    (wDev 6).accepts wVen 0x2300 0x34 (.num 2) (hRxStart [] 0 false) = true ∧
    (wDev 6).accepts wVen 0x2300 0x34 (.num 3) (hRxStart [] 0 false) = true := by decide

theorem test_phases_met : let s : State := { wDev 3 with
      pwr := { PwrSt.reset with up := true }
      parts := [{ PartSt.reset with ready := 2 }, PartSt.reset, PartSt.reset]
      img := { ImgSt.reset with shown := [(0, 1)] } };
    s.awake = true ∧ s.pwr.chip = false ∧ s.conf.load = none ∧ s.img.newMap = none ∧ s.img.newApps = none ∧ s.pilRuns = true ∧
      mapCount s.mapInForce = 0 ∧ (s.part 0).ready ≠ 0 ∧ 0x40 ∈ s.ownedBy 0 ∧ mapEntries s.mapInForce = [] ∧
      viewFrame s.img.next = s.frameNo ∧ viewFrame s.img.shown ≠ s.frameNo ∧ s.framing = true := by decide

theorem test_partitions_met :
    (let s : State := { wDev 3 with pwr := { PwrSt.reset with up := true } };
      s.framing = true ∧ s.inReset (blkCP 1) = false ∧ s.hosted 1 = some 1 ∧ s.partsRun = true ∧ s.partRuns 2 = true) ∧
    (let s : State := { (wDev 3).askSwap 0 1 6 false with pwr := { PwrSt.reset with up := true } };
      s.partsRun = true ∧ s.get (ob 0x1410 5) = 1 ∧ (s.readySpares 0 1).head? = some 3 ∧ s.canSwap 0 = true) ∧
    (let s : State := { (wDev 3).putNow (ob 0x1400 1) 5 with
        pwr := { PwrSt.reset with up := true }
        parts := [{ PartSt.reset with idle := 5 }, { PartSt.reset with down := true }, PartSt.reset] };
      s.partRuns 0 = true ∧ s.cfg (ob 0x1400 1) = 5 ∧ (s.part 0).idle = 5 ∧ (s.part 0).commits = 0 ∧
        (s.part 1).down = true ∧ s.reqOf 0 (s.get (ob 0x1410 5)) = none ∧ s.inReset (blkCP (s.get (ob 0x1410 5))) = false) := by decide

theorem test_unowned_met : let s : State := { wDev 3 with pwr := { PwrSt.reset with up := true } };
    s.partRuns 1 = true ∧ s.outField 0x40 = some (0, 4) := by decide

theorem test_source_met :
    (let s := wDev dsSERVICE; srcExists srcDIE_TEMP = true ∧ s.active srcDIE_TEMP = false ∧ srcDIE_TEMP ≠ srcREC_LOST ∧ srcDIE_TEMP ≠ srcUCP_EVQ ∧
      s.accepts wVen 0x2800 0x10 (.num srcDIE_TEMP) (hForce true) = true ∧ s.accepts wVen 0x2800 0x11 (.num srcDIE_TEMP) (hForce false) = true) ∧
    (let s := (wDev 3).put (stKey srcDIE_TEMP) 13; s.raw srcDIE_TEMP = true ∧ s.active srcDIE_TEMP = true ∧ s.forced srcDIE_TEMP = false) ∧
    bit ((wDev 3).get (cfgKey srcSPARE_LOW)) 13 = false := by decide

theorem test_clears_met :
    (let s := (wDev 3).put (stKey srcDIE_TEMP) 8;
      s.accepts wVen 0x2800 0x12 (.num srcDIE_TEMP) hFaultClear = true ∧ s.accepts wVen 0x2800 0x13 (.num 1) hFaultClearAll = true ∧
        s.active srcDIE_TEMP = false ∧ s.isPending srcDIE_TEMP = true) ∧
    ((wDev 3).put (stKey srcDIE_TEMP) 13).active srcDIE_TEMP = true ∧
    (let s : State := { (wDev 3).put (stKey srcDIE_TEMP) 64 with
        tm := { TimeSt.reset with mt := 20000000000000000 }
        flt := { FaultSt.reset with lastMt := [(srcDIE_TEMP, 1)] } };
      s.escStep srcDIE_TEMP ≠ 0 ∧ Tbl.get 0 s.flt.lastMt srcDIE_TEMP ≠ 0 ∧
        Tbl.get 0 s.flt.lastMt srcDIE_TEMP + s.get (ob 0x2800 7) * nsS ≤ s.tm.mt + 1) := by decide

theorem test_level_met :
    (let s : State := { (wDev 3).put faultPin 1 with flt := { FaultSt.reset with snsRun := 9 } };
      bit (s.get faultPin) 0 = true ∧ s.flt.snsRun = 9) ∧
    (((wDev 3).put faultPin 1).put (stKey srcFLT_PIN) 5).raw srcFLT_PIN = true ∧ bit ((wDev 3).get faultPin) 0 = false := by decide

theorem test_swaps_met :
    (∀ pe ∈ [(1, 1, 3), (2, 5, 64), (3, 6, 7), (5, 2, 24), (6, 9, 65), (7, 0, 3), (4, 3, 8)],
      let s : State := (wDev 3).askSwap pe.1 pe.2.1 1 false;
      SwapReady s pe.1 pe.2.1 pe.2.2) ∧
    (wDev 3).activeCell 1 1 = 6 ∧ (wDev 3).ctrl 3 = 3 ∧ (wDev 3).tm.sched % 10 = 0 ∧ (wDev 3).inReset (blkCAN 3) = false ∧
      (wDev 3).dev ≠ dsSTANDBY := by
  refine ⟨?_, by decide, by decide, by decide, by decide, by decide⟩
  intro pe h
  fin_cases h <;> exact ⟨by decide, by decide, by decide, ⟨_, rfl, rfl⟩, by decide, by decide, by decide⟩

theorem test_elements_met :
    (let s : State := { ((wDev 3).setElemState 1 0 5).startTimer (0x100000 + elKey 1 0) with
        tm := { TimeSt.reset with mt := 3000000000000 } };
      (s.elem 1 0).state = 5 ∧ s.timerPast (0x100000 + elKey 1 0) nsS = true ∧ (s.elem 2 64).state = 1 ∧ (s.elem 2 3).state = 0 ∧
        5 < poolSize 4) ∧
    (wDev 3).get (ob 0x2400 (0x40 + 8 * 3)) = 1 ∧ ((wDev 3).elem 7 3).state = 1 ∧ 1000 < 1000 * 2 := by decide

/-- An output map entry of partition 0 that names an object a Maintainer may write. -/
def wMap : List Byte := le 16 1 ++ le 2 0x2500 ++ le 1 1 ++ le 1 1 ++ le 4 0x2000 ++ le 8 0

theorem test_port_role_met : let s : State := (wDev dsCONFIGURE).putB (ob 0x1300 0x83) wMap;
    s.dev ≠ dsSTANDBY ∧ s.checkWrite wVen 0x1410 1 (.num 0) (Handler.simple fun u _ _ => (u, stOK)) = stOK ∧
      (mapEntries s.mapInForce).any (fun e => decide (e.dir = 1) && decide (e.owner = 0) &&
        (match s.descOf e.idx e.sub with | some d => !((Role.ofCode 0).mayWrite d.wrole) | none => false)) = true := by decide

/-! Each check of `Instr.wf` refuses a command that breaks it. -/

theorem test_wf_requesters :
    [Instr.zeroRequest (.session 0), .zeroRequest (.port 3), .zeroRequest (.mapped 3), .zeroRequest (.signed 6 0),
      .zeroRequest (.signed 0 (2 ^ 32))].all (fun i => !i.wf) = true := by decide

theorem test_wf_routes :
    [Instr.hello (.eth 0x10000) 0 [], .hello (.can 8 0) 0 [], .hello (.can 0 128) 0 [], .hello (.port 3) 0 [],
      .tagQuarantineEnd (.session 0) 0 0, .tagQuarantineEnd (.addr 0x10000) 0 0, .tagQuarantineEnd (.port 3) 0 0,
      .tagQuarantineEnd (.addr 1) 16 0, .tagQuarantineEnd (.addr 1) 0 4096].all (fun i => !i.wf) = true := by decide

theorem test_wf_blocks :
    [Instr.scale [⟨64, []⟩] [] [], .scale [⟨0, List.replicate 51 ⟨0, false⟩⟩] [] [],
      .scale [⟨0, [⟨0x10000, false⟩]⟩] [] [], .scale [] [⟨8, List.replicate 10 0, 0, false⟩] [],
      .scale [] [⟨0, [0], 0, false⟩] [], .scale [] [] [⟨8, [], 0, 0⟩], .scale [] [] [⟨0, [], 0, 0⟩],
      .fuseStep { NavEst.reset with vel := [] } none [] [], .fuseStep { NavEst.reset with scale := [] } none [] [],
      .fuseStep NavEst.reset none [] [⟨11, 0⟩], .control [(96, 0)], .control [(0, 16)],
      .load (2 ^ 64)].all (fun i => !i.wf) = true := by decide

theorem test_wf_partitions :
    [Instr.ckpt 0 (2 ^ 32), .piCommit 0 [(2 ^ 18, 0)], .piCommit 0 [(0, 2 ^ 64)], .rspTail 0 (2 ^ 32),
      .irqStatus 0 (2 ^ 32), .cmdTail 0 none (2 ^ 32) [], .cmdTail 0 (some ⟨2 ^ 32, 0, 0, 0, 0⟩) 0 [],
      .leapSecond 256, .supRestart .open_ 256].all (fun i => !i.wf) = true := by decide

theorem test_wf_long_data :
    (!(Instr.cmdTail 0 none 0 [List.replicate 4157 0]).wf && !(Instr.correctionInput .open_ 0 (List.replicate 4097 0)).wf) =
      true := by decide

theorem test_wf_receiver :
    [Instr.correlatorDump ⟨384, 0, 0, 0, 0, 0, false⟩, .aidingTimeout 384, .detectorEpoch 0 [⟨0, 0, 0, 0, 0⟩],
      .measurementEpoch [⟨384, 0, 0, 0, 0⟩] [] none, .aidingSetIssue [⟨384, 0, 0, 0, 0, 0, 0⟩], .bankSwap 26 [] 0,
      .receiverDataStore 256 [], .receiverHotStart .open_ [⟨6, 0, 0, 0, 0⟩] 0 false,
      .receiverHotStart .open_ [⟨0, 0, 12, 0, 0⟩] 0 false, .receiverHotStart .open_ [⟨0, 0, 0, 2, 0⟩] 0 false,
      .imuSample [⟨4, [], []⟩], .imuSample [⟨0, [], []⟩], .channelReadmit 384,
      .externalSpeedSample .open_ 0 (2 ^ 64)].all (fun i => !i.wf) = true := by decide

theorem test_wf_faults :
    [Instr.bankSelect .open_ 0 256, .demandRequestWrite .open_ 0x10000, .sealRead 0x10000, .rwsEdit .open_ (2 ^ 24) 0,
      .rwsEdit .open_ 0 (2 ^ 64), .sign .open_ (2 ^ 32) [], .countersign .open_ (2 ^ 32) [], .faultOccurrence 0 0x10000,
      .conseqModeEnd 25, .blockResetEnd 0 16 [] 0 false, .faultClearRequest .open_ 0x10000, .forceSet .open_ 0x10000,
      .forceClear .open_ 0x10000, .wearCrossing 0 4 1 0 0 0, .wearCrossing 0 0 6 0 0 0, .wearCrossing 0 0 1 0x10000 0 0,
      .spareSwap 0 4 [] 0, .elementSelftestDone 0 4 false, .spareTest 0 4 false, .recBankFail 2 false,
      .applicationRecord .open_ (2 ^ 32)].all (fun i => !i.wf) = true := by decide

theorem test_wf_access :
    [Instr.requestDequeue ⟨false, [], 64, false⟩, .read .open_ 0x10000 0 0 0, .read .open_ 0 256 0 0, .read .open_ 0 0 (2 ^ 32) 0,
      .read .open_ 0 0 0 (2 ^ 32), .write .open_ 0x10000 0 0 0 [] ⟨false, [], 0, false⟩,
      .write .open_ 0 0 0 (2 ^ 32) [] ⟨false, [], 0, false⟩, .subscribe .open_ (.port 0) 0x10000 0,
      .subscribe .open_ (.port 0) 0 (2 ^ 32), .unsubscribe .open_ (.port 0) 0x10000,
      .signedCommandExecute .open_ ⟨false, [], 64, false⟩].all (fun i => !i.wf) = true := by decide

theorem test_wf_networks :
    [Instr.ethFrameForward 0 ⟨2 ^ 48, 0, 0, true⟩, .ethFrameForward 0 ⟨0, 2 ^ 48, 0, true⟩, .ethFrameForward 0 ⟨0, 0, 8, true⟩,
      .ethLinkUp 0 256, .ringFrameReceive 0 0 0x10000, .gptpMessageReceive 0 ⟨16, 0, 0, 0, 0, 0, 0, 0, 0, 0, 0, 0⟩,
      .canFrameReceive 0 ⟨2 ^ 30, false, false, false, false, [], 0⟩ 0,
      .canFrameReceive 0 ⟨0, false, true, false, false, [], 0⟩ 0, .canFrameReceive 0 ⟨0, true, false, false, true, [], 0⟩ 0,
      .canFrameReceive 0 ⟨0, false, false, false, false, List.replicate 9 0, 0⟩ 0,
      .canFrameReceive 0 ⟨0, true, false, false, false, List.replicate 9 0, 0⟩ 0, .canTableApply .open_ 256,
      .transportSessionTimeout 0 false false 256, .hello (.port 0) 0x10000 []].all (fun i => !i.wf) = true := by decide

theorem test_wf_update_power :
    [Instr.debugLock .open_ (2 ^ 32), .configReturn .open_ (2 ^ 32), .imageBlock .open_ (2 ^ 32) [],
      .start 0 0 4 true true [] [] [] 0 false, .start 0 0 0 true true [] [(8, 0)] [] 0 false,
      .start 0 0 0 true true [] [(0, 4)] [] 0 false, .vlRise 0x10000, .holdupStoreReady 0x10000, .vbakMeasure 0x10000 0 0,
      .vbakMeasure 0 0x10000 0, .vbakMeasure 0 0 0x10000, .vbPrecharge 0 0x10000, .vlLow 0 0x10000,
      .sramUncorrectableError 64 0].all (fun i => !i.wf) = true := by decide

/-- Reset: the tables are in their canonical form, nothing waits, and module time is 0. -/
theorem test_reset : State.reset.pending = [] ∧ State.reset.tm.mt = 0 := by decide

/-- R4: the table names no bits, so no word is a command and none enters the queue. -/
theorem test_no_word : decodeTableWord 16 0x1234 = none ∧ State.reset.withFetchWord 16 0x1234 = State.reset := by decide
end

section
/-! SUPPORT. The frame of every command (O4): each command changes no more than `Instr.foot` lists for it. -/

namespace Sys2Proof.Machine

open Sys2Proof

/-! What a footprint lets change: the objects of a listed index byte, the objects of a listed family, and what a fault may
change. The lemmas about the commands ask for these permissions, and `Instr.foot` grants them. `hF` says that the objects of F are
those that gs, ks and fs list; it speaks of F whole, so that `rfl` reads the three lists off a footprint. -/

section Objects

variable {F : Foot} {gs ks : List Nat} {fs : List (Nat × Nat × Nat)}

theorem grp_of_objects {g : Nat} (hF : F = { F with idx := objects gs ks fs }) (h : gs.contains g = true) : F.grp g := by
  intro k hk
  rw [hF]
  simp only [objects, hk, h, Bool.true_or]

variable {sub : Nat}

theorem idx_of_family {lo hi i : Nat} (hF : F = { F with idx := objects gs ks fs }) (h : fs.contains (lo, hi, sub % 256) = true)
    (hi' : lo ≤ i ∧ i ≤ hi) : F.idx (ob i sub) = true := by
  have hdiv : ob i sub / 256 = i := by unfold ob; omega
  have hmod : ob i sub % 256 = sub % 256 := by unfold ob; omega
  have hany : fs.any (fun f => within f.1 f.2.1 (ob i sub / 256) && decide (ob i sub % 256 = f.2.2)) = true :=
    List.any_eq_true.mpr ⟨_, List.contains_iff_mem.mp h, by simp [hdiv, hmod, within, hi']⟩
  rw [hF]
  simp only [objects, hany, Bool.or_true]

theorem idx_ik (hF : F = { F with idx := objects gs ks fs }) (h : fs.contains (0x2100, 0x213F, sub % 256) = true) (ch : Nat) :
    F.idx (ik ch sub) = true := idx_of_family hF h (by omega)

theorem idx_sk (hF : F = { F with idx := objects gs ks fs }) (h : fs.contains (0x2500, 0x255F, sub % 256) = true) (n : Nat) :
    F.idx (sk n sub) = true := idx_of_family hF h (by omega)

theorem idx_ck (hF : F = { F with idx := objects gs ks fs }) (h : fs.contains (0x2561, 0x2564, sub % 256) = true) (k : Nat) :
    F.idx (ck k sub) = true := idx_of_family hF h (by omega)

theorem idx_xk (hF : F = { F with idx := objects gs ks fs }) (h : fs.contains (0x2600, 0x263F, sub % 256) = true) (c : Nat) :
    F.idx (xk c sub) = true := idx_of_family hF h (by omega)

theorem idx_gk (hF : F = { F with idx := objects gs ks fs }) (h : fs.contains (0x2640, 0x2647, sub % 256) = true) (g : Nat) :
    F.idx (gk g sub) = true := idx_of_family hF h (by omega)

theorem idx_cank (hF : F = { F with idx := objects gs ks fs }) (h : fs.contains (0x2B00, 0x2B07, sub % 256) = true) (p : Nat) :
    F.idx (cank p sub) = true := idx_of_family hF h (by omega)

end Objects

section Faults

variable {F : Foot}

theorem faults_idx {k : Nat} (h : F.idx k = true) : F.faults.idx k = true := Bool.or_eq_true_iff.mpr (.inl h)

theorem faults_grp {g : Nat} (h : F.grp g) : F.faults.grp g := fun k hk => faults_idx (h k hk)

/-- Every object of the collector (0x28xx) may change where a fault may be found. -/
theorem faults_collector : F.faults.grp 0x28 := fun k hk => by
  have hobj : faultKey k = true := by simp [faultKey, objects, hk]
  exact Bool.or_eq_true_iff.mpr (.inr hobj)

end Faults

/-- Each command's own lemma of Laws/KeptExec, given the permissions that `Instr.foot` lists for it: `rfl` for a unit and for
a single object, `grp_of_objects` for an index byte, `idx_*` for a family, and the `faults_*` where a fault may be found. -/
theorem exec_kept_foot {i : Instr} {s t : State} (he : exec i s = .next t) : Kept i.foot s t := by
  cases i with
  | sealFrame =>
    exact execSeal_kept rfl rfl rfl rfl rfl rfl rfl rfl rfl rfl rfl rfl rfl rfl rfl rfl rfl rfl rfl rfl rfl rfl rfl
      (fun _ => rfl) he
  | take =>
    exact execTake_kept rfl rfl rfl rfl rfl rfl rfl rfl rfl rfl rfl rfl rfl rfl rfl rfl rfl rfl rfl rfl rfl
      (fun _ => rfl) he
  | scale blk mon sense =>
    exact execScale_kept blk mon sense rfl rfl rfl rfl rfl (faults_grp (grp_of_objects rfl rfl))
      (faults_grp (grp_of_objects rfl rfl)) faults_collector rfl rfl he
  | crop => exact execCrop_kept rfl rfl rfl rfl rfl (faults_grp (grp_of_objects rfl rfl)) faults_collector rfl rfl he
  | fuseStep est gnss tests late =>
    exact execFuseStep_kept est gnss tests late rfl rfl rfl rfl rfl rfl (faults_grp (grp_of_objects rfl rfl))
      faults_collector rfl rfl rfl rfl rfl rfl he
  | control upsets =>
    exact execControl_kept upsets rfl rfl rfl rfl rfl rfl rfl (faults_grp (grp_of_objects rfl rfl)) faults_collector
      (faults_grp (grp_of_objects rfl rfl)) rfl rfl rfl rfl rfl rfl rfl rfl rfl he
  | load bad =>
    exact execLoad_kept bad rfl rfl rfl rfl rfl rfl rfl (fun p => faults_idx (idx_xk rfl (by rfl) p))
      (fun p => faults_idx (idx_xk rfl (by rfl) p)) (fun p => faults_idx (idx_xk rfl (by rfl) p))
      (fun p => faults_idx (idx_xk rfl (by rfl) p)) faults_collector rfl rfl he
  | assemble => exact execAssemble_kept rfl rfl he
  | publish => exact execPublish_kept rfl rfl he
  | exchange ok sched =>
    exact execExchange_kept ok sched rfl rfl rfl rfl rfl (faults_grp (grp_of_objects rfl rfl)) faults_collector rfl rfl
      he
  | crossCheckLinkLost =>
    exact execCrossCheckLinkLost_kept rfl rfl rfl rfl (faults_grp (grp_of_objects rfl rfl)) faults_collector rfl rfl he
  | phaseOverrun => exact execPhaseOverrun_kept rfl rfl rfl rfl rfl faults_collector rfl rfl rfl he
  | timebaseDeviation beyond =>
    exact execTimebaseDeviation_kept beyond rfl rfl rfl rfl (faults_grp (grp_of_objects rfl rfl)) faults_collector rfl
      rfl he
  | lockstepMismatch pair => exact execLockstepMismatch_kept pair rfl rfl rfl rfl rfl faults_collector rfl rfl he
  | partitionResume p verify dur =>
    exact execPartitionResume_kept p verify dur rfl rfl rfl rfl rfl rfl rfl (faults_grp (grp_of_objects rfl rfl))
      faults_collector (faults_grp (grp_of_objects rfl rfl)) rfl rfl he
  | ckpt p addr => exact execCkpt_kept p addr rfl he
  | ckptDone p => exact execCkptDone_kept p rfl rfl he
  | piCommit p entries => exact execPiCommit_kept p entries rfl rfl rfl rfl rfl faults_collector rfl rfl rfl he
  | appBusError => exact execAppBusError_kept rfl he
  | piTimeout p => exact execPiTimeout_kept p rfl rfl rfl rfl faults_collector rfl rfl rfl he
  | cmdTail p door tail packets =>
    exact execCmdTail_kept p door tail packets rfl rfl rfl rfl rfl rfl faults_collector rfl rfl rfl rfl rfl rfl rfl rfl
      he
  | rspTail p tail => exact execRspTail_kept p tail rfl rfl rfl rfl rfl rfl rfl faults_collector rfl rfl rfl rfl he
  | irqStatus p w => exact execIrqStatus_kept p w rfl he
  | clkPllLoss lost => exact execClkPllLoss_kept lost rfl rfl rfl faults_collector rfl rfl he
  | secondBoundary dT =>
    exact execSecondBoundary_kept dT rfl rfl rfl rfl faults_collector rfl rfl rfl rfl rfl rfl rfl he
  | timeSolutionDelivery b d sigma sf sats =>
    exact execTimeSolutionDelivery_kept b d sigma sf sats rfl rfl rfl rfl rfl faults_collector rfl rfl rfl rfl rfl rfl
      rfl rfl he
  | timeSolutionDeadline => exact execTimeSolutionDeadline_kept rfl he
  | goffStepApply => exact execGoffStepApply_kept rfl rfl rfl rfl rfl faults_collector rfl rfl rfl rfl rfl he
  | ppsPulse off => exact execPpsPulse_kept off rfl rfl rfl rfl rfl faults_collector rfl rfl rfl rfl rfl he
  | pulseReport => exact execPulseReport_kept rfl rfl rfl rfl faults_collector rfl rfl rfl rfl he
  | mtStore => exact execMtStore_kept rfl he
  | standbyOscMeasure offset => exact execStandbyOscMeasure_kept offset rfl he
  | leapSecond l => exact execLeapSecond_kept l rfl rfl rfl rfl faults_collector rfl rfl rfl rfl he
  | calOffWrite who value =>
    exact execCalOffWrite_kept who value rfl rfl rfl rfl faults_collector rfl rfl rfl rfl rfl rfl rfl rfl rfl he
  | gptpSyncSend p => exact execGptpSyncSend_kept p rfl rfl (grp_of_objects rfl rfl) he
  | gptpMessageReceive p m => exact execGptpMessageReceive_kept p m rfl rfl (grp_of_objects rfl rfl) he
  | inputEdge ch up both stamp => exact execInputEdge_kept ch up both stamp rfl (idx_ik rfl (by rfl)) he
  | inputDiagFault ch high =>
    exact execInputDiagFault_kept ch high rfl rfl rfl rfl (fun p => faults_idx (idx_ik rfl (by rfl) p))
      (fun p => faults_idx (idx_ik rfl (by rfl) p)) faults_collector rfl rfl he
  | currentInputProtect ch => exact execCurrentInputProtect_kept ch rfl rfl (idx_ik rfl (by rfl)) he
  | currentInputTrial ch => exact execCurrentInputTrial_kept ch rfl rfl he
  | settlingEnd ch => exact execSettlingEnd_kept ch rfl he
  | supTrip k =>
    exact execSupTrip_kept k rfl rfl rfl rfl (faults_grp (grp_of_objects rfl rfl)) faults_collector rfl rfl he
  | supRetry k =>
    exact execSupRetry_kept k rfl rfl rfl rfl rfl (faults_grp (grp_of_objects rfl rfl)) faults_collector rfl rfl he
  | supUndervolt k => exact execSupUndervolt_kept k (grp_of_objects rfl rfl) he
  | supOvervolt k =>
    exact execSupOvervolt_kept k rfl rfl rfl rfl (faults_grp (grp_of_objects rfl rfl)) faults_collector rfl rfl he
  | supRetryReset k => exact execSupRetryReset_kept k rfl rfl he
  | supRestart who mask =>
    exact execSupRestart_kept who mask rfl rfl rfl rfl rfl (faults_grp (grp_of_objects rfl rfl)) faults_collector rfl
      rfl rfl rfl rfl rfl rfl rfl he
  | supplyTestPulse k => exact execSupplyTestPulse_kept k rfl (grp_of_objects rfl rfl) he
  | shadowWindowEnd g own sp counts =>
    exact execShadowWindowEnd_kept g own sp counts rfl rfl rfl rfl rfl rfl faults_collector rfl rfl he
  | conversionFail ch => exact execConversionFail_kept ch rfl rfl rfl rfl rfl rfl faults_collector rfl rfl he
  | spareConverterSwitch ch verify dur =>
    exact execSpareConverterSwitch_kept ch verify dur rfl rfl rfl rfl rfl (fun p => faults_idx (idx_ik rfl (by rfl) p))
      (fun p => faults_idx (idx_ik rfl (by rfl) p)) faults_collector (faults_grp (grp_of_objects rfl rfl)) rfl rfl he
  | spareConfirmTimeout ch =>
    exact execSpareConfirmTimeout_kept ch rfl rfl (idx_ik rfl (by rfl)) (idx_ik rfl (by rfl)) he
  | lossSensorQuiet k =>
    exact execLossSensorQuiet_kept k rfl rfl rfl (faults_grp (grp_of_objects rfl rfl)) faults_collector rfl rfl he
  | lossSensorNoisy k =>
    exact execLossSensorNoisy_kept k rfl rfl rfl (faults_grp (grp_of_objects rfl rfl)) faults_collector rfl rfl he
  | lossSensorClear k noisy =>
    exact execLossSensorClear_kept k noisy rfl rfl rfl (faults_grp (grp_of_objects rfl rfl)) faults_collector rfl rfl he
  | cropFlowTimeout => exact execCropFlowTimeout_kept rfl rfl rfl faults_collector rfl rfl he
  | moistTimeout => exact execMoistTimeout_kept rfl rfl rfl faults_collector rfl rfl rfl he
  | zeroRequest who => exact execZeroRequest_kept who rfl rfl rfl rfl rfl rfl rfl rfl rfl rfl rfl he
  | zeroDone => exact execZeroDone_kept rfl rfl rfl he
  | recordClose =>
    exact execRecordClose_kept rfl rfl rfl rfl rfl faults_collector rfl rfl rfl rfl rfl rfl rfl rfl rfl he
  | bufferClear who =>
    exact execBufferClear_kept who rfl rfl rfl rfl faults_collector rfl rfl rfl rfl rfl rfl rfl rfl rfl rfl he
  | totalsReset who => exact execTotalsReset_kept who rfl rfl rfl rfl rfl rfl rfl rfl rfl rfl rfl rfl he
  | antFeedShort a => exact execAntFeedShort_kept a rfl rfl rfl rfl rfl faults_collector rfl rfl rfl he
  | antFeedTrial a => exact execAntFeedTrial_kept a rfl rfl he
  | antFeedOpen a => exact execAntFeedOpen_kept a rfl rfl rfl faults_collector rfl rfl rfl he
  | antFeedNormal a => exact execAntFeedNormal_kept a rfl rfl rfl faults_collector rfl rfl rfl he
  | correlatorDump d =>
    exact execCorrelatorDump_kept d rfl rfl rfl rfl rfl faults_collector rfl rfl rfl rfl rfl rfl rfl rfl he
  | aidingTimeout ch => exact execAidingTimeout_kept ch rfl rfl rfl rfl faults_collector rfl rfl rfl rfl rfl rfl he
  | acquisitionDwellDone eng above hits => exact execAcquisitionDwellDone_kept eng above hits rfl rfl rfl rfl he
  | pullInTimeout ch => exact execPullInTimeout_kept ch rfl rfl rfl rfl he
  | carrierLoss ch => exact execCarrierLoss_kept ch rfl rfl rfl rfl he
  | carrierRestore ch => exact execCarrierRestore_kept ch rfl rfl rfl rfl he
  | codeLost ch => exact execCodeLost_kept ch rfl rfl rfl rfl he
  | coastRecover ch => exact execCoastRecover_kept ch rfl rfl rfl rfl he
  | coastTimeout ch => exact execCoastTimeout_kept ch rfl rfl rfl rfl he
  | reacqTimeout ch => exact execReacqTimeout_kept ch rfl rfl rfl rfl he
  | blankingWindow c share n => exact execBlankingWindow_kept c share n rfl (grp_of_objects rfl rfl) he
  | detectorEpoch c l => exact execDetectorEpoch_kept c l rfl (grp_of_objects rfl rfl) he
  | jammingMeasure c jn agc limit pll =>
    exact execJammingMeasure_kept c jn agc limit pll rfl rfl rfl rfl (faults_grp (grp_of_objects rfl rfl))
      faults_collector rfl rfl he
  | gnssJamRaise c => exact execGnssJamRaise_kept c rfl rfl rfl faults_collector rfl rfl he
  | chainOutOfUse c =>
    exact execChainOutOfUse_kept c rfl rfl rfl rfl (faults_grp (grp_of_objects rfl rfl)) faults_collector rfl rfl he
  | multipeakCheck ch second =>
    exact execMultipeakCheck_kept ch second rfl rfl rfl rfl faults_collector rfl rfl rfl rfl rfl rfl he
  | falseSignalClear ch =>
    exact execFalseSignalClear_kept ch rfl rfl rfl rfl faults_collector rfl rfl rfl rfl rfl rfl he
  | measurementEpoch l aoa h =>
    exact execMeasurementEpoch_kept l aoa h rfl rfl rfl rfl rfl faults_collector rfl rfl rfl rfl rfl rfl rfl rfl he
  | nmeaOutput bytes => exact execNmeaOutput_kept bytes rfl rfl rfl rfl faults_collector rfl rfl he
  | correctionInput who off data =>
    exact execCorrectionInput_kept who off data rfl rfl rfl rfl rfl rfl rfl rfl rfl rfl rfl rfl rfl rfl he
  | correctionEpochPass age usable carrier =>
    exact execCorrectionEpochPass_kept age usable carrier rfl rfl rfl rfl rfl faults_collector rfl rfl he
  | gnssCorrTimeout => exact execGnssCorrTimeout_kept rfl rfl rfl faults_collector rfl rfl he
  | bankSwap el verify dur =>
    exact execBankSwap_kept el verify dur rfl rfl rfl rfl rfl rfl faults_collector (faults_grp (grp_of_objects rfl rfl))
      rfl rfl rfl rfl rfl rfl he
  | receiverDataStore mask sats => exact execReceiverDataStore_kept mask sats rfl rfl he
  | receiverHotStart who directed known near =>
    exact execReceiverHotStart_kept who directed known near rfl rfl rfl (grp_of_objects rfl rfl) rfl rfl rfl rfl rfl rfl
      he
  | receiverStartNoEph who directed known =>
    exact execReceiverStartNoEph_kept who directed known rfl rfl rfl (grp_of_objects rfl rfl) rfl rfl rfl rfl rfl rfl he
  | receiverColdStart who =>
    exact execReceiverColdStart_kept who rfl rfl rfl (grp_of_objects rfl rfl) rfl rfl rfl rfl rfl rfl he
  | aidingSetIssue sets => exact execAidingSetIssue_kept sets rfl rfl rfl rfl faults_collector rfl rfl rfl rfl rfl he
  | navSolutionIssue => exact execNavSolutionIssue_kept rfl rfl rfl rfl he
  | imuSample l => exact execImuSample_kept l rfl (grp_of_objects rfl rfl) he
  | imuExclude n =>
    exact execImuExclude_kept n rfl rfl rfl rfl rfl (faults_grp (grp_of_objects rfl rfl)) faults_collector
      (faults_grp (grp_of_objects rfl rfl)) rfl rfl he
  | imuSwap n verify dur =>
    exact execImuSwap_kept n verify dur rfl rfl rfl rfl rfl (faults_grp (grp_of_objects rfl rfl)) faults_collector
      (faults_grp (grp_of_objects rfl rfl)) rfl rfl he
  | inertialVoteLost => exact execInertialVoteLost_kept rfl rfl rfl rfl faults_collector rfl rfl he
  | inertialRestore => exact execInertialRestore_kept rfl rfl rfl rfl faults_collector rfl rfl he
  | imuReadmit n =>
    exact execImuReadmit_kept n rfl rfl rfl rfl (faults_grp (grp_of_objects rfl rfl)) faults_collector
      (faults_grp (grp_of_objects rfl rfl)) rfl rfl he
  | speedContradiction =>
    exact execSpeedContradiction_kept rfl rfl rfl rfl (faults_grp (grp_of_objects rfl rfl)) faults_collector rfl rfl he
  | speedSourceReadmit a =>
    exact execSpeedSourceReadmit_kept a rfl rfl rfl rfl (faults_grp (grp_of_objects rfl rfl)) faults_collector rfl rfl
      he
  | wheelNoEdge k =>
    exact execWheelNoEdge_kept k rfl rfl rfl rfl (faults_grp (grp_of_objects rfl rfl)) faults_collector rfl rfl he
  | zeroVelocityUpdate => exact execZeroVelocityUpdate_kept rfl he
  | channelReadmit ch => exact execChannelReadmit_kept ch rfl rfl rfl rfl he
  | rtkCorrectionEpoch held ratio sats near => exact execRtkCorrectionEpoch_kept held ratio sats near rfl rfl rfl he
  | navHeadingRaise => exact execNavHeadingRaise_kept rfl rfl rfl faults_collector rfl rfl he
  | lineBiasStore l1 l5 => exact execLineBiasStore_kept l1 l5 rfl rfl rfl he
  | lineBiasReset who => exact execLineBiasReset_kept who rfl rfl rfl rfl rfl rfl rfl rfl rfl rfl rfl rfl he
  | alignLevel => exact execAlignLevel_kept rfl he
  | alignHeading => exact execAlignHeading_kept rfl rfl he
  | repropagationDone => exact execRepropagationDone_kept rfl rfl he
  | lateEvaluation =>
    exact execLateEvaluation_kept rfl rfl rfl rfl (faults_grp (grp_of_objects rfl rfl)) faults_collector rfl rfl he
  | deadReckoningEntry => exact execDeadReckoningEntry_kept rfl rfl he
  | deadReckoningLimit => exact execDeadReckoningLimit_kept rfl rfl rfl rfl faults_collector rfl rfl rfl he
  | inertialOnlyLimit => exact execInertialOnlyLimit_kept rfl rfl he
  | externalSpeedSample who j mt =>
    exact execExternalSpeedSample_kept who j mt rfl rfl rfl (grp_of_objects rfl rfl) rfl rfl rfl rfl rfl rfl he
  | slotCmdClose who n => exact execSlotCmdClose_kept who n rfl rfl rfl (idx_sk rfl (by rfl)) rfl rfl rfl rfl rfl rfl he
  | slotCmdOpen who n => exact execSlotCmdOpen_kept who n rfl rfl rfl (idx_sk rfl (by rfl)) rfl rfl rfl rfl rfl rfl he
  | slotCmdHold who n => exact execSlotCmdHold_kept who n rfl rfl rfl (idx_sk rfl (by rfl)) rfl rfl rfl rfl rfl rfl he
  | bankSelect who n b => exact execBankSelect_kept who n b rfl rfl rfl (idx_sk rfl (by rfl)) rfl rfl rfl rfl rfl rfl he
  | laneSelftestDone lane pass =>
    exact execLaneSelftestDone_kept lane pass rfl rfl rfl rfl rfl faults_collector (faults_grp (grp_of_objects rfl rfl))
      rfl rfl rfl he
  | testStart who n => exact execTestStart_kept who n rfl rfl rfl rfl rfl rfl rfl rfl rfl he
  | testStop who n => exact execTestStop_kept who n rfl rfl rfl rfl rfl rfl rfl rfl rfl he
  | testComplete n =>
    exact execTestComplete_kept n rfl (idx_sk rfl (by rfl)) (idx_sk rfl (by rfl)) (idx_sk rfl (by rfl)) he
  | peakReset who n => exact execPeakReset_kept who n rfl rfl (idx_sk rfl (by rfl)) rfl rfl rfl rfl rfl rfl he
  | captureArm who k =>
    exact execCaptureArm_kept who k rfl rfl rfl (idx_ck rfl (by rfl)) (idx_ck rfl (by rfl)) (idx_ck rfl (by rfl)) rfl
      rfl rfl rfl rfl rfl he
  | captureStop who k =>
    exact execCaptureStop_kept who k rfl rfl rfl (idx_ck rfl (by rfl)) (idx_ck rfl (by rfl)) (idx_ck rfl (by rfl)) rfl
      rfl rfl rfl rfl rfl he
  | captureForce who k =>
    exact execCaptureForce_kept who k rfl rfl rfl (idx_ck rfl (by rfl)) (idx_ck rfl (by rfl)) (idx_ck rfl (by rfl)) rfl
      rfl rfl rfl rfl rfl he
  | captureRow k => exact execCaptureRow_kept k rfl (idx_ck rfl (by rfl)) (idx_ck rfl (by rfl)) he
  | conductionEnd ch => exact execConductionEnd_kept ch rfl he
  | inrushWindowClose ch => exact execInrushWindowClose_kept ch rfl he
  | overcurrentTrip ch =>
    exact execOvercurrentTrip_kept ch rfl rfl rfl rfl (fun p => faults_idx (idx_xk rfl (by rfl) p))
      (fun p => faults_idx (idx_xk rfl (by rfl) p)) faults_collector rfl rfl he
  | shortTrip ch collapse =>
    exact execShortTrip_kept ch collapse rfl rfl rfl rfl (fun p => faults_idx (idx_xk rfl (by rfl) p))
      (fun p => faults_idx (idx_xk rfl (by rfl) p)) faults_collector rfl rfl he
  | lsOvercurrentTrip ch =>
    exact execLsOvercurrentTrip_kept ch rfl rfl rfl rfl (fun p => faults_idx (idx_xk rfl (by rfl) p))
      (fun p => faults_idx (idx_xk rfl (by rfl) p)) faults_collector rfl rfl he
  | openLoadOn ch =>
    exact execOpenLoadOn_kept ch rfl rfl rfl rfl (fun p => faults_idx (idx_xk rfl (by rfl) p)) faults_collector rfl rfl
      he
  | offStateTest ch level =>
    exact execOffStateTest_kept ch level rfl rfl rfl rfl (fun p => faults_idx (idx_xk rfl (by rfl) p)) faults_collector
      rfl rfl he
  | thermalAbsTrip ch =>
    exact execThermalAbsTrip_kept ch rfl rfl rfl rfl (fun p => faults_idx (idx_xk rfl (by rfl) p))
      (fun p => faults_idx (idx_xk rfl (by rfl) p)) faults_collector rfl rfl he
  | thermalDeltaTrip ch =>
    exact execThermalDeltaTrip_kept ch rfl rfl rfl rfl (fun p => faults_idx (idx_xk rfl (by rfl) p))
      (fun p => faults_idx (idx_xk rfl (by rfl) p)) faults_collector rfl rfl he
  | thermalLatchClear ch =>
    exact execThermalLatchClear_kept ch rfl rfl rfl rfl (fun p => faults_idx (idx_xk rfl (by rfl) p)) faults_collector
      rfl rfl he
  | senseMissing g selfFail =>
    exact execSenseMissing_kept g selfFail rfl rfl rfl rfl (fun p => faults_idx (idx_gk rfl (by rfl) p))
      (fun p => faults_idx (idx_gk rfl (by rfl) p)) faults_collector rfl rfl he
  | refDeviation ch => exact execRefDeviation_kept ch rfl rfl rfl rfl faults_collector rfl rfl he
  | retry ch =>
    exact execRetry_kept ch rfl rfl rfl rfl (fun p => faults_idx (idx_xk rfl (by rfl) p))
      (fun p => faults_idx (idx_xk rfl (by rfl) p)) faults_collector rfl rfl he
  | retryCounterReload ch => exact execRetryCounterReload_kept ch rfl (idx_xk rfl (by rfl)) he
  | channelRestart who ch =>
    exact execChannelRestart_kept who ch rfl rfl rfl rfl rfl (fun p => faults_idx (idx_xk rfl (by rfl) p))
      (fun p => faults_idx (idx_xk rfl (by rfl) p)) faults_collector rfl rfl rfl rfl rfl rfl rfl rfl he
  | groupGuardOff g =>
    exact execGroupGuardOff_kept g rfl rfl rfl rfl (fun p => faults_idx (idx_gk rfl (by rfl) p))
      (fun p => faults_idx (idx_gk rfl (by rfl) p)) faults_collector rfl rfl he
  | groupRestore g =>
    exact execGroupRestore_kept g rfl rfl rfl rfl (fun p => faults_idx (idx_gk rfl (by rfl) p))
      (fun p => faults_idx (idx_xk rfl (by rfl) p)) faults_collector rfl rfl he
  | dissipationEstimate base clamp =>
    exact execDissipationEstimate_kept base clamp rfl rfl rfl rfl (fun p => faults_idx (idx_gk rfl (by rfl) p))
      faults_collector rfl rfl rfl rfl rfl rfl he
  | cellSwap ch side failed verify dur =>
    exact execCellSwap_kept ch side failed verify dur rfl rfl rfl rfl rfl (fun p => faults_idx (idx_xk rfl (by rfl) p))
      faults_collector (faults_grp (grp_of_objects rfl rfl)) rfl rfl he
  | cellFaultTrip ch side short =>
    exact execCellFaultTrip_kept ch side short rfl rfl rfl rfl rfl rfl (fun p => faults_idx (idx_xk rfl (by rfl) p))
      (fun p => faults_idx (idx_xk rfl (by rfl) p)) (fun p => faults_idx (idx_xk rfl (by rfl) p)) faults_collector
      (faults_grp (grp_of_objects rfl rfl)) rfl rfl rfl he
  | permissionWithdraw ch =>
    exact execPermissionWithdraw_kept ch rfl rfl rfl rfl (fun p => faults_idx (idx_xk rfl (by rfl) p)) faults_collector
      rfl rfl he
  | permissionReturn ch =>
    exact execPermissionReturn_kept ch rfl rfl rfl rfl (fun p => faults_idx (idx_xk rfl (by rfl) p)) faults_collector
      rfl rfl he
  | switchLinkLoss g =>
    exact execSwitchLinkLoss_kept g rfl rfl rfl rfl (fun p => faults_idx (idx_gk rfl (by rfl) p))
      (fun p => faults_idx (idx_gk rfl (by rfl) p)) (fun p => faults_idx (idx_xk rfl (by rfl) p)) faults_collector rfl
      rfl he
  | switchLinkRestore g =>
    exact execSwitchLinkRestore_kept g rfl rfl rfl rfl (fun p => faults_idx (idx_gk rfl (by rfl) p))
      (fun p => faults_idx (idx_xk rfl (by rfl) p)) faults_collector rfl rfl he
  | railDisagreement =>
    exact execRailDisagreement_kept rfl rfl rfl rfl (faults_grp (grp_of_objects rfl rfl)) faults_collector rfl rfl he
  | foxgloveRegulatorFault dropout =>
    exact execFoxgloveRegulatorFault_kept dropout rfl rfl rfl rfl (faults_grp (grp_of_objects rfl rfl)) faults_collector
      rfl rfl he
  | safetyInputChange n high =>
    exact execSafetyInputChange_kept n high rfl rfl rfl rfl (faults_grp (grp_of_objects rfl rfl)) faults_collector rfl
      rfl he
  | inputPulseCheck n sup fail =>
    exact execInputPulseCheck_kept n sup fail rfl rfl rfl rfl (faults_grp (grp_of_objects rfl rfl)) faults_collector rfl
      rfl he
  | supplyPulseCheck sup fail =>
    exact execSupplyPulseCheck_kept sup fail rfl rfl rfl rfl (faults_grp (grp_of_objects rfl rfl))
      (faults_grp (grp_of_objects rfl rfl)) faults_collector rfl rfl he
  | discrepancy p =>
    exact execDiscrepancy_kept p rfl rfl rfl rfl (faults_grp (grp_of_objects rfl rfl)) faults_collector rfl rfl he
  | stopDelayExpire f =>
    exact execStopDelayExpire_kept f rfl rfl rfl rfl (faults_grp (grp_of_objects rfl rfl)) faults_collector rfl rfl he
  | resetPress n ms =>
    exact execResetPress_kept n ms rfl rfl rfl rfl (faults_grp (grp_of_objects rfl rfl))
      (faults_grp (grp_of_objects rfl rfl)) faults_collector rfl rfl he
  | resetStuck n =>
    exact execResetStuck_kept n rfl rfl rfl rfl (faults_grp (grp_of_objects rfl rfl)) faults_collector rfl rfl he
  | resetUnblock n =>
    exact execResetUnblock_kept n rfl rfl rfl rfl (faults_grp (grp_of_objects rfl rfl)) faults_collector rfl rfl he
  | darkPulse g ok counts =>
    exact execDarkPulse_kept g ok counts rfl rfl rfl rfl rfl (faults_grp (grp_of_objects rfl rfl)) faults_collector rfl
      rfl he
  | demandRequestWrite who v => exact execDemandRequestWrite_kept who v rfl rfl rfl rfl rfl rfl rfl rfl rfl he
  | safeSnsSample high counts =>
    exact execSafeSnsSample_kept high counts rfl rfl rfl rfl faults_collector rfl rfl rfl he
  | sealRead reading =>
    exact execSealRead_kept reading rfl rfl rfl rfl (faults_grp (grp_of_objects rfl rfl)) faults_collector rfl rfl he
  | stagingOpen who =>
    exact execStagingOpen_kept who rfl rfl rfl rfl rfl rfl (faults_grp (grp_of_objects rfl rfl)) faults_collector rfl
      rfl rfl rfl rfl rfl rfl rfl rfl he
  | stagingDiscard who =>
    exact execStagingDiscard_kept who rfl rfl rfl rfl rfl rfl (faults_grp (grp_of_objects rfl rfl)) faults_collector rfl
      rfl rfl rfl rfl rfl rfl rfl rfl he
  | rwsEdit who k v =>
    exact execRwsEdit_kept who k v rfl rfl rfl rfl rfl faults_collector rfl rfl rfl rfl rfl rfl rfl rfl he
  | sign who off data =>
    exact execSign_kept who off data rfl rfl rfl rfl rfl faults_collector rfl rfl rfl rfl rfl rfl rfl rfl rfl rfl rfl
      rfl rfl he
  | countersign who off data =>
    exact execCountersign_kept who off data rfl rfl rfl rfl rfl rfl (faults_grp (grp_of_objects rfl rfl))
      faults_collector rfl rfl rfl rfl rfl rfl rfl rfl rfl rfl rfl rfl rfl rfl rfl he
  | changeExpire =>
    exact execChangeExpire_kept rfl rfl rfl rfl rfl (faults_grp (grp_of_objects rfl rfl)) faults_collector rfl rfl rfl
      he
  | profileTransferDone crcOk => exact execProfileTransferDone_kept crcOk rfl rfl rfl rfl (fun _ => rfl) he
  | foxgloveSelftest pass =>
    exact execFoxgloveSelftest_kept pass rfl rfl rfl rfl (faults_grp (grp_of_objects rfl rfl)) faults_collector rfl rfl
      he
  | foxgloveProfileVerified crcOk =>
    exact execFoxgloveProfileVerified_kept crcOk rfl rfl rfl rfl (faults_grp (grp_of_objects rfl rfl)) faults_collector
      rfl rfl he
  | faultOccurrence src code => exact execFaultOccurrence_kept src code rfl rfl rfl faults_collector rfl rfl he
  | faultAutoClear src => exact execFaultAutoClear_kept src rfl rfl rfl faults_collector rfl rfl he
  | conseqModeEnd blk => exact execConseqModeEnd_kept blk rfl rfl rfl faults_collector rfl rfl he
  | stepDecay src => exact execStepDecay_kept src (grp_of_objects rfl rfl) he
  | blockReset b =>
    exact execBlockReset_kept b rfl rfl rfl rfl rfl (idx_ck rfl (by rfl)) (idx_ck rfl (by rfl)) (grp_of_objects rfl rfl)
      he
  | blockResetEnd b pass directed known near =>
    exact execBlockResetEnd_kept b pass directed known near rfl rfl rfl rfl rfl rfl rfl rfl rfl rfl rfl
      (fun p => faults_idx (idx_cank rfl (by rfl) p)) (faults_grp (grp_of_objects rfl rfl))
      (faults_grp (grp_of_objects rfl rfl)) faults_collector (faults_grp (grp_of_objects rfl rfl)) rfl rfl rfl he
  | chipReset =>
    exact execChipReset_kept rfl rfl rfl rfl rfl rfl rfl rfl rfl rfl rfl rfl rfl rfl rfl rfl rfl rfl rfl rfl rfl rfl
      (fun _ => rfl) he
  | chipResetEnd =>
    exact execChipResetEnd_kept rfl rfl rfl rfl rfl rfl (faults_grp (grp_of_objects rfl rfl)) faults_collector rfl rfl
      he
  | faultClearRequest who src =>
    exact execFaultClearRequest_kept who src rfl rfl rfl rfl faults_collector rfl rfl rfl rfl rfl rfl rfl rfl he
  | faultClearAll who =>
    exact execFaultClearAll_kept who rfl rfl rfl rfl faults_collector rfl rfl rfl rfl rfl rfl rfl rfl he
  | forceSet who src =>
    exact execForceSet_kept who src rfl rfl rfl rfl faults_collector rfl rfl rfl rfl rfl rfl rfl rfl he
  | forceClear who src =>
    exact execForceClear_kept who src rfl rfl rfl rfl faults_collector rfl rfl rfl rfl rfl rfl rfl rfl he
  | faultSnsSample high counts => exact execFaultSnsSample_kept high counts rfl rfl rfl faults_collector rfl rfl he
  | wearCrossing pool el gauge level v1 v2 => exact execWearCrossing_kept pool el gauge level v1 v2 rfl he
  | spareSwap pool el verify dur =>
    exact execSpareSwap_kept pool el verify dur rfl rfl rfl rfl rfl faults_collector
      (faults_grp (grp_of_objects rfl rfl)) rfl rfl he
  | sramBankCopy bank words verify dur =>
    exact execSramBankCopy_kept bank words verify dur rfl rfl rfl rfl rfl faults_collector
      (faults_grp (grp_of_objects rfl rfl)) rfl rfl he
  | elementSelftestDone pool el pass =>
    exact execElementSelftestDone_kept pool el pass rfl rfl rfl rfl rfl faults_collector
      (faults_grp (grp_of_objects rfl rfl)) rfl rfl he
  | spareTest pool el pass =>
    exact execSpareTest_kept pool el pass rfl rfl rfl rfl faults_collector (faults_grp (grp_of_objects rfl rfl)) rfl rfl
      he
  | sramScrub bank lastHour new sameWord =>
    exact execSramScrub_kept bank lastHour new sameWord rfl rfl rfl rfl faults_collector rfl rfl he
  | recordPost => exact execRecordPost_kept rfl rfl rfl faults_collector rfl rfl rfl rfl he
  | recordLost => exact execRecordLost_kept rfl rfl rfl rfl rfl he
  | archiveCopy ok => exact execArchiveCopy_kept ok rfl rfl rfl rfl faults_collector rfl rfl rfl he
  | heldClearWrite => exact execHeldClearWrite_kept rfl rfl rfl faults_collector rfl rfl rfl rfl he
  | recBankFail bank verify => exact execRecBankFail_kept bank verify rfl rfl rfl faults_collector rfl rfl rfl rfl he
  | recDualFail => exact execRecDualFail_kept rfl rfl rfl faults_collector rfl rfl rfl rfl rfl rfl he
  | dualFailReset who =>
    exact execDualFailReset_kept who rfl rfl rfl rfl faults_collector rfl rfl rfl rfl rfl rfl rfl rfl rfl he
  | recorderClear who => exact execRecorderClear_kept who rfl rfl rfl rfl rfl rfl rfl rfl rfl rfl rfl rfl rfl rfl rfl he
  | applicationRecord who value =>
    exact execApplicationRecord_kept who value rfl rfl rfl rfl faults_collector rfl rfl rfl rfl rfl rfl rfl rfl he
  | counterStore => exact execCounterStore_kept rfl he
  | packetReceive r bytes =>
    exact execPacketReceive_kept r bytes rfl rfl rfl rfl rfl faults_collector rfl rfl rfl rfl rfl rfl rfl rfl he
  | requestDequeue f =>
    exact execRequestDequeue_kept f rfl rfl rfl rfl rfl rfl rfl rfl rfl rfl rfl rfl rfl rfl rfl rfl rfl rfl rfl
      (fun _ => rfl) he
  | read who i sub off n => exact execRead_kept who i sub off n rfl rfl rfl rfl rfl rfl he
  | write who i sub off aux data f =>
    exact execWrite_kept who i sub off aux data f rfl rfl rfl rfl rfl rfl rfl rfl rfl rfl rfl rfl rfl rfl rfl rfl rfl
      rfl rfl (fun _ => rfl) he
  | subscribe who r cls divider => exact execSubscribe_kept who r cls divider rfl rfl he
  | unsubscribe who r cls => exact execUnsubscribe_kept who r cls rfl rfl he
  | nop data => exact execNop_kept data rfl he
  | outboundTransmit port =>
    exact execOutboundTransmit_kept port rfl rfl rfl rfl rfl rfl rfl faults_collector rfl rfl rfl rfl he
  | tagQuarantineEnd sp epoch tag => exact execTagQuarantineEnd_kept sp epoch tag rfl he
  | ucpSegmentReceive p node data =>
    exact execUcpSegmentReceive_kept p node data rfl rfl rfl rfl rfl faults_collector rfl rfl rfl rfl rfl rfl rfl rfl
      rfl he
  | ucpStreamTimeout p node stream => exact execUcpStreamTimeout_kept p node stream rfl rfl he
  | announce => exact execAnnounce_kept rfl rfl he
  | dupaddrClear => exact execDupaddrClear_kept rfl rfl rfl rfl faults_collector rfl rfl he
  | ethFrameForward p f => exact execEthFrameForward_kept p f rfl (grp_of_objects rfl rfl) he
  | ethLinkDown p =>
    exact execEthLinkDown_kept p rfl rfl rfl rfl faults_collector (faults_grp (grp_of_objects rfl rfl)) rfl he
  | ethLinkUp p quality =>
    exact execEthLinkUp_kept p quality rfl rfl rfl rfl faults_collector (faults_grp (grp_of_objects rfl rfl)) rfl he
  | ringTestSend =>
    exact execRingTestSend_kept rfl rfl rfl rfl rfl faults_collector (faults_grp (grp_of_objects rfl rfl)) rfl he
  | ringFrameReceive p kind node =>
    exact execRingFrameReceive_kept p kind node rfl rfl rfl rfl (faults_grp (grp_of_objects rfl rfl)) faults_collector
      (faults_grp (grp_of_objects rfl rfl)) rfl he
  | ringTestTimeout =>
    exact execRingTestTimeout_kept rfl rfl rfl rfl faults_collector (faults_grp (grp_of_objects rfl rfl)) rfl he
  | fleetSend who =>
    exact execFleetSend_kept who rfl rfl rfl rfl rfl faults_collector rfl rfl rfl rfl rfl rfl rfl rfl rfl rfl rfl he
  | fleetDeliver who =>
    exact execFleetDeliver_kept who rfl rfl rfl rfl rfl faults_collector rfl rfl rfl rfl rfl rfl rfl rfl rfl rfl rfl he
  | mapApply who => exact execMapApply_kept who rfl rfl rfl rfl rfl rfl rfl rfl rfl rfl he
  | appTableApply who => exact execAppTableApply_kept who rfl rfl rfl rfl rfl rfl rfl rfl rfl rfl he
  | canFrameReceive p f err =>
    exact execCanFrameReceive_kept p f err rfl rfl rfl rfl rfl rfl rfl faults_collector
      (faults_grp (grp_of_objects rfl rfl)) rfl rfl rfl rfl rfl rfl rfl rfl rfl he
  | canProtocolException p =>
    exact execCanProtocolException_kept p rfl rfl rfl rfl (fun p => faults_idx (idx_cank rfl (by rfl) p))
      (fun p => faults_idx (idx_cank rfl (by rfl) p)) faults_collector rfl rfl he
  | canRxTimeout p n => exact execCanRxTimeout_kept p n rfl he
  | canTxDue => exact execCanTxDue_kept rfl (idx_cank rfl (by rfl)) he
  | canFrameTransmit p err afterArb sof delay =>
    exact execCanFrameTransmit_kept p err afterArb sof delay rfl rfl rfl rfl faults_collector
      (faults_grp (grp_of_objects rfl rfl)) rfl rfl he
  | canBusOff p =>
    exact execCanBusOff_kept p rfl rfl rfl (fun p => faults_idx (idx_cank rfl (by rfl) p))
      (fun p => faults_idx (idx_cank rfl (by rfl) p)) faults_collector rfl rfl he
  | canRecoveryRequest who p =>
    exact execCanRecoveryRequest_kept who p rfl rfl rfl rfl (fun p => faults_idx (idx_cank rfl (by rfl) p))
      faults_collector rfl rfl rfl rfl rfl rfl rfl rfl he
  | canRecoveryDone p =>
    exact execCanRecoveryDone_kept p rfl rfl rfl (fun p => faults_idx (idx_cank rfl (by rfl) p))
      (fun p => faults_idx (idx_cank rfl (by rfl) p)) (fun p => faults_idx (idx_cank rfl (by rfl) p)) faults_collector
      rfl rfl he
  | canTimingApply who p =>
    exact execCanTimingApply_kept who p rfl rfl rfl rfl rfl (fun p => faults_idx (idx_cank rfl (by rfl) p))
      (fun p => faults_idx (idx_cank rfl (by rfl) p)) (fun p => faults_idx (idx_cank rfl (by rfl) p)) faults_collector
      rfl rfl rfl rfl rfl rfl rfl rfl he
  | canJoinCheckEnd p =>
    exact execCanJoinCheckEnd_kept p rfl rfl rfl rfl (fun p => faults_idx (idx_cank rfl (by rfl) p))
      (fun p => faults_idx (idx_cank rfl (by rfl) p)) (fun p => faults_idx (idx_cank rfl (by rfl) p)) faults_collector
      rfl rfl he
  | canTxdTimeout p =>
    exact execCanTxdTimeout_kept p rfl rfl rfl (fun p => faults_idx (idx_cank rfl (by rfl) p)) faults_collector rfl rfl
      he
  | canTableApply who mask =>
    exact execCanTableApply_kept who mask rfl rfl rfl (grp_of_objects rfl rfl) rfl rfl rfl rfl rfl rfl he
  | referenceMessageSend p => exact execReferenceMessageSend_kept p rfl he
  | canTimeLost p =>
    exact execCanTimeLost_kept p rfl rfl rfl (fun p => faults_idx (idx_cank rfl (by rfl) p)) faults_collector rfl rfl he
  | addressClaimSend p => exact execAddressClaimSend_kept p rfl he
  | addressHeld p => exact execAddressHeld_kept p (idx_cank rfl (by rfl)) (idx_cank rfl (by rfl)) he
  | cannotClaimSend p =>
    exact execCannotClaimSend_kept p rfl rfl rfl rfl (fun p => faults_idx (idx_cank rfl (by rfl) p)) faults_collector
      rfl rfl he
  | transportSessionTimeout p tx bam peer =>
    exact execTransportSessionTimeout_kept p tx bam peer rfl (idx_cank rfl (by rfl)) he
  | isoSend who p =>
    exact execIsoSend_kept who p rfl rfl rfl (idx_cank rfl (by rfl)) (idx_cank rfl (by rfl)) (idx_cank rfl (by rfl)) rfl
      rfl rfl rfl rfl rfl he
  | isoSendDone p => exact execIsoSendDone_kept p rfl (idx_cank rfl (by rfl)) (idx_cank rfl (by rfl)) he
  | canShadowCompare c differs hard => exact execCanShadowCompare_kept c differs hard rfl rfl he
  | canControllerSwap p verify dur transmitting =>
    exact execCanControllerSwap_kept p verify dur transmitting rfl rfl rfl rfl rfl rfl
      (fun p => faults_idx (idx_cank rfl (by rfl) p)) faults_collector (faults_grp (grp_of_objects rfl rfl)) rfl rfl he
  | canPortFailed p =>
    exact execCanPortFailed_kept p rfl rfl rfl rfl rfl (fun p => faults_idx (idx_cank rfl (by rfl) p))
      (fun p => faults_idx (idx_cank rfl (by rfl) p)) faults_collector (faults_grp (grp_of_objects rfl rfl)) rfl rfl he
  | hello r src data => exact execHello_kept r src data rfl rfl rfl rfl rfl faults_collector rfl rfl rfl rfl rfl he
  | finish n data => exact execFinish_kept n data rfl rfl rfl rfl faults_collector rfl rfl rfl rfl rfl rfl he
  | close n => exact execClose_kept n rfl rfl rfl rfl rfl faults_collector rfl rfl rfl rfl he
  | attest nonce => exact execAttest_kept nonce rfl he
  | handshakeTimeout n => exact execHandshakeTimeout_kept n rfl he
  | sessionIdleTimeout n => exact execSessionIdleTimeout_kept n rfl rfl rfl rfl rfl faults_collector rfl rfl rfl rfl he
  | sessionLifetimeEnd n => exact execSessionLifetimeEnd_kept n rfl rfl rfl rfl rfl faults_collector rfl rfl rfl rfl he
  | credentialExpiryCheck =>
    exact execCredentialExpiryCheck_kept rfl rfl rfl rfl rfl rfl faults_collector rfl rfl rfl rfl rfl he
  | endSession who n =>
    exact execEndSession_kept who n rfl rfl rfl rfl rfl rfl faults_collector rfl rfl rfl rfl rfl rfl rfl rfl rfl rfl he
  | lockoutEnd r => exact execLockoutEnd_kept r rfl he
  | revocationApply who =>
    exact execRevocationApply_kept who rfl rfl rfl rfl rfl rfl rfl rfl (faults_grp (grp_of_objects rfl rfl))
      faults_collector rfl rfl rfl rfl rfl rfl rfl rfl rfl rfl rfl rfl rfl rfl rfl he
  | anchorApply who =>
    exact execAnchorApply_kept who rfl rfl rfl rfl rfl rfl faults_collector rfl rfl rfl rfl rfl rfl rfl rfl rfl rfl rfl
      rfl rfl rfl rfl he
  | memberListApply who =>
    exact execMemberListApply_kept who rfl rfl rfl rfl rfl faults_collector rfl rfl rfl rfl rfl rfl rfl rfl rfl rfl rfl
      rfl rfl he
  | signedCommandExecute who f =>
    exact execSignedCommandExecute_kept who f rfl rfl rfl rfl rfl rfl rfl rfl rfl rfl rfl rfl rfl rfl rfl rfl rfl rfl
      rfl (fun _ => rfl) he
  | challengeRenew => exact execChallengeRenew_kept rfl rfl he
  | debugOpen who data =>
    exact execDebugOpen_kept who data rfl rfl rfl rfl rfl rfl faults_collector rfl rfl rfl rfl rfl rfl rfl rfl rfl rfl
      rfl he
  | debugClose who =>
    exact execDebugClose_kept who rfl rfl rfl rfl rfl faults_collector rfl rfl rfl rfl rfl rfl rfl rfl rfl he
  | debugTimeout => exact execDebugTimeout_kept rfl rfl rfl rfl faults_collector rfl rfl rfl he
  | debugLock who value =>
    exact execDebugLock_kept who value rfl rfl rfl rfl faults_collector rfl rfl rfl rfl rfl rfl rfl rfl rfl rfl he
  | configCommit who =>
    exact execConfigCommit_kept who rfl rfl rfl rfl rfl faults_collector rfl rfl rfl rfl rfl rfl rfl rfl rfl rfl rfl rfl
      rfl he
  | configReturn who v =>
    exact execConfigReturn_kept who v rfl rfl rfl rfl rfl rfl faults_collector rfl rfl rfl rfl rfl rfl rfl rfl rfl rfl
      rfl rfl rfl rfl he
  | configImport who f =>
    exact execConfigImport_kept who f rfl rfl rfl rfl rfl rfl rfl rfl rfl rfl rfl rfl rfl rfl rfl rfl rfl rfl rfl
      (fun _ => rfl) he
  | imageBlock who off data =>
    exact execImageBlock_kept who off data rfl rfl rfl rfl rfl faults_collector rfl rfl rfl rfl rfl rfl rfl rfl rfl rfl
      rfl rfl rfl rfl rfl he
  | imageVerify who built =>
    exact execImageVerify_kept who built rfl rfl rfl rfl rfl (faults_grp (grp_of_objects rfl rfl)) faults_collector rfl
      rfl rfl rfl rfl rfl rfl rfl rfl rfl he
  | armA who =>
    exact execArmA_kept who rfl rfl rfl rfl rfl faults_collector rfl rfl rfl rfl rfl rfl rfl rfl rfl rfl rfl rfl rfl rfl
      rfl he
  | armN who =>
    exact execArmN_kept who rfl rfl rfl rfl rfl faults_collector rfl rfl rfl rfl rfl rfl rfl rfl rfl rfl rfl rfl rfl rfl
      rfl he
  | activateNow who =>
    exact execActivateNow_kept who rfl rfl rfl rfl rfl faults_collector rfl rfl rfl rfl rfl rfl rfl rfl rfl rfl rfl rfl
      rfl rfl rfl he
  | disarmReject who =>
    exact execDisarmReject_kept who rfl rfl rfl rfl rfl faults_collector rfl rfl rfl rfl rfl rfl rfl rfl rfl rfl rfl rfl
      rfl rfl rfl he
  | updateDiscard who =>
    exact execUpdateDiscard_kept who rfl rfl rfl rfl rfl faults_collector rfl rfl rfl rfl rfl rfl rfl rfl rfl rfl rfl
      rfl rfl rfl rfl he
  | updateConfirm who =>
    exact execUpdateConfirm_kept who rfl rfl rfl rfl rfl (faults_grp (grp_of_objects rfl rfl)) faults_collector rfl rfl
      rfl rfl rfl rfl rfl rfl rfl rfl rfl rfl rfl he
  | trialHealthy =>
    exact execTrialHealthy_kept rfl rfl rfl rfl (faults_grp (grp_of_objects rfl rfl)) faults_collector rfl rfl rfl rfl
      rfl rfl rfl he
  | classNActivate => exact execClassNActivate_kept rfl rfl rfl rfl faults_collector rfl rfl rfl rfl rfl rfl rfl rfl he
  | start rtc root slots pass0 pass1 bad fails directed known near =>
    exact execStart_kept rtc root slots pass0 pass1 bad fails directed known near rfl rfl rfl rfl rfl rfl rfl rfl rfl
      rfl rfl rfl rfl rfl rfl rfl rfl rfl rfl rfl rfl rfl rfl rfl (fun _ => rfl) he
  | startComplete =>
    exact execStartComplete_kept rfl rfl rfl rfl rfl rfl rfl rfl (fun p => faults_idx (idx_gk rfl (by rfl) p))
      (fun p => faults_idx (idx_xk rfl (by rfl) p)) (faults_grp (grp_of_objects rfl rfl)) faults_collector rfl rfl rfl
      rfl rfl rfl rfl rfl he
  | standbyRequest who => exact execStandbyRequest_kept who rfl rfl rfl rfl rfl rfl rfl rfl rfl he
  | configureRequest who => exact execConfigureRequest_kept who rfl rfl rfl rfl rfl rfl rfl rfl rfl he
  | runRequest who => exact execRunRequest_kept who rfl rfl rfl rfl rfl rfl rfl rfl rfl he
  | limpRequest who => exact execLimpRequest_kept who rfl rfl rfl rfl rfl rfl rfl rfl rfl he
  | safeHoldRequest who => exact execSafeHoldRequest_kept who rfl rfl rfl rfl rfl rfl rfl rfl rfl he
  | serviceRequest who => exact execServiceRequest_kept who rfl rfl rfl rfl rfl rfl rfl rfl rfl he
  | restartRequest who => exact execRestartRequest_kept who rfl rfl rfl rfl rfl rfl rfl rfl rfl he
  | autoStateChange =>
    exact execAutoStateChange_kept rfl rfl rfl rfl rfl rfl rfl rfl (fun p => faults_idx (idx_xk rfl (by rfl) p))
      (faults_grp (grp_of_objects rfl rfl)) faults_collector rfl rfl rfl rfl rfl rfl rfl he
  | holdupSave trig vlBack =>
    exact execHoldupSave_kept trig vlBack rfl rfl rfl rfl rfl rfl rfl rfl rfl rfl rfl rfl rfl rfl rfl
      (fun p => faults_idx (idx_ck rfl (by rfl) p)) (fun p => faults_idx (idx_ck rfl (by rfl) p))
      (fun p => faults_idx (idx_xk rfl (by rfl) p)) (faults_grp (grp_of_objects rfl rfl))
      (faults_grp (grp_of_objects rfl rfl)) faults_collector (faults_grp (grp_of_objects rfl rfl)) rfl rfl rfl rfl rfl
      rfl rfl rfl rfl rfl rfl rfl rfl rfl rfl rfl rfl rfl rfl rfl rfl rfl rfl he
  | afterRunExpire =>
    exact execAfterRunExpire_kept rfl rfl rfl rfl rfl rfl rfl rfl (fun p => faults_idx (idx_xk rfl (by rfl) p))
      (faults_grp (grp_of_objects rfl rfl)) faults_collector rfl rfl rfl rfl rfl rfl rfl rfl he
  | wake src =>
    exact execWake_kept src rfl rfl rfl rfl rfl (faults_grp (grp_of_objects rfl rfl))
      (faults_grp (grp_of_objects rfl rfl)) faults_collector rfl rfl rfl rfl rfl rfl rfl rfl rfl he
  | vlRise mv =>
    exact execVlRise_kept mv rfl rfl rfl rfl rfl (faults_grp (grp_of_objects rfl rfl))
      (faults_grp (grp_of_objects rfl rfl)) faults_collector rfl rfl rfl rfl rfl rfl rfl rfl rfl rfl he
  | vlPrechargeTimeout => exact execVlPrechargeTimeout_kept rfl rfl he
  | holdupStoreReady mv => exact execHoldupStoreReady_kept mv rfl rfl he
  | vbakMeasure vbak vl ma =>
    exact execVbakMeasure_kept vbak vl ma rfl rfl rfl rfl faults_collector rfl rfl rfl rfl rfl rfl rfl he
  | vbPrecharge g mv => exact execVbPrecharge_kept g mv (idx_gk rfl (by rfl)) (idx_gk rfl (by rfl)) he
  | vlLow code mv => exact execVlLow_kept code mv rfl rfl rfl rfl faults_collector rfl rfl rfl rfl rfl he
  | presentMake => exact execPresentMake_kept rfl rfl rfl rfl he
  | presentBreak closed => exact execPresentBreak_kept closed rfl rfl (idx_gk rfl (by rfl)) rfl rfl rfl he
  | addressRead pins agree => exact execAddressRead_kept pins agree rfl rfl rfl rfl he
  | addressChange pins => exact execAddressChange_kept pins rfl rfl he
  | wakeInLevel high => exact execWakeInLevel_kept high rfl he
  | statusPinOvercurrent pin over_ => exact execStatusPinOvercurrent_kept pin over_ rfl he
  | foxgloveRegulatorRecover =>
    exact execFoxgloveRegulatorRecover_kept rfl rfl rfl rfl (faults_grp (grp_of_objects rfl rfl))
      (faults_grp (grp_of_objects rfl rfl)) faults_collector rfl rfl he
  | vbakSupplyMonitorTrip => exact execVbakSupplyMonitorTrip_kept rfl he
  | randomSourceHealthFail => exact execRandomSourceHealthFail_kept rfl rfl rfl faults_collector rfl rfl rfl he
  | dieTempExceed hot => exact execDieTempExceed_kept hot rfl rfl rfl faults_collector rfl rfl he
  | hollyhockRailMismatch disagree =>
    exact execHollyhockRailMismatch_kept disagree rfl rfl rfl faults_collector rfl rfl he
  | lupinRailMismatch => exact execLupinRailMismatch_kept rfl rfl rfl faults_collector rfl rfl he
  | sramUncorrectableError bank word =>
    exact execSramUncorrectableError_kept bank word rfl rfl rfl faults_collector rfl rfl rfl he
  | supplyMonitorFault faulty => exact execSupplyMonitorFault_kept faulty rfl rfl rfl faults_collector rfl rfl he
  | activationTimeMissed => exact execActivationTimeMissed_kept rfl rfl rfl faults_collector rfl rfl he
  | vlPrechargeRetry => exact execVlPrechargeRetry_kept rfl he
  | icmpv6MessageReceive p typ src target data =>
    exact execIcmpv6MessageReceive_kept p typ src target data rfl (grp_of_objects rfl rfl) he
  | ringManagerTimeout => exact execRingManagerTimeout_kept rfl rfl rfl rfl faults_collector rfl rfl rfl rfl he
  | openLoadClear ch => exact execOpenLoadClear_kept ch rfl rfl rfl rfl faults_collector rfl rfl he
  | refDevClear ch => exact execRefDevClear_kept ch rfl rfl rfl rfl faults_collector rfl rfl he
  | chainBackInUse c =>
    exact execChainBackInUse_kept c rfl rfl rfl rfl (faults_grp (grp_of_objects rfl rfl)) faults_collector rfl rfl he
  | headingFixTimeout => exact execHeadingFixTimeout_kept rfl he
  | ambiguityDiscard => exact execAmbiguityDiscard_kept rfl rfl he
  | canShadowRotate c => exact execCanShadowRotate_kept c rfl he

/-- Settles O4, by cases over the commands: each stays inside its listed footprint. -/
theorem commandsFrame : Obligations.CommandsFrame := by
  intro i s t he
  exact exec_kept_foot he

end Sys2Proof.Machine
end

section
/-! SUPPORT. A step carries out the front of the queue (O1), and a partition's write to an entry that it does not own is a
bus error and nothing else (R21, O28). -/

namespace Sys2Proof.Machine

open Sys2Proof

/-! ### A step and the queue -/

theorem step_of_pending_cons {s : State} {c : Instr} {rest : List Instr} (h : s.pending = c :: rest) :
    step s = exec c { s with pending := rest } := by
  simp only [step, h]

theorem step_of_pending_nil {s : State} (h : s.pending = []) : step s = .next s := by
  simp only [step, h]

/-- Settles O1: the queue is empty or has a front, and `step` decides by that alone. -/
theorem stepRunsFront : Obligations.StepRunsFront :=
  fun _ => ⟨fun _ _ => step_of_pending_cons, step_of_pending_nil⟩

/-! ### Bus errors, one after another -/

theorem clampN_eq_min (hi x : Nat) : clampN hi x = min hi x := by
  unfold clampN
  split <;> omega

/-- A bus error moves no entry of the output image and changes no owner. -/
@[simp] theorem outField_appBusError (s : State) (off : Nat) : (appBusError s).outField off = s.outField off := rfl

theorem img_iterate_appBusError (n : Nat) (s : State) : (appBusError^[n] s).img = s.img := by
  induction n generalizing s with
  | zero => rfl
  | succ n ih => exact ih (appBusError s)

/-- The count of a run of bus errors stops at its limit (R7), as that of one does. -/
theorem get_iterate_appBusError (n : Nat) (s : State) :
    (appBusError^[n + 1] s).get (ob 0x1400 5) = min 0xFFFFFFFF (s.get (ob 0x1400 5) + (n + 1)) := by
  induction n generalizing s with
  | zero => simp [appBusError, clampN_eq_min]
  | succ n ih =>
    rw [Function.iterate_succ_apply, ih]
    simp only [appBusError, State.get_inc32, clampN_eq_min]
    omega

/-! ### Writes to entries of another owner -/

/-- An entry of the output image lies at the offset, and another than partition p owns it. -/
def State.EntryOfOther (s : State) (p off : Nat) : Prop := ∃ o n, s.outField off = some (o, n) ∧ o ≠ p

theorem State.EntryOfOther.after_appBusError {s : State} {p off : Nat} (h : s.EntryOfOther p off) :
    (appBusError s).EntryOfOther p off := by
  simpa only [State.EntryOfOther, outField_appBusError] using h

theorem writeField_of_entryOfOther {s : State} {p : Nat} {e : Nat × Nat} (h : s.EntryOfOther p e.1) :
    State.writeField p s e = appBusError s := by
  obtain ⟨o, n, hfield, howner⟩ := h
  simp only [State.writeField, hfield, if_neg howner]

/-- Writes that all go to entries of other owners are as many bus errors. -/
theorem foldl_writeField_of_entryOfOther {p : Nat} {l : List (Nat × Nat)} :
    ∀ {s : State}, (∀ e ∈ l, s.EntryOfOther p e.1) → l.foldl (State.writeField p) s = appBusError^[l.length] s := by
  induction l with
  | nil => exact fun _ => rfl
  | cons e l ih =>
    intro s h
    obtain ⟨he, hl⟩ := List.forall_mem_cons.mp h
    rw [List.foldl_cons, writeField_of_entryOfOther he, ih fun x hx => (hl x hx).after_appBusError, List.length_cons,
      Function.iterate_succ_apply]

/-! ### What a commit does beyond its writes -/

/-- Inside the footprint of a fault. -/
theorem State.piFollow_faults (s : State) : Kept ({} : Foot).faults s s.piFollow :=
  State.piFollow_kept s rfl rfl rfl faults_collector rfl rfl (Kept.refl _ s)

@[simp] theorem State.piFollow_img (s : State) : s.piFollow.img = s.img := s.piFollow_faults.img_eq rfl

theorem State.piFollow_get (s : State) {k : Nat} (h : faultKey k = false) : s.piFollow.get k = s.get k :=
  s.piFollow_faults.get_eq (by simpa [Foot.faults, faultKey] using h)

/-- The commit itself leaves the image as the writes left it. -/
theorem img_piCommit {s : State} {p : Nat} (l : List (Nat × Nat)) (h : s.partRuns p = true) :
    (piCommit p l s).img = (l.foldl (State.writeField p) s).img := by
  simp [piCommit, h]

/-- The commit itself leaves every object that is not the collector's as the writes left it. -/
theorem get_piCommit {s : State} {p k : Nat} (l : List (Nat × Nat)) (h : s.partRuns p = true) (hk : faultKey k = false) :
    (piCommit p l s).get k = (l.foldl (State.writeField p) s).get k := by
  simp [piCommit, h, State.settle_get, State.piFollow_get, hk]

/-- Settles O28: the writes are bus errors, one for each, and the commit that follows them touches neither the write
view nor their count. -/
theorem unownedEntryStays : Obligations.UnownedEntryStays := by
  intro s p l hruns hne hother
  have hwrites : l.foldl (State.writeField p.val) s = appBusError^[l.length] s := foldl_writeField_of_entryOfOther hother
  refine ⟨piCommit p.val l s, rfl, ?_, ?_⟩
  · rw [img_piCommit l hruns, hwrites, img_iterate_appBusError]
  · obtain ⟨e, rest, rfl⟩ := List.exists_cons_of_ne_nil hne
    rw [get_piCommit _ hruns (faultKey_ob _ _ (by decide) (by decide) (by decide)), hwrites, List.length_cons,
      get_iterate_appBusError]

end Sys2Proof.Machine
end

section
/-! SUPPORT. Time and clocks, the layer that the statements O5 to O10 use: rounding and stored fields as numbers, and what
each operation of the time chapter leaves alone. -/

namespace Sys2Proof.Machine

open Sys2Proof

/-! ### Numbers -/

/-- Rounding errs by at most a half. -/
theorem Q.roundAway_near {a : Q} (h : 0 < a.den) : 2 * |(a.den : Int) * a.roundAway - a.num| ≤ a.den := by
  obtain ⟨n, d⟩ := a
  simp only at h
  have hle := Nat.div_mul_le_self (2 * n.natAbs + d) (2 * d)
  have hlt := Nat.lt_div_mul_add (a := 2 * n.natAbs + d) (b := 2 * d) (by omega)
  simp only [Q.roundAway]
  generalize (2 * n.natAbs + d) / (2 * d) = m at hle hlt
  have hm : m * (2 * d) = 2 * (d * m) := by ring
  rw [hm] at hle hlt
  split
  · next hn =>
    rw [show (d : Int) * -(m : Int) - n = -(((d * m : Nat) : Int) + n) by push_cast; ring, abs_neg]
    generalize d * m = p at hle hlt
    have := abs_cases ((p : Int) + n)
    omega
  · next hn =>
    rw [show (d : Int) * (m : Int) - n = ((d * m : Nat) : Int) - n by push_cast; ring]
    generalize d * m = p at hle hlt
    have := abs_cases ((p : Int) - n)
    omega

/-- The fraction in lowest terms is the same fraction. -/
theorem Q.mk'_scaled (n : Int) {d : Nat} (h : 0 < d) :
    ∃ g : Nat, 0 < g ∧ n = g * (Q.mk' n d).num ∧ d = g * (Q.mk' n d).den ∧ 0 < (Q.mk' n d).den := by
  have hg : 0 < n.natAbs.gcd d := Nat.gcd_pos_of_pos_right _ h
  have hd : d = n.natAbs.gcd d * (d / n.natAbs.gcd d) := (Nat.mul_div_cancel' (Nat.gcd_dvd_right _ _)).symm
  refine ⟨n.natAbs.gcd d, hg, ?_⟩
  simp only [Q.mk', h.ne', hg.ne', if_false]
  refine ⟨(Int.mul_ediv_cancel' (Int.natCast_dvd.mpr (Nat.gcd_dvd_left _ _))).symm, hd, ?_⟩
  exact Nat.pos_of_mul_pos_left (hd ▸ h)

/-- A quotient that is rounded errs by at most half its divisor. -/
theorem Q.roundAway_mk'_near (n : Int) {d : Nat} (h : 0 < d) : 2 * |(d : Int) * (Q.mk' n d).roundAway - n| ≤ d := by
  obtain ⟨g, hg, hn, hd, hpos⟩ := Q.mk'_scaled n h
  have near := Q.roundAway_near hpos
  generalize Q.mk' n d = q at hn hd near
  rw [hn, hd]
  calc 2 * |((g * q.den : Nat) : Int) * q.roundAway - g * q.num|
      = g * (2 * |(q.den : Int) * q.roundAway - q.num|) := by
        rw [show ((g * q.den : Nat) : Int) * q.roundAway - g * q.num = g * ((q.den : Int) * q.roundAway - q.num) by
          push_cast; ring, abs_mul, Nat.abs_cast]; ring
    _ ≤ ((g * q.den : Nat) : Int) := by push_cast; exact Int.mul_le_mul_of_nonneg_left near (by omega)

theorem Q.roundAway_mk'_bounds (n : Int) {d : Nat} (h : 0 < d) :
    2 * n - d ≤ 2 * (d * (Q.mk' n d).roundAway) ∧ 2 * (d * (Q.mk' n d).roundAway) ≤ 2 * n + d := by
  have near := Q.roundAway_mk'_near n h
  have lower := neg_abs_le ((d : Int) * (Q.mk' n d).roundAway - n)
  have upper := le_abs_self ((d : Int) * (Q.mk' n d).roundAway - n)
  constructor <;> linarith

theorem clampI_of_mem {lo hi x : Int} (h1 : lo ≤ x) (h2 : x ≤ hi) : clampI lo hi x = x := by
  unfold clampI; split_ifs <;> omega

theorem le_clampI {lo hi x : Int} (h : lo ≤ hi) : lo ≤ clampI lo hi x := by unfold clampI; split_ifs <;> omega
theorem clampI_le {lo hi x : Int} (h : lo ≤ hi) : clampI lo hi x ≤ hi := by unfold clampI; split_ifs <;> omega

/-- A value inside a narrower interval is not clamped by a wider one. -/
theorem clampI_clampI {lo hi lo' hi' : Int} (x : Int) (h1 : lo' ≤ lo) (h : lo ≤ hi) (h2 : hi ≤ hi') :
    clampI lo' hi' (clampI lo hi x) = clampI lo hi x :=
  clampI_of_mem (h1.trans (le_clampI h)) ((clampI_le h).trans h2)

theorem signed_i16bits {x : Int} (h1 : -32768 ≤ x) (h2 : x ≤ 32767) : signed 16 (i16bits x) = x := by
  unfold signed i16bits; norm_num; split <;> omega

theorem i64bits_signed {n : Nat} (h : n < 2 ^ 64) : i64bits (signed 64 n) = n := by
  unfold signed i64bits; norm_num at h ⊢; split <;> omega

theorem i64bits_lt (x : Int) : i64bits x < 2 ^ 64 := by unfold i64bits; norm_num; omega

/-- A stored number is read as its two's-complement field was written. -/
theorem signed_i64bits_signed (n : Nat) : signed 64 (i64bits (signed 64 n)) = signed 64 n := by
  have h : signed 64 n = signed 64 (n % 2 ^ 64) := by simp [signed]
  rw [h, i64bits_signed (Nat.mod_lt _ (by norm_num))]

theorem signed_16_of_small {n : Nat} (h : n < 32768) : signed 16 n = n := by
  unfold signed; norm_num; split <;> omega

theorem clampN_le (hi x : Nat) : clampN hi x ≤ hi := by unfold clampN; split <;> omega

/-! ### Objects of the time chapter -/

/-- Objects are read past the clock. -/
theorem State.get_tm (s : State) (x : TimeSt) (k : Nat) : ({ s with tm := x } : State).get k = s.get k := rfl

@[simp] theorem tk_inj {a b : Nat} : tk a = tk b ↔ a % 256 = b % 256 := by unfold tk ob; omega

/-- No object of the time chapter is the collector's. -/
@[simp] theorem faultKey_tk (sub : Nat) : faultKey (tk sub) = false :=
  faultKey_ob _ _ (by decide) (by decide) (by decide)

/-- A level source with a number of its own follows its condition. -/
theorem State.follow_raw_eq (s : State) {src : Nat} (on : Bool) (code : Nat) (h : src < 512) (h1 : src ≠ srcREC_LOST)
    (h2 : src ≠ srcUCP_EVQ) : (s.follow src on code).raw src = on :=
  s.follow_eq src on code (fun e => h1 (stKey_inj h (by decide) e)) (fun e => h2 (stKey_inj h (by decide) e))

/-! ### CAL_OFF -/

@[simp] theorem State.setCal_tm (s : State) (v : Int) (subject : Nat) : (s.setCal v subject).tm = s.tm := by
  unfold State.setCal; dsimp only; split <;> simp

theorem State.setCal_get (s : State) (v : Int) (subject : Nat) {k : Nat} (h : faultKey k = false) :
    (s.setCal v subject).get k = (s.putI64 (tk 5) v).get k := by
  unfold State.setCal
  dsimp only
  split
  · exact State.post_get _ _ _ _ _ _ h
  · rfl

/-- Recomputing CAL_OFF notes at most that it has been done. -/
theorem State.recomputeCal_tm (s : State) (subject : Nat) :
    (s.recomputeCal subject).tm = s.tm ∨ (s.recomputeCal subject).tm = { s.tm with stepCal := false } := by
  unfold State.recomputeCal
  split
  · right; dsimp only; split <;> simp
  · exact .inl rfl

@[simp] theorem State.recomputeCal_mt (s : State) (subject : Nat) : (s.recomputeCal subject).tm.mt = s.tm.mt := by
  rcases s.recomputeCal_tm subject with h | h <;> rw [h]

@[simp] theorem State.recomputeCal_pps (s : State) (subject : Nat) : (s.recomputeCal subject).tm.pps = s.tm.pps := by
  rcases s.recomputeCal_tm subject with h | h <;> rw [h]

theorem State.recomputeCal_get (s : State) (subject : Nat) {k : Nat} (h : faultKey k = false) (hk : k ≠ tk 5) :
    (s.recomputeCal subject).get k = s.get k := by
  unfold State.recomputeCal
  split
  · dsimp only
    split
    · rfl
    · rw [State.setCal_get _ _ _ h, State.get_putI64_ne _ _ hk, State.get_tm]
  · rfl

/-- Where the module computes CAL_OFF, it stands afterwards where G_OFF and L put it (R35). -/
theorem State.recomputeCal_calOff {s : State} (subject : Nat) (h : s.tcfg 6 = 0) (hf : s.timeState ≠ tsFREE) :
    (s.recomputeCal subject).getI64 (tk 5) =
      signed 64 (i64bits (s.goff + (gpsUnix - s.getI16 (tk 7)) * 1000000000)) := by
  unfold State.recomputeCal
  rw [if_pos (by simp [h, hf])]
  dsimp only
  split
  · next he => rw [he]; exact (signed_i64bits_signed _).symm
  · unfold State.getI64
    rw [State.setCal_get _ _ _ (faultKey_tk 5), State.get_putI64]

/-! ### The discipline (R38) -/

/-- The rate moves against the frequency error, within what one second and the whole correction may be. -/
theorem State.discipline_rate (s : State) (b d : Int) : (s.discipline b d).get (tk 9) =
    i32bits (clampI (-10000000) 10000000 (s.rate + clampI (-10000) 10000 (-d))) := by
  have h : (s.putI32 (tk 9) (clampI (-10000000) 10000000 (s.rate + clampI (-10000) 10000 (-d)))).get (tk 9) =
      i32bits (clampI (-10000000) 10000000 (s.rate + clampI (-10000) 10000 (-d))) := by
    rw [State.get_putI32, clampI_clampI _ (by norm_num) (by norm_num) (by norm_num)]
  unfold State.discipline
  dsimp only
  split
  · rw [State.get_tm, State.get_putI64_ne _ _ (by simp), h]
  · rw [State.get_tm, h]

/-- A phase error below 1,000 ns is slewed away. -/
theorem State.discipline_slew {b : Int} (s : State) (d : Int) (h : b.natAbs < 1000) :
    (s.discipline b d).get (tk 4) = i64bits (s.goff - clampI (-(s.tcfg 0x11 : Int)) (s.tcfg 0x11) b) ∧
      (s.discipline b d).tm = { s.tm with slewing := decide ((s.tcfg 0x11 : Int) < (b.natAbs : Int)) } := by
  unfold State.discipline
  simp only [if_pos h]
  exact ⟨by rw [State.get_tm, State.get_putI64], rfl⟩

/-- A larger one leaves G_OFF and decides a step. -/
theorem State.discipline_step {b : Int} (s : State) (d : Int) (h : 1000 ≤ b.natAbs) :
    (s.discipline b d).get (tk 4) = s.get (tk 4) ∧ ∃ sec, (s.discipline b d).tm =
      { s.tm with step := some (-b, sec), stepPulse := some sec, slewing := false, reported := false } := by
  unfold State.discipline
  simp only [if_neg (Nat.not_lt.mpr h)]
  exact ⟨by rw [State.get_tm, State.get_putI32_ne _ _ (by simp)], _, rfl⟩

@[simp] theorem State.discipline_mt (s : State) (b d : Int) : (s.discipline b d).tm.mt = s.tm.mt := by
  rcases Nat.lt_or_ge b.natAbs 1000 with h | h
  · rw [(s.discipline_slew d h).2]
  · obtain ⟨-, sec, ht⟩ := s.discipline_step d h
    rw [ht]

@[simp] theorem State.discipline_timeState (s : State) (b d : Int) : (s.discipline b d).timeState = s.timeState :=
  (State.discipline_kept (F := { tm := true, idx := fun k => decide (k = tk 4 ∨ k = tk 9) }) s b d rfl (by simp) (by simp)
    (Kept.refl _ s)).get_eq (k := tk 3) (by simp)

/-! ### A step of G_OFF (R40) -/

/-- The objects that a step writes. -/
def State.stepObjects (s : State) (size : Int) : State :=
  ((s.putI64 (tk 4) (s.goff + size)).inc32 (tk 0x12)).putI64 (tk 0x13) size

theorem State.stepObjects_goff (s : State) (size : Int) : (s.stepObjects size).get (tk 4) = i64bits (s.goff + size) := by
  rw [State.stepObjects, State.get_putI64_ne _ _ (by simp), State.get_inc32_ne _ (by simp), State.get_putI64]

theorem State.stepObjects_count (s : State) (size : Int) :
    (s.stepObjects size).get (tk 0x12) = clampN 0xFFFFFFFF (s.get (tk 0x12) + 1) := by
  rw [State.stepObjects, State.get_putI64_ne _ _ (by simp), State.get_inc32, State.get_putI64_ne _ _ (by simp)]

theorem State.stepObjects_get_ne (s : State) (size : Int) {k : Nat} (h4 : k ≠ tk 4) (h12 : k ≠ tk 0x12) (h13 : k ≠ tk 0x13) :
    (s.stepObjects size).get k = s.get k := by
  rw [State.stepObjects, State.get_putI64_ne _ _ h13, State.get_inc32_ne _ h12, State.get_putI64_ne _ _ h4]

theorem State.applyStep_of_none {s : State} (h : s.tm.step = none) : s.applyStep = s := by
  unfold State.applyStep; rw [h]

/-- A step that has been decided: its objects, its record, and TIME_STEP. -/
theorem State.applyStep_of_some {s : State} {size : Int} {sec : Nat} (h : s.tm.step = some (size, sec)) :
    ∃ t : State, s.applyStep = (t.post 6 0 0 0 [⟨6, 0, i64bits size⟩]).raise srcTIME_STEP 0 ∧
      (∀ k, t.get k = (s.stepObjects size).get k) ∧ t.tm = { s.tm with step := none, stepCal := true } := by
  unfold State.applyStep
  rw [h]
  refine ⟨_, rfl, fun k => ?_, ?_⟩ <;> dsimp only <;> split <;> rfl

theorem State.applyStep_get {s : State} {size : Int} {sec k : Nat} (h : s.tm.step = some (size, sec))
    (hk : faultKey k = false) : s.applyStep.get k = (s.stepObjects size).get k := by
  obtain ⟨t, ht, hget, -⟩ := State.applyStep_of_some h
  rw [ht, State.raise_get _ _ _ hk, State.post_get _ _ _ _ _ _ hk, hget]

theorem State.applyStep_tm {s : State} {size : Int} {sec : Nat} (h : s.tm.step = some (size, sec)) :
    s.applyStep.tm = { s.tm with step := none, stepCal := true } := by
  obtain ⟨t, ht, -, htm⟩ := State.applyStep_of_some h
  rw [ht, State.raise_tm, State.post_tm, htm]

theorem State.applyStep_raw {s : State} {size : Int} {sec : Nat} (h : s.tm.step = some (size, sec)) :
    s.applyStep.raw srcTIME_STEP = true := by
  obtain ⟨t, ht, -⟩ := State.applyStep_of_some h
  rw [ht, State.raise_raw]

/-- Whether or not a step waits, it leaves all of the clock but the two notes about steps. -/
theorem State.applyStep_clock (s : State) :
    ∃ step stepCal, s.applyStep.tm = { s.tm with step := step, stepCal := stepCal } := by
  cases h : s.tm.step with
  | none => exact ⟨none, s.tm.stepCal, by rw [State.applyStep_of_none h, ← h]⟩
  | some p => exact ⟨_, _, State.applyStep_tm h⟩

end Sys2Proof.Machine
end

section
/-! SUPPORT. Time and clocks settled: the stores (O9), the calendar (O8), steps of G_OFF and the pulse (O6), the pulse's
report (O7), a delivery in LOCKED (O10) and the second boundary (O5). -/

namespace Sys2Proof.Machine

open Sys2Proof

/-! ### The time stores -/

/-- Settles O9: both commands are one write each. -/
theorem timeStores : Obligations.TimeStores := by
  intro s
  refine ⟨rfl, fun x => ⟨standbyOscMeasure x s, rfl, ?_, fun k hk => State.get_putI32_ne _ _ hk, rfl, rfl⟩⟩
  rw [standbyOscMeasure, State.get_putI32, clampI_clampI _ (by norm_num) (by norm_num) (by norm_num)]

/-! ### Leap seconds and the clock setting -/

/-- L stands in 0 to 255, so that the signed field reads as it was written. -/
theorem getI16_leap (s : State) (l : Nat) : (s.put (tk 7) (clampN 255 l)).getI16 (tk 7) = (clampN 255 l : Int) := by
  have h := clampN_le 255 l
  rw [State.getI16, State.get_put, signed_16_of_small (by omega)]

/-- A leap second changes no object of the time chapter but L and CAL_OFF. -/
theorem leapSecond_get (l : Nat) (s : State) {k : Nat} (h : faultKey k = false) (h5 : k ≠ tk 5) (h7 : k ≠ tk 7) :
    (leapSecond l s).get k = s.get k := by
  rw [leapSecond, State.recomputeCal_get _ _ h h5, State.get_put_ne _ _ h7]

theorem hCalOff_run (s : State) (w : Who) (v : Int) :
    hCalOff.run s w (.num (i64bits v)) = (s.setCal (signed 64 (i64bits v)) 0, stOK) := rfl

/-- An accepted clock setting writes CAL_OFF and, but for the count of changes, nothing that is not the collector's. -/
theorem request_calOff_get {s : State} {w : Who} {v : Int}
    (hacc : s.accepts w 0x2000 5 (.num (i64bits v)) hCalOff = true) {k : Nat} (hk : k ≠ ob 0x3000 4)
    (hf : faultKey k = false) :
    (s.request w 0x2000 5 (.num (i64bits v)) hCalOff).get k = (s.putI64 (tk 5) (signed 64 (i64bits v))).get k := by
  rw [State.request_get hacc hk, hCalOff_run, State.setCal_get _ _ _ hf]

/-- Settles O8: a leap second is a write of L followed by the computation of CAL_OFF; a clock setting is a write of
CAL_OFF through the access check. -/
theorem calendarOffset : Obligations.CalendarOffset := by
  intro s
  refine ⟨fun l => ⟨leapSecond l s, rfl, ?_, fun h6 hst => ?_, ?_, leapSecond_get l s (faultKey_tk 4) (by simp) (by simp),
    leapSecond_get l s (faultKey_tk 9) (by simp) (by simp), ?_⟩,
    fun w v hacc => ⟨_, rfl, ?_, State.request_status hacc, ?_, ?_, ?_⟩⟩
  · rw [leapSecond, State.recomputeCal_get _ _ (faultKey_tk 7) (by simp), State.get_put]
  · have hfree : (s.put (tk 7) (clampN 255 l)).timeState ≠ tsFREE := by
      rwa [State.timeState, State.get_put_ne _ _ (by decide)]
    have hgoff : (s.put (tk 7) (clampN 255 l)).goff = s.goff := by
      rw [State.goff, State.getI64, State.get_put_ne _ _ (by decide)]; rfl
    rw [leapSecond, State.recomputeCal_calOff (s := s.put (tk 7) (clampN 255 l)) 1 h6 hfree, getI16_leap, hgoff]
  · rw [leapSecond, State.recomputeCal_mt, State.put_tm]
  · rw [leapSecond, State.recomputeCal_pps, State.put_tm]
  · rw [request_calOff_get hacc (by decide) (faultKey_tk 5), State.get_putI64, i64bits_signed (i64bits_lt v)]
  · rw [State.request_tm hacc, hCalOff_run, State.setCal_tm]
  · rw [request_calOff_get hacc (by decide) (faultKey_tk 4), State.get_putI64_ne _ _ (by simp)]
  · rw [request_calOff_get hacc (by decide) (faultKey_tk 9), State.get_putI64_ne _ _ (by simp)]

/-! ### Steps of G_OFF and the pulse -/

/-- The on-time edge of a reported pulse marks its second and drives PPS_OUT active; the rest of the clock that a report
does not concern stands. -/
theorem ppsPulse_edge {s : State} (hon : s.ppsOn = true) (hrep : s.tm.reported = true) :
    ∃ stepPulse step stepCal, (ppsPulse false s).tm = { s.tm with
      pps := true, reported := false, lastSec := (s.get (tk 0x19) : Int), stepPulse := stepPulse, step := step, stepCal := stepCal } := by
  unfold ppsPulse
  simp only [hon, hrep, Bool.and_self, if_true, Bool.false_eq_true, if_false]
  split
  · exact ⟨_, (State.applyStep_clock _).imp fun _ ⟨_, h⟩ => ⟨_, h⟩⟩
  · exact ⟨_, _, _, rfl⟩

/-- Settles O6: a decided step writes its three objects, its record and TIME_STEP; the pulse's edges touch the clock
alone, but for the step that waits for its pulse. -/
theorem stepMovesGoff : Obligations.StepMovesGoff := by
  intro s
  refine ⟨fun size sec h => ⟨s.applyStep, rfl, ?_, ?_, ?_, ?_, ?_, ?_, State.applyStep_raw h⟩, fun hon hrep => ?_, rfl⟩
  · rw [State.applyStep_tm h]
  · rw [State.applyStep_tm h]
  · rw [State.applyStep_get h (faultKey_tk 9), State.stepObjects_get_ne _ _ (by simp) (by simp) (by simp)]
  · rw [State.applyStep_get h (faultKey_tk 4), State.stepObjects_goff]
  · rw [State.applyStep_get h (faultKey_tk 0x13), State.stepObjects, State.get_putI64]
  · rw [State.applyStep_get h (faultKey_tk 0x12), State.stepObjects_count]
  · obtain ⟨stepPulse, step, stepCal, ht⟩ := ppsPulse_edge hon hrep
    refine ⟨ppsPulse false s, rfl, ?_⟩
    rw [ht]
    exact ⟨rfl, rfl, rfl, rfl⟩

/-! ### The report of a pulse -/

/-- The tick's increment within ±10 ppm (R32): 10 ns in units of 2⁻³² ns, give or take 10 ppm. -/
theorem tickInc_bounds {c : Int} (h : c.natAbs ≤ 10000000) : 0 < tickInc c ∧ tickInc c ≤ 42950102467 := by
  have near := Q.roundAway_mk'_bounds (10 * (1000000000000 + c) * 2 ^ 32) (d := 1000000000000) (by norm_num)
  unfold tickInc
  omega

/-- The edge grid has four edges to a tick, so the nearest edge lies within an eighth of a tick: 1,250 ps (R42). -/
theorem State.gridEdge_qerr {s : State} (h : s.rate.natAbs ≤ 10000000) (ideal : Int) :
    -1250 ≤ (s.gridEdge ideal).2 ∧ (s.gridEdge ideal).2 ≤ 1250 := by
  obtain ⟨hpos, hle⟩ := tickInc_bounds h
  unfold State.gridEdge
  dsimp only
  rw [Int.toNat_natCast]
  generalize (s.tm.mt : Int) * 2 ^ 32 + s.tm.frac = base
  generalize tickInc s.rate = q at hpos hle ⊢
  have nearest := Q.roundAway_mk'_bounds (4 * (ideal * 2 ^ 32 - base)) hpos
  generalize (Q.mk' (4 * (ideal * 2 ^ 32 - base)) q).roundAway = k at nearest ⊢
  have rounded := Q.roundAway_mk'_bounds ((4 * base + k * q - ideal * 2 ^ 34) * 1000) (d := 2 ^ 34) (by norm_num)
  rw [mul_comm k (q : Int)] at rounded ⊢
  omega

/-- A report that is due is given: its quantisation error, and the clock but for the instant and the report itself. -/
theorem pulseReport_due {s : State} (hon : s.ppsOn = true) (hrep : s.tm.reported = false) :
    ∃ (ideal : Int) (nextMt : Nat), (pulseReport s).get (tk 0x18) =
        i16bits (clampI (-32768) 32767 (s.gridEdge ideal).2) ∧
      (pulseReport s).tm = { s.tm with nextMt := nextMt, reported := true } := by
  unfold pulseReport
  rw [if_pos (by simp [hon, hrep])]
  exact ⟨_, _, (State.event_get _ _ _ _ (faultKey_tk _)).trans
    ((State.get_put_ne _ _ (by simp)).trans (State.get_putI16 _ _ _)), State.event_tm _ _ _ _⟩

/-- Settles O7: the edge that is reported is the grid edge nearest to the pulse's ideal instant. -/
theorem pulseReportQuantisation : Obligations.PulseReportQuantisation := by
  intro s hon hrep hrate
  obtain ⟨ideal, nextMt, hget, htm⟩ := pulseReport_due hon hrep
  have hq := State.gridEdge_qerr hrate ideal
  refine ⟨pulseReport s, rfl, ?_, ?_, ?_, ?_⟩
  · rw [htm]
  · rw [htm]
  · rw [htm]
  · rwa [State.getI16, hget, clampI_of_mem (by omega) (by omega), signed_i16bits (by omega) (by omega)]

/-! ### A delivery in LOCKED -/

/-- A rate that has not jumped passes the CLOCK check (R118). -/
theorem State.clockCheck_of_steady {s : State} {need : Int}
    (h : ∀ o, s.rx.lastNeed = some o → (need - o).natAbs ≤ 50000) :
    s.clockCheck need = { s with rx := { s.rx with lastNeed := some need } } := by
  unfold State.clockCheck
  cases ho : s.rx.lastNeed with
  | none => rfl
  | some o => exact if_neg (by simpa using h o ho)

/-- A valid second in LOCKED disciplines the clock, and CLK_TCXO follows the rate that is needed (R29, R37, R38). The
state that is disciplined differs from s in its notes about the solution alone. -/
theorem timeSolutionDelivery_locked {s : State} {b d : Int} {sigma sf sats : Nat} (hst : s.timeState = tsLOCKED)
    (hsats : 4 ≤ sats) (hsigma : sigma ≤ 50000) (hsf : s.get (rk 0x25) ≠ 2) :
    ∃ u : State, timeSolutionDelivery b d sigma sf sats s =
        (u.discipline b d).follow srcCLK_TCXO (decide (5000000 < (s.rate - d).natAbs)) 0 ∧
      (∀ k, u.get k = s.get k) ∧ u.tm.mt = s.tm.mt ∧ u.tm.conf = s.tm.conf := by
  have hvalid : (decide (4 ≤ sats) && decide (sigma ≤ 50000) && decide (s.get (rk 0x25) ≠ 2)) = true := by
    simp [hsats, hsigma, hsf]
  unfold timeSolutionDelivery
  exact ⟨_, if_pos (Bool.and_eq_true_iff.mpr ⟨decide_eq_true hst, hvalid⟩), fun _ => rfl, rfl, rfl⟩

/-- Settles O10: the delivery is valid, so that it disciplines the clock. -/
theorem disciplineInLocked : Obligations.DisciplineInLocked := by
  intro s b d sigma sf sats hst hsats hsigma hsf hsteady
  obtain ⟨u, heq, hget, hmt, hconf⟩ := timeSolutionDelivery_locked (b := b) (d := d) (sf := sf)
    (s := { s with rx := { s.rx with lastNeed := some (s.rate - d) } }) hst hsats hsigma hsf
  have hrate : u.rate = s.rate := congrArg (signed 32) (hget (tk 9))
  have hgoff : u.goff = s.goff := congrArg (signed 64) (hget (tk 4))
  have hlim : u.tcfg 0x11 = s.tcfg 0x11 := by rw [State.tcfg, hconf]; rfl
  refine ⟨timeDelivery b d sigma sf sats s, rfl, ?_⟩
  rw [timeDelivery, State.clockCheck_of_steady hsteady, heq]
  refine ⟨?_, ?_, State.follow_raw_eq _ _ _ (by decide) (by decide) (by decide), fun hb => ?_, fun hb => ?_⟩
  · rw [State.follow_tm, State.discipline_mt, hmt]
  · rw [State.follow_get _ _ _ _ (faultKey_tk 9), State.discipline_rate, hrate]
  · obtain ⟨hslew, htm⟩ := u.discipline_slew d hb
    rw [State.follow_get _ _ _ _ (faultKey_tk 4), State.follow_tm, hslew, htm, hgoff, hlim]
    exact ⟨rfl, rfl⟩
  · obtain ⟨hstand, sec, htm⟩ := u.discipline_step d hb
    rw [State.follow_get _ _ _ _ (faultKey_tk 4), State.follow_tm, hstand, htm]
    exact ⟨hget (tk 4), sec, rfl⟩

/-! ### The second boundary -/

/-- Three valid own seconds lead into LOCKED from every other state (R37). -/
theorem State.nextTimeState_of_good {s : State} (hgood : 3 ≤ s.tm.good) (hst : s.timeState ≠ tsLOCKED) :
    s.nextTimeState = tsLOCKED := by
  unfold State.nextTimeState
  exact if_pos (by simp [hst, hgood])

/-- Counting the sources leaves MT, the own seconds and the objects. -/
theorem State.countSources_keeps (s : State) : s.countSources.tm.mt = s.tm.mt ∧ s.countSources.tm.good = s.tm.good ∧
    s.countSources.timeState = s.timeState := ⟨rfl, rfl, rfl⟩

@[simp] theorem State.updateErr_mt (s : State) (old new dT : Nat) : (s.updateErr old new dT).tm.mt = s.tm.mt := by
  unfold State.updateErr
  split
  · rfl
  · split <;> rfl

@[simp] theorem State.publishErr_tm (s : State) : s.publishErr.tm = s.tm := rfl

theorem State.publishErr_timeState (s : State) : s.publishErr.timeState = s.timeState := State.get_put_ne _ _ (by decide)

theorem State.recomputeCal_timeState (s : State) (subject : Nat) : (s.recomputeCal subject).timeState = s.timeState :=
  s.recomputeCal_get subject (faultKey_tk 3) (by decide)

/-- What a boundary publishes once the time state stands: E, CAL_OFF, and the two sources that follow the state. -/
def State.publishTime (s : State) (subject : Nat) : State :=
  ((s.publishErr.recomputeCal subject).follow srcTIME_HOLD
    (decide (s.timeState = tsHOLDOVER) || decide (s.timeState = tsUNQUALIFIED)) 0).follow srcTIME_UNQUAL
      (decide (s.timeState = tsUNQUALIFIED)) 0

theorem State.publishTime_mt (s : State) (subject : Nat) : (s.publishTime subject).tm.mt = s.tm.mt := by
  rw [State.publishTime, State.follow_tm, State.follow_tm, State.recomputeCal_mt, State.publishErr_tm]

theorem State.publishTime_timeState (s : State) (subject : Nat) : (s.publishTime subject).timeState = s.timeState := by
  calc (s.publishTime subject).timeState
      = (s.publishErr.recomputeCal subject).timeState :=
        (State.follow_get _ _ _ _ (faultKey_tk 3)).trans (State.follow_get _ _ _ _ (faultKey_tk 3))
    _ = s.timeState := by rw [State.recomputeCal_timeState, State.publishErr_timeState]

theorem State.publishTime_unqual (s : State) (subject : Nat) :
    (s.publishTime subject).raw srcTIME_UNQUAL = decide (s.timeState = tsUNQUALIFIED) :=
  State.follow_raw_eq _ _ _ (by decide) (by decide) (by decide)

theorem State.publishTime_hold (s : State) (subject : Nat) : (s.publishTime subject).raw srcTIME_HOLD =
    (decide (s.timeState = tsHOLDOVER) || decide (s.timeState = tsUNQUALIFIED)) := by
  rw [State.publishTime, State.follow_other _ _ _ _ _ (by decide) (by decide) (by decide)]
  exact State.follow_raw_eq _ _ _ (by decide) (by decide) (by decide)

/-- A boundary ends by publishing the time state that it has settled, which is LOCKED where the counts lead there: only a
HOLDOVER can still become UNQUALIFIED. -/
theorem secondBoundary_publishes (dT : Nat) (s : State) :
    ∃ (u : State) (subject : Nat), secondBoundary dT s = u.publishTime subject ∧ u.tm.mt = s.tm.mt ∧
      (s.countSources.nextTimeState = tsLOCKED → u.timeState = tsLOCKED) := by
  unfold secondBoundary
  lift_lets
  intro s1 old new0 s2 s3 hold1 new _ _ s4 s5 _ s6
  have hmt4 : s4.tm.mt = s.tm.mt := by
    change s3.tm.mt = s1.tm.mt
    simp only [s3, State.updateErr_mt, s2]
    split <;> rfl
  have hst4 : s4.timeState = new := State.get_put _ _ _
  have hmt5 : s5.tm.mt = s4.tm.mt := by simp only [s5]; split <;> simp
  have hst5 : s5.timeState = s4.timeState := by simp only [s5]; split <;> simp
  have hmt6 : s6.tm.mt = s5.tm.mt := by simp only [s6]; split <;> rfl
  have hst6 : s6.timeState = new := by
    rw [← hst4, ← hst5]; simp only [s6]; split <;> rfl
  refine ⟨s6, if s6.tm.stepCal then 2 else 3, ?_, hmt6.trans (hmt5.trans hmt4), fun hlocked => ?_⟩
  · rw [State.publishTime, hst6]
  · have hnew : new0 = tsLOCKED := hlocked
    rw [hst6]
    simp [new, hnew, tsLOCKED, tsHOLDOVER]

/-- Settles O5: what the boundary publishes follows the time state that it has settled. -/
theorem secondBoundaryDecides : Obligations.SecondBoundaryDecides := by
  intro dT s
  refine ⟨⟨secondBoundary dT s, rfl, ?_⟩, timeSolutionDeadline s, rfl, rfl, rfl, fun _ => rfl⟩
  obtain ⟨u, subject, heq, hmt, hlocked⟩ := secondBoundary_publishes dT s
  obtain ⟨-, hgood, hstate⟩ := s.countSources_keeps
  rw [heq, State.publishTime_mt, State.publishTime_timeState, State.publishTime_hold, State.publishTime_unqual]
  refine ⟨hmt, fun h3 hst => hlocked (State.nextTimeState_of_good ?_ ?_), rfl, rfl⟩
  · rwa [hgood]
  · rwa [hstate]

end Sys2Proof.Machine
end

section
/-! SUPPORT. Input channels, the layer that the statements O12 and O14 use: the objects and the record of a channel, the
elements of the spare pools and the requests for a swap, each read after the operations that may stand between. -/

namespace Sys2Proof.Machine

open Sys2Proof

/-! ### Objects of a channel -/

@[simp] theorem ik_inj {c a b : Nat} : ik c a = ik c b ↔ a % 256 = b % 256 := by unfold ik ob; omega

/-- No object of a channel is the collector's. -/
@[simp] theorem faultKey_ik (c sub : Nat) : faultKey (ik c sub) = false :=
  faultKey_ob _ _ (by omega) (by omega) (by omega)

/-! ### The record of a channel -/

/-- The channels are read in the inputs alone. -/
theorem State.chan_of_inp {s t : State} (h : t.inp = s.inp) (c : Nat) : t.chan c = s.chan c := by
  rw [State.chan, State.chan, h]

@[simp] theorem State.setChan_chan (s : State) (c : Nat) (f : ChanSt → ChanSt) : (s.setChan c f).chan c = f (s.chan c) :=
  Tbl.get_set_same _ _ _ _

theorem State.setChan_chan_ne (s : State) {c j : Nat} (f : ChanSt → ChanSt) (h : j ≠ c) : (s.setChan c f).chan j = s.chan j :=
  Tbl.get_set_other _ _ _ _ h

@[simp] theorem State.inc32_chan (s : State) (k c : Nat) : (s.inc32 k).chan c = s.chan c := rfl
@[simp] theorem State.putBit_chan (s : State) (k i : Nat) (b : Bool) (c : Nat) : (s.putBit k i b).chan c = s.chan c := rfl
@[simp] theorem State.startTimer_chan (s : State) (t c : Nat) : (s.startTimer t).chan c = s.chan c := rfl
@[simp] theorem State.setElem_chan (s : State) (p e : Nat) (x : Elem) (c : Nat) : (s.setElem p e x).chan c = s.chan c := rfl
@[simp] theorem State.follow_chan (s : State) (src : Nat) (on : Bool) (code c : Nat) : (s.follow src on code).chan c = s.chan c :=
  State.chan_of_inp (State.follow_inp _ _ _ _) c

/-! ### Elements of the pools -/

@[simp] theorem State.setElem_elem (s : State) (p e : Nat) (x : Elem) : (s.setElem p e x).elem p e = x :=
  Tbl.get_set_same _ _ _ _

@[simp] theorem State.setChan_elem (s : State) (c : Nat) (f : ChanSt → ChanSt) (p e : Nat) : (s.setChan c f).elem p e = s.elem p e :=
  rfl
@[simp] theorem State.startTimer_elem (s : State) (t p e : Nat) : (s.startTimer t).elem p e = s.elem p e := rfl
@[simp] theorem State.follow_elem (s : State) (src : Nat) (on : Bool) (code p e : Nat) :
    (s.follow src on code).elem p e = s.elem p e := by
  rw [State.elem, State.elem, State.follow_sp]

/-! ### Requests for a swap -/

/-- Asking for a swap changes the list of requests and nothing else. -/
theorem State.askSwap_eq (s : State) (p e cause : Nat) (hold : Bool) :
    ∃ reqs, s.askSwap p e cause hold = { s with sp := { s.sp with reqs := reqs } } := by
  unfold State.askSwap
  dsimp only
  split
  · split <;> exact ⟨_, rfl⟩
  · exact ⟨_, rfl⟩

@[simp] theorem State.askSwap_chan (s : State) (p e cause : Nat) (hold : Bool) (c : Nat) :
    (s.askSwap p e cause hold).chan c = s.chan c := by
  obtain ⟨reqs, h⟩ := s.askSwap_eq p e cause hold
  rw [h]; rfl

@[simp] theorem State.askSwap_elem (s : State) (p e cause : Nat) (hold : Bool) (q x : Nat) :
    (s.askSwap p e cause hold).elem q x = s.elem q x := by
  obtain ⟨reqs, h⟩ := s.askSwap_eq p e cause hold
  rw [h]; rfl

@[simp] theorem State.askSwap_raw (s : State) (p e cause : Nat) (hold : Bool) (src : Nat) :
    (s.askSwap p e cause hold).raw src = s.raw src := by
  obtain ⟨reqs, h⟩ := s.askSwap_eq p e cause hold
  rw [h]; rfl

theorem State.reqOf_isSome {s : State} {p e : Nat} :
    (s.reqOf p e).isSome = true ↔ ∃ r ∈ s.sp.reqs, r.pool = p ∧ r.el = e := by
  simp [State.reqOf, List.find?_isSome]

/-- An element that a swap has been asked for waits for it, be it by this request or by an earlier one. -/
theorem State.askSwap_waits (s : State) (p e cause : Nat) (hold : Bool) :
    ((s.askSwap p e cause hold).reqOf p e).isSome = true := by
  rw [State.reqOf_isSome]
  unfold State.askSwap
  dsimp only
  split
  · next h =>
    obtain ⟨r, hr, hsame⟩ := List.any_eq_true.mp h
    have hpe : r.pool = p ∧ r.el = e := by simpa using hsame
    split
    · exact ⟨r, hr, hpe⟩
    · exact ⟨_, List.mem_map.mpr ⟨r, hr, rfl⟩, by rw [if_pos hsame]; exact hpe⟩
  · exact ⟨⟨p, e, cause, s.tm.mt, hold⟩, List.mem_append_right _ (List.mem_singleton_self _), rfl, rfl⟩

theorem State.dropReq_reqOf (s : State) (p e : Nat) : (s.dropReq p e).reqOf p e = none := by
  refine List.find?_eq_none.mpr fun r hr hsame => ?_
  have hkept := (List.mem_filter.mp hr).2
  simp [hsame] at hkept

end Sys2Proof.Machine
end

section
/-! SUPPORT. Faults of the input channels settled: diagnosis, the current input's protection and the end of SETTLING
(O12). -/

namespace Sys2Proof.Machine

open Sys2Proof

/-! ### Diagnosis (R63) -/

/-- The limit that the diagnosis watches has been passed for the diagnostic time, and its fault is not set yet. -/
def State.diagDue (s : State) (c : Nat) (high : Bool) : Bool :=
  if high then runPast (s.chan c).highRun (s.cfg (ik c 0x14)) && !(s.chan c).diagHigh
  else runPast (s.chan c).lowRun (s.cfg (ik c 0x14)) && !(s.chan c).diagLow

theorem inputDiagFault_of_due {c : Nat} {high : Bool} {s : State} (h : s.diagDue c high = true) :
    inputDiagFault c high s =
      (((s.setChan c (fun y => if high then { y with diagHigh := true } else { y with diagLow := true })).inc32
        (ik c 0x1C)).putBit (ik c 0x17) (if high then 4 else 3) true).follow (srcIN_DIAG c) true 0 :=
  if_pos h

/-- A fault that is due is set in the channel, shown in STATUS, counted and raised. -/
theorem inputDiagFault_sets {c : Nat} {high : Bool} {s : State} (h : s.diagDue c high = true) :
    (if high then ((inputDiagFault c high s).chan c).diagHigh else ((inputDiagFault c high s).chan c).diagLow) = true ∧
      bit ((inputDiagFault c high s).get (ik c 0x17)) (if high then 4 else 3) = true ∧
      (inputDiagFault c high s).get (ik c 0x1C) = min 0xFFFFFFFF (s.get (ik c 0x1C) + 1) ∧
      (inputDiagFault c high s).raw (srcIN_DIAG c) = true := by
  rw [inputDiagFault_of_due h]
  refine ⟨?_, ?_, ?_, State.follow_raw _ _ _⟩
  · cases high <;> simp
  · rw [State.follow_get _ _ _ _ (faultKey_ik _ _), State.get_putBit, bit_setBit_same]
  · rw [State.follow_get _ _ _ _ (faultKey_ik _ _), State.get_putBit_ne _ _ _ (by simp), State.get_inc32, State.setChan_get,
      clampN_eq_min]

/-! ### Protection of a current input (R64) -/

theorem currentInputProtect_of_current {c : Nat} {s : State} (h : s.cfg (ik c 1) = 2) : currentInputProtect c s =
    ((s.setChan c (fun x => { x with protect := true })).putBit (ik c 0x17) 5 true).startTimer (tmProt c) :=
  if_pos h

theorem currentInputTrial_of_due {c : Nat} {s : State} (hprot : (s.chan c).protect = true)
    (hpast : s.timerPast (tmProt c) nsS = true) : currentInputTrial c s =
      (s.setChan c (fun x => { x with protect := false })).startTimer (tmProt c) :=
  if_pos (Bool.and_eq_true_iff.mpr ⟨hprot, hpast⟩)

/-! ### The end of SETTLING (R58, R74) -/

theorem settlingEnd_of_done {c : Nat} {s : State} (hset : (s.chan c).settling = true) (hleft : (s.chan c).settleLeft = 0) :
    settlingEnd c s = s.setChan c (fun x =>
      { x with settling := false, hasRef := false, tN := s.tm.mt, sealTN := s.tm.mt, fNum := 0, fDen := 1, y := none }) :=
  if_pos (by simp [hset, hleft])

/-- Settles O12: each command that is due is a change of its channel's record, and of no object but those of a fault. -/
theorem inputChannelFaults : Obligations.InputChannelFaults := by
  intro ch s
  refine ⟨fun hrun hclear => ?_, fun hrun hclear => ?_, fun hcur => ?_, fun hprot hpast => ?_, fun hset hleft => ?_⟩
  · have hdue : s.diagDue ch.val false = true := by simp [State.diagDue, runPast, hrun, hclear]
    exact ⟨inputDiagFault ch.val false s, rfl, inputDiagFault_sets hdue⟩
  · have hdue : s.diagDue ch.val true = true := by simp [State.diagDue, runPast, hrun, hclear]
    exact ⟨inputDiagFault ch.val true s, rfl, inputDiagFault_sets hdue⟩
  · refine ⟨currentInputProtect ch.val s, rfl, ?_⟩
    rw [currentInputProtect_of_current hcur]
    refine ⟨by simp, by simp, fun k hk => ?_, fun c hc => ?_⟩
    · rw [State.startTimer_get, State.get_putBit_ne _ _ _ hk, State.setChan_get]
    · rw [State.startTimer_chan, State.putBit_chan, State.setChan_chan_ne _ _ hc]
  · refine ⟨currentInputTrial ch.val s, rfl, ?_⟩
    rw [currentInputTrial_of_due hprot hpast]
    refine ⟨by simp, fun _ => rfl, fun c hc => ?_⟩
    rw [State.startTimer_chan, State.setChan_chan_ne _ _ hc]
  · refine ⟨settlingEnd ch.val s, rfl, ?_⟩
    rw [settlingEnd_of_done hset hleft, State.setChan_chan]
    exact ⟨rfl, rfl, rfl, rfl, rfl, fun _ => rfl, fun c hc => State.setChan_chan_ne _ _ hc⟩

end Sys2Proof.Machine
end

section
/-! SUPPORT. Failures of the converters settled: the shadow windows, discarded conversions and a spare that is not
confirmed (O14). -/

namespace Sys2Proof.Machine

open Sys2Proof

/-! ### A converter that is decided failed (R71) -/

theorem State.convFailed_of_working {s : State} {c : Nat} (h : (s.chan c).failed = false) : s.convFailed c =
    (((s.setChan c (fun x => { x with failed := true, suspect := true, disagree := 0 })).follow (srcADC c) true 0).askSwap 6 c
      (srcADC c) false).startTimer (tmConfirm c) :=
  if_neg (by simp [h])

/-- The decision marks the open block SUSPECT, raises ADC_nn and asks Lupin for the spare. -/
theorem State.convFailed_decides {s : State} {c : Nat} (h : (s.chan c).failed = false) :
    ((s.convFailed c).chan c).failed = true ∧ ((s.convFailed c).chan c).suspect = true ∧
      (s.convFailed c).raw (srcADC c) = true ∧ ((s.convFailed c).reqOf 6 c).isSome = true := by
  rw [State.convFailed_of_working h]
  refine ⟨by simp, by simp, ?_, State.askSwap_waits _ _ _ _ _⟩
  exact (State.askSwap_raw _ _ _ _ _ _).trans (State.follow_raw _ _ _)

@[simp] theorem State.convFailed_elem (s : State) (c p e : Nat) : (s.convFailed c).elem p e = s.elem p e := by
  unfold State.convFailed
  split
  · rfl
  · simp

/-! ### Shadow windows (R69) -/

/-- The spare goes on to the next channel of its group. -/
def State.shadowOn (s : State) (g : Nat) : State :=
  { s with inp := { s.inp with shadow := Tbl.set 0 s.inp.shadow g (s.nextShadow g) } }

/-- One more disagreement in a row, counted in the converter's gauge. -/
def State.addDisagree (s : State) (c : Nat) : State :=
  (s.setElem 6 c { s.elem 6 c with v1 := clampN 0xFFFFFFFF ((s.elem 6 c).v1 + 1) }).setChan c
    (fun x => { x with disagree := x.disagree + 1 })

@[simp] theorem State.shadowOn_chan (s : State) (g c : Nat) : (s.shadowOn g).chan c = s.chan c := rfl

@[simp] theorem State.addDisagree_chan (s : State) (c : Nat) :
    (s.addDisagree c).chan c = { s.chan c with disagree := (s.chan c).disagree + 1 } := by
  rw [State.addDisagree, State.setChan_chan, State.setElem_chan]

/-- A window that gives a comparison counts a disagreement or ends the run of them, by the difference of the two means. -/
theorem shadowWindowEnd_compared {s : State} {g c : Nat} {own sp : Int} (hc : c = 8 * g + Tbl.get 0 s.inp.shadow g)
    (hfree : (s.elem 6 (64 + g)).state = 1) (hconv : s.cfg (ik c 1) ≠ 0) (hwork : (s.chan c).failed = false) :
    shadowWindowEnd g own sp true s =
      if 5 * 2 ^ 32 < (own - sp).natAbs * 10000 then
        if 3 ≤ (s.chan c).disagree + 1 then ((s.shadowOn g).addDisagree c).convFailed c else (s.shadowOn g).addDisagree c
      else (s.shadowOn g).setChan c (fun x => { x with disagree := 0 }) := by
  subst hc
  unfold shadowWindowEnd
  rw [if_pos hfree]
  exact if_neg (by simp [hconv, hwork])

/-! ### Discarded conversions (R70) -/

/-- A discarded conversion, counted in the converter's gauge and noted with its time. -/
def State.noteBad (s : State) (c : Nat) : State :=
  (s.setElem 6 c { s.elem 6 c with v2 := clampN 0xFFFFFFFF ((s.elem 6 c).v2 + 1) }).setChan c
    (fun y => { y with lastBad := s.tm.mt + 1 })

@[simp] theorem State.noteBad_chan (s : State) (c : Nat) :
    (s.noteBad c).chan c = { s.chan c with lastBad := s.tm.mt + 1 } := by
  rw [State.noteBad, State.setChan_chan, State.setElem_chan]

@[simp] theorem State.noteBad_elem (s : State) (c : Nat) :
    (s.noteBad c).elem 6 c = { s.elem 6 c with v2 := clampN 0xFFFFFFFF ((s.elem 6 c).v2 + 1) } := by
  rw [State.noteBad, State.setChan_elem, State.setElem_elem]

/-- The last discarded conversion lies within 1 ms. -/
def State.BadAgain (s : State) (c : Nat) : Prop := (s.chan c).lastBad ≠ 0 ∧ s.tm.mt + 1 ≤ (s.chan c).lastBad + nsMs

theorem conversionFail_first {s : State} {c : Nat} (hconv : s.cfg (ik c 1) ≠ 0) (h : ¬ s.BadAgain c) :
    conversionFail c s = s.noteBad c := by
  unfold conversionFail
  rw [if_neg hconv]
  exact if_neg (by simpa [State.BadAgain] using h)

theorem conversionFail_again {s : State} {c : Nat} (hconv : s.cfg (ik c 1) ≠ 0) (h : s.BadAgain c) :
    conversionFail c s = (s.noteBad c).convFailed c := by
  unfold conversionFail
  rw [if_neg hconv]
  exact if_pos (by simpa [State.BadAgain] using h)

/-- Whether or not it fails the converter, a discarded conversion is counted once. -/
theorem conversionFail_counted {s : State} {c : Nat} (hconv : s.cfg (ik c 1) ≠ 0) :
    ((conversionFail c s).elem 6 c).v2 = min 0xFFFFFFFF ((s.elem 6 c).v2 + 1) := by
  by_cases h : s.BadAgain c
  · rw [conversionFail_again hconv h, State.convFailed_elem, State.noteBad_elem, clampN_eq_min]
  · rw [conversionFail_first hconv h, State.noteBad_elem, clampN_eq_min]

/-! ### A spare that is not confirmed (R72) -/

theorem spareConfirmTimeout_of_late {s : State} {c : Nat} (hfailed : (s.chan c).failed = true) (hown : s.get (ik c 0x19) = 0)
    (hlate : (s.elem 6 (64 + c / 8)).state = 0 ∨ s.timerPast (tmConfirm c) 100000 = true) :
    spareConfirmTimeout c s = (s.convNone c).stopTimer (tmConfirm c) :=
  if_pos (by simp [hfailed, hown, hlate])

theorem State.convNone_get_ne (s : State) {c k : Nat} (h19 : k ≠ ik c 0x19) (h17 : k ≠ ik c 0x17) : (s.convNone c).get k = s.get k := by
  rw [State.convNone, State.dropReq_get, State.get_putBit_ne _ _ _ h17, State.get_put_ne _ _ h19]

theorem State.convNone_shows (s : State) (c : Nat) : (s.convNone c).get (ik c 0x19) = 0xFF ∧
    bit ((s.convNone c).get (ik c 0x17)) 12 = true ∧ (s.convNone c).reqOf 6 c = none := by
  refine ⟨?_, ?_, State.dropReq_reqOf _ _ _⟩
  · rw [State.convNone, State.dropReq_get, State.get_putBit_ne _ _ _ (by simp), State.get_put]
  · rw [State.convNone, State.dropReq_get, State.get_putBit, bit_setBit_same]

/-- Settles O14: the third disagreement in a row and the second discarded conversion within 1 ms make the one decision of
R71, every other only its note; a spare that is not confirmed leaves the channel with CONV_FAIL. -/
theorem converterFailures : Obligations.ConverterFailures := by
  intro s
  refine ⟨fun g own sp c hc hfree hconv hwork => ⟨shadowWindowEnd g.val own sp true s, rfl, ?_⟩,
    fun ch hconv hwork => ⟨conversionFail ch.val s, rfl, conversionFail_counted hconv, fun hbad hsoon => ?_, fun hapart => ?_⟩,
    fun ch hfailed hown hlate => ⟨spareConfirmTimeout ch.val s, rfl, ?_⟩⟩
  · rw [shadowWindowEnd_compared hc hfree hconv hwork]
    refine ⟨fun hdiff => ⟨fun htwo => ?_, fun hfew => ?_⟩, fun hnear => ?_⟩
    · rw [if_pos hdiff, if_pos (by omega)]
      exact State.convFailed_decides (by simpa using hwork)
    · rw [if_pos hdiff, if_neg (by omega)]
      simp [hwork]
    · rw [if_neg hnear]
      simp [hwork]
  · rw [conversionFail_again hconv ⟨hbad, hsoon⟩]
    exact State.convFailed_decides (by simpa using hwork)
  · have hfirst : ¬ s.BadAgain ch.val := fun ⟨hbad, hsoon⟩ => by omega
    rw [conversionFail_first hconv hfirst]
    exact ⟨by simpa using hwork, by simp, fun _ => rfl⟩
  · rw [spareConfirmTimeout_of_late hfailed hown hlate]
    obtain ⟨hshown, hflag, hdone⟩ := s.convNone_shows ch.val
    exact ⟨hshown, hflag, hdone, rfl, fun k h19 h17 => s.convNone_get_ne h19 h17⟩

end Sys2Proof.Machine
end

section
/-! SUPPORT. The crop engine, the layer that the statement O16 uses: its objects and status bits, each read after the
operations that may stand between, and a loss sensor's two marks with the source that follows them. -/

namespace Sys2Proof.Machine

open Sys2Proof

/-! ### Objects of the engine -/

@[simp] theorem hk_inj {a b : Nat} : hk a = hk b ↔ a % 256 = b % 256 := by unfold hk ob; omega

/-- No object of the crop engine is the collector's. -/
@[simp] theorem faultKey_hk (sub : Nat) : faultKey (hk sub) = false :=
  faultKey_ob _ _ (by decide) (by decide) (by decide)

@[simp] theorem faultKey_lsk (k sub : Nat) : faultKey (lsk k sub) = false :=
  faultKey_ob _ _ (by decide) (by decide) (by decide)

/-- No object of the crop engine is the count of changes that a request adds to. -/
theorem hk_ne_changeCount (sub : Nat) : hk sub ≠ ob 0x3000 4 := by unfold hk ob; omega

theorem signed_i32bits {x : Int} (h1 : -2147483648 ≤ x) (h2 : x ≤ 2147483647) : signed 32 (i32bits x) = x := by
  unfold signed i32bits; norm_num; split <;> omega

/-- A number that was stored reads back as the object's range admits it (R7). -/
theorem State.getI32_putI32 (s : State) (k : Nat) (x : Int) :
    (s.putI32 k x).getI32 k = clampI (-2147483648) 2147483647 x := by
  rw [State.getI32, State.get_putI32, signed_i32bits (le_clampI (by norm_num)) (clampI_le (by norm_num))]

/-! ### Bits of CROP_STATUS -/

@[simp] theorem State.cropBit_crop (s : State) (i : Nat) (b : Bool) : (s.cropBit i b).crop = s.crop := rfl

theorem State.cropBit_get_ne (s : State) {j : Nat} (i : Nat) (b : Bool) (h : j ≠ hk 0x2B) : (s.cropBit i b).get j = s.get j :=
  State.get_putBit_ne _ _ _ h

@[simp] theorem State.cropBit_cropHas (s : State) (i : Nat) (b : Bool) : (s.cropBit i b).cropHas i = b := by
  rw [State.cropHas, State.cropBit, State.get_putBit, bit_setBit_same]

/-- The status bits are read in one object. -/
theorem State.cropHas_of_get {s t : State} (h : t.get (hk 0x2B) = s.get (hk 0x2B)) (i : Nat) : t.cropHas i = s.cropHas i := by
  rw [State.cropHas, State.cropHas, h]

@[simp] theorem State.follow_cropHas (s : State) (src : Nat) (on : Bool) (code i : Nat) :
    (s.follow src on code).cropHas i = s.cropHas i :=
  State.cropHas_of_get (State.follow_get _ _ _ _ (faultKey_hk _)) i

/-! ### Marks of a loss sensor (R85) -/

/-- Two neighbouring bits hold something where one of them is set. -/
theorem decide_bits_two_ne_zero (w lo : Nat) : decide (bits w lo 2 ≠ 0) = (bit w lo || bit w (lo + 1)) := by
  have hnext : w / 2 ^ (lo + 1) = w / 2 ^ lo / 2 := by rw [pow_succ, Nat.div_div_eq_div_mul]
  rw [Bool.eq_iff_iff, decide_eq_true_eq]
  simp only [bits, bit, Nat.testBit_eq_decide_div_mod_eq, hnext, Bool.or_eq_true, decide_eq_true_eq]
  generalize w / 2 ^ lo = n
  omega

theorem State.lossMark_status (s : State) (k i : Nat) (on : Bool) :
    (s.lossMark k i on).get (lsk k 0x0B) = setBit (s.get (lsk k 0x0B)) i on := by
  rw [State.lossMark, State.follow_get _ _ _ _ (faultKey_lsk _ _), State.get_putBit]

/-- The sensor's source is raw while one of the two marks stands. -/
theorem State.lossMark_raw (s : State) {k : Nat} (i : Nat) (on : Bool) (h : k < 8) : (s.lossMark k i on).raw (srcCROP_LS k) =
    (bit (setBit (s.get (lsk k 0x0B)) i on) 4 || bit (setBit (s.get (lsk k 0x0B)) i on) 5) := by
  have hsrc : srcCROP_LS k < 512 ∧ srcCROP_LS k ≠ srcREC_LOST ∧ srcCROP_LS k ≠ srcUCP_EVQ := by
    unfold srcCROP_LS srcREC_LOST srcUCP_EVQ; omega
  obtain ⟨hlt, hlost, hevq⟩ := hsrc
  rw [State.lossMark, State.follow_raw_eq _ _ _ hlt hlost hevq, State.get_putBit, decide_bits_two_ne_zero]

/-- Either mark, when it is set, raises the source. -/
theorem State.lossMark_sets (s : State) {k i : Nat} (h : k < 8) (hi : i = 4 ∨ i = 5) :
    bit ((s.lossMark k i true).get (lsk k 0x0B)) i = true ∧ (s.lossMark k i true).raw (srcCROP_LS k) = true := by
  rw [State.lossMark_status, State.lossMark_raw _ _ _ h]
  rcases hi with rfl | rfl <;> simp

/-- Once one mark is cleared, the source stands as the other mark does. -/
theorem State.lossMark_clears (s : State) {k i j : Nat} (h : k < 8) (hij : i = 4 ∧ j = 5 ∨ i = 5 ∧ j = 4) :
    bit ((s.lossMark k i false).get (lsk k 0x0B)) i = false ∧
      (s.lossMark k i false).raw (srcCROP_LS k) = bit (s.get (lsk k 0x0B)) j := by
  rw [State.lossMark_status, State.lossMark_raw _ _ _ h]
  rcases hij with ⟨rfl, rfl⟩ | ⟨rfl, rfl⟩
  · simp [bit_setBit_gt]
  · simp [bit_setBit_lt]

end Sys2Proof.Machine
end

section
/-! SUPPORT. The flow zero and the watches over loss sensors, flow and moisture settled (O16). -/

namespace Sys2Proof.Machine

open Sys2Proof

/-! ### The flow zero (R87) -/

/-- A zero cannot begin, and a running one ends: cutting is true, the elevator stands, or the flow input is invalid. -/
def State.ZeroBarred (s : State) : Prop := s.cfg (hk 2) = 1 ∨ s.cropHas 6 = true ∨ s.flowOk = false

/-- What a zero request does where it cannot begin, and where it can. -/
theorem hZero_run_of_barred {s : State} (w : Who) (v : Val) (h : s.ZeroBarred) :
    hZero.run s w v = (s.put (hk 0x0B) 3, stOK) :=
  if_pos (by simpa [State.ZeroBarred, or_assoc] using h)

theorem hZero_run_of_not_barred {s : State} (w : Who) (v : Val) (h : ¬ s.ZeroBarred) : hZero.run s w v =
    (((s.put (hk 0x0B) 1).setCrop (fun c => { c with zeroSum := 0, zeroN := 0 })).cropBit 8 true, stOK) :=
  if_neg (by simpa [State.ZeroBarred, or_assoc] using h)

theorem zeroRequest_status {s : State} {who : Who} (hacc : s.accepts who 0x2200 0x0A (.num 1) hZero = true) :
    (s.request who 0x2200 0x0A (.num 1) hZero).ucp.last.status = stOK := by
  rw [State.request_status hacc]
  by_cases h : s.ZeroBarred
  · rw [hZero_run_of_barred _ _ h]
  · rw [hZero_run_of_not_barred _ _ h]

theorem zeroRequest_aborts {s : State} {who : Who} (hacc : s.accepts who 0x2200 0x0A (.num 1) hZero = true)
    (h : s.ZeroBarred) : (s.request who 0x2200 0x0A (.num 1) hZero).get (hk 0x0B) = 3 ∧
      (s.request who 0x2200 0x0A (.num 1) hZero).crop = s.crop := by
  rw [State.request_get hacc (hk_ne_changeCount _), State.request_crop hacc, hZero_run_of_barred _ _ h]
  exact ⟨State.get_put _ _ _, rfl⟩

theorem zeroRequest_starts {s t : State} {who : Who} (hacc : s.accepts who 0x2200 0x0A (.num 1) hZero = true)
    (h : ¬ s.ZeroBarred) (ht : t = s.request who 0x2200 0x0A (.num 1) hZero) :
    t.get (hk 0x0B) = 1 ∧ t.crop.zeroSum = 0 ∧ t.crop.zeroN = 0 ∧ t.cropHas 8 = true ∧ t.get (hk 9) = s.get (hk 9) := by
  subst ht
  have hget (sub : Nat) := State.request_get hacc (hk_ne_changeCount sub)
  rw [State.cropHas_of_get (hget 0x2B), hget, hget, State.request_crop hacc, hZero_run_of_not_barred _ _ h]
  refine ⟨?_, rfl, rfl, State.cropBit_cropHas _ _ _, ?_⟩
  · rw [State.cropBit_get_ne _ _ _ (by simp), State.setCrop_get, State.get_put]
  · rw [State.cropBit_get_ne _ _ _ (by simp), State.setCrop_get, State.get_put_ne _ _ (by simp)]

theorem zeroDone_of_full {s : State} (hruns : s.get (hk 0x0B) = 1) (hfull : 20 * s.cfg (hk 0x0C) ≤ s.crop.zeroN) :
    zeroDone s =
      ((s.putI32 (hk 9) (Q.mk' s.crop.zeroSum s.crop.zeroN).roundAway).put (hk 0x0B) 2).cropBit 8 false :=
  if_pos (by simp [framesOf, hruns, hfull])

theorem zeroDone_stores {s : State} (hruns : s.get (hk 0x0B) = 1) (hfull : 20 * s.cfg (hk 0x0C) ≤ s.crop.zeroN) :
    (zeroDone s).get (hk 0x0B) = 2 ∧ (zeroDone s).getI32 (hk 9) =
      clampI (-2147483648) 2147483647 (Q.mk' s.crop.zeroSum s.crop.zeroN).roundAway ∧ (zeroDone s).cropHas 8 = false := by
  rw [zeroDone_of_full hruns hfull]
  refine ⟨?_, ?_, State.cropBit_cropHas _ _ _⟩
  · rw [State.cropBit_get_ne _ _ _ (by simp), State.get_put]
  · rw [State.getI32, State.cropBit_get_ne _ _ _ (by simp), State.get_put_ne _ _ (by simp)]
    exact State.getI32_putI32 _ _ _

/-! ### The watches (R85, R86, R88) -/

theorem lossQuiet_of_quiet {s : State} {k : Nat} (h : (s.crop.loss.getD k LossSt.reset).quietNow = true) :
    lossQuiet k s = s.lossMark k 4 true :=
  if_pos h

theorem lossNoisy_of_noisy {s : State} {k : Nat} (h : (s.crop.loss.getD k LossSt.reset).noisyNow = true) :
    lossNoisy k s = s.lossMark k 5 true :=
  if_pos h

theorem lossClear_of_free {s : State} {k : Nat} {noisy : Bool}
    (h : 200000 ≤ if noisy then (s.crop.loss.getD k LossSt.reset).noisyFree else (s.crop.loss.getD k LossSt.reset).quietFree) :
    lossClear k noisy s = s.lossMark k (if noisy then 5 else 4) false :=
  if_pos h

theorem flowTimeout_of_bad {s : State} (h : 20000 ≤ s.crop.flowBad) : flowTimeout s = s.follow srcCROP_FLOW true 0 :=
  if_pos h

theorem moistTimeout_of_old {s : State} (hvalid : s.cropHas 2 = true) (hold : 2400000 ≤ s.crop.noFull) :
    moistTimeout s = (s.cropBit 2 false).follow srcCROP_MOIST true 0 :=
  if_pos (by simp [framesOf, hvalid, hold])

/-- Settles O16: a zero request is its handler's branch, a full zero stores its mean, and each watch that is due sets or
clears its mark and lets its source follow. -/
theorem cropZeroAndWatches : Obligations.CropZeroAndWatches := by
  intro s
  refine ⟨fun who hacc => ⟨_, rfl, zeroRequest_status hacc, zeroRequest_aborts hacc, fun hcut helev hflow => ?_⟩,
    fun hruns hfull => ⟨zeroDone s, rfl, zeroDone_stores hruns hfull⟩,
    fun k => ⟨fun hquiet => ⟨lossQuiet k.val s, rfl, ?_⟩, fun hnoisy => ⟨lossNoisy k.val s, rfl, ?_⟩,
      fun hfree => ⟨lossClear k.val false s, rfl, ?_⟩, fun hfree => ⟨lossClear k.val true s, rfl, ?_⟩⟩,
    fun hbad => ⟨flowTimeout s, rfl, ?_⟩, fun hvalid hold => ⟨moistTimeout s, rfl, ?_⟩⟩
  · exact zeroRequest_starts hacc (by simp [State.ZeroBarred, hcut, helev, hflow]) rfl
  · rw [lossQuiet_of_quiet hquiet]
    exact s.lossMark_sets k.isLt (.inl rfl)
  · rw [lossNoisy_of_noisy hnoisy]
    exact s.lossMark_sets k.isLt (.inr rfl)
  · rw [lossClear_of_free (noisy := false) hfree]
    exact s.lossMark_clears k.isLt (.inl ⟨rfl, rfl⟩)
  · rw [lossClear_of_free (noisy := true) hfree]
    exact s.lossMark_clears k.isLt (.inr ⟨rfl, rfl⟩)
  · rw [flowTimeout_of_bad hbad]
    exact ⟨State.follow_raw _ _ _, State.follow_crop _ _ _ _⟩
  · rw [moistTimeout_of_old hvalid hold]
    exact ⟨by simp, State.follow_raw _ _ _⟩

end Sys2Proof.Machine
end

section
/-! SUPPORT. The satellite receiver, the layer that its statements use: the receiver's objects, a channel's and an RF
chain's record read after the operations that may stand between, and what giving work to the engines leaves alone. -/

namespace Sys2Proof.Machine

open Sys2Proof

/-! ### Bits of a field -/

theorem bits_setBits_same (w lo n v : Nat) : bits (setBits w lo n v) lo n = v % 2 ^ n := by
  have hp : 0 < 2 ^ lo := Nat.two_pow_pos lo
  have hle : bits w lo n * 2 ^ lo ≤ w :=
    le_trans (Nat.mul_le_mul_right _ (Nat.mod_le _ _)) (Nat.div_mul_le_self w (2 ^ lo))
  obtain ⟨d, hd⟩ := Nat.exists_eq_add_of_le' hle
  have hrest : d / 2 ^ lo = 2 ^ n * (w / 2 ^ lo / 2 ^ n) := by
    have hq : w / 2 ^ lo = d / 2 ^ lo + bits w lo n := by
      conv_lhs => rw [hd]
      exact Nat.add_mul_div_right _ _ hp
    have := Nat.div_add_mod (w / 2 ^ lo) (2 ^ n)
    unfold bits at hq
    omega
  have hset : setBits w lo n v = d + v % 2 ^ n * 2 ^ lo := by unfold setBits; omega
  rw [hset, bits, Nat.add_mul_div_right _ _ hp, hrest, Nat.mul_add_mod, Nat.mod_mod]

/-- A field is not changed by a bit below it. -/
theorem bits_setBit_lt (w n : Nat) {i lo : Nat} (b : Bool) (h : i < lo) : bits (setBit w i b) lo n = bits w lo n := by
  refine Nat.eq_of_testBit_eq fun j => ?_
  rw [bits, bits, Nat.testBit_mod_two_pow, Nat.testBit_mod_two_pow, Nat.testBit_div_two_pow, Nat.testBit_div_two_pow]
  exact congrArg _ (bit_setBit_gt w b (by omega))

/-! ### Objects of the receiver -/

@[simp] theorem rk_inj {a b : Nat} : rk a = rk b ↔ a % 256 = b % 256 := by unfold rk ob; omega
@[simp] theorem rck_inj {c a b : Nat} : rck c a = rck c b ↔ a % 256 = b % 256 := by unfold rck ob; omega

/-- No object of the receiver is the collector's, nor the count of changes. -/
@[simp] theorem faultKey_rk (sub : Nat) : faultKey (rk sub) = false :=
  faultKey_ob _ _ (by decide) (by decide) (by decide)
@[simp] theorem faultKey_rck (c sub : Nat) : faultKey (rck c sub) = false :=
  faultKey_ob _ _ (by decide) (by decide) (by decide)
theorem rk_ne_changeCount (sub : Nat) : rk sub ≠ ob 0x3000 4 := by unfold rk ob; omega

/-- The chains' status blocks lie above the receiver's own objects. -/
theorem rck_ne_rk {c a b : Nat} (hc : c < 4) (ha : a < 16) (hb : b < 0x50) : rck c a ≠ rk b := by
  unfold rck rk ob; omega

/-! ### Folds over the state -/

/-- What each step leaves alone, all of them leave alone. -/
theorem foldl_keeps_of_mem {β γ : Type} {f : State → β → State} (g : State → γ) :
    ∀ (l : List β) (s : State), (∀ t, ∀ x ∈ l, g (f t x) = g t) → g (l.foldl f s) = g s
  | [], _, _ => rfl
  | x :: l, s, h => by
    obtain ⟨hx, hl⟩ := forall_and.mp fun t => List.forall_mem_cons.mp (h t)
    rw [List.foldl_cons, foldl_keeps_of_mem g l _ hl, hx]

/-- A fold that at each step keeps what it holds or takes the new one ends with one of the list. -/
theorem mem_of_foldl_choice {α : Type} {f : Option α → α → Option α} (hf : ∀ b i, f b i = some i ∨ f b i = b) {x : α} :
    ∀ (l : List α) (b : Option α), l.foldl f b = some x → x ∈ l ∨ b = some x
  | [], _, h => .inr h
  | i :: l, b, h => by
    rcases mem_of_foldl_choice hf l _ h with hl | hb
    · exact .inl (List.mem_cons_of_mem _ hl)
    · rcases hf b i with e | e
      · rw [e, Option.some.injEq] at hb
        exact .inl (hb ▸ List.mem_cons_self)
      · exact .inr (e ▸ hb)

/-- Writes to as many different objects are all there in the end. -/
theorem foldl_put_get (s : State) (key v : Nat → Nat) :
    ∀ n, (∀ i j, i < n → j < n → key i = key j → i = j) →
      ∀ j, j < n → ((List.range n).foldl (fun t k => t.put (key k) (v k)) s).get (key j) = v j
  | 0, _, _, hj => absurd hj (by omega)
  | n + 1, hinj, j, hj => by
    rw [List.range_succ, List.foldl_append, List.foldl_cons, List.foldl_nil]
    by_cases e : j = n
    · rw [e, State.get_put]
    · have hne : key j ≠ key n := fun h => e (hinj j n hj (by omega) h)
      rw [State.get_put_ne _ _ hne, foldl_put_get s key v n (fun a b ha hb => hinj a b (by omega) (by omega)) j (by omega)]

/-! ### What the receiver's operations may change -/

/-- What a change of a channel may touch: the receiver, and its counts of channels. -/
def chanFoot : Foot := { rx := true, idx := objects [] [rk 5, rk 6, rk 7] [] }

/-- What a failed check may touch besides: the spoofing state, and what a fault touches. -/
def checkFoot : Foot := ({ rx := true, idx := objects [] [rk 5, rk 6, rk 7, rk 0x25] [] } : Foot).faults

theorem State.setRx_chan (s : State) (c : Nat) (f : RxChan → RxChan) : Kept chanFoot s (s.setRx c f) :=
  State.setRx_kept s c f rfl rfl rfl rfl (Kept.refl _ s)

theorem State.addWork_chan (s : State) (l : List AcqItem) : Kept chanFoot s (s.addWork l) :=
  State.addWork_kept s l rfl rfl rfl rfl (Kept.refl _ s)

theorem State.rxCounts_chan (s : State) : Kept chanFoot s s.rxCounts :=
  State.rxCounts_kept s rfl rfl rfl (Kept.refl _ s)

theorem chanFoot_rk {a : Nat} (h : a < 256) (h5 : a ≠ 5) (h6 : a ≠ 6) (h7 : a ≠ 7) : chanFoot.idx (rk a) = false := by
  simp [chanFoot, objects, rk_inj]; omega

theorem chanFoot_rck {c a : Nat} (hc : c < 4) (ha : a < 16) : chanFoot.idx (rck c a) = false := by
  simp [chanFoot, objects, rck_ne_rk hc ha]

theorem checkFoot_rck {c a : Nat} (hc : c < 4) (ha : a < 16) : checkFoot.idx (rck c a) = false :=
  Bool.or_eq_false_iff.mpr ⟨by simp [objects, rck_ne_rk hc ha], faultKey_rck c a⟩

/-! ### The record of a channel -/

/-- The channels are read in the receiver alone. -/
theorem State.rxc_of_rx {s t : State} (h : t.rx = s.rx) (c : Nat) : t.rxc c = s.rxc c := by rw [State.rxc, State.rxc, h]

@[simp] theorem State.setRx_rxc (s : State) (c : Nat) (f : RxChan → RxChan) : (s.setRx c f).rxc c = f (s.rxc c) :=
  Tbl.get_set_same _ _ _ _

theorem State.setRx_rxc_ne (s : State) {c j : Nat} (f : RxChan → RxChan) (h : j ≠ c) : (s.setRx c f).rxc j = s.rxc j :=
  Tbl.get_set_other _ _ _ _ h

@[simp] theorem State.rxCounts_rx (s : State) : s.rxCounts.rx = s.rx := rfl

@[simp] theorem State.spoofState_rx (s : State) : s.spoofState.rx = s.rx := State.follow_rx _ _ _ _
@[simp] theorem State.spoofState_rxc (s : State) (c : Nat) : s.spoofState.rxc c = s.rxc c :=
  State.rxc_of_rx (State.spoofState_rx s) c

/-! ### Work for the engines (R109) -/

/-- The next item is one of those that wait. -/
theorem nextItem_mem {e : Nat} {l : List AcqItem} {i : AcqItem} (h : nextItem e l = some i) : i ∈ l := by
  unfold nextItem at h
  refine (mem_of_foldl_choice (fun b j => ?_) _ _ h).elim (fun hmem => (List.mem_filter.mp hmem).1) (nomatch ·)
  cases b with
  | none => exact .inl rfl
  | some k =>
    dsimp only
    split
    · exact .inl rfl
    · exact .inr rfl

/-- A channel given out as free was idle. -/
theorem State.freeChan_idle {s : State} {ant c : Nat} (h : s.freeChan ant = some c) : (s.rxc c).state = rxIDLE := by
  have hfound := List.find?_some h
  simp only [Bool.and_eq_true, decide_eq_true_eq] at hfound
  exact hfound.1

/-- No engine that takes work changes the channel: it is in use, and what waits for it is its own window (R107). -/
def State.Undisturbed (s : State) (c : Nat) : Prop :=
  (s.rxc c).state ≠ rxIDLE ∧ ∀ i ∈ s.rx.work, i.ch = some c → i.kind = 0

/-- The channel on which an engine works is not one that is undisturbed, unless the item is its window. -/
theorem State.feedEngine_rxc {s : State} {c : Nat} (h : s.Undisturbed c) (e : Nat) :
    (s.feedEngine e).rxc c = s.rxc c ∧ (s.feedEngine e).Undisturbed c := by
  obtain ⟨huse, hwork⟩ := h
  unfold State.feedEngine
  split
  case h_1 => exact ⟨rfl, huse, hwork⟩
  case h_2 =>
    split
    case h_1 => exact ⟨rfl, huse, hwork⟩
    case h_2 i hi =>
      split
      case h_1 => exact ⟨rfl, huse, hwork⟩
      case h_2 j hj =>
        have hrest : ∀ x ∈ s.rx.work.filter (fun x => decide (x ≠ i)), x.ch = some c → x.kind = 0 :=
          fun x hx => hwork x (List.mem_filter.mp hx).1
        dsimp only
        split
        case isTrue => exact ⟨rfl, huse, hrest⟩
        case isFalse hkind =>
          have hne : c ≠ j := by
            rintro rfl
            split at hj
            case h_1 k hk =>
              cases hj
              exact hkind (hwork i (nextItem_mem hi) hk)
            case h_2 => exact huse (State.freeChan_idle hj)
          have hsame := State.setRx_rxc_ne
            { s with rx := { s.rx with
              work := s.rx.work.filter (fun x => decide (x ≠ i)), engines := s.rx.engines.set e (some ⟨i, j, false⟩) } }
            (fun _ => { RxChan.reset with state := rxSEARCH, sat := i.sat, since := s.tm.mt }) hne
          exact ⟨hsame, fun hidle => huse (hsame ▸ hidle), hrest⟩

theorem State.schedule_rxc {s : State} {c : Nat} (h : s.Undisturbed c) : s.schedule.rxc c = s.rxc c := by
  have hfold : ((List.range 8).foldl State.feedEngine s).rxc c = s.rxc c ∧
      ((List.range 8).foldl State.feedEngine s).Undisturbed c :=
    List.foldlRecOn (motive := fun t : State => t.rxc c = s.rxc c ∧ t.Undisturbed c) _ State.feedEngine ⟨rfl, h⟩
      fun t ht e _ => by
      obtain ⟨hsame, hnext⟩ := State.feedEngine_rxc ht.2 e
      exact ⟨hsame.trans ht.1, hnext⟩
  unfold State.schedule
  split
  · rfl
  · exact hfold.1

/-- An engine that takes work leaves alone what is stored and how the receiver started. -/
theorem State.feedEngine_stored (s : State) (e : Nat) :
    ((s.feedEngine e).rx.eph, (s.feedEngine e).rx.hot) = (s.rx.eph, s.rx.hot) := by
  unfold State.feedEngine
  (repeat' split) <;> rfl

theorem State.schedule_stored (s : State) : (s.schedule.rx.eph, s.schedule.rx.hot) = (s.rx.eph, s.rx.hot) := by
  unfold State.schedule
  split
  · rfl
  · exact foldl_keeps_of_mem (fun t => (t.rx.eph, t.rx.hot)) _ _ fun t e _ => t.feedEngine_stored e

/-- Work that is added leaves alone what is stored and how the receiver started. -/
theorem State.addWork_stored (s : State) (l : List AcqItem) :
    (s.addWork l).rx.eph = s.rx.eph ∧ (s.addWork l).rx.hot = s.rx.hot :=
  Prod.mk.inj (State.schedule_stored { s with rx := { s.rx with work := s.rx.work ++ l } })

/-- Items that are added change a channel no more than those that wait. -/
theorem State.addWork_rxc {s : State} {c : Nat} {l : List AcqItem} (h : s.Undisturbed c)
    (hl : ∀ i ∈ l, i.ch = some c → i.kind = 0) : (s.addWork l).rxc c = s.rxc c :=
  State.schedule_rxc (s := { s with rx := { s.rx with work := s.rx.work ++ l } })
    ⟨h.1, fun i hi => (List.mem_append.mp hi).elim (h.2 i) (hl i)⟩

/-- A channel that is changed, with work added beside, stands as it was changed. -/
theorem State.setRx_addWork_rxc {s : State} {c : Nat} {f : RxChan → RxChan} {l : List AcqItem}
    (huse : (f (s.rxc c)).state ≠ rxIDLE) (hwork : ∀ i ∈ s.rx.work, i.ch ≠ some c)
    (hl : ∀ i ∈ l, i.ch = some c → i.kind = 0) : ((s.setRx c f).addWork l).rxc c = f (s.rxc c) := by
  have hundisturbed : (s.setRx c f).Undisturbed c :=
    ⟨by rwa [State.setRx_rxc], fun i hi hch => absurd hch (hwork i hi)⟩
  rw [State.addWork_rxc hundisturbed hl, State.setRx_rxc]

/-- A channel for which nothing waits goes to REACQ in SCALAR, and keeps the rest of its record (R107). -/
theorem State.toReacq_rxc {s : State} {c : Nat} (h : ∀ i ∈ s.rx.work, i.ch ≠ some c) :
    (s.toReacq c).rxc c = { s.rxc c with state := rxREACQ, since := s.tm.mt, mode := 0 } :=
  State.setRx_addWork_rxc (f := fun x => { x with state := rxREACQ, since := s.tm.mt, mode := 0 })
    (show rxREACQ ≠ rxIDLE by decide) h
    fun i hi _ => by rw [List.mem_singleton.mp hi]

theorem State.toCoast_rxc (s : State) (c : Nat) :
    (s.toCoast c).rxc c = { s.rxc c with state := rxCOAST, since := s.tm.mt, recAt := 0 } :=
  State.setRx_rxc _ _ _

/-! ### The record of an RF chain -/

@[simp] theorem State.setRf_rf (s : State) {c : Nat} (f : RfChain → RfChain) (h : c < 4) : (s.setRf c f).rf c = f (s.rf c) :=
  oneOf_getD _ h _ _

end Sys2Proof.Machine
end

section
/-! SUPPORT. Antenna feeds settled (O19). -/

namespace Sys2Proof.Machine

open Sys2Proof

/-! ### The state of a feed (R102) -/

theorem srcGNSS_ANT_raw (s : State) {a : Nat} (ha : a < 2) (on : Bool) (code : Nat) :
    (s.follow (srcGNSS_ANT a) on code).raw (srcGNSS_ANT a) = on := by
  refine s.follow_raw_eq on code ?_ ?_ ?_ <;> simp only [srcGNSS_ANT, srcREC_LOST, srcUCP_EVQ] <;> omega

@[simp] theorem State.setFeed_rx (s : State) (a st : Nat) : (s.setFeed a st).rx = s.rx := State.follow_rx _ _ _ _

theorem State.setFeed_state (s : State) (a st : Nat) : feedState (s.setFeed a st) a = st % 4 := by
  rw [feedState, State.setFeed, State.follow_get _ _ _ _ (faultKey_rk _), State.get_put]
  exact bits_setBits_same _ _ _ _

/-- The feed's source is raised in OPEN and in SHORT. -/
theorem State.setFeed_raw (s : State) {a : Nat} (ha : a < 2) (st : Nat) :
    (s.setFeed a st).raw (srcGNSS_ANT a) = (decide (st = 2) || decide (st = 3)) :=
  srcGNSS_ANT_raw _ ha _ _

/-! ### The four findings -/

theorem antFeedShort_of_enabled {a : Nat} {s : State} (h : s.feedEnabled a = true) : antFeedShort a s =
    (({ s with rx := { s.rx with feedOn := setBit s.rx.feedOn a false } } : State).setFeed a 3).startTimer (tmFeed a) :=
  if_pos h

theorem antFeedTrial_of_due {a : Nat} {s : State} (h : s.feedEnabled a = true) (hshort : feedState s a = 3)
    (hpast : s.timerPast (tmFeed a) nsS = true) :
    antFeedTrial a s = { s.startTimer (tmFeed a) with rx := { s.rx with feedOn := setBit s.rx.feedOn a true } } :=
  if_pos (by simp [h, hshort, hpast])

theorem antFeedOpen_of_on {a : Nat} {s : State} (h : s.feedEnabled a = true) (hon : bit s.rx.feedOn a = true) :
    antFeedOpen a s = s.setFeed a 2 :=
  if_pos (by simp [h, hon])

theorem antFeedNormal_of_on {a : Nat} {s : State} (h : s.feedEnabled a = true) (hon : bit s.rx.feedOn a = true) :
    antFeedNormal a s = s.setFeed a 1 :=
  if_pos (by simp [h, hon])

/-- Settles O19: each finding is a write of the feed's state, and its source follows. -/
theorem antennaFeedStates : Obligations.AntennaFeedStates := by
  intro a s hen
  refine ⟨⟨antFeedShort a.val s, rfl, ?_⟩, fun hshort hpast => ⟨antFeedTrial a.val s, rfl, ?_⟩,
    fun hon => ⟨⟨antFeedOpen a.val s, rfl, ?_⟩, ⟨antFeedNormal a.val s, rfl, ?_⟩⟩⟩
  · rw [antFeedShort_of_enabled hen]
    refine ⟨?_, State.setFeed_state _ _ _, State.setFeed_raw _ a.isLt _⟩
    simp
  · rw [antFeedTrial_of_due hen hshort hpast]
    exact ⟨bit_setBit_same s.rx.feedOn a.val true, fun _ => rfl⟩
  · rw [antFeedOpen_of_on hen hon]
    exact ⟨State.setFeed_rx _ _ _, State.setFeed_state _ _ _, State.setFeed_raw _ a.isLt _⟩
  · rw [antFeedNormal_of_on hen hon]
    exact ⟨State.setFeed_rx _ _ _, State.setFeed_state _ _ _, State.setFeed_raw _ a.isLt _⟩

end Sys2Proof.Machine
end

section
/-! SUPPORT. Carrier, code and the checks of a channel settled (O20). -/

namespace Sys2Proof.Machine

open Sys2Proof

/-! ### What each due change of a channel is (R107, R112) -/

theorem carrierLoss_of_due {c : Nat} {s : State} (hst : (s.rxc c).state = rxTRACK) (hcar : (s.rxc c).codeOnly = false)
    (hlow : s.stood (s.rxc c).lowAt (200 * nsMs) = true ∨ s.stood (s.rxc c).pliLowAt (100 * nsMs) = true) :
    carrierLoss c s = s.setRx c (fun y => { y with codeOnly := true, goodAt := 0 }) :=
  if_pos (by simpa [hst, hcar] using hlow)

theorem carrierRestore_of_due {c : Nat} {s : State} (hst : (s.rxc c).state = rxTRACK) (hcode : (s.rxc c).codeOnly = true)
    (hgood : s.stood (s.rxc c).goodAt (100 * nsMs) = true) :
    carrierRestore c s = s.setRx c (fun y => { y with codeOnly := false, lockAt := s.tm.mt, slip := true }) :=
  if_pos (by simp [hst, hcode, hgood])

theorem codeLost_of_due {c : Nat} {s : State} (hst : (s.rxc c).state = rxTRACK)
    (hlost : s.stood (s.rxc c).lostAt nsS = true) :
    codeLost c s = if (s.rxc c).mode = 0 then s.toReacq c else s.toCoast c :=
  if_pos (by simp [hst, hlost])

theorem coastRecover_of_due {c : Nat} {s : State} (hst : (s.rxc c).state = rxCOAST)
    (hrec : s.stood (s.rxc c).recAt (100 * nsMs) = true) :
    coastRecover c s = s.setRx c (fun y =>
      { y with state := rxTRACK, since := s.tm.mt, codeOnly := true, lostAt := 0, goodAt := 0 }) :=
  if_pos (by simp [hst, hrec])

theorem coastTimeout_of_due {c : Nat} {s : State} (hst : (s.rxc c).state = rxCOAST)
    (hlong : (s.rxc c).since + 5 * nsS ≤ s.tm.mt) : coastTimeout c s = s.toReacq c :=
  if_pos (by simp [hst, hlong])

/-! ### The checks of a channel (R118, R119) -/

theorem falseSignalClear_of_due {c : Nat} {s : State} (hfails : (s.rxc c).fails ≠ 0)
    (hquiet : s.stood (s.rxc c).failAt (30 * nsS) = true) :
    falseSignalClear c s = (s.setRx c (fun y => { y with fails := 0, failAt := 0 })).spoofState :=
  if_pos (by simp [hfails, hquiet])

theorem multipeakCheck_single {c : Nat} {s : State} (hst : (s.rxc c).state = rxTRACK) (hidle : none ∈ s.rx.engines) :
    multipeakCheck c false s = s.setRx c (fun x => { x with peaks := 0 }) :=
  if_pos (by simpa [hst] using hidle)

/-- The code lost sends a SCALAR channel to REACQ and an aided one to COAST. -/
theorem codeLost_state {c : Nat} {s : State} (hst : (s.rxc c).state = rxTRACK) (hlost : s.stood (s.rxc c).lostAt nsS = true)
    (hwork : ∀ i ∈ s.rx.work, i.ch ≠ some c) :
    ((codeLost c s).rxc c).state = if (s.rxc c).mode = 0 then rxREACQ else rxCOAST := by
  rw [codeLost_of_due hst hlost]
  split
  · rw [State.toReacq_rxc hwork]
  · rw [State.toCoast_rxc]

/-- Settles O20: each change that is due rewrites the channel's record. -/
theorem channelCarrierAndCode : Obligations.ChannelCarrierAndCode := by
  intro c s
  refine ⟨fun hst hcar hlow => ⟨carrierLoss c s, rfl, ?_⟩, fun hst hcode hgood => ⟨carrierRestore c s, rfl, ?_⟩,
    fun hst hlost hwork => ⟨codeLost c s, rfl, codeLost_state hst hlost hwork⟩,
    fun hst hrec => ⟨coastRecover c s, rfl, ?_⟩, fun hst hlong hwork => ⟨coastTimeout c s, rfl, ?_⟩,
    fun hfails hquiet => ⟨falseSignalClear c s, rfl, ?_⟩, fun hst hidle => ⟨multipeakCheck c false s, rfl, ?_⟩⟩
  · rw [carrierLoss_of_due hst hcar hlow, State.setRx_rxc]
    exact ⟨rfl, hst⟩
  · rw [carrierRestore_of_due hst hcode hgood, State.setRx_rxc]
    exact ⟨rfl, rfl, rfl, hst⟩
  · rw [coastRecover_of_due hst hrec, State.setRx_rxc]
    exact ⟨rfl, rfl⟩
  · rw [coastTimeout_of_due hst hlong, State.toReacq_rxc hwork]
  · rw [falseSignalClear_of_due hfails hquiet, State.spoofState_rxc, State.setRx_rxc]
    exact ⟨rfl, rfl⟩
  · rw [multipeakCheck_single hst hidle, State.setRx_rxc]
    exact ⟨rfl, hst⟩

end Sys2Proof.Machine
end

section
/-! SUPPORT. Dumps and aiding settled (O22). -/

namespace Sys2Proof.Machine

open Sys2Proof

/-! ### A reversion to SCALAR (R113) -/

theorem srcGNSS_AID_raw (s : State) (on : Bool) (code : Nat) : (s.follow srcGNSS_AID on code).raw srcGNSS_AID = on :=
  s.follow_raw_eq on code (by decide) (by decide) (by decide)

theorem State.aidReversion_rxc (s : State) (c : Nat) : s.aidReversion.rxc c = s.rxc c := by
  unfold State.aidReversion
  dsimp only
  split
  · rfl
  · rw [State.rxc_of_rx (State.follow_rx _ _ _ _)]
    rfl

theorem State.aidReversion_count (s : State) :
    s.aidReversion.get (rk 0x35) = clampN 0xFFFFFFFF (s.get (rk 0x35) + 1) := by
  unfold State.aidReversion
  dsimp only
  split
  · exact State.get_inc32 _ _
  · exact (State.follow_get _ _ _ _ (faultKey_rk _)).trans (State.get_inc32 s _)

/-- The first reversion of an episode raises GNSS_AID. -/
theorem State.aidReversion_raw {s : State} (h : s.rx.aidEpisode = false) : s.aidReversion.raw srcGNSS_AID = true := by
  unfold State.aidReversion
  dsimp only
  rw [if_neg (by simp [h])]
  exact State.follow_raw _ _ _

theorem aidingTimeout_of_track {c : Nat} {s : State} (habs : s.aidAbsent (s.rxc c) = true)
    (hst : (s.rxc c).state = rxTRACK) (hmode : (s.rxc c).mode ≠ 0) :
    aidingTimeout c s = (s.setRx c (fun y => { y with mode := 0 })).aidReversion := by
  have hcoast : (s.rxc c).state ≠ rxCOAST := by rw [hst]; decide
  simp only [aidingTimeout, habs, if_true, if_neg hcoast]
  exact if_pos (by simp [hst, hmode])

theorem aidingTimeout_of_coast {c : Nat} {s : State} (habs : s.aidAbsent (s.rxc c) = true)
    (hst : (s.rxc c).state = rxCOAST) : aidingTimeout c s = s.toReacq c := by
  simp only [aidingTimeout, habs, hst, if_true]

/-! ### What a dump measures (R106) -/

/-- A channel that tracks or coasts applies its aiding to its mode and its commands: the dump's measurements stand. -/
theorem State.applyAid_measured {s : State} {c : Nat} (d : Dump) (hwork : ∀ i ∈ s.rx.work, i.ch ≠ some c) :
    ((s.applyAid c d).rxc c).cn0 = (s.rxc c).cn0 ∧ ((s.applyAid c d).rxc c).pli = (s.rxc c).pli := by
  unfold State.applyAid
  dsimp only
  split
  · exact ⟨rfl, rfl⟩
  · split
    · split
      · rw [State.toReacq_rxc hwork]
        exact ⟨rfl, rfl⟩
      · split
        · rw [State.aidReversion_rxc, State.setRx_rxc]
          exact ⟨rfl, rfl⟩
        · exact ⟨rfl, rfl⟩
    · split
      · split
        · rw [State.toReacq_rxc hwork]
          exact ⟨rfl, rfl⟩
        · rw [State.setRx_rxc]
          exact ⟨rfl, rfl⟩
      · split
        · exact ⟨rfl, rfl⟩
        · (repeat' split) <;> rw [State.setRx_rxc] <;> exact ⟨rfl, rfl⟩

theorem State.checkFail_measured (s : State) (c k : Nat) :
    ((s.checkFail c k).rxc c).cn0 = (s.rxc c).cn0 ∧ ((s.checkFail c k).rxc c).pli = (s.rxc c).pli := by
  unfold State.checkFail
  split
  · rw [State.spoofState_rxc, State.setRx_rxc]
    exact ⟨rfl, rfl⟩
  · exact ⟨rfl, rfl⟩

/-- The record of a channel after its dump, before its aiding is applied. -/
def RxChan.dumped (x : RxChan) (now : Nat) (aided : Bool) (d : Dump) : RxChan := { x with
  cn0 := d.cn0, pli := d.pli, badDump := d.mismatch
  lowAt := markAt now (decide (d.cn0 < cnCodeOnly x.mode)) x.lowAt
  pliLowAt := markAt now (decide (d.pli < 500)) x.pliLowAt
  goodAt := markAt now (decide (cnCarrier x.mode ≤ d.cn0) && decide (800 ≤ d.pli)) x.goodAt
  lostAt := markAt now (decide (d.cn0 < cnLost x.mode)) x.lostAt
  recAt := markAt now (decide (1500 ≤ d.cn0) && aided) x.recAt
  pli8At := markAt now (decide (800 ≤ d.pli)) x.pli8At }

/-- A dump outside PULL_IN without mismatch: the record, then the aiding, then the power check. -/
theorem correlatorDump_of_running {d : Dump} {s : State} (hblk : s.inReset blkSUN = false)
    (hst : (s.rxc d.ch).state = rxTRACK ∨ (s.rxc d.ch).state = rxCOAST) (hok : d.mismatch = false) :
    correlatorDump d s =
      let t := (s.setRx d.ch (fun y => y.dumped s.tm.mt (!s.aidAbsent (s.rxc d.ch)) d)).applyAid d.ch d
      if (t.rxc d.ch).state = rxTRACK && t.cfg (rk 0x24) < d.cn0 then t.checkFail d.ch 0 else t := by
  have hguard : ¬ ((s.inReset blkSUN || decide ((s.rxc d.ch).state < rxPULL_IN) ||
      decide ((s.rxc d.ch).state = rxREACQ)) = true) := by
    rcases hst with h | h <;> simp [hblk, h, rxTRACK, rxCOAST, rxPULL_IN, rxREACQ]
  have hpull : decide ((s.rxc d.ch).state = rxPULL_IN) = false := by
    rcases hst with h | h <;> simp [h, rxTRACK, rxCOAST, rxPULL_IN]
  unfold correlatorDump
  dsimp only
  rw [if_neg hguard]
  simp only [hok, hpull, Bool.false_and, Bool.false_eq_true, if_false, RxChan.dumped]

theorem correlatorDump_measured {d : Dump} {s : State} (hblk : s.inReset blkSUN = false)
    (hst : (s.rxc d.ch).state = rxTRACK ∨ (s.rxc d.ch).state = rxCOAST) (hok : d.mismatch = false)
    (hwork : ∀ i ∈ s.rx.work, i.ch ≠ some d.ch) :
    ((correlatorDump d s).rxc d.ch).cn0 = d.cn0 ∧ ((correlatorDump d s).rxc d.ch).pli = d.pli := by
  have haid := State.applyAid_measured (s := s.setRx d.ch (fun y => y.dumped s.tm.mt (!s.aidAbsent (s.rxc d.ch)) d))
    (c := d.ch) d hwork
  rw [State.setRx_rxc] at haid
  rw [correlatorDump_of_running hblk hst hok]
  dsimp only
  split
  · obtain ⟨hcn0, hpli⟩ := State.checkFail_measured
      ((s.setRx d.ch (fun y => y.dumped s.tm.mt (!s.aidAbsent (s.rxc d.ch)) d)).applyAid d.ch d) d.ch 0
    exact ⟨hcn0.trans haid.1, hpli.trans haid.2⟩
  · exact haid

/-! ### A set that is issued (R113, R145) -/

/-- What issuing a set gives to its channel. -/
def State.giveAid (s : State) (tA : Nat) (t : State) (a : AidSet) : State :=
  if (t.rxc a.ch).state = rxTRACK || (t.rxc a.ch).state = rxCOAST then
    t.setRx a.ch (fun y => { y with aid := some a, tA := tA, aidAt := s.tm.mt + 1 })
  else t

theorem State.giveAid_rxc {s t : State} {a : AidSet} (tA : Nat)
    (hst : (t.rxc a.ch).state = rxTRACK ∨ (t.rxc a.ch).state = rxCOAST) :
    (s.giveAid tA t a).rxc a.ch = { t.rxc a.ch with aid := some a, tA := tA, aidAt := s.tm.mt + 1 } := by
  rw [State.giveAid, if_pos (by simpa using hst), State.setRx_rxc]

/-- Issued sets are given one after another, and GNSS_AID's condition ends. -/
theorem aidingIssue_of_due {sets : List AidSet} {s : State} (hslot : s.tm.sched % 20 = 0) (hon : s.cfg (ob 0x2400 1) = 1)
    (hblk : s.inReset blkYAR = false) (hne : sets ≠ []) : ∃ tA, aidingIssue sets s =
      (let t := sets.foldl (s.giveAid tA) s
       ({ t with rx := { t.rx with aidEpisode := false } } : State).follow srcGNSS_AID false 0) := by
  refine ⟨s.tm.mt + 1500 * tickInc s.rate / 2 ^ 32, ?_⟩
  unfold aidingIssue
  rw [if_pos (by simp [hslot, hon, hblk])]
  exact if_neg hne

/-- Settles O22: a dump's measurements outlast what follows them, an issued set is given to its channel, and absent
aiding is a reversion or an end of coasting. -/
theorem dumpsAndAiding : Obligations.DumpsAndAiding := by
  intro s
  refine ⟨fun d hblk hst hok hwork => ⟨correlatorDump d s, rfl, correlatorDump_measured hblk hst hok hwork⟩,
    fun sets hslot hon hblk hne => ⟨aidingIssue sets s, rfl, ?_⟩,
    fun c habs => ⟨fun hst hmode => ⟨aidingTimeout c s, rfl, ?_⟩, fun hst hwork => ⟨aidingTimeout c s, rfl, ?_⟩⟩⟩
  · obtain ⟨tA, hissue⟩ := aidingIssue_of_due hslot hon hblk hne
    rw [hissue]
    refine ⟨srcGNSS_AID_raw _ _ _, ?_⟩
    rintro a rfl hst
    have hrec := State.giveAid_rxc (s := s) tA hst
    rw [State.rxc_of_rx (State.follow_rx _ _ _ _)]
    exact ⟨congrArg RxChan.aid hrec, congrArg RxChan.aidAt hrec⟩
  · rw [aidingTimeout_of_track habs hst hmode, State.aidReversion_rxc, State.setRx_rxc, State.aidReversion_count,
      (s.setRx_chan c _).get_eq (chanFoot_rk (by decide) (by decide) (by decide) (by decide))]
    exact ⟨rfl, hst, rfl, fun hepisode => State.aidReversion_raw hepisode⟩
  · rw [aidingTimeout_of_coast habs hst, State.toReacq_rxc hwork]

end Sys2Proof.Machine
end

section
/-! SUPPORT. Interference reports settled (O23). -/

namespace Sys2Proof.Machine

open Sys2Proof

/-! ### Blanking (R114) -/

/-- What a blanking window with blanking on publishes and notes; its third window in a row beyond the limit, or its tenth
within it, then decides PULSED. -/
def State.blankReport (s : State) (c share n : Nat) : State :=
  ((s.put (rck c 2) (clampN 1000 share)).add32 (rck c 3) n).setRf c (fun r => { r with
    overRun := if decide (10 * s.cfg (rk 0x21) < share) then r.overRun + 1 else 0
    underRun := if decide (10 * s.cfg (rk 0x21) < share) then 0 else r.underRun + 1 })

theorem State.blankReport_objects (s : State) (c share n : Nat) :
    (s.blankReport c share n).get (rck c 2) = clampN 1000 share ∧
      (s.blankReport c share n).get (rck c 3) = clampN 0xFFFFFFFF (s.get (rck c 3) + n) := by
  rw [State.blankReport, State.setRf_get, State.setRf_get, State.get_add32_ne _ _ (by simp), State.get_put,
    State.get_add32, State.get_put_ne _ _ (by simp)]
  exact ⟨rfl, rfl⟩

theorem blankingWindow_of_on {c share n : Nat} {s : State} (hon : s.cfg (rk 0x1E) = 1) : blankingWindow c share n s =
    if 3 ≤ ((s.blankReport c share n).rf c).overRun then (s.blankReport c share n).putBit (rck c 0) 5 true
    else if 10 ≤ ((s.blankReport c share n).rf c).underRun then (s.blankReport c share n).putBit (rck c 0) 5 false
    else s.blankReport c share n := by
  simp only [blankingWindow, if_pos hon]
  rfl

/-- Deciding PULSED moves no object but the chain's status. -/
theorem blankingWindow_get {c share n k : Nat} {s : State} (hon : s.cfg (rk 0x1E) = 1) (hk : k ≠ rck c 0) :
    (blankingWindow c share n s).get k = (s.blankReport c share n).get k := by
  rw [blankingWindow_of_on hon]
  split
  · exact State.get_putBit_ne _ _ _ hk
  · split
    · exact State.get_putBit_ne _ _ _ hk
    · rfl

theorem blankingWindow_pulsed {c share n : Nat} {s : State} (hc : c < 4) (hon : s.cfg (rk 0x1E) = 1)
    (hbeyond : 10 * s.cfg (rk 0x21) < share) (hrun : 2 ≤ (s.rf c).overRun) :
    bit ((blankingWindow c share n s).get (rck c 0)) 5 = true := by
  have hthird : 3 ≤ ((s.blankReport c share n).rf c).overRun := by
    rw [State.blankReport, State.setRf_rf _ _ hc]
    simp only [hbeyond, decide_true, if_true]
    exact Nat.succ_le_succ hrun
  rw [blankingWindow_of_on hon, if_pos hthird, State.get_putBit, bit_setBit_same]

/-! ### The detector (R115) -/

theorem detectorEpoch_lastSeen {c : Nat} (hc : c < 4) (l : List Interferer) (s : State) :
    ((detectorEpoch c l s).rf c).lastSeen = l.map (fun i => i.id) :=
  congrArg RfChain.lastSeen (State.setRf_rf s _ hc)

/-- With the chain's notches disabled every notch reads free. -/
theorem detectorEpoch_free {c k : Nat} {l : List Interferer} {s : State} (hoff : bit (s.cfg (rk 0x1B)) c = false)
    (hk : k < 4) : (detectorEpoch c l s).get (rck c (4 + k)) = 0x7FFFFFFF := by
  unfold detectorEpoch
  dsimp only
  rw [State.get_putBit_ne _ _ _ (by simp; omega), State.get_putBit_ne _ _ _ (by simp; omega)]
  refine (foldl_put_get _ (fun j => rck c (4 + j)) _ 4 (fun i j hi hj => by simp; omega) k hk).trans ?_
  simp only [hoff, Bool.false_eq_true, if_false]
  interval_cases k <;> rfl

/-! ### Jamming (R117) -/

/-- The level of a J/N in 0.1 dB. -/
def jamLevel (jn : Nat) : Nat := if 150 ≤ jn then 2 else if 30 ≤ jn then 1 else 0

/-- The objects that a jamming measurement publishes. -/
def State.jamReport (s : State) (c jn agc : Nat) (limit pll : Bool) : State :=
  ((s.put (rck c 0) (setBit (setBit (setBits (s.get (rck c 0)) 6 2 (jamLevel jn)) 1 limit) 2 (!pll))).put (rck c 1)
    (clampN 65535 jn)).put (rck c 8) (clampN 65535 agc)

/-- What follows the published objects notes marks and C/N0 and may fail checks. -/
theorem jammingMeasure_report (c jn agc : Nat) (limit pll : Bool) (s : State) :
    Kept checkFoot (s.jamReport c jn agc limit pll) (jammingMeasure c jn agc limit pll s) := by
  have hk := Kept.refl checkFoot (s.jamReport c jn agc limit pll)
  have hrx : checkFoot.rx = true := rfl
  have hfault : checkFoot.flt = true ∧ checkFoot.rcd = true ∧ checkFoot.ucp = true ∧ checkFoot.grp 0x28 :=
    ⟨rfl, rfl, rfl, faults_collector⟩
  have hlost : checkFoot.idx (ob 0x2E00 0x0A) = true ∧ checkFoot.idx recLostCount = true := ⟨rfl, rfl⟩
  have hcounts : checkFoot.idx (rk 5) = true ∧ checkFoot.idx (rk 6) = true ∧ checkFoot.idx (rk 7) = true ∧
      checkFoot.idx (rk 0x25) = true := ⟨rfl, rfl, rfl, rfl⟩
  unfold State.jamReport jamLevel at hk
  unfold jammingMeasure State.jamReport jamLevel
  simp (contextual := true) (maxDischargeDepth := 60) [hk, hrx, hfault, hlost, hcounts]

theorem State.jamReport_level (s : State) (c jn agc : Nat) (limit pll : Bool) :
    bits ((s.jamReport c jn agc limit pll).get (rck c 0)) 6 2 = jamLevel jn := by
  rw [State.jamReport, State.get_put_ne _ _ (by simp), State.get_put_ne _ _ (by simp), State.get_put,
    bits_setBit_lt _ _ _ (by decide), bits_setBit_lt _ _ _ (by decide), bits_setBits_same]
  unfold jamLevel
  split_ifs <;> rfl

theorem gnssJamRaise_of_severe {c : Nat} {s : State} (h : s.stood (s.rf c).severeAt nsS = true) :
    gnssJamRaise c s = s.follow srcGNSS_JAM true c :=
  if_pos h

/-! ### Chains in use (R117, R131) -/

/-- The channels of a chain that goes out of use go to IDLE. -/
def State.chainChannels (s : State) (c : Nat) (use : Bool) : State :=
  if use then s.putBit (rck c 0) 0 use else
    (s.rx.chans.filter (fun p => decide (chainOf p.2.sat.ant p.2.sat.sig = c) && decide (p.2.state ≠ rxIDLE))).foldl
      (fun t p => t.rxIdle p.1) (s.putBit (rck c 0) 0 use)

theorem State.chainUse_eq (s : State) (c : Nat) (use : Bool) : s.chainUse c use = (s.chainChannels c use).follow srcGNSS_RF
    ((List.range 4).any (fun k => !((s.chainChannels c use).chainUsed k)) &&
      decide ((s.chainChannels c use).cfg (rk 1) = 1)) 0 := rfl

theorem State.chainChannels_chan (s : State) (c : Nat) (use : Bool) :
    Kept chanFoot (s.putBit (rck c 0) 0 use) (s.chainChannels c use) := by
  have hk := Kept.refl chanFoot (s.putBit (rck c 0) 0 use)
  unfold State.chainChannels
  split
  · exact hk
  · exact kept_foldl _ _ (fun t p ht => State.rxIdle_kept t p.1 rfl rfl rfl rfl ht) hk

theorem State.chainChannels_used (s : State) {c : Nat} (use : Bool) (hc : c < 4) :
    (s.chainChannels c use).chainUsed c = use := by
  rw [State.chainUsed, (s.chainChannels_chan c use).get_eq (chanFoot_rck hc (by decide)), State.get_putBit, bit_setBit_same]

theorem State.chainUse_used (s : State) {c : Nat} (use : Bool) (hc : c < 4) : (s.chainUse c use).chainUsed c = use := by
  rw [State.chainUse_eq, State.chainUsed, State.follow_get _ _ _ _ (faultKey_rck _ _)]
  exact s.chainChannels_used use hc

/-- While the receiver is enabled, a chain out of use raises GNSS_RF. -/
theorem State.chainUse_raw {s : State} {c : Nat} (hc : c < 4) (hen : s.cfg (rk 1) = 1) :
    (s.chainUse c false).raw srcGNSS_RF = true := by
  have hcfg : (s.chainChannels c false).cfg (rk 1) = 1 := by
    rw [State.cfg, (s.chainChannels_chan c false).objs0.resolve_left (by decide)]
    exact hen
  have hany : (List.range 4).any (fun k => !((s.chainChannels c false).chainUsed k)) = true :=
    List.any_eq_true.mpr ⟨c, List.mem_range.mpr hc, by simp [s.chainChannels_used false hc]⟩
  rw [State.chainUse_eq, hcfg, hany]
  exact State.follow_raw _ _ _

theorem chainOut_of_due {c : Nat} {s : State}
    (h : bit (s.get (rck c 0)) 2 = true ∨ s.stood (s.rf c).limitAt nsS = true) : chainOut c s = s.chainUse c false :=
  if_pos (by simpa using h)

theorem chainBack_of_due {c : Nat} {s : State} (hout : s.chainUsed c = false) (hok : s.stood (s.rf c).okAt nsS = true) :
    chainBack c s = s.chainUse c true :=
  if_pos (by simp [hout, hok])

/-- Settles O23: each report is written before what follows from it, and what follows leaves it alone. -/
theorem interferenceReports : Obligations.InterferenceReports := by
  intro c s
  refine ⟨fun share n hon => ⟨blankingWindow c.val share n s, rfl, ?_, ?_, blankingWindow_pulsed c.isLt hon⟩,
    fun l => ⟨detectorEpoch c.val l s, rfl, detectorEpoch_lastSeen c.isLt l s, fun hoff k hk => detectorEpoch_free hoff hk⟩,
    fun jn agc limit pll => ⟨jammingMeasure c.val jn agc limit pll s, rfl, ?_⟩,
    fun hsevere => ⟨gnssJamRaise c.val s, rfl, ?_⟩, fun hdue hen => ⟨chainOut c.val s, rfl, ?_⟩,
    fun hout hok => ⟨chainBack c.val s, rfl, ?_⟩⟩
  · rw [blankingWindow_get hon (by simp), (s.blankReport_objects _ _ _).1]
  · rw [blankingWindow_get hon (by simp), (s.blankReport_objects _ _ _).2]
  · have hkept {a : Nat} (ha : a < 16) :=
      (jammingMeasure_report c.val jn agc limit pll s).get_eq (checkFoot_rck c.isLt ha)
    rw [hkept (by decide), hkept (by decide), hkept (by decide)]
    refine ⟨?_, State.get_put _ _ _, State.jamReport_level _ _ _ _ _ _⟩
    rw [State.jamReport, State.get_put_ne _ _ (by simp), State.get_put]
  · rw [gnssJamRaise_of_severe hsevere]
    exact State.follow_raw _ _ _
  · rw [chainOut_of_due hdue]
    exact ⟨s.chainUse_used false c.isLt, State.chainUse_raw c.isLt hen⟩
  · rw [chainBack_of_due hout hok]
    exact s.chainUse_used true c.isLt

end Sys2Proof.Machine
end

section
/-! SUPPORT. Corrections and NMEA settled (O24). -/

namespace Sys2Proof.Machine

open Sys2Proof

/-! ### The correction stream (R122, R123) -/

/-- What the parser may change: the receiver, and the station and the counts of messages. -/
def parseFoot : Foot := { rx := true, idx := objects [] [rk 0x28, rk 0x29, rk 0x2A, rk 0x2B] [] }

theorem State.rtcmParse_parse (n : Nat) (s : State) : Kept parseFoot s (State.rtcmParse n s) :=
  State.rtcmParse_kept n s rfl rfl rfl rfl rfl (Kept.refl _ s)

theorem hCorrection_run_at {s : State} (w : Who) {off : Nat} {data : List Byte} (h : off = s.get (rk 0x37)) :
    ∃ n t, t.get (rk 0x37) = (s.get (rk 0x37) + data.length) % 2 ^ 32 ∧
      hCorrection.run s w (.blk off data) = (State.rtcmParse n t, stOK) :=
  ⟨_, { s.put (rk 0x37) ((s.get (rk 0x37) + data.length) % 2 ^ 32) with rx := { s.rx with rtcm := s.rx.rtcm ++ data } },
    State.get_put s _ _, if_neg (fun hne => hne h)⟩

theorem hCorrection_run_off {s : State} (w : Who) {off : Nat} {data : List Byte} (h : off ≠ s.get (rk 0x37)) :
    hCorrection.run s w (.blk off data) = (s, stOFFSET) :=
  if_pos h

/-- A block at the running count is taken whole: the count moves on by its length, whatever the parser finds in it. -/
theorem correctionInput_taken {s : State} {w : Who} {off : Nat} {data : List Byte}
    (hacc : s.accepts w 0x2300 0x26 (.blk off data) hCorrection = true) (hoff : off = s.get (rk 0x37)) :
    (s.request w 0x2300 0x26 (.blk off data) hCorrection).ucp.last.status = stOK ∧
      (s.request w 0x2300 0x26 (.blk off data) hCorrection).get (rk 0x37) = (s.get (rk 0x37) + data.length) % 2 ^ 32 := by
  obtain ⟨n, t, hcount, hrun⟩ := hCorrection_run_at (data := data) w hoff
  rw [State.request_status hacc, State.request_get hacc (rk_ne_changeCount _), hrun]
  exact ⟨rfl, ((State.rtcmParse_parse n t).get_eq (by decide)).trans hcount⟩

theorem correctionInput_refused {s : State} {w : Who} {off : Nat} {data : List Byte}
    (hacc : s.accepts w 0x2300 0x26 (.blk off data) hCorrection = true) (hoff : off ≠ s.get (rk 0x37)) :
    (s.request w 0x2300 0x26 (.blk off data) hCorrection).ucp.last.status = stOFFSET ∧
      (s.request w 0x2300 0x26 (.blk off data) hCorrection).rx = s.rx ∧
      (s.request w 0x2300 0x26 (.blk off data) hCorrection).get (rk 0x37) = s.get (rk 0x37) := by
  rw [State.request_status hacc, State.request_rx hacc, State.request_get hacc (rk_ne_changeCount _),
    hCorrection_run_off w hoff]
  exact ⟨rfl, rfl, rfl⟩

/-! ### Epochs (R124) -/

/-- The receiver and the estimator after an epoch was passed to it. -/
def State.corrPassed (s : State) (c : CorrEpoch) (age : Nat) (carrier : Bool) : State := { s with
  rx := { s.rx with corr := none, corrAt := s.tm.mt + 1, corrAge := age, corrCarrier := carrier }
  nav := { s.nav with stationChange := s.nav.stationChange || c.change } }

theorem correctionPass_of_usable {s : State} {c : CorrEpoch} {age : Nat} {carrier : Bool} (hc : s.rx.corr = some c)
    (hcomplete : c.complete = true) (hyoung : age ≤ 10 * s.cfg (rk 0x27)) :
    correctionPass age true carrier s = (s.corrPassed c age carrier).follow srcGNSS_CORR false 0 := by
  unfold correctionPass
  rw [hc]
  dsimp only
  rw [if_neg (by simp [hcomplete]), if_neg (by simp [hyoung])]
  rfl

theorem correctionPass_of_old {s : State} {c : CorrEpoch} {age : Nat} {usable carrier : Bool} (hc : s.rx.corr = some c)
    (hcomplete : c.complete = true) (hold : 10 * s.cfg (rk 0x27) < age) :
    correctionPass age usable carrier s = { s with rx := { s.rx with corr := none } } := by
  unfold correctionPass
  rw [hc]
  dsimp only
  rw [if_neg (by simp [hcomplete]), if_pos (by simp [hold])]

theorem corrTimeout_of_late {s : State} (h : s.stood s.rx.corrAt (s.cfg (rk 0x27) * nsS) = true) :
    corrTimeout s = s.follow srcGNSS_CORR true 0 :=
  if_pos h

/-! ### Sentences (R122) -/

theorem nmeaOutput_count {bytes : List Byte} {s : State} (hon : s.cfg (rk 0x2E) ≠ 0) (hne : bytes ≠ []) :
    (nmeaOutput bytes s).rx.nmeaCount = (s.rx.nmeaCount + bytes.length) % 2 ^ 32 := by
  unfold nmeaOutput
  rw [if_neg (by simp [hon, hne])]
  dsimp only
  rw [State.event_rx]

/-- Settles O24: a block of corrections is taken at the running count alone, and an epoch leaves the receiver passed or
dropped. -/
theorem correctionsAndNmea : Obligations.CorrectionsAndNmea := by
  intro s
  refine ⟨fun w off data hacc => ⟨fun hoff => ⟨_, rfl, correctionInput_taken hacc hoff⟩,
      fun hoff => ⟨_, rfl, correctionInput_refused hacc hoff⟩⟩,
    fun c age usable carrier hc hcomplete => ⟨?_, fun hold => ?_⟩, fun hlate => ⟨corrTimeout s, rfl, ?_⟩,
    fun bytes hon hne => ⟨nmeaOutput bytes s, rfl, nmeaOutput_count hon hne⟩⟩
  · rintro hyoung rfl
    refine ⟨correctionPass age true carrier s, rfl, ?_⟩
    rw [correctionPass_of_usable hc hcomplete hyoung, State.follow_rx]
    exact ⟨rfl, rfl, State.follow_raw_eq _ _ _ (by decide) (by decide) (by decide)⟩
  · exact congrArg Host.Outcome.next (correctionPass_of_old hc hcomplete hold)
  · rw [corrTimeout_of_late hlate]
    exact ⟨State.follow_raw _ _ _, State.follow_rx _ _ _ _⟩

end Sys2Proof.Machine
end

section
/-! SUPPORT. Stored receiver data and the starts of the receiver settled (O25). -/

namespace Sys2Proof.Machine

open Sys2Proof

/-! ### A start (R109) -/

/-- A start clears the chains' notch objects and their notch bits. -/
def State.freeNotches (s : State) : State := (List.range 4).foldl (fun t ch =>
  (List.range 4).foldl (fun u n => u.put (rck ch (4 + n)) 0x7FFFFFFF)
    ((t.putBit (rck ch 0) 3 false).putBit (rck ch 0) 4 false)) s

theorem State.freeNotches_rx (s : State) : s.freeNotches.rx = s.rx := by
  have hobjs : Kept { idx := fun _ => true } s s.freeNotches :=
    kept_foldl _ _ (fun t ch ht => kept_foldl _ _ (fun u n hu => State.put_kept hu rfl)
      (State.put_kept (State.put_kept ht rfl) rfl)) (Kept.refl _ s)
  exact hobjs.rx_eq rfl

theorem State.freeNotches_get (s : State) {a : Nat} (ha : a < 0x50) : s.freeNotches.get (rk a) = s.get (rk a) := by
  refine foldl_keeps_of_mem (fun t => t.get (rk a)) _ _ fun t ch hch => ?_
  have hne {b : Nat} (hb : b < 16) : rk a ≠ rck ch b := (rck_ne_rk (List.mem_range.mp hch) hb ha).symm
  refine (foldl_keeps_of_mem (fun t => t.get (rk a)) _ _ fun u n hn => State.get_put_ne _ _ (hne ?_)).trans ?_
  · have := List.mem_range.mp hn
    omega
  · rw [State.get_putBit_ne _ _ _ (hne (by decide)), State.get_putBit_ne _ _ _ (hne (by decide))]

/-- The receiver as a start leaves it before any work is scheduled. -/
def State.rxCleared (s : State) (hot : Bool) : State := { s with rx := { s.rx with
  chans := [], engines := List.replicate 8 none, work := [], hot := hot
  rf := everyOf RfChain.reset 4 s.rx.rf (fun r => { r with notches := [none, none, none, none], lastSeen := [] }) } }

theorem State.rxStart_eq_addWork (s : State) (directed : List SvSig) (known : Nat) (hot : Bool) :
    ∃ l, s.rxStart directed known hot = (s.rxCleared hot).freeNotches.rxCounts.addWork l := ⟨_, rfl⟩

/-- A start notes whether it is hot, and leaves what is stored and its marks. -/
theorem State.rxStart_stored (s : State) (directed : List SvSig) (known : Nat) (hot : Bool) :
    (s.rxStart directed known hot).rx.hot = hot ∧ (s.rxStart directed known hot).rx.eph = s.rx.eph ∧
      (s.rxStart directed known hot).get (rk 0x36) = s.get (rk 0x36) := by
  obtain ⟨l, hstart⟩ := s.rxStart_eq_addWork directed known hot
  obtain ⟨heph, hhot⟩ := State.addWork_stored (s.rxCleared hot).freeNotches.rxCounts l
  have hcleared : (s.rxCleared hot).freeNotches.rxCounts.rx = (s.rxCleared hot).rx :=
    (State.rxCounts_rx _).trans (State.freeNotches_rx _)
  have hcounts := (State.rxCounts_chan (s.rxCleared hot).freeNotches).get_eq (k := rk 0x36) (by decide)
  have hmarks := (State.addWork_chan (s.rxCleared hot).freeNotches.rxCounts l).get_eq (k := rk 0x36) (by decide)
  rw [hstart, heph, hhot, hmarks, hcounts, hcleared, State.freeNotches_get _ (by decide)]
  exact ⟨rfl, rfl, rfl⟩

/-! ### The handler of the start requests (R110, R130) -/

theorem hRxStart_run_hot (s : State) (w : Who) (directed : List SvSig) (known : Nat) (near : Bool) :
    (hRxStart directed known near).run s w (.num 1) = (s.rxStart directed known (s.mayBeHot near), stOK) := rfl

theorem hRxStart_run_noEph (s : State) (w : Who) (directed : List SvSig) (known : Nat) (near : Bool) :
    (hRxStart directed known near).run s w (.num 2) =
      (({ s.putBit (rk 0x36) 1 false with rx := { s.rx with eph := [] } } : State).rxStart directed known false, stOK) := rfl

theorem hRxStart_run_cold (s : State) (w : Who) (directed : List SvSig) (known : Nat) (near : Bool) :
    (hRxStart directed known near).run s w (.num 3) =
      (({ s.put (rk 0x36) 0 with rx := { s.rx with eph := [] } } : State).rxStart [] 0 false, stOK) := rfl

/-- An accepted start request answers OK and is the start that its handler calculates. -/
theorem startRequest_stored {s u : State} {w : Who} {v : Nat} {directed : List SvSig} {known : Nat} {near hot : Bool}
    {d : List SvSig} {k : Nat} (hacc : s.accepts w 0x2300 0x34 (.num v) (hRxStart directed known near) = true)
    (hrun : (hRxStart directed known near).run s w (.num v) = (u.rxStart d k hot, stOK)) :
    (s.request w 0x2300 0x34 (.num v) (hRxStart directed known near)).ucp.last.status = stOK ∧
      (s.request w 0x2300 0x34 (.num v) (hRxStart directed known near)).rx.hot = hot ∧
      (s.request w 0x2300 0x34 (.num v) (hRxStart directed known near)).rx.eph = u.rx.eph ∧
      (s.request w 0x2300 0x34 (.num v) (hRxStart directed known near)).get (rk 0x36) = u.get (rk 0x36) := by
  rw [State.request_status hacc, State.request_rx hacc, State.request_get hacc (rk_ne_changeCount _), hrun]
  exact ⟨rfl, u.rxStart_stored d k hot⟩

/-- Settles O25: storing is a write of the marks, and each start request is a start from what it leaves stored. -/
theorem receiverStarts : Obligations.ReceiverStarts := by
  intro s
  refine ⟨fun mask sats => ⟨receiverStore mask sats s, rfl, State.get_put _ _ _, rfl⟩,
    fun w directed known near hacc => ⟨_, rfl, startRequest_stored hacc (hRxStart_run_hot _ _ _ _ _)⟩,
    fun w directed known hacc => ⟨_, rfl, ?_⟩, fun w hacc => ⟨_, rfl, ?_⟩⟩
  · obtain ⟨hstatus, hhot, heph, hmarks⟩ := startRequest_stored hacc (hRxStart_run_noEph _ _ _ _ _)
    exact ⟨hstatus, hhot, heph, hmarks.trans (State.get_putBit s (rk 0x36) 1 false)⟩
  · obtain ⟨hstatus, hhot, heph, hmarks⟩ := startRequest_stored hacc (hRxStart_run_cold _ _ _ _ _)
    exact ⟨hstatus, hhot, heph, hmarks.trans (State.get_put s (rk 0x36) 0)⟩

end Sys2Proof.Machine
end

section
/-! SUPPORT. Fault sources settled: occurrences, ends and forcing (O29), clears and the decay of a source's STEP (O30).
`NotRaisedBySettling` names the sources that no posted record or event can itself raise. -/

namespace Sys2Proof.Machine

open Sys2Proof

/-! ### Sources that settling leaves alone -/

/-- The status word of `src` is neither REC_LOST's nor UCP_EVQ's, the two that settling raises (R302, R347). -/
def NotRaisedBySettling (src : Nat) : Prop := stKey src ≠ stKey srcREC_LOST ∧ stKey src ≠ stKey srcUCP_EVQ

theorem notRaisedBySettling {src : Nat} (h : src < 512) (hrec : src ≠ srcREC_LOST) (hevq : src ≠ srcUCP_EVQ) :
    NotRaisedBySettling src :=
  ⟨fun e => hrec (stKey_inj h (by decide) e), fun e => hevq (stKey_inj h (by decide) e)⟩

@[simp] theorem cfgKey_ne_st {a b : Nat} : cfgKey a ≠ stKey b := by unfold cfgKey stKey ob; omega

theorem stKey_ne_changeCount (src : Nat) : stKey src ≠ ob 0x3000 4 := by unfold stKey ob; omega

theorem State.isPending_of_get {s t : State} {x : Nat} (h : t.get (stKey x) = s.get (stKey x)) : t.isPending x = s.isPending x := by
  rw [State.isPending, State.isPending, h]

theorem State.raiseEvent_isPending_other (s : State) {src x : Nat} (code : Nat) (h : stKey x ≠ stKey src) :
    (s.raiseEvent src code).isPending x = s.isPending x := by
  unfold State.raiseEvent
  split
  · rfl
  · lift_lets
    intro marked noted
    have hmarked : marked.get (stKey x) = s.get (stKey x) :=
      (State.get_put_ne _ _ h).trans (State.get_put_ne _ _ stKey_ne_code)
    unfold State.isPending
    rw [State.occurBase_isPending, if_neg h, State.get_flt marked, hmarked]

/-- What the collector's notes do not tell, and the two raises of settling keep, outlasts it. -/
theorem State.settle_ind (s : State) (P : State → Prop) (h : P s) (hflt : ∀ t f, P t → P { t with flt := f })
    (hrec : ∀ t, P t → P (t.raiseEvent srcREC_LOST 0)) (hevq : ∀ t, P t → P (t.raiseEvent srcUCP_EVQ 0)) : P s.settle := by
  unfold State.settle
  lift_lets
  intro _ afterRec _ afterEvq _
  have h1 : P afterRec := by
    simp only [afterRec]
    split
    · exact hrec _ (hflt _ _ h)
    · exact h
  have h2 : P afterEvq := by
    simp only [afterEvq]
    split
    · exact hevq _ (hflt _ _ h1)
    · exact h1
  exact hflt _ _ h2

theorem State.settle_isPending_other (s : State) {x : Nat} (h : NotRaisedBySettling x) :
    s.settle.isPending x = s.isPending x := by
  obtain ⟨hrec, hevq⟩ := h
  exact s.settle_ind (fun t => t.isPending x = s.isPending x) rfl (fun _ _ ht => ht)
    (fun t ht => (t.raiseEvent_isPending_other 0 hrec).trans ht) (fun t ht => (t.raiseEvent_isPending_other 0 hevq).trans ht)

/-! ### Clears (R279, R282) -/

theorem State.clearRecord_get (s : State) (src : Nat) (cred : Option (Nat × Nat)) (x : Nat) :
    (s.clearRecord src cred).get (stKey x) = s.get (stKey x) := by
  unfold State.clearRecord
  split <;> exact State.push_only _ _ _ _ _ _ stKey_ne_lost

/-- A clear ends its own source's PENDING and touches no other's. -/
theorem State.clearSource_isPending (s : State) (src : Nat) (cred : Option (Nat × Nat)) {x : Nat} (h : NotRaisedBySettling x) :
    (s.clearSource src cred).isPending x = if stKey x = stKey src then false else s.isPending x := by
  unfold State.clearSource
  split
  · lift_lets
    intro cleared _ noted recorded
    rw [State.settle_isPending_other _ h]
    unfold State.isPending
    rw [State.send_only _ _ _ _ stKey_ne_evq, State.clearRecord_get noted]
    exact State.setPending_bit s src false false x
  · next hclear =>
    split
    · next hkey => simpa [State.isPending, hkey] using hclear
    · rfl

/-- Clearing source after source ends the PENDING of those in the list alone. -/
theorem State.foldl_clearSource_isPending (cred : Option (Nat × Nat)) {x : Nat} (hx : x < 512) (h : NotRaisedBySettling x)
    (l : List Nat) : ∀ s : State, (∀ y ∈ l, y < 512) →
      (l.foldl (fun t y => t.clearSource y cred) s).isPending x = (s.isPending x && !l.contains x) := by
  induction l with
  | nil => intro s _; simp
  | cons y rest ih =>
    intro s hl
    have hkey : stKey x = stKey y ↔ x = y := ⟨stKey_inj hx (hl y (by simp)), congrArg stKey⟩
    rw [List.foldl_cons, ih _ (fun z hz => hl z (List.mem_cons_of_mem y hz)), State.clearSource_isPending s y cred h]
    by_cases hxy : x = y <;> simp [hkey, hxy]

/-! ### What follows a change of RAW or FORCED (R269, R273, R279) -/

/-- RAW, FORCED and ACTIVE are settled before the occurrence or the clear that follows. -/
theorem State.afterActive_low (s : State) (src : Nat) (was : Bool) (h : NotRaisedBySettling src) {i : Nat} (hi : i < 3) :
    bit ((s.afterActive src was).get (stKey src)) i =
      bit (setBit (s.get (stKey src)) 2 (s.raw src || s.forced src)) i := by
  obtain ⟨hrec, hevq⟩ := h
  rw [← State.get_putBit]
  unfold State.afterActive
  dsimp only
  split
  · rw [State.settle_low _ _ hi hrec hevq, State.occurBase_low _ _ _ hi]
  · split
    · split
      · rfl
      · rw [State.clearSource_low _ _ _ _ hi hrec hevq]
    · rfl

theorem State.afterActive_status (s : State) (src : Nat) (was : Bool) (h : NotRaisedBySettling src) :
    (s.afterActive src was).raw src = s.raw src ∧ (s.afterActive src was).forced src = s.forced src ∧
      (s.afterActive src was).active src = (s.raw src || s.forced src) := by
  have hlow {i : Nat} := s.afterActive_low src was h (i := i)
  exact ⟨(hlow (by omega)).trans (bit_setBit_lt _ _ (by omega)), (hlow (by omega)).trans (bit_setBit_lt _ _ (by omega)),
    (hlow (by omega)).trans (bit_setBit_same _ _ _)⟩

/-- The fall of ACTIVE clears a source whose clear mode is AUTO. -/
theorem State.afterActive_isPending_of_fall {s : State} {src : Nat} (h : NotRaisedBySettling src) (hraw : s.raw src = false)
    (hforced : s.forced src = false) (hauto : bit (s.get (cfgKey src)) 13 = false) :
    (s.afterActive src true).isPending src = false := by
  have hcfg (b : Bool) : (s.putBit (stKey src) 2 b).get (cfgKey src) = s.get (cfgKey src) := State.get_putBit_ne _ _ _ cfgKey_ne_st
  have hfall : s.afterActive src true = (s.putBit (stKey src) 2 false).clearSource src none := by
    simp [State.afterActive, hraw, hforced, hcfg, hauto]
  rw [hfall, State.clearSource_isPending _ _ _ h, if_pos rfl]

/-! ### Occurrences, ends and forcing -/

theorem faultOccurrence_of_exists {src : Nat} (code : Nat) (s : State) (h : srcExists src = true) :
    faultOccurrence src code s = s.raise src code := if_pos h

theorem faultAutoClear_of_raw {src : Nat} {s : State} (h : srcExists src = true) (hraw : s.raw src = true) :
    faultAutoClear src s = s.setRaw src false 0 := if_pos (by simp [h, hraw])

/-- The end of the condition of a source that nothing forces. -/
theorem State.setRaw_ends {s : State} {src : Nat} (h : NotRaisedBySettling src) (hact : s.active src = true)
    (hforced : s.forced src = false) : (s.setRaw src false 0).raw src = false ∧ (s.setRaw src false 0).active src = false ∧
      (bit (s.get (cfgKey src)) 13 = false → (s.setRaw src false 0).isPending src = false) := by
  obtain ⟨t, hset, hraw, hbits, hother, -⟩ := s.setRaw_eq src false 0
  have hf : t.forced src = false := (hbits 1 (by omega)).trans hforced
  rw [hset, hact]
  obtain ⟨hraw', -, hact'⟩ := t.afterActive_status src true h
  refine ⟨hraw'.trans hraw, by rw [hact', hraw, hf]; rfl, fun hauto => State.afterActive_isPending_of_fall h hraw hf ?_⟩
  rwa [hother _ cfgKey_ne_st (.inr rfl)]

theorem hForce_run (on : Bool) (s : State) (who : Who) (src : Nat) : ((hForce on).run s who (.num src)).1 =
    (s.putBit (stKey src) 1 on).afterActive src (s.active src) := rfl

/-- A request to force a source, or to end that, sets FORCED, leaves RAW and makes ACTIVE the one or the other. -/
theorem forceRequest_status {who : Who} {src sub : Nat} {on : Bool} {s : State} (h : NotRaisedBySettling src)
    (hacc : s.accepts who 0x2800 sub (.num src) (hForce on) = true) :
    let t := s.request who 0x2800 sub (.num src) (hForce on)
    t.forced src = on ∧ t.raw src = s.raw src ∧ t.active src = (s.raw src || on) := by
  have hget := State.request_get hacc (stKey_ne_changeCount src)
  rw [hForce_run] at hget
  have hraw : (s.putBit (stKey src) 1 on).raw src = s.raw src := by
    rw [State.raw, State.get_putBit, bit_setBit_lt _ _ (by omega)]; rfl
  have hforced : (s.putBit (stKey src) 1 on).forced src = on := by rw [State.forced, State.get_putBit, bit_setBit_same]
  obtain ⟨hraw', hforced', hact'⟩ := (s.putBit (stKey src) 1 on).afterActive_status src (s.active src) h
  rw [hraw] at hraw'
  rw [hforced] at hforced'
  rw [hraw, hforced] at hact'
  dsimp only
  unfold State.forced State.raw State.active
  rw [hget]
  exact ⟨hforced', hraw', hact'⟩

/-- Settles O29: a raise is an occurrence of a source that was not ACTIVE, an end is a fall of RAW with nothing forced,
and forcing sets FORCED before ACTIVE is computed again. -/
theorem sourceOccursAndEnds : Obligations.SourceOccursAndEnds := by
  refine ⟨fun src code s hexists hinactive => ⟨faultOccurrence src.val code s, rfl, ?_⟩,
    fun src s hexists hrec hevq hraw hact hforced => ⟨faultAutoClear src.val s, rfl, ?_⟩,
    fun who src s hsrc hrec hevq => ⟨fun hacc => ⟨_, rfl, ?_⟩, fun hacc => ⟨_, rfl, ?_⟩⟩⟩
  · rw [faultOccurrence_of_exists _ _ hexists]
    exact ⟨s.raise_raw _ _, s.raise_active _ _, s.raise_isPending _ _ hinactive⟩
  · rw [faultAutoClear_of_raw hexists hraw]
    exact State.setRaw_ends (notRaisedBySettling src.isLt hrec hevq) hact hforced
  · obtain ⟨hforced, hraw, hact⟩ := forceRequest_status (notRaisedBySettling hsrc hrec hevq) hacc
    exact ⟨hforced, by rw [hact, Bool.or_true], hraw⟩
  · obtain ⟨hforced, hraw, hact⟩ := forceRequest_status (notRaisedBySettling hsrc hrec hevq) hacc
    exact ⟨hforced, hraw, by rw [hact, Bool.or_false]⟩

/-! ### Clear requests and the decay of STEP (R276, R279) -/

theorem hFaultClear_run_active {s : State} {src : Nat} (who : Who) (h : s.active src = true) :
    hFaultClear.run s who (.num src) = (s, stBUSY) := if_pos h

theorem hFaultClear_run_inactive {s : State} {src : Nat} (who : Who) (h : s.active src = false) :
    hFaultClear.run s who (.num src) = (s.clearSource src (some (s.credOf who)), stOK) :=
  if_neg (by simp [Val.toNum, h])

/-- The sources that a request to clear all clears. -/
def State.clearable (s : State) : List Nat := (List.range 512).filter (fun x => s.isPending x && !(s.active x))

theorem hFaultClearAll_run (s : State) (who : Who) (v : Val) : hFaultClearAll.run s who v =
    (s.clearable.foldl (fun t x => t.clearSource x (some (s.credOf who))) s, stOK) := rfl

theorem State.clearable_contains (s : State) {x : Nat} (hx : x < 512) :
    s.clearable.contains x = (s.isPending x && !(s.active x)) := by
  rw [Bool.eq_iff_iff, List.contains_iff_mem, State.clearable, List.mem_filter, List.mem_range]
  exact and_iff_right hx

theorem faultClearAll_isPending {who : Who} {s : State} (hacc : s.accepts who 0x2800 0x13 (.num 1) hFaultClearAll = true)
    {x : Nat} (hx : x < 512) (h : NotRaisedBySettling x) :
    (s.request who 0x2800 0x13 (.num 1) hFaultClearAll).isPending x = (s.isPending x && s.active x) := by
  have hl : ∀ y ∈ s.clearable, y < 512 := fun y hy => List.mem_range.mp (List.mem_filter.mp hy).1
  rw [State.isPending_of_get (State.request_get hacc (stKey_ne_changeCount x)), hFaultClearAll_run]
  dsimp only
  rw [State.foldl_clearSource_isPending _ hx h s.clearable s hl, State.clearable_contains s hx]
  cases s.isPending x <;> simp

theorem stepDecay_of_due {s : State} {src : Nat} (hlast : Tbl.get 0 s.flt.lastMt src ≠ 0)
    (hlate : Tbl.get 0 s.flt.lastMt src + s.get (ob 0x2800 7) * nsS ≤ s.tm.mt + 1) (hstep : s.escStep src ≠ 0) :
    stepDecay src s = s.put (stKey src) (setBits (s.get (stKey src)) 6 2 0) :=
  if_pos (by simp [hlast, hlate, hstep])

/-- Settles O30: a clear request is its handler's branch, clearing all is a fold over what is pending and not ACTIVE, and
a decay that is due is one write. -/
theorem pendingSourcesCleared : Obligations.PendingSourcesCleared := by
  intro who s
  refine ⟨fun src hsrc hrec hevq hacc => ⟨s.request who 0x2800 0x12 (.num src) hFaultClear, rfl,
      fun hinactive => ?_, fun hact => ?_⟩,
    fun hacc => ⟨s.request who 0x2800 0x13 (.num 1) hFaultClearAll, rfl, ?_, fun src hsrc hrec hevq => ?_⟩,
    fun src hstep hlast hlate => ⟨stepDecay src.val s, rfl, ?_⟩⟩
  · have hrun := hFaultClear_run_inactive who hinactive
    refine ⟨by rw [State.request_status hacc, hrun], ?_⟩
    rw [State.isPending_of_get (State.request_get hacc (stKey_ne_changeCount src)), hrun]
    exact (State.clearSource_isPending s src _ (notRaisedBySettling hsrc hrec hevq)).trans (if_pos rfl)
  · have hrun := hFaultClear_run_active who hact
    refine ⟨by rw [State.request_status hacc, hrun], ?_⟩
    rw [State.isPending_of_get (State.request_get hacc (stKey_ne_changeCount src)), hrun]
  · rw [State.request_status hacc, hFaultClearAll_run]
  · rw [faultClearAll_isPending hacc hsrc (notRaisedBySettling hsrc hrec hevq)]
    exact ⟨fun hinactive => by rw [hinactive, Bool.and_false], fun hact => by rw [hact, Bool.and_true]⟩
  · rw [stepDecay_of_due hlast hlate hstep]
    exact ⟨by rw [State.escStep, State.get_put, bits_setBits_same]; rfl, fun k hk => State.get_put_ne _ _ hk⟩

end Sys2Proof.Machine
end

section
/-! SUPPORT. The spare pools, the layer that the statements O32 and O33 use: the spare manager's objects, an element read
after the operations that may stand between, and what each of them leaves of the requests. -/

namespace Sys2Proof.Machine

open Sys2Proof

/-! ### Objects of the spare manager -/

/-- No object of the spare manager is the collector's. -/
@[simp] theorem faultKey_spares (sub : Nat) : faultKey (ob 0x2900 sub) = false :=
  faultKey_ob _ _ (by decide) (by decide) (by decide)

@[simp] theorem ob_spares_inj {a b : Nat} : ob 0x2900 a = ob 0x2900 b ↔ a % 256 = b % 256 := by unfold ob; omega

/-! ### An element after a write -/

@[simp] theorem elKey_inj {p a b : Nat} : elKey p a = elKey p b ↔ a = b := by unfold elKey; omega

theorem State.elem_of_elems {s t : State} (h : t.sp.elems = s.sp.elems) (p e : Nat) : t.elem p e = s.elem p e := by
  rw [State.elem, State.elem, h]

theorem State.setElem_elem_ne (s : State) {p e j : Nat} (x : Elem) (h : j ≠ e) : (s.setElem p e x).elem p j = s.elem p j :=
  Tbl.get_set_other _ _ _ _ (mt elKey_inj.mp h)

@[simp] theorem State.stopTimer_elem (s : State) (t p e : Nat) : (s.stopTimer t).elem p e = s.elem p e := rfl

@[simp] theorem State.raise_elem (s : State) (src code p e : Nat) : (s.raise src code).elem p e = s.elem p e :=
  State.elem_of_elems (congrArg _ (State.raise_sp s src code)) p e

@[simp] theorem State.spareLow_sp (s : State) (p e : Nat) : (s.spareLow p e).sp = s.sp := State.follow_sp _ _ _ _

@[simp] theorem State.spareLow_elem (s : State) (p e q j : Nat) : (s.spareLow p e).elem q j = s.elem q j :=
  State.follow_elem _ _ _ _ _ _

theorem State.spareLow_get (s : State) (p e : Nat) {k : Nat} (h : faultKey k = false) : (s.spareLow p e).get k = s.get k :=
  State.follow_get _ _ _ _ h

/-! ### The state of an element -/

/-- A change of an element's state writes the element and, at most, the pool's count of ready spares. -/
theorem State.setElemState_eq (s : State) (p e st : Nat) :
    ∃ n, s.setElemState p e st = s.setElem p e { s.elem p e with state := st } ∨
      s.setElemState p e st = (s.setElem p e { s.elem p e with state := st }).put (ob 0x2900 (0x21 + 8 * p)) n := by
  unfold State.setElemState
  dsimp only
  split
  · exact ⟨_, .inr rfl⟩
  · split
    · exact ⟨_, .inr rfl⟩
    · exact ⟨0, .inl rfl⟩

theorem State.setElemState_sp (s : State) (p e st : Nat) :
    (s.setElemState p e st).sp = (s.setElem p e { s.elem p e with state := st }).sp := by
  obtain ⟨n, h | h⟩ := s.setElemState_eq p e st <;> rw [h]
  rfl

theorem State.setElem_reqs (s : State) (p e : Nat) (x : Elem) : (s.setElem p e x).sp.reqs = s.sp.reqs := rfl

theorem State.setElemState_reqs (s : State) (p e st : Nat) : (s.setElemState p e st).sp.reqs = s.sp.reqs :=
  (congrArg _ (s.setElemState_sp p e st)).trans (State.setElem_reqs _ _ _ _)

@[simp] theorem State.setElemState_elem (s : State) (p e st : Nat) :
    (s.setElemState p e st).elem p e = { s.elem p e with state := st } :=
  (State.elem_of_elems (congrArg _ (s.setElemState_sp p e st)) p e).trans (State.setElem_elem _ _ _ _)

theorem State.setElemState_elem_ne (s : State) {p e j : Nat} (st : Nat) (h : j ≠ e) :
    (s.setElemState p e st).elem p j = s.elem p j :=
  (State.elem_of_elems (congrArg _ (s.setElemState_sp p e st)) p j).trans (State.setElem_elem_ne _ _ h)

theorem State.setElemState_get (s : State) {p e k : Nat} (st : Nat) (h : k ≠ ob 0x2900 (0x21 + 8 * p)) :
    (s.setElemState p e st).get k = s.get k := by
  obtain ⟨n, he | he⟩ := s.setElemState_eq p e st <;> rw [he]
  · rfl
  · exact State.get_put_ne _ _ h

/-! ### Requests -/

@[simp] theorem State.askSwap_get (s : State) (p e cause : Nat) (hold : Bool) (k : Nat) :
    (s.askSwap p e cause hold).get k = s.get k := by
  obtain ⟨reqs, h⟩ := s.askSwap_eq p e cause hold
  rw [h]; rfl

/-- The requests that are made again for a ready spare change no element. -/
@[simp] theorem State.spareReady_elem (s : State) (p q e : Nat) : (s.spareReady p).elem q e = s.elem q e := by
  have hasked (l : List (Nat × Nat × Nat)) (t : State) (hold : Bool) :
      (l.foldl (fun u w => u.askSwap w.1 w.2.1 (0x8000 + w.2.2) hold) t).elem q e = t.elem q e :=
    foldl_keeps_of_mem (fun u => u.elem q e) l t fun u w _ => State.askSwap_elem u _ _ _ _ _ _
  unfold State.spareReady
  dsimp only
  split
  · exact hasked _ _ _
  · exact (State.follow_elem _ _ _ _ _ _).trans (hasked _ _ _)

end Sys2Proof.Machine
end

section
/-! SUPPORT. Tests, scrubs and wear of the elements settled (O33). -/

namespace Sys2Proof.Machine

open Sys2Proof

/-! ### Tests (R288, R289) -/

theorem elementSelftestDone_of_past {p e : Nat} {s : State} (pass : Bool) (hst : (s.elem p e).state = 5)
    (hpast : s.timerPast (0x100000 + elKey p e) nsS = true) : elementSelftestDone p e pass s =
      (let tested := (s.setElemState p e (if pass then 1 else 4)).stopTimer (0x100000 + elKey p e)
       (if pass then tested.spareReady p else tested).spareLow p e) :=
  if_pos (by simp [hst, hpast])

theorem spareTest_of_spare {p e : Nat} {s : State} (pass : Bool) (hcell : p ≠ 3)
    (himu : p = 7 → s.get (ob 0x2400 (0x40 + 8 * e)) = 1) (hst : (s.elem p e).state = 1 ∨ (s.elem p e).state = 2) :
    spareTest p e pass s =
      (let tested := s.setElemState p e (if pass then 1 else 4)
       (if pass && (s.elem p e).state = 2 then tested.spareReady p else tested).spareLow p e) :=
  if_pos (by simpa [hcell, hst, ← imp_iff_not_or] using himu)

/-- Whether or not requests are made again for a ready spare, the element has the state that its test gave it. -/
theorem State.elem_state_of_tested {s t : State} {p e st : Nat} (again : Bool) (h : t.elem p e = { s.elem p e with state := st }) :
    (((if again then t.spareReady p else t).spareLow p e).elem p e).state = st := by
  rw [State.spareLow_elem]
  cases again <;> simp [h]

/-! ### Scrubs (R284) -/

/-- The gauge of a bank after a scrub. -/
def State.scrubbed (s : State) (bank lastHour new : Nat) : State :=
  s.setElem 2 bank { s.elem 2 bank with
    v1 := clampN 0xFFFFFFFF lastHour, v2 := clampN 0xFFFFFFFF ((s.elem 2 bank).v2 + new)
    level := clampN 65535 (lastHour * 1000 / s.get (ob 0x2900 0x14)), gauge := 4 }

theorem sramScrub_of_due {bank lastHour : Nat} (new : Nat) {sameWord : Bool} {s : State} (hbank : bank < 68)
    (hst : (s.elem 2 bank).state = 0) (hdue : s.get (ob 0x2900 0x14) ≤ lastHour ∨ sameWord = true) :
    sramScrub bank lastHour new sameWord s = ((s.scrubbed bank lastHour new).raise srcSRAM_CE bank).askSwap 2 bank 0x8004 false :=
  if_pos (by simp [hbank, hst, hdue])

theorem sramScrub_of_not_due {bank lastHour : Nat} (new : Nat) {sameWord : Bool} {s : State}
    (hdue : ¬ (s.get (ob 0x2900 0x14) ≤ lastHour ∨ sameWord = true)) :
    sramScrub bank lastHour new sameWord s = s.scrubbed bank lastHour new :=
  if_neg fun h => hdue (by simpa using (Bool.and_eq_true_iff.mp h).2)

/-- Whatever it finds, a scrub of a bank in service leaves the gauge as it wrote it. -/
theorem sramScrub_elem {bank : Nat} (lastHour new : Nat) (sameWord : Bool) {s : State} (hbank : bank < 68)
    (hst : (s.elem 2 bank).state = 0) :
    (sramScrub bank lastHour new sameWord s).elem 2 bank = (s.scrubbed bank lastHour new).elem 2 bank := by
  by_cases hdue : s.get (ob 0x2900 0x14) ≤ lastHour ∨ sameWord = true
  · rw [sramScrub_of_due new hbank hst hdue, State.askSwap_elem, State.raise_elem]
  · rw [sramScrub_of_not_due new hdue]

/-! ### Wear (R284, R286) -/

theorem wearCrossing_of_elem {p e : Nat} (g level v1 v2 : Nat) (s : State) (hp : p < 8) (himu : p ≠ 7) (he : e < poolSize p) :
    wearCrossing p e g level v1 v2 s =
      (s.setElem p e { s.elem p e with level := level, gauge := g, v1 := v1, v2 := v2 }).askSwap p e (0x8000 + g)
        (decide (p = 0)) :=
  if_pos (by simp [hp, himu, he])

/-- Settles O33: a test that ends is a write of the element's state, a scrub and a wear crossing are a write of its gauge
with the request that follows from it. -/
theorem elementsTested : Obligations.ElementsTested := by
  intro s
  refine ⟨fun p e pass hst hpast => ⟨elementSelftestDone p.val e pass s, rfl, ?_⟩,
    fun p e pass hcell himu hst => ⟨spareTest p.val e pass s, rfl, ?_⟩,
    fun b n new sameWord hst => ⟨sramScrub b.val n new sameWord s, rfl, ?_, ?_, fun hdue => ?_, fun hbelow hword => ?_⟩,
    fun p e g level v1 v2 himu he => ⟨wearCrossing p.val e g level v1 v2 s, rfl, ?_⟩⟩
  · rw [elementSelftestDone_of_past pass hst hpast]
    exact State.elem_state_of_tested pass ((State.stopTimer_elem _ _ _ _).trans (State.setElemState_elem s _ _ _))
  · rw [spareTest_of_spare pass hcell himu hst]
    exact State.elem_state_of_tested _ (State.setElemState_elem s _ _ _)
  · rw [sramScrub_elem _ _ _ b.isLt hst, State.scrubbed, State.setElem_elem]
    exact clampN_eq_min _ _
  · rw [sramScrub_elem _ _ _ b.isLt hst, State.scrubbed, State.setElem_elem]
    exact clampN_eq_min _ _
  · rw [sramScrub_of_due new b.isLt hst hdue]
    exact ⟨(State.askSwap_raw _ _ _ _ _ _).trans (State.raise_raw _ _ _), State.askSwap_waits _ _ _ _ _⟩
  · rw [sramScrub_of_not_due new (by simp [hword, hbelow])]
    exact ⟨rfl, fun _ => rfl⟩
  · rw [wearCrossing_of_elem g level v1 v2 s p.isLt himu he, State.askSwap_elem, State.setElem_elem]
    exact ⟨rfl, rfl, rfl, State.askSwap_waits _ _ _ _ _, fun k => State.askSwap_get _ _ _ _ _ k⟩

end Sys2Proof.Machine
end

section
/-! SUPPORT. The swap that Lupin carries out, the layer that the statement O32 uses: the element goes out, the first ready
spare that passes serves for it, and the records that follow count it (R286, R288, R296). -/

namespace Sys2Proof.Machine

open Sys2Proof

/-! ### What a swap may change -/

/-- The spare manager with its objects and timers, and what a fault touches. -/
def swapFoot : Foot := ({ sp := true, timers := true, idx := objects [0x29] [] [] } : Foot).faults

theorem State.doRequested_swapFoot (s : State) (p e : Nat) (verify : List Bool) (dur : Nat) :
    Kept swapFoot s (s.doRequested p e verify dur).1 :=
  State.doRequested_kept s p e verify dur rfl rfl rfl rfl rfl faults_collector (faults_grp (grp_of_objects rfl rfl)) rfl rfl
    (Kept.refl _ s)

/-! ### The record of a swap (R294, R296) -/

theorem State.recordSwap_sp (s : State) (p e inn cause result dur mt : Nat) :
    ∃ hist, (s.recordSwap p e inn cause result dur mt).sp = { s.sp with hist := hist } :=
  ⟨_, State.post_sp _ _ _ _ _ _⟩

theorem State.get_sp (s : State) (x : SpareSt) (k : Nat) : ({ s with sp := x } : State).get k = s.get k := rfl

/-- The objects of the module and of the pool that a swap is written to. -/
def State.swapObjects (s : State) (p e inn cause result mt : Nat) : State :=
  ((((((s.inc32 (ob 0x2900 1)).inc32 (ob 0x2900 (0x20 + 8 * p + 2))).put (ob 0x2900 (0x20 + 8 * p + 3)) mt).put
    (ob 0x2900 (0x20 + 8 * p + 4)) e).put (ob 0x2900 (0x20 + 8 * p + 5)) inn).put (ob 0x2900 (0x20 + 8 * p + 6)) cause).put
      (ob 0x2900 (0x20 + 8 * p + 7)) result

theorem State.recordSwap_get (s : State) (p e inn cause result dur mt : Nat) {k : Nat} (h : faultKey k = false) :
    (s.recordSwap p e inn cause result dur mt).get k = (s.swapObjects p e inn cause result mt).get k := by
  unfold State.recordSwap
  lift_lets
  intro n b counted written entry noted history
  rw [State.post_get _ _ _ _ _ _ h]
  exact (State.get_sp written _ k).trans rfl

theorem State.get_put_spares (s : State) {a b : Nat} (v : Nat) (h : a % 256 ≠ b % 256) :
    (s.put (ob 0x2900 b) v).get (ob 0x2900 a) = s.get (ob 0x2900 a) :=
  State.get_put_ne _ _ fun e => h (ob_spares_inj.mp e)

theorem State.get_inc32_spares (s : State) {a b : Nat} (h : a % 256 ≠ b % 256) :
    (s.inc32 (ob 0x2900 b)).get (ob 0x2900 a) = s.get (ob 0x2900 a) :=
  State.get_put_spares s _ h

/-- The record adds one to the module's count of swaps and one to the pool's. -/
theorem State.recordSwap_counts (s : State) (p e inn cause result dur mt : Nat) :
    (s.recordSwap p e inn cause result dur mt).get (ob 0x2900 1) = min 0xFFFFFFFF (s.get (ob 0x2900 1) + 1) ∧
      (s.recordSwap p e inn cause result dur mt).get (ob 0x2900 (0x22 + 8 * p)) =
        min 0xFFFFFFFF (s.get (ob 0x2900 (0x22 + 8 * p)) + 1) := by
  have hpool : 0x20 + 8 * p + 2 = 0x22 + 8 * p := by omega
  rw [State.recordSwap_get _ _ _ _ _ _ _ _ (faultKey_spares _), State.recordSwap_get _ _ _ _ _ _ _ _ (faultKey_spares _),
    State.swapObjects, hpool, ← clampN_eq_min, ← clampN_eq_min]
  simp (disch := omega) only [State.get_put_spares, State.get_inc32_spares, State.get_inc32, and_self]

/-! ### The wear crossings that wait (R286, R290) -/

theorem State.wearDone_sp (s : State) (p e : Nat) : ∃ waiting, (s.wearDone p e).sp = { s.sp with waiting := waiting } := by
  unfold State.wearDone
  split
  · exact ⟨_, rfl⟩
  · exact ⟨_, State.follow_sp _ _ _ _⟩

theorem State.wearDone_get (s : State) (p e : Nat) {k : Nat} (h : faultKey k = false) : (s.wearDone p e).get k = s.get k := by
  unfold State.wearDone
  split
  · rfl
  · exact State.follow_get _ _ _ _ h

/-! ### The exchange of the two elements -/

theorem outState_ge_two (p cause swaps : Nat) : 2 ≤ Machine.outState p cause swaps := by
  unfold Machine.outState
  split_ifs <;> omega

/-- Element `e` out, with its swaps counted, and spare `x` in service. -/
def State.inAndOut (s : State) (p e x cause : Nat) : State :=
  ((s.setElem p e { s.elem p e with swaps := (s.elem p e).swaps + 1 }).setElemState p e
    (Machine.outState p cause ((s.elem p e).swaps + 1))).setElemState p x 0

/-- Spare `x` serves for element `e`. -/
def State.serveFor (s : State) (p e x : Nat) : State :=
  { s with sp := { s.sp with serves := Tbl.set 0 s.sp.serves (elKey p x) (e + 1) } }

/-- The exchange, with the self-test of the element that is out where it has one. -/
def State.exchanged (s : State) (p e x cause : Nat) : State :=
  if Machine.outState p cause ((s.elem p e).swaps + 1) = 5 then
    ((s.inAndOut p e x cause).serveFor p e x).startTimer (0x100000 + elKey p e)
  else (s.inAndOut p e x cause).serveFor p e x

/-- The exchange with its record and what follows from it. -/
def State.swappedIn (s : State) (p e x cause mt dur : Nat) : State :=
  (((s.exchanged p e x cause).recordSwap p e x cause 0 dur mt).spareLow p e).wearDone p e

/-- The first ready spare passes its verification, so that the swap is made with it. -/
theorem State.swap_of_ready {s : State} {p e x : Nat} {verify : List Bool} (h : (s.readySpares p e).head? = some x)
    (hpass : verify.headD true = true) (cause mt dur : Nat) :
    s.swap p e cause mt verify dur = (s.swappedIn p e x cause mt dur, some x) := by
  obtain ⟨rest, hrest⟩ := List.head?_eq_some_iff.mp h
  have htry : trySpares p (x :: rest) verify s = (s, some x) := if_pos hpass
  unfold State.swap
  rw [hrest]
  dsimp only
  rw [if_neg (List.cons_ne_nil _ _), htry]
  rfl

theorem State.exchanged_sp (s : State) (p e x cause : Nat) :
    (s.exchanged p e x cause).sp = ((s.inAndOut p e x cause).serveFor p e x).sp := by
  unfold State.exchanged
  split <;> rfl

theorem State.serveFor_serves (s : State) (p e x : Nat) : Tbl.get 0 (s.serveFor p e x).sp.serves (elKey p x) = e + 1 :=
  Tbl.get_set_same 0 s.sp.serves (elKey p x) (e + 1)

theorem State.serveFor_get (s : State) (p e x k : Nat) : (s.serveFor p e x).get k = s.get k := rfl

theorem State.exchanged_get (s : State) (p e x cause k : Nat) :
    (s.exchanged p e x cause).get k = (s.inAndOut p e x cause).get k := by
  unfold State.exchanged
  split
  · rw [State.startTimer_get, State.serveFor_get]
  · rw [State.serveFor_get]

theorem State.inAndOut_reqs (s : State) (p e x cause : Nat) : (s.inAndOut p e x cause).sp.reqs = s.sp.reqs := by
  rw [State.inAndOut, State.setElemState_reqs, State.setElemState_reqs, State.setElem_reqs]

theorem State.inAndOut_elem (s : State) {p e x : Nat} (cause : Nat) (h : x ≠ e) :
    ((s.inAndOut p e x cause).elem p x).state = 0 ∧ 2 ≤ ((s.inAndOut p e x cause).elem p e).state ∧
      ((s.inAndOut p e x cause).elem p e).swaps = (s.elem p e).swaps + 1 := by
  rw [State.inAndOut, State.setElemState_elem, State.setElemState_elem_ne _ _ h.symm, State.setElemState_elem, State.setElem_elem]
  exact ⟨rfl, outState_ge_two _ _ _, rfl⟩

theorem State.inAndOut_get (s : State) {p k : Nat} (e x cause : Nat) (h : k ≠ ob 0x2900 (0x21 + 8 * p)) :
    (s.inAndOut p e x cause).get k = s.get k := by
  rw [State.inAndOut, State.setElemState_get _ _ h, State.setElemState_get _ _ h, State.setElem_get]

theorem State.swappedIn_sp (s : State) (p e x cause mt dur : Nat) :
    (s.swappedIn p e x cause mt dur).sp.elems = (s.inAndOut p e x cause).sp.elems ∧
      Tbl.get 0 (s.swappedIn p e x cause mt dur).sp.serves (elKey p x) = e + 1 ∧
      (s.swappedIn p e x cause mt dur).sp.reqs = s.sp.reqs := by
  obtain ⟨waiting, hwear⟩ := (((s.exchanged p e x cause).recordSwap p e x cause 0 dur mt).spareLow p e).wearDone_sp p e
  obtain ⟨hist, hrec⟩ := (s.exchanged p e x cause).recordSwap_sp p e x cause 0 dur mt
  have hsp : (s.swappedIn p e x cause mt dur).sp =
      { ((s.inAndOut p e x cause).serveFor p e x).sp with hist := hist, waiting := waiting } := by
    rw [State.swappedIn, hwear, State.spareLow_sp, hrec, State.exchanged_sp]
  rw [hsp, ← s.inAndOut_reqs p e x cause]
  generalize s.inAndOut p e x cause = t
  exact ⟨rfl, t.serveFor_serves p e x, rfl⟩

theorem State.swappedIn_counts (s : State) {p : Nat} (hp : p < 8) (e x cause mt dur : Nat) :
    (s.swappedIn p e x cause mt dur).get (ob 0x2900 1) = min 0xFFFFFFFF (s.get (ob 0x2900 1) + 1) ∧
      (s.swappedIn p e x cause mt dur).get (ob 0x2900 (0x22 + 8 * p)) =
        min 0xFFFFFFFF (s.get (ob 0x2900 (0x22 + 8 * p)) + 1) := by
  have hne {a : Nat} (h : a % 256 ≠ (0x21 + 8 * p) % 256) :
      (s.exchanged p e x cause).get (ob 0x2900 a) = s.get (ob 0x2900 a) :=
    (s.exchanged_get p e x cause _).trans (s.inAndOut_get e x cause fun hab => h (ob_spares_inj.mp hab))
  have hget {a : Nat} : (s.swappedIn p e x cause mt dur).get (ob 0x2900 a) =
      ((s.exchanged p e x cause).recordSwap p e x cause 0 dur mt).get (ob 0x2900 a) :=
    (State.wearDone_get _ _ _ (faultKey_spares a)).trans (State.spareLow_get _ _ _ (faultKey_spares a))
  obtain ⟨hmodule, hpool⟩ := (s.exchanged p e x cause).recordSwap_counts p e x cause 0 dur mt
  rw [hget, hget, hmodule, hpool, hne (by omega), hne (by omega)]
  exact ⟨rfl, rfl⟩

/-! ### A swap that is ready -/

/-- What a swap has done reads in the elements, in whom they serve, in the requests and in the counts alone. -/
theorem swapped_of_eq {s t u : State} {p e x : Nat} (h : Swapped s t p e x) (helems : u.sp.elems = t.sp.elems)
    (hserves : u.sp.serves = t.sp.serves) (hreqs : u.sp.reqs = t.sp.reqs)
    (hget : ∀ sub, u.get (ob 0x2900 sub) = t.get (ob 0x2900 sub)) : Swapped s u p e x := by
  have hreq : u.reqOf p e = t.reqOf p e := by rw [State.reqOf, State.reqOf, hreqs]
  unfold Swapped at h ⊢
  rwa [State.elem_of_elems helems, State.elem_of_elems helems, hserves, hreq, hget, hget]

/-- The request is carried out with its first ready spare. -/
theorem State.doRequested_of_ready {s : State} {p e x : Nat} {verify : List Bool} (h : SwapReady s p e x)
    (hpass : verify.headD true = true) (dur : Nat) :
    ∃ cause mt, s.doRequested p e verify dur = ((s.dropReq p e).swappedIn p e x cause mt dur, some x) := by
  obtain ⟨-, -, -, ⟨r, hreq, hhold⟩, hcan, hfirst, -⟩ := h
  have hready : ((s.dropReq p e).readySpares p e).head? = some x := hfirst
  refine ⟨r.cause, r.mt, ?_⟩
  rw [State.doRequested, hreq]
  dsimp only
  rw [if_neg (by simp [hhold, hcan])]
  exact State.swap_of_ready hready hpass _ _ _

/-- Lupin carries out a swap that is ready. -/
theorem State.doRequested_swaps {s : State} {p e x : Nat} {verify : List Bool} (h : SwapReady s p e x)
    (hpass : verify.headD true = true) (dur : Nat) :
    ∃ t, s.doRequested p e verify dur = (t, some x) ∧ Swapped s t p e x ∧ Kept swapFoot s t := by
  obtain ⟨cause, mt, hdo⟩ := s.doRequested_of_ready h hpass dur
  obtain ⟨hp, -, -, -, -, hfirst, hwork⟩ := h
  refine ⟨_, hdo, ?_, by simpa [hdo] using s.doRequested_swapFoot p e verify dur⟩
  have hspare : (s.elem p x).state = 1 := by
    have hmem := List.mem_of_head? hfirst
    simp only [State.readySpares, List.mem_filter, Bool.and_eq_true, decide_eq_true_eq] at hmem
    exact hmem.2.1
  have hne : x ≠ e := fun heq => hwork (heq ▸ hspare)
  obtain ⟨helems, hserves, hreqs⟩ := (s.dropReq p e).swappedIn_sp p e x cause mt dur
  obtain ⟨hin, hout, hswaps⟩ := (s.dropReq p e).inAndOut_elem cause hne
  obtain ⟨hmodule, hpool⟩ := (s.dropReq p e).swappedIn_counts hp e x cause mt dur
  have helem := State.elem_of_elems helems p
  refine ⟨by rw [helem]; exact hin, by rw [helem]; exact hout, by rw [helem]; exact hswaps, hserves, ?_, hmodule, hpool⟩
  rw [State.reqOf, hreqs]
  exact s.dropReq_reqOf p e

end Sys2Proof.Machine
end

section
/-! SUPPORT. The commands that carry out a requested swap settled (O32). -/

namespace Sys2Proof.Machine

open Sys2Proof

/-! ### What each command does once the swap is made -/

theorem swapReady_isSome {s : State} {p e x : Nat} (h : SwapReady s p e x) : (s.reqOf p e).isSome = true := by
  obtain ⟨-, -, -, ⟨r, hreq, -⟩, -⟩ := h
  rw [hreq]; rfl

theorem spareSwap_of_swap {p : Nat} (h0 : p ≠ 0) (h2 : p ≠ 2) (h4 : p ≠ 4) (e : Nat) (verify : List Bool) (dur : Nat)
    (s : State) : spareSwap p e verify dur s = (s.doRequested p e verify dur).1 :=
  if_neg (by simp [h0, h2, h4])

section
variable {s t : State} {verify : List Bool} {dur x : Nat}

/-- The words of spare bank `x` that a copy could not correct are poisoned (R287). -/
def State.poison (s : State) (x : Nat) (words : List Nat) : State :=
  { s with sp := { s.sp with poisoned := s.sp.poisoned ++ words.map (fun w => x * 65536 + w % 65536) } }

theorem sramBankCopy_of_swap {bank : Nat} (words : List Nat) (h : s.doRequested 2 bank verify dur = (t, some x)) :
    sramBankCopy bank words verify dur s = t.poison x words := by
  rw [sramBankCopy, h]; rfl

theorem spareConverterSwitch_of_swap {c : Nat} (hreq : (s.reqOf 6 c).isSome = true)
    (h : s.doRequested 6 c verify dur = (t, some x)) :
    spareConverterSwitch c verify dur s = ((t.put (ik c 0x19) 1).stopTimer (tmConfirm c)).follow (srcADC c) false 0 := by
  rw [spareConverterSwitch, if_pos hreq, h]

/-- The receiver's channels move to the spare bank at the next boundary (R127). -/
def State.noteBankSwap (s : State) : State := { s with rx := { s.rx with bankSwap := true } }

theorem bankSwap_of_swap {e : Nat} (hreq : (s.reqOf 5 e).isSome = true) (h : s.doRequested 5 e verify dur = (t, some x)) :
    bankSwap e verify dur s = t.noteBankSwap.put (rk 0x33) (t.noteBankSwap.get (ob 0x2900 0x49)) := by
  rw [bankSwap, if_pos hreq, h]; rfl

theorem imuSwap_of_swap {n : Nat} (hsample : s.tm.sched % 10 = 0) (h : s.doRequested 7 n verify dur = (t, some x)) :
    imuSwap n verify dur s = t.put (imk x 0) 0 := by
  rw [imuSwap, if_pos hsample, h]

theorem cellSwap_of_swap {c side : Nat} (h : s.doRequested 3 (s.activeCell c side) verify dur = (t, some x)) :
    cellSwap c side false verify dur s =
      t.put (xk c 0x27) (setBit (setBits (t.get (xk c 0x27)) side 1 (x % 2)) (2 + side) false) := by
  unfold cellSwap
  simp only [Bool.false_and, Bool.false_eq_true, if_false, h]

theorem controllerSwap_of_swap {p : Nat} (b : Bool) (hblk : s.inReset (blkCAN p) = false) (hdev : s.dev ≠ dsSTANDBY)
    (h : s.doRequested 4 (s.ctrl p) verify dur = (t, some x)) :
    ∃ f, controllerSwap p verify dur b s = (t.put (cank p 0x13) x).setCanPort p f := by
  unfold controllerSwap
  rw [if_neg (by simp [hblk, hdev]), h]
  exact ⟨_, rfl⟩

end

/-! ### What they leave of the swap -/

/-- A later write to an object that is not the spare manager's leaves what the swap has done. -/
theorem swapped_put {s t : State} {p e x : Nat} (h : Swapped s t p e x) {k : Nat} (v : Nat) (hk : k / 256 ≠ 0x2900) :
    Swapped s (t.put k v) p e x :=
  swapped_of_eq h rfl rfl rfl fun sub => State.get_put_ne _ _ (by unfold ob; omega)

theorem ik_index_ne (c sub : Nat) : ik c sub / 256 ≠ 0x2900 := by unfold ik ob; omega
theorem xk_index_ne (c sub : Nat) : xk c sub / 256 ≠ 0x2900 := by unfold xk ob; omega
theorem cank_index_ne (p sub : Nat) : cank p sub / 256 ≠ 0x2900 := by unfold cank ob; omega
theorem imk_index_ne (n sub : Nat) : imk n sub / 256 ≠ 0x2900 := by unfold imk nk ob; omega
theorem rk_index_ne (sub : Nat) : rk sub / 256 ≠ 0x2900 := by unfold rk ob; omega

/-- A field is not changed by a bit above it. -/
theorem bits_setBit_gt (w : Nat) {i lo n : Nat} (b : Bool) (h : lo + n ≤ i) : bits (setBit w i b) lo n = bits w lo n := by
  refine Nat.eq_of_testBit_eq fun j => ?_
  rw [bits, bits, Nat.testBit_mod_two_pow, Nat.testBit_mod_two_pow, Nat.testBit_div_two_pow, Nat.testBit_div_two_pow]
  by_cases hj : j < n
  · exact congrArg _ (bit_setBit_lt w b (by omega))
  · simp [hj]

/-- Settles O32: each command is the swap that Lupin carries out, followed by writes of its own that leave what the swap
has done. -/
theorem requestedSwaps : Obligations.RequestedSwaps := by
  intro s verify dur e x hpass
  refine ⟨fun p h0 h2 h4 h => ⟨spareSwap p.val e verify dur s, rfl, ?_⟩,
    fun b words h => ⟨sramBankCopy b.val words verify dur s, rfl, ?_⟩,
    fun c h => ⟨spareConverterSwitch c.val verify dur s, rfl, ?_⟩,
    fun b h => ⟨bankSwap b.val verify dur s, rfl, ?_⟩,
    fun n hsample h => ⟨imuSwap n.val verify dur s, rfl, ?_⟩,
    fun c side h => ⟨cellSwap c.val side.val false verify dur s, rfl, ?_⟩,
    fun p b hblk hdev h => ⟨controllerSwap p.val verify dur b s, rfl, ?_⟩⟩
  all_goals obtain ⟨t, hdo, hswapped, hkept⟩ := State.doRequested_swaps h hpass dur
  · rwa [spareSwap_of_swap h0 h2 h4, hdo]
  · rw [sramBankCopy_of_swap words hdo]
    refine ⟨swapped_of_eq hswapped rfl rfl rfl fun _ => rfl,
      fun w hw hlt => List.mem_append_right _ (List.mem_map.mpr ⟨w, hw, ?_⟩)⟩
    rw [Nat.mod_eq_of_lt hlt]
  · rw [spareConverterSwitch_of_swap (swapReady_isSome h) hdo]
    have hput := swapped_put hswapped 1 (ik_index_ne c.val 0x19)
    refine ⟨swapped_of_eq hput (congrArg _ (State.follow_sp _ _ _ _)) (congrArg _ (State.follow_sp _ _ _ _))
        (congrArg _ (State.follow_sp _ _ _ _)) fun sub => State.follow_get _ _ _ _ (faultKey_spares sub), ?_, ?_⟩
    · rw [State.follow_get _ _ _ _ (faultKey_ik _ _), State.stopTimer_get, State.get_put]
    · have hc := c.isLt
      exact State.follow_raw_eq _ _ _ (by unfold srcADC; omega) (by unfold srcADC srcREC_LOST; omega)
        (by unfold srcADC srcUCP_EVQ; omega)
  · rw [bankSwap_of_swap (swapReady_isSome h) hdo]
    have hnoted : Swapped s t.noteBankSwap 5 b.val x := swapped_of_eq hswapped rfl rfl rfl fun _ => rfl
    have hchans : t.rx.chans = s.rx.chans := congrArg _ (hkept.rx_eq rfl)
    exact ⟨swapped_put hnoted _ (rk_index_ne 0x33), rfl, hchans⟩
  · rw [imuSwap_of_swap hsample hdo]
    exact swapped_put hswapped _ (imk_index_ne x 0)
  · rw [cellSwap_of_swap hdo]
    exact ⟨swapped_put hswapped _ (xk_index_ne c.val 0x27), 
      by rw [State.get_put, bits_setBit_gt _ _ (by omega), bits_setBits_same, pow_one, Nat.mod_mod], hkept.outs_eq rfl⟩
  · obtain ⟨f, hf⟩ := controllerSwap_of_swap b hblk hdev hdo
    rw [hf]
    exact ⟨swapped_of_eq (swapped_put hswapped x (cank_index_ne p.val 0x13)) rfl rfl rfl fun _ => rfl, State.get_put t _ x⟩

end Sys2Proof.Machine
end

section
/-! SUPPORT. The object dictionary settled: the store at reset (O2), the store and the queue over a step (O3), and the port
role of a partition (O34). -/

namespace Sys2Proof.Machine

open Sys2Proof

/-! ### The store at reset -/

/-- Nothing is listed at reset, so that every object reads its DEFAULT (log 4). -/
theorem get_reset (k : Nat) : State.reset.get k = Dict.dflt k := Tbl.get_nil (Dict.dflt k) k

theorem cfg_reset (k : Nat) : State.reset.cfg k = Dict.dflt k := Tbl.get_nil (Dict.dflt k) k

theorem tablesOk_reset : State.reset.tablesOk = true := by simp [State.tablesOk, State.reset]

theorem dflt_blocksInReset : Dict.dflt blocksInReset = 0 := by decide

/-- Settles O2: the tables at reset are empty. -/
theorem resetTables : Obligations.ResetTables :=
  ⟨tablesOk_reset, rfl, (get_reset blocksInReset).trans dflt_blocksInReset, get_reset, cfg_reset⟩

/-! ### The store and the queue over a step -/

/-- A step idles on an empty queue, or carries out the front within the widest footprint: from the state with the queue's
rest, the tables keep their form and the queue stays. -/
theorem step_cases {s t : State} (h : step s = .next t) :
    (s.pending = [] ∧ t = s) ∨ ∃ c rest, s.pending = c :: rest ∧ Kept Foot.full { s with pending := rest } t := by
  cases hq : s.pending with
  | nil => exact .inl ⟨rfl, (Host.Outcome.next.inj ((step_of_pending_nil hq).symm.trans h)).symm⟩
  | cons c rest => exact .inr ⟨c, rest, rfl, exec_full ((step_of_pending_cons hq).symm.trans h)⟩

/-- Settles O3: the front leaves the rest of the queue alone and keeps the form of the tables, which do not hold the
queue. -/
theorem stepKeepsTables : Obligations.StepKeepsTables := by
  intro s t h
  obtain ⟨hq, rfl⟩ | ⟨c, rest, hq, hkept⟩ := step_cases h
  · exact ⟨id, by rw [hq, List.tail_nil]⟩
  · exact ⟨hkept.tables, by rw [hkept.pending_eq rfl, hq, List.tail_cons]⟩

/-! ### A refused write -/

/-- One check of a chain: where the chain answers OK, the check does not refuse and the rest answers OK. -/
theorem of_ite_eq_stOK {c : Prop} [Decidable c] {a b : Nat} (ha : a ≠ stOK) (h : (if c then a else b) = stOK) :
    ¬c ∧ b = stOK := by
  by_cases hc : c
  · exact absurd ((if_pos hc).symm.trans h) ha
  · exact ⟨hc, (if_neg hc).symm.trans h⟩

/-- A number that passes every other check is judged by its handler's consistency rules, and OUT_OF_RANGE refuses it (R319
step 7). -/
theorem State.checkWrite_num_of_passes {s : State} {w : Who} {i sub n : Nat} {h : Handler} (f : State → Who → Val → State × Nat)
    (hrole : h.role s w (.num n) = true) (hpass : s.checkWrite w i sub (.num n) (Handler.simple f) = stOK) :
    s.checkWrite w i sub (.num n) h = if h.consist s (.num n) then stOK else stRANGE := by
  unfold State.checkWrite at hpass ⊢
  cases hdesc : s.descOf i sub with
  | none =>
    simp only [hdesc] at hpass
    split at hpass <;> exact absurd hpass (by decide)
  | some d =>
    -- Each check before step 7 reads the same under both handlers, and lets the number pass.
    simp only [hdesc, Handler.simple, Bool.not_true, Bool.or_false, Bool.false_eq_true, if_false] at hpass
    obtain ⟨hsession, hpass⟩ := of_ite_eq_stOK (by decide) hpass
    obtain ⟨hdenied, hpass⟩ := of_ite_eq_stOK (by decide) hpass
    obtain ⟨hacc, hpass⟩ := of_ite_eq_stOK (by decide) hpass
    obtain ⟨hmay, hpass⟩ := of_ite_eq_stOK (by decide) hpass
    obtain ⟨htyp, hpass⟩ := of_ite_eq_stOK (by decide) hpass
    obtain ⟨hout, -⟩ := of_ite_eq_stOK (by decide) hpass
    have hrange : inRange d n = true := by simpa using hout
    simp only [hrole, Bool.not_true, Bool.false_eq_true, if_false]
    rw [if_neg hsession, if_neg hdenied, if_neg hacc, if_neg hmay, if_neg htyp]
    cases h.consist s (.num n) <;> simp [hrange]

/-- A check that refuses a write leaves the state as it was (R319). -/
theorem State.writeAt_refused {s : State} {w : Who} {i sub : Nat} {v : Val} {h : Handler} (hdev : s.dev ≠ dsSTANDBY)
    (hc : s.checkWrite w i sub v h ≠ stOK) : s.writeAt w i sub 0 0 v h = (s, s.checkWrite w i sub v h) := by
  simp [State.writeAt, State.write, hdev, hc]

/-! ### The port role of a partition -/

/-- 0x1410.01 to 0x1410.03 hold one byte each. -/
theorem State.descOf_portRole (s : State) (p : Fin 3) : ∃ d, s.descOf 0x1410 (p.val + 1) = some d ∧ d.typ = .u8 := by
  fin_cases p <;> exact ⟨_, rfl, rfl⟩

theorem State.valOf_portRole (s : State) (p : Fin 3) (off : Nat) (b : Byte) :
    s.valOf 0x1410 (p.val + 1) off [b] = .num b.toNat := by
  obtain ⟨d, hd, htyp⟩ := s.descOf_portRole p
  simp [State.valOf, hd, htyp, Typ.isFixed, Typ.bytes, ofLe]

theorem handlerOf_portRole (f : Facts) (p : Fin 3) : handlerOf f 0x1410 (p.val + 1) = hPortRole (p.val + 1) := by
  fin_cases p <;> rfl

/-- An output entry of the partition whose object the role may not write fails the rule of R331. -/
theorem hPortRole_inconsistent {s : State} {p n : Nat} {e : MapEnt} {d : Desc} (he : e ∈ mapEntries s.mapInForce)
    (hdir : e.dir = 1) (howner : e.owner = p) (hdesc : s.descOf e.idx e.sub = some d)
    (hrole : (Role.ofCode n).mayWrite d.wrole = false) : (hPortRole (p + 1)).consist s (.num n) = false :=
  List.all_eq_false.mpr ⟨e, he, by simp [hdir, howner, hdesc, Val.toNum, hrole]⟩

/-- Settles O34: the entry makes the write's value inconsistent, and a refused write leaves nothing but its answer. -/
theorem portRoleHeld : Obligations.PortRoleHeld := by
  intro s w p b f e d hdev hpass he hdir howner hdesc hrole
  have hcheck : s.checkWrite w 0x1410 (p.val + 1) (.num b.toNat) (hPortRole (p.val + 1)) = stRANGE := by
    rw [State.checkWrite_num_of_passes _ rfl hpass, hPortRole_inconsistent he hdir howner hdesc hrole]
    rfl
  have hwrite : s.writeAt w 0x1410 (p.val + 1) 0 0 (s.valOf 0x1410 (p.val + 1) 0 [b]) (handlerOf f 0x1410 (p.val + 1)) =
      (s, stRANGE) := by
    rw [State.valOf_portRole, handlerOf_portRole, State.writeAt_refused hdev (by rw [hcheck]; decide), hcheck]
  refine ⟨_, rfl, ?_⟩
  simp only [writeCmd, hwrite]
  exact ⟨rfl, fun _ => rfl, fun _ => rfl⟩

end Sys2Proof.Machine
end
